-- ==== Sys2Proof/Word.lean ====
section
/-!
DEFINITION. The word types of the LWN-9216 and the plain names of its elements (R6, R9, R10):
register words, bytes, dies, stacks, links, ports, cores and the requesters of R11.
-/

namespace Sys2Proof

/-- A register is 32 bits wide (R10). -/
abbrev Word := BitVec 32

/-- A byte of memory or of a flow unit. -/
abbrev Byte := BitVec 8

/-- Physical core 0-191 (R9). -/
abbrev CoreId := Fin 192

/-- Compute die C0-C3 (R9). -/
abbrev DieId := Fin 4

/-- HBM stack S0-S15 (R9). -/
abbrev StackId := Fin 16

/-- Bridge link D2D0-D2D7 (R9, R21). -/
abbrev LinkId := Fin 8

/-- Fabric port index 0-7 in the order A+, A-, B+, B-, C+, C-, D+, D- (R9). -/
abbrev PortId := Fin 8

/-- Torus axis A, B, C, D as 0-3 (R307). -/
abbrev AxisId := Fin 4

/-- Host DMA channel 0-15 (R404). -/
abbrev ChanId := Fin 16

/-- The two PCIe hosts (R9, R391). -/
inductive HostId
  | h0
  | h1
  deriving DecidableEq, Repr

/-- Port number of a host: 0 for H0, 1 for H1. -/
def HostId.num : HostId → Nat
  | .h0 => 0
  | .h1 => 1

/-- The requesters that R11 keeps apart: the MMIO of each host port, the JTAG debug path and the I3C target. -/
inductive Requester
  | mmio (h : HostId)
  | jtag
  | i3c
  deriving DecidableEq, Repr

/-- Whether a flag is 1 or 0, as a number. -/
def bit (b : Bool) : Nat := if b then 1 else 0

end Sys2Proof
end

