-- ==== Sys2Proof/Syntax.lean ====
section
/-!
DEFINITION. The commands: one constructor of `Instr` per row of spec/opcode_table.json, with the
row's operands, and the plain data those operands are made of. A command that stands for an access
names its requester; one that stands for something arriving from outside (a flow unit, a telemetry
frame, host data, a pin) carries what arrived.
-/

namespace Sys2Proof

/-- What REGISTER_READ and REGISTER_WRITE reach: the two memory-mapped register ranges (R394, R395), and the
configuration space of the host's port (R391). -/
inductive Bar
  | bar0
  | bar4
  | config
  deriving DecidableEq, Repr

/-- One register access: range, byte offset and access size in bytes (R10), and whether the TLP of a host's write
carries EP (R415). -/
structure RegAccess where
  bar  : Bar
  off  : BitVec 26
  size : Nat
  ep   : Bool := false
  deriving DecidableEq, Repr

/-- What the power manager reads itself at a control step (R431): the five AVSBus rails (mV and units of 0.1 A),
the
stack power it estimates from grant counts, and X's own sensor (units of 0.125 degrees C); `avsErr`: the rails
whose
AVSBus transaction failed and was retried (R438, R558). (DESIGN CHOICE: log entry 57) -/
structure PowerReadings where
  railMv   : List (BitVec 16)
  railDa   : List (BitVec 16)
  hbmWatts : Nat
  xTemp    : BitVec 12
  avsErr   : List (Fin 5) := []
  deriving DecidableEq, Repr

/-- One compute die's telemetry frame (R431): 48 core and 4 stack temperatures, two's complement in units of 0.125
degrees C. -/
structure DieTelemetry where
  coreTemps  : List (BitVec 12)
  stackTemps : List (BitVec 12)
  deriving DecidableEq, Repr

/-- What the FEC of a port did with the codewords of one flow unit (R277): whether an uncorrectable codeword
touches
it, and how many it corrected and could not correct. (DESIGN CHOICE: log entry 57) -/
structure FecReport where
  uncorrectable : Bool := false
  corrected     : Byte := 0
  failed        : Byte := 0
  deriving DecidableEq, Repr

/-- What the HBM of a stack did meanwhile (R254): the blocks whose stored bits changed, each with the number of its
reads that mismatch, and how many errors the on-die ECC corrected. (DESIGN CHOICE: log entry 57) -/
structure HbmUpsets where
  upsets    : List (BitVec 40 × Fin 4) := []
  corrected : Byte := 0
  deriving DecidableEq, Repr

/-- A block of host memory as the host's completions returned it (R238, R397); `bad` is an error status or a timeout,
`ep` the EP bit. -/
structure HostBlock where
  addr  : BitVec 64
  bytes : List Byte
  bad   : Bool
  ep    : Bool := false
  deriving DecidableEq, Repr

/-- What a DMA channel received from the host for its next descriptor (R405): the 32 descriptor bytes, the data read
for direction host to device, and whether host completions failed or carried EP, of the data and of the descriptor. -/
structure DmaInput where
  desc     : List Byte
  data     : List Byte
  hostErr  : Bool
  poisoned : Bool
  descErr  : Bool := false
  descEp   : Bool := false
  deriving DecidableEq, Repr

/-- What bringing up one compute die finds (R429, R454): the DIE_ID fuse read there (none: unprogrammed), whether its
link to X trains and the receive bitmaps of its two ends (R423), the stacks that fail training, and the local cores
that fail the known-answer tests. -/
structure DieBringUp where
  dieId      : Option (BitVec 4)
  linkOk     : Bool
  near       : BitVec 16 := 0xFFFF
  far        : BitVec 16 := 0xFFFF
  badStacks  : List (Fin 4)
  katFails   : List (Fin 48)
  deriving DecidableEq, Repr

/-- A firmware image as its header and checks show it (R473). -/
structure FwImage where
  magic     : Word
  format    : BitVec 16
  hdrLen    : BitVec 16
  part      : Word
  stepping  : Word
  version   : Word
  svn       : Byte
  signer    : Byte
  flags     : Byte
  zerosOk   : Bool
  romextLen : Word
  fwLen     : Word
  sigLen    : Word
  pk        : List Byte
  length    : Nat
  romextSha : List Byte
  fwSha     : List Byte
  rootOk    : Bool
  sigOk     : Bool
  deriving DecidableEq, Repr

/-- One 16-byte Shale record (R460). -/
structure ShaleRecord where
  page  : Word
  off   : BitVec 16
  zero  : BitVec 16
  value : Word
  mask  : Word
  deriving DecidableEq, Repr

/-- A Shale image as its header and checks show it (R459). -/
structure ShaleImage where
  magic     : Word
  format    : BitVec 16
  hdrLen    : BitVec 16
  part      : Word
  stepping  : Word
  version   : Word
  count     : Word
  bodyLen   : Word
  sigLen    : Word
  signer    : Byte
  zerosOk   : Bool
  records   : List ShaleRecord
  digest    : List Byte
  sigOk     : Bool
  deriving DecidableEq, Repr

/-- What the flash holds in its four image slots (R457, R469); none is a blank slot. -/
structure FlashSlots where
  fwA    : Option FwImage := none
  fwB    : Option FwImage := none
  shaleA : Option ShaleImage := none
  shaleB : Option ShaleImage := none
  deriving DecidableEq, Repr

/-- What the board presents at start-up (R453, R454): the FEED_ID straps, whether PWR_GOOD is high, what it programmed
into the flash while the part was in reset (R475), what each die's bring-up finds, and the receive bitmaps of the
eight bridge links (near, far). -/
structure BoardStart where
  feedId  : Byte
  pwrGood : Bool
  program : Option FlashSlots
  dies    : List DieBringUp
  links   : List (BitVec 16 × BitVec 16)
  deriving DecidableEq, Repr

/-- A 256-byte flow unit (R278, R279, R280): header fields, payload bytes, trailer fields and the CRC field as
received. Payload bytes beyond the list are zero. -/
structure Fu where
  vc       : BitVec 2
  type     : BitVec 6
  dest     : BitVec 24
  len      : BitVec 8
  poison   : BitVec 4
  mark     : Bool
  rsvd     : BitVec 3
  tag      : BitVec 16
  payload  : List Byte
  ackSeq   : BitVec 12
  ackValid : Bool
  crVc     : BitVec 2
  trRsvd   : Bool
  crTotal  : BitVec 16
  crc      : Word
  deriving DecidableEq, Repr

/-- A unit of a bridge link (R419, R420): kind byte, 64 bytes and the CRC received. -/
structure D2dUnit where
  kind  : Byte
  bytes : List Byte
  crc   : Word
  deriving DecidableEq, Repr

/-- What a fabric training attempt meets on the wire (R300): lanes that locked, whether the replay buffer passed its
self-test, and the peer's FEC_BYPASS_OK. -/
structure TrainAttempt where
  lanes     : BitVec 16
  bistOk    : Bool
  peerFecOk : Bool
  deriving DecidableEq, Repr

/-- A PTP message as the management port received it (R81): domain, sequence number, the two-step flag, the time it
carries and the local reception time, in ns. -/
structure PtpMsg where
  domain  : Byte
  seqId   : BitVec 16
  twoStep : Bool
  stamp   : BitVec 64
  rx      : BitVec 64
  deriving DecidableEq, Repr

/-- The five entries of a stack arbiter (R260). -/
inductive ArbEntry
  | cores
  | d2d
  | iodBulk
  | iodPri
  | geode
  deriving DecidableEq, Repr

/-- The causes of a fatal core error (R145, R209, R273); a tag parity error names its core-store line. -/
inductive CoreCause
  | arrDatapath
  | arrShadow
  | arrOutbuf
  | vecLane
  | vecRegfile
  | vecNacc
  | cdmaParity
  | cstTagParity (line : BitVec 19)
  deriving DecidableEq, Repr

/-- The units a sequencer dispatches to (R111). -/
inductive UnitId
  | seq
  | arr
  | vec
  | cdma
  | fab
  | ver
  deriving DecidableEq, Repr

/-- A silent error in an array pass: element C[row][col] differs by `xor` from the value the operands give. R351 to
R357 are about such results; a sound pass has none. -/
structure Upset where
  row : Nat
  col : Nat
  xor : Word
  deriving DecidableEq, Repr

/-- The three carriers of attestation messages (R481, R483). -/
inductive Carrier
  | doe (h : HostId)
  | i3c
  deriving DecidableEq, Repr

/-- A debug or lifecycle token (R485), with whether its zero fields are zero, its length, its signature bytes and
whether they verify. -/
structure Token where
  magic      : Word
  format     : Byte
  kind       : Byte
  target     : Byte
  signer     : Byte
  deviceId   : List Byte
  nonce      : List Byte
  signerPk   : List Byte
  newOwnerPk : List Byte
  zerosOk    : Bool
  length     : Nat
  sig        : List Byte
  sigOk      : Bool
  deriving DecidableEq, Repr

/-- The commands, one per row of the opcode table, in the table's order. -/
inductive Instr

  /-- TICK (R87). -/
  | tick
  /-- COPY_AGENT_DONE (R376). -/
  | copyAgentDone (die : DieId)
  /-- COMMIT_WINDOW_OPEN (R90). -/
  | commitWindowOpen
  /-- COMMIT_DEADLINE (R91). -/
  | commitDeadline
  /-- DISCIPLINE_LOOP (R83). -/
  | disciplineLoop
  /-- HOLDOVER_EXPIRY (R84). -/
  | holdoverExpiry
  /-- CONTROL_STEP (R433). -/
  | controlStep (t : PowerReadings)
  /-- TELEMETRY (R431). -/
  | telemetry (die : DieId) (t : DieTelemetry)
  /-- VOLTAGE_ACKNOWLEDGE (R432). -/
  | voltageAcknowledge (die : DieId)
  /-- OWNERSHIP_CHECK (R402). -/
  | ownershipCheck
  /-- LOAD (R72). -/
  | load (r : Requester)
  /-- LOAD_DONE (R72). -/
  | loadDone
  /-- ARM (R69). -/
  | arm (r : Requester)
  /-- JOB_START (R69). -/
  | jobStart
  /-- PAUSE (R69). -/
  | pause (r : Requester)
  /-- PAUSE_TAKES_EFFECT (R73). -/
  | pauseTakesEffect
  /-- RESUME (R69). -/
  | resume (r : Requester)
  /-- RESUME_TAKES_EFFECT (R73). -/
  | resumeTakesEffect
  /-- HALT (R69). -/
  | halt (r : Requester) (bcast : Bool)
  /-- JOB_HALT (R74). -/
  | jobHalt
  /-- BCAST_COPY_TIMER (R297). -/
  | bcastCopyTimer (p : PortId)
  /-- CLEAR (R76). -/
  | clear (r : Requester) (zeroHbm : Bool)
  /-- CLEAR_DONE (R76). -/
  | clearDone
  /-- CLAIM (R402). -/
  | claim (h : HostId)
  /-- RELEASE (R402). -/
  | release (h : HostId)
  /-- HANDOVER (R402). -/
  | handover (h : HostId)
  /-- SET_TIMEOUT (R402). -/
  | setTimeout (h : HostId) (ms : BitVec 16)
  /-- HEARTBEAT (R401). -/
  | heartbeat (h : HostId) (v : Word)
  /-- LO_READ_CAPTURE (R11). -/
  | loReadCapture (r : Requester) (off : BitVec 26)
  /-- TIM_NOW_LO_WRITE (R566). -/
  | timNowLoWrite (r : Requester) (v : Word)
  /-- TIM_NOW_HI_WRITE (R566). -/
  | timNowHiWrite (r : Requester) (v : Word)
  /-- TICK_EN (R87). -/
  | tickEn (r : Requester) (on : Bool)
  /-- SOURCE (R80). -/
  | source (r : Requester) (src : BitVec 2)
  /-- REGISTER_WRITE (R12). -/
  | registerWrite (r : Requester) (a : RegAccess) (v : BitVec 64)
  /-- ARR_ABORT (R143). -/
  | arrAbort (r : Requester) (c : CoreId)
  /-- FENCE_REQ (R146). -/
  | fenceReq (r : Requester) (c : CoreId) (viaBlkCtl : Bool)
  /-- UNFENCE (R146). -/
  | unfence (r : Requester) (c : CoreId)
  /-- UNFENCE_DONE (R146). -/
  | unfenceDone (c : CoreId) (failGroups : BitVec 5)
  /-- SOFT_RESET (R452). -/
  | softReset (r : Requester) (page : BitVec 14)
  /-- BLK_LOCK (R499). -/
  | blkLock (r : Requester) (page : BitVec 14)
  /-- HOST_FETCH (R238). -/
  | hostFetch (r : Requester)
  /-- FETCH_DONE (R238). -/
  | fetchDone (data : List HostBlock)
  /-- HBM_INTERLEAVE_WRITE (R246). -/
  | hbmInterleaveWrite (r : Requester) (st : StackId) (mode : BitVec 32)
  /-- HBM_RETRAIN (R270). -/
  | hbmRetrain (r : Requester) (st : StackId)
  /-- FAB_RETRAIN (R305). -/
  | fabRetrain (r : Requester) (p : PortId)
  /-- LINK_DISABLE (R302). -/
  | linkDisable (r : Requester) (p : PortId)
  /-- LINK_ENABLE (R300). -/
  | linkEnable (r : Requester) (p : PortId)
  /-- D2D_RETRAIN (R439). -/
  | d2dRetrain (r : Requester) (l : LinkId)
  /-- DIE_RESET (R429). -/
  | dieReset (r : Requester) (die : DieId)
  /-- DIE_RESET_DONE (R429). -/
  | dieResetDone (die : DieId) (b : DieBringUp)
  /-- ISOLATE (R427). -/
  | isolate (r : Requester) (die : DieId)
  /-- REQUEST_RUN (R444). -/
  | requestRun (r : Requester)
  /-- REQUEST_IDLE (R444). -/
  | requestIdle (r : Requester)
  /-- REQUEST_RETAIN (R445). -/
  | requestRetain (r : Requester)
  /-- REQUEST_OFF (R446). -/
  | requestOff (r : Requester)
  /-- POWER_STATE_REACHED (R444). -/
  | powerStateReached (dies : List DieBringUp)
  /-- WARM_RESET (R451). -/
  | warmReset (r : Requester)
  /-- WARM_RESET_DONE (R451). -/
  | warmResetDone (dies : List DieBringUp)
  /-- SWEEP (R360). -/
  | sweep (r : Requester) (groups : BitVec 5) (all : Bool) (core : BitVec 8)
  /-- SWEEP_ABORT (R360). -/
  | sweepAbort (r : Requester)
  /-- SWEEP_GROUP (R360). -/
  | sweepGroup (c : CoreId) (fail : Bool)
  /-- SWEEP_DONE (R536). -/
  | sweepDone
  /-- HOST_DRAIN (R383). -/
  | hostDrain (r : Requester) (port : BitVec 2)
  /-- DURABLE_DRAIN (R383). -/
  | durableDrain (r : Requester) (port : BitVec 2)
  /-- DURABLE_COMMIT (R383). -/
  | durableCommit
  /-- HOST_DRAIN_ABORT (R383). -/
  | hostDrainAbort (r : Requester)
  /-- HOST_DONE (R390). -/
  | hostDone
  /-- RESTORE (R386). -/
  | restore (r : Requester) (source : BitVec 2)
  /-- RESTORE_DONE (R386). -/
  | restoreDone
  /-- GEO_STEP_LO_WRITE (R535). -/
  | geoStepLoWrite (r : Requester) (v : Word)
  /-- GEO_STEP_HI_WRITE (R535). -/
  | geoStepHiWrite (r : Requester) (v : Word)
  /-- DMA_DB (R409). -/
  | dmaDb (h : HostId) (ch : ChanId) (v : Word)
  /-- CHANNEL_ENABLE (R408). -/
  | channelEnable (r : Requester) (ch : ChanId)
  /-- CHANNEL_DISABLE (R408). -/
  | channelDisable (r : Requester) (ch : ChanId)
  /-- DMA_COMPLETION (R407). -/
  | dmaCompletion (ch : ChanId) (job : DmaInput)
  /-- BAR2_READ (R397). -/
  | bar2Read (h : HostId) (w : BitVec 36) (len : Nat)
  /-- BAR2_WRITE (R397). -/
  | bar2Write (h : HostId) (w : BitVec 36) (data : List Byte) (ep : Bool)
  /-- SHALE_UPDATE (R461). -/
  | shaleUpdate (r : Requester)
  /-- SHALE_UPDATE_DONE (R461). -/
  | shaleUpdateDone (img : Option ShaleImage) (flashOk : Bool)
  /-- FW_UPDATE (R476). -/
  | fwUpdate (r : Requester)
  /-- FW_UPDATE_DONE (R476). -/
  | fwUpdateDone (img : Option FwImage) (flashOk : Bool)
  /-- ZEROIZE (R490). -/
  | zeroize (r : Requester)
  /-- ZEROISATION_DONE (R490). -/
  | zeroisationDone
  /-- RELOCK (R488). -/
  | relock (r : Requester)
  /-- TEL_CLEAR (R512). -/
  | telClear (r : Requester)
  /-- TEL_CNT_SEL (R512). -/
  | telCntSel (r : Requester) (k : Fin 8) (v : Word)
  /-- TRACE_ENABLE (R516). -/
  | traceEnable (r : Requester) (mask : BitVec 8)
  /-- CORE_HALT (R138). -/
  | coreHalt (r : Requester) (c : CoreId)
  /-- CORE_RELEASE (R516). -/
  | coreRelease (r : Requester) (c : CoreId)
  /-- DBG_MEM_READ (R518). -/
  | dbgMemRead (r : Requester)
  /-- DBG_MEM_WRITE (R518). -/
  | dbgMemWrite (r : Requester) (v : Word)
  /-- I3C_READ (R442). -/
  | i3cRead (off : BitVec 24)
  /-- I3C_WRITE (R442). -/
  | i3cWrite (off : BitVec 24) (v : Word)
  /-- MSG_WRITE (R482). -/
  | msgWrite (off : BitVec 16) (data : List Byte)
  /-- MSG_SUBMIT (R482). -/
  | msgSubmit
  /-- MSG_READ (R482). -/
  | msgRead (off : BitVec 24)
  /-- MSG_STATE (R482). -/
  | msgState
  /-- ENTDAA (R556). -/
  | entdaa (addr : BitVec 7)
  /-- RSTDAA (R556). -/
  | rstdaa
  /-- GET_IDENTITY (R479). -/
  | getIdentity (c : Carrier)
  /-- GET_REPORT (R480). -/
  | getReport (c : Carrier) (nonce : List Byte)
  /-- EXTEND (R479). -/
  | extend (c : Carrier) (index : Byte) (digest : List Byte)
  /-- GET_CHALLENGE (R485). -/
  | getChallenge (c : Carrier)
  /-- SUBMIT_TOKEN (R486). -/
  | submitToken (c : Carrier) (token : Token) (fuseOk : Bool)
  /-- DOE_ABORT (R481). -/
  | doeAbort (h : HostId)
  /-- NONCE_EXPIRY (R485). -/
  | nonceExpiry
  /-- COLD_RESET (R450). -/
  | coldReset
  /-- START_UP (R454). -/
  | startUp (b : BoardStart)
  /-- LOSS_OF_MAIN_POWER (R447). -/
  | lossOfMainPower
  /-- EXIT_FROM_OFF (R446). -/
  | exitFromOff (b : BoardStart)
  /-- VSTBY_DROP (R547). -/
  | vstbyDrop
  /-- CONVENTIONAL_RESET (R412). -/
  | conventionalReset (h : HostId)
  /-- PORT_LINK_TRAINING (R455). -/
  | portLinkTraining (h : HostId) (speed : BitVec 3) (width : BitVec 5)
  /-- FLR (R412). -/
  | flr (h : HostId)
  /-- PCIE_LINK_DOWN (R401). -/
  | pcieLinkDown (h : HostId)
  /-- FORCE_THROTTLE (R434). -/
  | forceThrottle
  /-- FORCE_THROTTLE_RELEASE (R433). -/
  | forceThrottleRelease
  /-- PPS_EDGE (R80). -/
  | ppsEdge (t : BitVec 64)
  /-- REFCLK_10M_LOSS (R551). -/
  | refclk10mLoss
  /-- FAB_REFCLK_LOSS (R551). -/
  | fabRefclkLoss
  /-- PCIE_REFCLK_LOSS (R551). -/
  | pcieRefclkLoss (h : HostId)
  /-- THERMAL_TRIP (R436). -/
  | thermalTrip
  /-- LOSS_OF_SIGNAL (R302). -/
  | lossOfSignal (p : PortId)
  /-- LANE_LOCK_LOSS (R301). -/
  | laneLockLoss (p : PortId)
  /-- PEER_RETRAIN_PATTERN (R301). -/
  | peerRetrainPattern (p : PortId)
  /-- TRAINING_ATTEMPT (R300). -/
  | trainingAttempt (p : PortId) (a : TrainAttempt)
  /-- TRAINING_TIMEOUT (R300). -/
  | trainingTimeout (p : PortId)
  /-- TRAINING_RETRY (R300). -/
  | trainingRetry (p : PortId) (a : TrainAttempt)
  /-- INIT_TIMER (R298). -/
  | initTimer (p : PortId)
  /-- REPLAY_TIMER_EXPIRY (R290). -/
  | replayTimerExpiry (p : PortId)
  /-- RETRAIN_COMPLETE (R301). -/
  | retrainComplete (p : PortId)
  /-- RELOCK_TIMEOUT (R301). -/
  | relockTimeout (p : PortId)
  /-- REPLAY_PARITY (R302). -/
  | replayParity (p : PortId)
  /-- CRC_FAILED_FU (R281). -/
  | crcFailedFu (p : PortId) (f : Fu) (fec : FecReport)
  /-- MALFORMED_FU (R283). -/
  | malformedFu (p : PortId) (f : Fu)
  /-- IDLE (R287). -/
  | idle (p : PortId) (f : Fu)
  /-- REPLAY_MARK (R289). -/
  | replayMark (p : PortId) (f : Fu)
  /-- INIT (R298). -/
  | init (p : PortId) (f : Fu)
  /-- TIME_STAMP (R296). -/
  | timeStamp (p : PortId) (f : Fu) (rxNs : BitVec 64) (rxFrac : BitVec 16)
  /-- TIME_STAMP_TIMER (R319). -/
  | timeStampTimer
  /-- HALT_BCAST (R107). -/
  | haltBcast (p : PortId) (f : Fu)
  /-- HELLO (R318). -/
  | hello (p : PortId) (f : Fu)
  /-- HELLO_TIMER (R317). -/
  | helloTimer
  /-- DELAY_REPORT (R319). -/
  | delayReport (p : PortId) (f : Fu)
  /-- DELAY_REPORT_TIMER (R319). -/
  | delayReportTimer (p : PortId)
  /-- RING_STATE (R320). -/
  | ringState (p : PortId) (f : Fu)
  /-- RING_STATE_TIMER (R320). -/
  | ringStateTimer
  /-- RING_STATE_EXPIRY (R320). -/
  | ringStateExpiry (axis : AxisId) (coord : BitVec 6)
  /-- GEO_HELLO (R379). -/
  | geoHello (p : PortId) (f : Fu)
  /-- GEO_HELLO_TIMER (R379). -/
  | geoHelloTimer
  /-- GEO_HELLO_EXPIRY (R379). -/
  | geoHelloExpiry
  /-- BUDDY_DRAIN_START (R382). -/
  | buddyDrainStart
  /-- DRAIN_OPEN (R382). -/
  | drainOpen (p : PortId) (f : Fu)
  /-- DRAIN_GRANT (R382). -/
  | drainGrant (p : PortId) (f : Fu)
  /-- DRAIN_DONE (R382). -/
  | drainDone (p : PortId) (f : Fu)
  /-- DRAIN_ABORT (R382). -/
  | drainAbort (p : PortId) (f : Fu)
  /-- DRAIN_GRANT_TIMEOUT (R382). -/
  | drainGrantTimeout
  /-- DRAIN_RETRY (R382). -/
  | drainRetry
  /-- READ_REQ (R314). -/
  | readReq (p : PortId) (f : Fu)
  /-- WRITE (R314). -/
  | write (p : PortId) (f : Fu)
  /-- ADD_F32 (R314). -/
  | addF32 (p : PortId) (f : Fu)
  /-- ADD_I32 (R314). -/
  | addI32 (p : PortId) (f : Fu)
  /-- REDUCE (R314). -/
  | reduce (p : PortId) (f : Fu)
  /-- VGATHER_REQ (R233). -/
  | vgatherReq (p : PortId) (f : Fu)
  /-- READ_RESP (R315). -/
  | readResp (p : PortId) (f : Fu)
  /-- WRITE_ACK (R315). -/
  | writeAck (p : PortId) (f : Fu)
  /-- ERROR (R315). -/
  | error (p : PortId) (f : Fu)
  /-- RESP_TIMEOUT (R323). -/
  | respTimeout (tag : BitVec 14)
  /-- COL_DATA (R331). -/
  | colData (p : PortId) (f : Fu)
  /-- RING_BLOCK (R334). -/
  | ringBlock (p : PortId) (f : Fu)
  /-- SYNC (R81). -/
  | sync (m : PtpMsg)
  /-- ANNOUNCE (R81). -/
  | announce (m : PtpMsg)
  /-- DELAY_RESP (R81). -/
  | delayResp (m : PtpMsg)
  /-- ANNOUNCE_RECEIPT_TIMEOUT (R81). -/
  | announceReceiptTimeout
  /-- D2D_CTRL (R421). -/
  | d2dCtrl (l : LinkId) (u : D2dUnit)
  /-- D2D_REPLAY_MARK (R421). -/
  | d2dReplayMark (l : LinkId) (u : D2dUnit)
  /-- D2D_IDLE (R420). -/
  | d2dIdle (l : LinkId) (u : D2dUnit)
  /-- HDR (R420). -/
  | hdr (l : LinkId) (u : D2dUnit)
  /-- DATA (R420). -/
  | data (l : LinkId) (u : D2dUnit)
  /-- DATA_POISONED (R420). -/
  | dataPoisoned (l : LinkId) (u : D2dUnit)
  /-- WIDTH (R424). -/
  | width (l : LinkId) (u : D2dUnit)
  /-- WIDTH_TIMER (R424). -/
  | widthTimer (l : LinkId)
  /-- HANDSHAKE_TIMEOUT (R424). -/
  | handshakeTimeout (l : LinkId)
  /-- D2D_TRAINING (R423). -/
  | d2dTraining (l : LinkId) (near : BitVec 16) (far : BitVec 16)
  /-- D2D_REPLAY_TIMER_EXPIRY (R421). -/
  | d2dReplayTimerExpiry (l : LinkId)
  /-- D2D_RELOCK_TIMEOUT (R421). -/
  | d2dRelockTimeout (l : LinkId)
  /-- D2D_RETRY (R425). -/
  | d2dRetry (l : LinkId) (near : BitVec 16) (far : BitVec 16)
  /-- FORWARDED_CLOCK_LOSS (R425). -/
  | forwardedClockLoss (l : LinkId)
  /-- SIDEBAND_PARITY (R426). -/
  | sidebandParity (l : LinkId) (failures : Nat)
  /-- STACK_TRAIN_FAIL (R271). -/
  | stackTrainFail (st : StackId)
  /-- REGULATOR_FAULT (R558). -/
  | regulatorFault (rail : Fin 5)
  /-- SP_FAULT (R494). -/
  | spFault
  /-- META_POISON (R232). -/
  | metaPoison
  /-- HBM_READ (R254). -/
  | hbmRead (st : StackId) (off : BitVec 40) (len : BitVec 11) (found : HbmUpsets) (entry : ArbEntry)
      (waiting : List ArbEntry)
  /-- HBM_WRITE (R253). -/
  | hbmWrite (st : StackId) (off : BitVec 40) (data : List Byte) (poison : Bool) (entry : ArbEntry) (waiting : List ArbEntry)
  /-- FATAL_CORE_ERROR (R145). -/
  | fatalCoreError (c : CoreId) (cause : CoreCause)
  /-- REPAIR_PIECE (R101). -/
  | repairPiece (c : CoreId)
  /-- RESBUF_PARITY (R357). -/
  | resbufParity (die : DieId)
  /-- VERDICT (R353), with a column that a fault of the checker spoils (R355). -/
  | verdict (c : CoreId) (spoilt : Option (BitVec 7))
  /-- RERUN_S (R354). -/
  | rerunS (die : DieId) (upsets : List Upset) (spoilt : Option (BitVec 7))
  /-- RERUN_X (R354). -/
  | rerunX (die : DieId) (upsets : List Upset) (spoilt : Option (BitVec 7))
  /-- RESOLUTION_OUTCOME (R355). -/
  | resolutionOutcome (die : DieId)
  /-- DESC_COMPLETE (R49). -/
  | descComplete (c : CoreId) (u : UnitId)
  /-- END (R51). -/
  | endOp (c : CoreId)
  /-- NOP (R48). -/
  | nop (c : CoreId)
  /-- FENCE (R50). -/
  | fence (c : CoreId)
  /-- KAT (R359). -/
  | kat (c : CoreId) (failGroups : BitVec 5)
  /-- MMA (R121). -/
  | mma (c : CoreId) (upsets : List Upset) (badLines : List (BitVec 19))
  /-- COPY (R185). -/
  | copy (c : CoreId) (badLines : List (BitVec 19))
  /-- ADD (R185). -/
  | add (c : CoreId)
  /-- SUB (R185). -/
  | sub (c : CoreId)
  /-- MUL (R185). -/
  | mul (c : CoreId)
  /-- FMA (R185). -/
  | fma (c : CoreId)
  /-- MIN (R186). -/
  | min (c : CoreId)
  /-- MAX (R186). -/
  | max (c : CoreId)
  /-- ABS (R185). -/
  | abs (c : CoreId)
  /-- NEG (R185). -/
  | neg (c : CoreId)
  /-- SELECT (R185). -/
  | select (c : CoreId)
  /-- CMP (R185). -/
  | cmp (c : CoreId)
  /-- EXP2 (R187). -/
  | exp2 (c : CoreId)
  /-- LOG2 (R187). -/
  | log2 (c : CoreId)
  /-- RECIP (R187). -/
  | recip (c : CoreId)
  /-- RSQRT (R187). -/
  | rsqrt (c : CoreId)
  /-- IADD (R188). -/
  | iadd (c : CoreId)
  /-- ISUB (R188). -/
  | isub (c : CoreId)
  /-- IMUL (R188). -/
  | imul (c : CoreId)
  /-- IMIN (R188). -/
  | imin (c : CoreId)
  /-- IMAX (R188). -/
  | imax (c : CoreId)
  /-- IAND (R188). -/
  | iand (c : CoreId)
  /-- IOR (R188). -/
  | ior (c : CoreId)
  /-- IXOR (R188). -/
  | ixor (c : CoreId)
  /-- ISHIFT (R188). -/
  | ishift (c : CoreId)
  /-- PERM (R189). -/
  | perm (c : CoreId)
  /-- SHUFFLE (R190). -/
  | shuffle (c : CoreId)
  /-- PACK (R191). -/
  | pack (c : CoreId)
  /-- UNPACK (R191). -/
  | unpack (c : CoreId)
  /-- CLASS (R192). -/
  | classOp (c : CoreId)
  /-- COUNT (R192). -/
  | count (c : CoreId)
  /-- RED_SUM (R194). -/
  | redSum (c : CoreId)
  /-- RED_MAX (R194). -/
  | redMax (c : CoreId)
  /-- RED_MIN (R194). -/
  | redMin (c : CoreId)
  /-- RED_SUMSQ (R194). -/
  | redSumsq (c : CoreId)
  /-- TRED (R196). -/
  | tred (c : CoreId)
  /-- SMX_UPDATE (R198). -/
  | smxUpdate (c : CoreId)
  /-- SMX_FINAL (R199). -/
  | smxFinal (c : CoreId)
  /-- ROWSTATS (R201). -/
  | rowstats (c : CoreId)
  /-- NORM_FIN (R202). -/
  | normFin (c : CoreId)
  /-- NORM_APPLY (R203). -/
  | normApply (c : CoreId)
  /-- NACC_STORE (R206). -/
  | naccStore (c : CoreId)
  /-- CLIP_SCALE (R207). -/
  | clipScale (c : CoreId)
  /-- DMA_COPY (R249). -/
  | dmaCopy (c : CoreId) (badLines : List (BitVec 19))
  /-- DMA_FILL (R250). -/
  | dmaFill (c : CoreId)
  /-- CTX_START (R211). -/
  | ctxStart (c : CoreId)
  /-- CTX_END (R211). -/
  | ctxEnd (c : CoreId)
  /-- QCHECK (R220). -/
  | qcheck (c : CoreId)
  /-- QCOPY (R213). -/
  | qcopy (c : CoreId)
  /-- VCAPTURE (R227). -/
  | vcapture (c : CoreId)
  /-- VGATHER (R237). -/
  | vgather (c : CoreId)
  /-- VOPEN (R230). -/
  | vopen (c : CoreId)
  /-- VPUBLISH (R231). -/
  | vpublish (c : CoreId)
  /-- RREAD (R313). -/
  | rread (c : CoreId)
  /-- RWRITE (R313). -/
  | rwrite (c : CoreId)
  /-- RADD (R313). -/
  | radd (c : CoreId)
  /-- REDUCE_WRITE (R313). -/
  | reduceWrite (c : CoreId)
  /-- REDUCE_SCATTER (R331). -/
  | reduceScatter (c : CoreId)
  /-- ALL_GATHER (R331). -/
  | allGather (c : CoreId)
  /-- ALL_REDUCE (R331). -/
  | allReduce (c : CoreId)
  /-- RING_START (R334). -/
  | ringStart (c : CoreId)
  /-- RING_WAIT (R334). -/
  | ringWait (c : CoreId)
  /-- REGISTER_READ (R15). -/
  | registerRead (r : Requester) (a : RegAccess)
  /-- FOLLOW_UP (R81). -/
  | followUp (m : PtpMsg)
  /-- DELAY_REQ_TIMER (R81). -/
  | delayReqTimer (t : BitVec 64)
  /-- WHOLE_SECOND (R89). -/
  | wholeSecond
  /-- REFCLK_10M_RETURN (R551). -/
  | refclk10mReturn
  /-- LANE_PARITY_ERROR (R303). -/
  | laneParityError (p : PortId)
  /-- UNIT_CRC_FAIL (R420). -/
  | unitCrcFail (l : LinkId) (u : D2dUnit)
  /-- FLR_COMPLETE (R412). -/
  | flrComplete (h : HostId)
  /-- HBM_RETRAIN_DONE (R524). -/
  | hbmRetrainDone (st : StackId) (ok : Bool)
  /-- RESPONSE_READY (R483). -/
  | responseReady (c : Carrier)
  /-- D3HOT (R413). -/
  | d3hot (h : HostId) (enter : Bool)
  /-- TAP_INSTRUCTION (R559). -/
  | tapInstruction (ir : BitVec 8)
  /-- ENEC (R556). -/
  | enec
  /-- DISEC (R556). -/
  | disec
  deriving DecidableEq, Repr

end Sys2Proof
end

