-- ==== Sys2Proof/Decode.lean ====
section
/-!
DEFINITION. The command a word spells. spec/opcode_table.json gives no row any bits, so no word
spells a command.
-/

namespace Sys2Proof

/-- The command spelt by an `nbits`-bit word: none, since no row of the table has bits. (DESIGN CHOICE: log entry
2) -/
def decodeTableWord (_nbits _w : Nat) : Option Instr := none

end Sys2Proof
end

