-- ==== Sys2Proof/Machine/Numbers.lean ====
section
/-!
DEFINITION. Number formats and arithmetic (R147 to R170, R187): values are exact dyadic numbers,
every step computes exactly and rounds once, and Granite and Pumice differ only in the flushes and
overflows of R154. `g` is true in Granite.
-/

namespace Sys2Proof.Machine

open Sys2Proof

/-- The nine formats (R148). -/
inductive Fmt
  | fp32 | fp16 | bf16 | e4m3 | e5m2 | fp4 | int8 | int32 | e8m0
  deriving DecidableEq, Repr

/-- The format of a code (R56); 9 to 15 are reserved. -/
def Fmt.ofCode : Nat → Option Fmt
  | 0 => some .fp32
  | 1 => some .fp16
  | 2 => some .bf16
  | 3 => some .e4m3
  | 4 => some .e5m2
  | 5 => some .fp4
  | 6 => some .int8
  | 7 => some .int32
  | 8 => some .e8m0
  | _ => none

/-- Element size in nibbles (R56). -/
def Fmt.nibbles : Fmt → Nat
  | .fp32 | .int32 => 8
  | .fp16 | .bf16 => 4
  | .e4m3 | .e5m2 | .int8 | .e8m0 => 2
  | .fp4 => 1

/-- Width in bits (R148). -/
def Fmt.width (f : Fmt) : Nat := 4 * f.nibbles

/-- Mantissa width (R148); for the integer formats and E8M0 it is not used. -/
def Fmt.mbits : Fmt → Nat
  | .fp32 => 23
  | .fp16 => 10
  | .bf16 => 7
  | .e4m3 => 3
  | .e5m2 => 2
  | .fp4 => 1
  | _ => 0

/-- Exponent bias (R148). -/
def Fmt.bias : Fmt → Nat
  | .fp32 | .bf16 | .e8m0 => 127
  | .fp16 | .e5m2 => 15
  | .e4m3 => 7
  | .fp4 => 1
  | _ => 0

/-- The largest finite code without its sign (R149). -/
def Fmt.maxCode : Fmt → Nat
  | .fp32 => 0x7F7FFFFF
  | .fp16 => 0x7BFF
  | .bf16 => 0x7F7F
  | .e4m3 => 0x7E
  | .e5m2 => 0x7B
  | .fp4 => 0x7
  | _ => 0

/-- The NaN an arithmetic step produces (R149, R152); FP4 has none. -/
def Fmt.nanCode : Fmt → Nat
  | .fp32 => 0x7FC00000
  | .fp16 => 0x7E00
  | .bf16 => 0x7FC0
  | .e4m3 => 0x7F
  | .e5m2 => 0x7E
  | _ => 0

/-- Formats that have infinity (R149). -/
def Fmt.hasInf : Fmt → Bool
  | .fp32 | .fp16 | .bf16 | .e5m2 => true
  | _ => false

/-- The signed floating-point formats. -/
def Fmt.isFloat : Fmt → Bool
  | .fp32 | .fp16 | .bf16 | .e4m3 | .e5m2 | .fp4 => true
  | _ => false

/-- Formats whose subnormals Pumice flushes (R154). -/
def Fmt.flushes : Fmt → Bool
  | .fp32 | .fp16 | .bf16 => true
  | _ => false

/-- An exact value: NaN, an infinity, or (−1)^neg × m × 2^e (a zero keeps its sign). -/
inductive Num
  | nan
  | inf (neg : Bool)
  | fin (neg : Bool) (m : Nat) (e : Int)
  deriving DecidableEq, Repr

/-- +0. -/
def Num.zero : Num := .fin false 0 0

/-- 1. -/
def Num.one : Num := .fin false 1 0

/-- The exact value of a two's complement number. -/
def Num.ofInt (i : Int) : Num := .fin (decide (i < 0)) i.natAbs 0

/-- The value times 2^k. -/
def Num.scale (k : Int) : Num → Num
  | .fin n m e => .fin n m (e + k)
  | x => x

/-- The value with its sign changed. -/
def Num.neg : Num → Num
  | .nan => .nan
  | .inf n => .inf (!n)
  | .fin n m e => .fin (!n) m e

/-- The magnitude. -/
def Num.abs : Num → Num
  | .nan => .nan
  | .inf _ => .inf false
  | .fin _ m e => .fin false m e

/-- Whether the value is zero. -/
def Num.isZero : Num → Bool
  | .fin _ m _ => m == 0
  | _ => false

/-- The value as a signed multiple of 2^e0, for e0 at or below its exponent. -/
def Num.toInt (e0 : Int) : Num → Int
  | .fin n m e => let v : Int := (m * 2 ^ (e - e0).toNat : Nat); if n then -v else v
  | _ => 0

/-- Exact sum with the zero and infinity rules of R156. -/
def Num.add (a b : Num) : Num :=
  match a, b with
  | .nan, _ => .nan
  | _, .nan => .nan
  | .inf x, .inf y => if x = y then .inf x else .nan
  | .inf x, _ => .inf x
  | _, .inf y => .inf y
  | .fin n1 m1 e1, .fin n2 m2 e2 =>
    let e0 := min e1 e2
    let v := (Num.fin n1 m1 e1).toInt e0 + (Num.fin n2 m2 e2).toInt e0
    if v = 0 then .fin (n1 && n2 && m1 == 0 && m2 == 0) 0 0 else .fin (decide (v < 0)) v.natAbs e0

/-- Exact product with the rules of R156. -/
def Num.mul (a b : Num) : Num :=
  match a, b with
  | .nan, _ => .nan
  | _, .nan => .nan
  | .inf x, .inf y => .inf (x ^^ y)
  | .inf x, .fin n m _ => if m = 0 then .nan else .inf (x ^^ n)
  | .fin n m _, .inf y => if m = 0 then .nan else .inf (n ^^ y)
  | .fin n1 m1 e1, .fin n2 m2 e2 => .fin (n1 ^^ n2) (m1 * m2) (e1 + e2)

/-- a < b for values that are not NaN; −0 and +0 compare equal. -/
def Num.lt (a b : Num) : Bool :=
  match a, b with
  | .nan, _ => false
  | _, .nan => false
  | .inf x, .inf y => x && !y
  | .inf x, .fin .. => x
  | .fin .., .inf y => !y
  | .fin n1 m1 e1, .fin n2 m2 e2 =>
    let e0 := min e1 e2
    decide ((Num.fin n1 m1 e1).toInt e0 < (Num.fin n2 m2 e2).toInt e0)

/-- Equality as numbers; false for NaN. -/
def Num.eq (a b : Num) : Bool :=
  match a, b with
  | .nan, _ => false
  | _, .nan => false
  | a, b => !(a.lt b) && !(b.lt a)

/-- floor(log2) of a positive m × 2^e. -/
def floorLog2 (m : Nat) (e : Int) : Int := (Nat.log2 m : Int) + e

/-- Exponent of the smallest subnormal of a format. -/
def Fmt.emin (f : Fmt) : Int := 1 - (f.bias : Int) - (f.mbits : Int)

/-- Exponent of the last mantissa place for m × 2^e in a format. -/
def Fmt.place (f : Fmt) (m : Nat) (e : Int) : Int := max (floorLog2 m e - (f.mbits : Int)) f.emin

/-- Magnitude code of a mantissa at a place, as if the exponent field had no end. -/
def Fmt.code (f : Fmt) (mant : Nat) (q : Int) : Nat := (q - f.emin).toNat * 2 ^ f.mbits + mant

/-- m ÷ 2^k rounded to an integer with ties to even. -/
def rneShift (m k : Nat) : Nat :=
  let q := m / 2 ^ k
  let r := m % 2 ^ k
  if 2 * r > 2 ^ k then q + 1
  else if 2 * r = 2 ^ k then q + q % 2
  else q

/-- m ÷ 2^k rounded stochastically with the random value h (R167). -/
def srShift (h m k : Nat) : Nat :=
  let q := m / 2 ^ k
  let r := m % 2 ^ k
  if r * 65536 / 2 ^ k > h % 65536 then q + 1 else q

/-- How a conversion rounds: to nearest even, or stochastically with h (R161, R167). -/
inductive Rnd
  | rne
  | sr (h : Nat)
  deriving DecidableEq, Repr

/-- m ÷ 2^k rounded. -/
def Rnd.shift (r : Rnd) (m k : Nat) : Nat :=
  match r with
  | .rne => rneShift m k
  | .sr h => srShift h m k

/-- Magnitude code of m × 2^e (m > 0) rounded to a format, as if the exponent field had no end. -/
def Fmt.roundMag (f : Fmt) (r : Rnd) (m : Nat) (e : Int) : Nat :=
  let q := f.place m e
  if q ≤ e then f.code (m * 2 ^ (e - q).toNat) q else f.code (r.shift m (q - e).toNat) q

/-- Sign bit of a format, as a number. -/
def Fmt.signBit (f : Fmt) (neg : Bool) : Nat := if neg then 2 ^ (f.width - 1) else 0

/-- A code with Pumice's flush of subnormal results (R154). (DESIGN CHOICE: log entry 73) -/
def Fmt.flushCode (f : Fmt) (g : Bool) (mag : Nat) : Nat :=
  if !g && f.flushes && mag < 2 ^ f.mbits then 0 else mag

/-- A finite value to a floating-point format: one rounding, then R162 or R167 above the maximum. (DESIGN CHOICE:
log entry 73) -/
def Fmt.ofFin (f : Fmt) (g : Bool) (r : Rnd) (neg : Bool) (m : Nat) (e : Int) : Nat :=
  if m = 0 then f.signBit neg
  else
    let mag := f.roundMag r m e
    if mag > f.maxCode then
      if f = .fp32 then f.signBit neg + 0x7F800000
      else if r = .rne && g && f.hasInf then f.signBit neg + (f.maxCode + 1)
      else f.signBit neg + f.maxCode
    else f.signBit neg + f.flushCode g mag

/-- The value of a floating-point code (R148, R149). -/
def Fmt.floatVal (f : Fmt) (c : Nat) : Num :=
  let neg := decide (c / 2 ^ (f.width - 1) % 2 = 1)
  let mag := c % 2 ^ (f.width - 1)
  let ex := mag / 2 ^ f.mbits
  let fr := mag % 2 ^ f.mbits
  if mag > f.maxCode then if f.hasInf && mag = f.maxCode + 1 then .inf neg else .nan
  else if ex = 0 then .fin neg fr f.emin
  else .fin neg (2 ^ f.mbits + fr) (f.emin + (ex : Int) - 1)

/-- The value of an element code of any format (R148 to R151). -/
def Fmt.val (f : Fmt) (c : Nat) : Num :=
  match f with
  | .int8 => Num.ofInt (BitVec.ofNat 8 c).toInt
  | .int32 => Num.ofInt (BitVec.ofNat 32 c).toInt
  | .e8m0 => if c % 256 = 255 then .nan else .fin false 1 ((c % 256 : Nat) - 127)
  | f => f.floatVal c

/-- Pumice reads subnormal FP32, FP16 and BF16 values as zero of the same sign (R154). -/
def Fmt.flushIn (f : Fmt) (g : Bool) (x : Num) : Num :=
  match x with
  | .fin n m e =>
    if !g && f.flushes && m ≠ 0 && decide (floorLog2 m e < 1 - (f.bias : Int)) then .fin n 0 0
    else .fin n m e
  | x => x

/-- The value a step consumes from an element code: decoded, with the Pumice flush. -/
def Fmt.read (f : Fmt) (g : Bool) (c : Nat) : Num := f.flushIn g (f.val c)

/-- fl(): an exact value rounded to FP32 (R156), with Pumice's flush of the result (R154). -/
def fl (g : Bool) (x : Num) : Word :=
  match x with
  | .nan => 0x7FC00000
  | .inf n => if n then 0xFF800000 else 0x7F800000
  | .fin n m e => BitVec.ofNat 32 (Fmt.fp32.ofFin g .rne n m e)

/-- An FP32 word as an arithmetic step consumes it. -/
def rd (g : Bool) (w : Word) : Num := Fmt.fp32.read g w.toNat

/-- fl(a + b). (DEDUCED: log entry 58) -/
def fadd (g : Bool) (a b : Word) : Word := fl g ((rd g a).add (rd g b))

/-- fl(a − b). -/
def fsub (g : Bool) (a b : Word) : Word := fl g ((rd g a).add (rd g b).neg)

/-- fl(a × b). -/
def fmul (g : Bool) (a b : Word) : Word := fl g ((rd g a).mul (rd g b))

/-- fl(a × b + c), one rounding. -/
def ffma (g : Bool) (a b c : Word) : Word := fl g (((rd g a).mul (rd g b)).add (rd g c))

/-- Whether an FP32 word is a NaN. -/
def isNan (w : Word) : Bool := decide (rd true w = .nan)

/-- The order of R186 with −0 below +0: a before b. -/
def orderedLt (a b : Num) : Bool :=
  a.lt b || (a.isZero && b.isZero && (match a, b with
    | .fin true _ _, .fin false _ _ => true
    | _, _ => false))

/-- MIN of R186: NaN if either is NaN, −0 below +0. -/
def fmin (g : Bool) (a b : Word) : Word :=
  let x := rd g a
  let y := rd g b
  if x = .nan || y = .nan then 0x7FC00000 else if orderedLt y x then fl g y else fl g x

/-- MAX of R186. -/
def fmax (g : Bool) (a b : Word) : Word :=
  let x := rd g a
  let y := rd g b
  if x = .nan || y = .nan then 0x7FC00000 else if orderedLt x y then fl g y else fl g x

/-- An integer rounded from an exact value (R161, R164, R167). -/
def roundInt (r : Rnd) (m : Nat) (e : Int) : Nat :=
  if 0 ≤ e then m * 2 ^ e.toNat else r.shift m (-e).toNat

/-- Saturation to a two's complement range of w bits. -/
def satInt (w : Nat) (v : Int) : Int :=
  let hi : Int := 2 ^ (w - 1) - 1
  let lo : Int := -(2 ^ (w - 1))
  if v > hi then hi else if v < lo then lo else v

/-- Two's complement code of w bits. -/
def intCode (w : Nat) (v : Int) : Nat := (BitVec.ofInt w v).toNat

/-- A value to a two's complement integer of w bits: rounded, saturated, NaN as 0 (R163, R164, R181). -/
def toIntCode (w : Nat) (r : Rnd) (x : Num) : Nat :=
  match x with
  | .nan => 0
  | .inf n => intCode w (satInt w (if n then -(2 ^ w) else 2 ^ w))
  | .fin n m e =>
    let v : Int := roundInt r m e
    intCode w (satInt w (if n then -v else v))

/-- A value to E8M0 (R163, R165). -/
def toE8m0 (x : Num) : Nat :=
  match x with
  | .nan => 0xFF
  | .inf _ => 0xFF
  | .fin n m e =>
    if m = 0 then 0 else if n then 0xFF
    else (max 0 (min 254 (floorLog2 m e + 127))).toNat

/-- A conversion of an exact value, already flushed on its input side, to a format (R160 to R167). A NaN to FP4
has no
code; the block scale carries it (R163), so the code is 0. (DEDUCED: log entry 58) -/
def Fmt.conv (f : Fmt) (g : Bool) (r : Rnd) (x : Num) : Nat :=
  match f with
  | .int8 => toIntCode 8 r x
  | .int32 => toIntCode 32 .rne x
  | .e8m0 => toE8m0 x
  | f =>
    match x with
    | .nan => f.nanCode
    | .inf n => f.signBit n + (if f.hasInf then f.maxCode + 1 else f.maxCode)
    | .fin n m e => f.ofFin g r n m e

/-- The random value of stochastic rounding: one round of sr_hash per coordinate (R166). -/
def srRound (h i : Word) : Word :=
  let h := (h ^^^ i) * 0x85EBCA6B
  let h := h ^^^ (h >>> 13)
  let h := h * 0xC2B2AE35
  h ^^^ (h >>> 16)

/-- sr_hash over five coordinates (R166). -/
def srHash (seed : Word) (i : List Word) : Word := i.foldl srRound (seed ^^^ 0x9E3779B9)

/-- emax of R169. -/
def Fmt.emax : Fmt → Int
  | .fp4 => 2
  | .e4m3 => 8
  | .e5m2 => 15
  | _ => 0

/-- Largest finite magnitude of a list, as a value; zero if none (R169). -/
def amaxFinite : List Num → Num
  | [] => .zero
  | x :: xs =>
    let r := amaxFinite xs
    match x with
    | .fin _ m e => if r.lt (.fin false m e) then .fin false m e else r
    | _ => r

/-- The block scale of R169. -/
def mxScale (f : Fmt) (v : List Num) : Nat :=
  if v.any (fun x => decide (x = .nan)) then 0xFF
  else
    match amaxFinite v with
    | .fin _ m e => if m = 0 then 127 else (max 0 (min 254 (floorLog2 m e - f.emax + 127))).toNat
    | _ => 127

/-- The element codes of a quantised block, given its scale and each element's rounding (R169). -/
def mxCodes (f : Fmt) (g : Bool) (scale : Nat) : List (Num × Rnd) → List Nat
  | [] => []
  | (x, r) :: v =>
    (if scale = 0xFF then 0 else f.conv g r (x.scale (127 - (scale : Int)))) ::
      mxCodes f g scale v

/-- The value of an MX element under its block scale (R168). -/
def mxVal (f : Fmt) (g : Bool) (scale c : Nat) : Num :=
  if scale % 256 = 255 then .nan else (f.read g c).scale ((scale % 256 : Nat) - 127)

/-! ### Transcendental functions (R187) -/

/-- Integer square root by bits: the largest r with r² ≤ x, r below 2^n. -/
def isqrtBits (x : Nat) : Nat → Nat → Nat
  | 0, r => r
  | n + 1, r => isqrtBits x n (if (r + 2 ^ n) * (r + 2 ^ n) ≤ x then r + 2 ^ n else r)

/-- A positive quotient a ÷ b with a sticky last bit, as a value scaled by 2^-1. -/
def stickyDiv (a b : Nat) : Nat := 2 * (a / b) + (if a % b = 0 then 0 else 1)

/-- 1 ÷ (m × 2^e) with at least 64 correct bits and a sticky bit. -/
def recipNum (n : Bool) (m : Nat) (e : Int) : Num :=
  let k := 66 + Nat.log2 m
  .fin n (stickyDiv (2 ^ k) m) (-(k : Int) - 1 - e)

/-- 1 ÷ √(m × 2^e) with at least 60 correct bits and a sticky bit. -/
def rsqrtNum (m : Nat) (e : Int) : Num :=
  let (m, e) := if e % 2 = 0 then (m, e) else (2 * m, e - 1)
  let k := 66 + Nat.log2 m
  let r := isqrtBits (2 ^ (2 * k) / m) (k + 1) 0
  .fin false (2 * r + (if r * r * m = 2 ^ (2 * k) then 0 else 1)) (-(k : Int) - 1 - e / 2)

/-- ln 2 × 2^192, rounded down. -/
def ln2Fixed : Nat := 4350955369971217654477563090224794165364344896676135745069

/-- Terms n of the exponential series from index i on: the sum of x^j ÷ j! in units of 2^-192, with `t` the current
term. -/
def expSeries (x : Nat) : Nat → Nat → Nat → Nat
  | 0, _, _ => 0
  | n + 1, i, t => t + expSeries x n (i + 1) (t * x / 2 ^ 192 / (i + 1))

/-- 2^f for a fraction f given in units of 2^-192: in the same units, rounded down within a few of them. -/
def exp2Frac (f : Nat) : Nat := expSeries (f * ln2Fixed / 2 ^ 192) 50 0 (2 ^ 192)

/-- Terms of the series of atanh: the sum of z^(2j+1) ÷ (2j+1) with `t` the current power. -/
def atanhSeries (z2 : Nat) : Nat → Nat → Nat → Nat
  | 0, _, _ => 0
  | n + 1, j, t => t / (2 * j + 1) + atanhSeries z2 n (j + 1) (t * z2 / 2 ^ 192)

/-- log2 of x ÷ 2^192 for x from 2^192 up to 2^193, in units of 2^-192. -/
def log2Frac (x : Nat) : Nat :=
  let z := (x - 2 ^ 192) * 2 ^ 192 / (x + 2 ^ 192)
  2 * atanhSeries (z * z / 2 ^ 192) 64 0 z * 2 ^ 192 / ln2Fixed

/-- 2^x for a finite x: exact where x is an integer, else with a sticky last bit. Beyond ±4,096 the result is as far
outside FP32 as at 4,096. -/
def exp2Num (n : Bool) (m : Nat) (e : Int) : Num :=
  if m = 0 then .one
  else if floorLog2 m e ≥ 12 then .fin false 1 (if n then -4096 else 4096)
  else
    let fixed : Int := if 0 ≤ e + 192 then (m * 2 ^ (e + 192).toNat : Nat)
      else (m / 2 ^ (-(e + 192)).toNat : Nat)
    let fixed := if n then -fixed else fixed
    let whole := fixed / (2 ^ 192 : Nat)
    let frac := (fixed % (2 ^ 192 : Nat)).toNat
    if frac = 0 then .fin false 1 whole
    else .fin false (2 * exp2Frac frac + 1) (whole - 193)

/-- log2 of a positive finite value: exact at powers of two, else with a sticky last bit. -/
def log2Num (m : Nat) (e : Int) : Num :=
  let l := Nat.log2 m
  let whole : Int := floorLog2 m e
  if m = 2 ^ l then Num.ofInt whole
  else
    let f := log2Frac (m * 2 ^ (192 - l))
    let v : Int := whole * (2 ^ 192 : Nat) + (f : Int)
    .fin (decide (v < 0)) (2 * v.natAbs + 1) (-193)

/-- Rounding of an FP32 word to 16 significant bits and the flush that follows it (Pumice, R187). -/
def round16 (w : Word) : Word :=
  match Fmt.fp32.val w.toNat with
  | .fin n m e =>
    if m = 0 then w
    else
      let k := Nat.log2 m + 1 - 16
      fl false (.fin n (rneShift m k) (e + k))
  | _ => w

/-- The result of a transcendental function in a mode: Granite rounds the exact value once; Pumice rounds that result
again (R187). -/
def transOut (g : Bool) (x : Num) : Word := if g then fl true x else round16 (fl true x)

/-- EXP2 (R187). (DEDUCED: log entry 58) -/
def fexp2 (g : Bool) (a : Word) : Word :=
  match rd g a with
  | .nan => 0x7FC00000
  | .inf n => if n then 0 else 0x7F800000
  | .fin n m e => transOut g (exp2Num n m e)

/-- LOG2 (R187). (DEDUCED: log entry 58) -/
def flog2 (g : Bool) (a : Word) : Word :=
  match rd g a with
  | .nan => 0x7FC00000
  | .inf n => if n then 0x7FC00000 else 0x7F800000
  | .fin n m e =>
    if m = 0 then 0xFF800000 else if n then 0x7FC00000 else transOut g (log2Num m e)

/-- RECIP (R187). (DEDUCED: log entry 58) -/
def frecip (g : Bool) (a : Word) : Word :=
  match rd g a with
  | .nan => 0x7FC00000
  | .inf n => if n then 0x80000000 else 0
  | .fin n m e =>
    if m = 0 then (if n then 0xFF800000 else 0x7F800000) else transOut g (recipNum n m e)

/-- RSQRT (R187). (DEDUCED: log entry 58) -/
def frsqrt (g : Bool) (a : Word) : Word :=
  match rd g a with
  | .nan => 0x7FC00000
  | .inf n => if n then 0x7FC00000 else 0
  | .fin n m e =>
    if m = 0 then (if n then 0xFF800000 else 0x7F800000)
    else if n then 0x7FC00000 else transOut g (rsqrtNum m e)

end Sys2Proof.Machine
end

