-- ==== Sys2Proof/Machine/Hash.lean ====
section
/-!
DEFINITION. CRC-32C (R253, R281), SHA-256 (FIPS 180-4), HMAC and HKDF-SHA-256 (RFC 5869), which R471,
R472, R477 and the rules on digests use.
-/

namespace Sys2Proof.Machine

open Sys2Proof

/-- One bit of a reflected CRC-32C. -/
def crcBit (c : Word) : Word := if c.getLsbD 0 then (c >>> 1) ^^^ 0x82F63B78 else c >>> 1

/-- One byte of a reflected CRC-32C. -/
def crcByte (c : Word) (b : Byte) : Word :=
  let c := c ^^^ b.setWidth 32
  crcBit (crcBit (crcBit (crcBit (crcBit (crcBit (crcBit (crcBit c)))))))

/-- CRC-32C with initial value and final XOR 0xFFFFFFFF (R253). (DEDUCED: log entry 58) -/
def crc32c (l : List Byte) : Word := l.foldl crcByte 0xFFFFFFFF ^^^ 0xFFFFFFFF

/-- The `n` words of a number, the most significant first. -/
def wordsOf (n v : Nat) : List Word := (List.range n).map (fun i => BitVec.ofNat 32 (v / 2 ^ (32 * (n - 1 - i))))

/-- The 64 round constants of SHA-256, eight in a number. -/
def shaConstants : List Nat :=
  [0x428a2f98_71374491_b5c0fbcf_e9b5dba5_3956c25b_59f111f1_923f82a4_ab1c5ed5,
   0xd807aa98_12835b01_243185be_550c7dc3_72be5d74_80deb1fe_9bdc06a7_c19bf174,
   0xe49b69c1_efbe4786_0fc19dc6_240ca1cc_2de92c6f_4a7484aa_5cb0a9dc_76f988da,
   0x983e5152_a831c66d_b00327c8_bf597fc7_c6e00bf3_d5a79147_06ca6351_14292967,
   0x27b70a85_2e1b2138_4d2c6dfc_53380d13_650a7354_766a0abb_81c2c92e_92722c85,
   0xa2bfe8a1_a81a664b_c24b8b70_c76c51a3_d192e819_d6990624_f40e3585_106aa070,
   0x19a4c116_1e376c08_2748774c_34b0bcb5_391c0cb3_4ed8aa4a_5b9cca4f_682e6ff3,
   0x748f82ee_78a5636f_84c87814_8cc70208_90befffa_a4506ceb_bef9a3f7_c67178f2]

/-- The words that a round of SHA-256 adds. -/
def shaRoundWords : List Word := shaConstants.flatMap (wordsOf 8)

/-- The initial hash value of SHA-256. -/
def shaStart : List Word := wordsOf 8 0x6a09e667_bb67ae85_3c6ef372_a54ff53a_510e527f_9b05688c_1f83d9ab_5be0cd19

/-- The big-endian words of a list of bytes. -/
def beWords : List Byte → List Word
  | a :: b :: c :: d :: l => (a ++ b ++ c ++ d : Word) :: beWords l
  | _ => []

/-- The bytes of a big-endian word. -/
def beBytes (w : Word) : List Byte :=
  [(w >>> 24).setWidth 8, (w >>> 16).setWidth 8, (w >>> 8).setWidth 8, w.setWidth 8]

/-- The exclusive or of a word rotated right by each of some amounts. -/
def rotations (x : Word) (l : List Nat) : Word := l.foldl (fun r n => r ^^^ x.rotateRight n) 0

/-- The message schedule: `n` more words before those there, which stand latest first. -/
def shaSchedule : Nat → List Word → List Word
  | 0, w => w
  | n + 1, w =>
    let back := fun (i : Nat) => w.getD (i - 1) 0
    let low := rotations (back 15) [7, 18] ^^^ back 15 >>> 3
    let high := rotations (back 2) [17, 19] ^^^ back 2 >>> 10
    shaSchedule n ((back 16 + back 7 + low + high) :: w)

/-- One round on the last four words of each of the two chains that SHA-256 keeps, the latest first: working variables
a to d are the one, e to h the other. A constant and a schedule word go in as their sum. -/
def shaStep (v : List Word × List Word) (kw : Word) : List Word × List Word :=
  let p := fun (i : Nat) => v.1.getD i 0
  let q := fun (i : Nat) => v.2.getD i 0
  let choice := q 2 ^^^ (q 0 &&& (q 1 ^^^ q 2))
  let vote := (p 0 &&& p 1) ||| (p 2 &&& (p 0 ||| p 1))
  let t := kw + q 3 + choice + rotations (q 0) [6, 11, 25]
  ((t + vote + rotations (p 0) [2, 13, 22]) :: v.1.take 3, (p 3 + t) :: v.2.take 3)

/-- One block of sixteen words. -/
def shaBlock (h w : List Word) : List Word :=
  let kw := List.zipWith (· + ·) shaRoundWords (shaSchedule 48 w.reverse).reverse
  let r := kw.foldl shaStep (h.take 4, h.drop 4)
  List.zipWith (· + ·) h (r.1 ++ r.2)

/-- All blocks of a padded message; `n` bounds their number. -/
def shaBlocks : Nat → List Word → List Word → List Word
  | 0, h, _ => h
  | _, h, [] => h
  | n + 1, h, w => shaBlocks n (shaBlock h (w.take 16)) (w.drop 16)

/-- The padding of a message of `n` bytes. -/
def shaPad (n : Nat) : List Byte :=
  let z := (119 - n % 64) % 64
  0x80 :: List.replicate z 0 ++
    (beBytes (BitVec.ofNat 32 (8 * n / 2 ^ 32)) ++ beBytes (BitVec.ofNat 32 (8 * n)))

/-- SHA-256. (DEDUCED: log entry 58) -/
def sha256 (m : List Byte) : List Byte :=
  let w := beWords (m ++ shaPad m.length)
  (shaBlocks w.length shaStart w).flatMap beBytes

/-- HMAC-SHA-256 with a key of at most 64 bytes. -/
def hmac (key m : List Byte) : List Byte :=
  let k := key ++ List.replicate (64 - key.length) 0
  sha256 (k.map (· ^^^ 0x5C) ++ sha256 (k.map (· ^^^ 0x36) ++ m))

/-- HKDF-Expand to 48 bytes (R471). -/
def hkdf48 (prk info : List Byte) : List Byte :=
  let t1 := hmac prk (info ++ [1])
  let t2 := hmac prk (t1 ++ info ++ [2])
  (t1 ++ t2).take 48

/-- The ASCII bytes of a text. -/
def ascii (t : String) : List Byte := t.toList.map (fun c => BitVec.ofNat 8 c.toNat)

end Sys2Proof.Machine
end

