-- ==== Sys2Proof/Config.lean ====
section
/-!
DEFINITION. What the spec leaves open: values fused or written into the part before it is used, the
signature scheme of FIPS 205, and values the spec calls undefined. All are constants without a body.
-/

namespace Sys2Proof.Config

open Sys2Proof

/-- A byte the spec leaves open, by the use counter `State.fresh`. (DESIGN CHOICE: log entry 3) -/
opaque freeByte : Nat → Byte

/-- A number the spec leaves open, by the use counter `State.fresh`. (DESIGN CHOICE: log entry 3) -/
opaque freeNat : Nat → Nat

/-- The lifecycle fuse field as it decodes at manufacture (R466): 1 to 4, any other pattern is none. -/
opaque fusedLifecycle : Nat

/-- MIN_SVN as fused (R470). -/
opaque fusedMinSvn : BitVec 6

/-- UDS bytes 0 to 31 (R470). -/
opaque uds : Nat → Byte

/-- DEVICE_ID bytes 0 to 15 (R470). -/
opaque deviceId : Nat → Byte

/-- OWNER_ROOT bytes 0 to 31 as fused (R470). -/
opaque fusedOwnerRoot : Nat → Byte

/-- The vendor root hash in ROM, bytes 0 to 31 (R472). -/
opaque vendorRoot : Nat → Byte

/-- The endorsement in flash, bytes 0 to 7,951 (R469). -/
opaque endorsement : Nat → Byte

/-- Byte i of the public key that slh_keygen_internal makes from sk_seed, sk_prf and pk_seed (R471). (DESIGN
CHOICE: log entry 3) -/
opaque slhPublic : List Byte → Nat → Byte

/-- Byte i of the SLH-DSA-SHA2-128f signature over a body with the key of a seed and the opt_rand that the random
generator gave at a use counter (R472). (DESIGN CHOICE: log entry 3) -/
opaque slhSignature : List Byte → List Byte → Nat → Nat → Byte

/-- Whether SLH-DSA-SHA2-128s verifies a signature, from public key, message and signature (R472). (DESIGN CHOICE:
log entry 3; DEDUCED: log entry 52) -/
opaque slhVerify : List Byte → List Byte → List Byte → Bool

/-- The rounding error of a sum of numbers m·2^e in the 48-bit format of Flint's checksum units, in units of the
smallest exponent among them: the spec leaves order and rounding open (R352). (DESIGN CHOICE: log entry 3) -/
opaque flintError : List (Int × Int) → Int

/-- Subsystem ID and Subsystem Vendor ID of both ports as a Shale image sets them, by the image's digest (R392).
(PRESUMED: log entry 32) -/
opaque subsystemIds : List Byte → Word

/-- The Device Serial Number that is derived from the fused DEVICE_ID (R392). (PRESUMED: log entry 32) -/
opaque serialNumber : BitVec 64

/-- A byte of an HBM block whose contents were lost (R428, R429), by physical address. -/
opaque lostByte : Nat → Nat → Byte

end Sys2Proof.Config
end

