-- ==== Sys2Proof/Machine/Store.lean ====
section
/-!
DEFINITION. A sparse table: a list of (key, value) pairs in one canonical form (keys strictly
rising, no entry equal to what an unlisted key reads as). Memory, registers, core stores and every
other table of the state are such lists; what an unlisted key reads as is the `d` each use names.
-/

namespace Sys2Proof.Machine

/-- A sparse table from Nat keys. -/
abbrev Store (α : Type) := List (Nat × α)

/-- The value at a key; an unlisted key reads as `d`. -/
def Store.get {α : Type} (d : Nat → α) : Store α → Nat → α
  | [], k => d k
  | (k', v) :: m, k => if k = k' then v else Store.get d m k

/-- The table without an entry for `k`. -/
def Store.erase {α : Type} (m : Store α) (k : Nat) : Store α :=
  match m with
  | [] => []
  | (k', v) :: m => if k = k' then Store.erase m k else (k', v) :: Store.erase m k

/-- An entry put before the first larger key. -/
def Store.insert {α : Type} (m : Store α) (k : Nat) (v : α) : Store α :=
  match m with
  | [] => [(k, v)]
  | (k', v') :: m => if k < k' then (k, v) :: (k', v') :: m else (k', v') :: Store.insert m k v

/-- The table with `v` at `k`; writing what an unlisted key reads as removes the entry. -/
def Store.set {α : Type} [DecidableEq α] (d : Nat → α) (m : Store α) (k : Nat) (v : α) : Store α :=
  if v = d k then Store.erase m k else Store.insert (Store.erase m k) k v

/-- Keys strictly rising from `lo` on. -/
def Store.rising {α : Type} : Nat → Store α → Bool
  | _, [] => true
  | lo, (k, _) :: m => decide (lo ≤ k) && Store.rising (k + 1) m

/-- No entry equal to what an unlisted key reads as. -/
def Store.lean {α : Type} [DecidableEq α] (d : Nat → α) : Store α → Bool
  | [] => true
  | (k, v) :: m => decide (v ≠ d k) && Store.lean d m

/-- The canonical form. -/
def Store.wf {α : Type} [DecidableEq α] (d : Nat → α) (m : Store α) : Bool :=
  Store.rising 0 m && Store.lean d m

/-- Every value changed by one function of its key and value, in canonical form again. -/
def Store.mapVals {α : Type} [DecidableEq α] (d : Nat → α) (f : Nat → α → α) : Store α → Store α
  | [] => []
  | (k, v) :: m =>
    if f k v = d k then Store.mapVals d f m else (k, f k v) :: Store.mapVals d f m

/-- The entries whose key satisfies `p`. -/
def Store.keep {α : Type} (p : Nat → Bool) : Store α → Store α
  | [] => []
  | (k, v) :: m => if p k then (k, v) :: Store.keep p m else Store.keep p m

/-- Consecutive keys from `k` set to the values of a list. -/
def Store.setMany {α : Type} [DecidableEq α] (d : Nat → α) (m : Store α) (k : Nat) :
    List α → Store α
  | [] => m
  | v :: vs => Store.setMany d (Store.set d m k v) (k + 1) vs

/-- The values at `n` consecutive keys from `k`. -/
def Store.getMany {α : Type} (d : Nat → α) (m : Store α) (k : Nat) : Nat → List α
  | 0 => []
  | n + 1 => Store.get d m k :: Store.getMany d m (k + 1) n

end Sys2Proof.Machine
end

