-- ==== Sys2Proof/Machine/CoreParts.lean ====
section
/-!
DEFINITION. The parts of the state that the compute dies hold: cores, stacks, silent-error checking.
-/

namespace Sys2Proof.Machine

open Sys2Proof

/-- The clean tag of a core-store line (R257): the source local offset, and whether the source is version storage. -/
structure CleanTag where
  off     : Nat
  version : Bool
  deriving DecidableEq, Repr

/-- An element as it is stored: its code, its block scale (MX only) and its poison. -/
structure El where
  code  : Nat
  scale : Option Nat := none
  p     : Bool := false
  deriving DecidableEq, Repr

/-- How far a descriptor in flight is: in its unit's queue (R112); waiting for bytes of other devices before it can
run; between cycle 0 and its commit point (array, R121); or waiting only for the completion of what it has done. -/
inductive Phase
  | queued
  | fetch
  | running
  | issued
  deriving DecidableEq, Repr

/-- A descriptor that has issued and not completed (R49, R112): its unit, its 64 bytes (bit 0 is bit 0 of byte 0), its
position and image offset (64-byte units), the fabric request tags it waits for, and the remote bytes received so far,
by global address, with their poison. `held` marks a Flint hold (R139), a collective in progress, or a RING_WAIT whose
slot is not full; `buffered` a result that left its output bank for the resolution buffer (R354); `upsets` the silent
errors of an MMA that has not begun. -/
structure InFlight where
  unit   : UnitId
  desc   : BitVec 512
  pos    : Nat
  off    : Nat
  phase  : Phase := .issued
  tags   : List Nat := []
  got    : Store (Byte × Bool) := []
  held   : Bool := false
  writes : Bool := false
  buffered : Bool := false
  upsets : List Upset := []
  deriving DecidableEq, Repr

/-- The list a sequencer runs (R46, R101): its base in the image (64-byte units), the position of the next descriptor
to issue, the logical core whose work it is, the repair piece (index into the repair queue) or none for the core's own
list, and whether it ended or faulted. -/
structure Run where
  base    : Nat
  pos     : Nat := 0
  logical : Nat
  piece   : Option Nat := none
  ended   : Bool := false
  faulted : Bool := false
  deriving DecidableEq, Repr

/-- ARR_STAT.STATUS (R144). -/
inductive ArrStatus
  | idle
  | running
  | held
  | done
  | aborted
  | faulted
  deriving DecidableEq, Repr

/-- The code of an array status (R144). -/
def ArrStatus.code : ArrStatus → Nat
  | .idle => 0
  | .running => 1
  | .held => 2
  | .done => 3
  | .aborted => 4
  | .faulted => 5

/-- Rows of result elements, each a 32-bit pattern and its poison. -/
abbrev Res := List (List (Word × Bool))

/-- A result before its commit point (R121, R139, R353): its descriptor and image offset, the result O, the lowest
failing column of its checksum (none: passes). A sampled one waits for its verdict; `judged`: its failing verdict
has returned and it waits for its die's resolution. -/
structure Held where
  desc : BitVec 512
  off  : Nat
  pos  : Nat
  res  : Res
  fail : Option Nat
  judged : Bool := false
  sampled : Bool := true
  deriving DecidableEq, Repr

/-- The shadow stationary tile (R123): the position of the array instruction it belongs to, and the columns of its
B. -/
structure Shadow where
  pos : Nat
  b   : List (List El)
  deriving DecidableEq, Repr

/-- One core (R36, R63, R111, R123, R144, R146, R171, R204, R208, R257). `latest` is the position of the array
instruction that began last, whose state STATUS shows. -/
structure Core where
  cause     : Nat := 0
  passed    : Bool := false
  testing   : Bool := false
  logical   : Option Nat := none
  run       : Option Run := none
  own       : Option Run := none
  ptr       : Nat := 0
  fly       : List InFlight := []
  v         : Store Word := []
  vp        : Store Bool := []
  t         : Store Word := []
  tp        : Store Bool := []
  na        : Store Word := []
  nap       : Store Bool := []
  cst       : Store Byte := []
  written   : Store Bool := []
  lpoison   : Store Bool := []
  clean     : Store (Option CleanTag) := []
  badLines  : List Nat := []
  status    : ArrStatus := .idle
  d         : Nat := 0
  abortLate : Bool := false
  halt      : Bool := false
  samples   : Nat := 0
  held      : List Held := []
  shadow    : Option Shadow := none
  latest    : Option Nat := none
  vecOp     : Nat := 0
  cdmaOp    : Nat := 0
  beats     : Nat := 0
  blocks    : Nat := 0
  gated     : Nat := 0
  cells     : Nat := 0
  lastBeats : Nat := 0
  lastBlocks : Nat := 0
  lastGated : Nat := 0
  deriving DecidableEq, Repr

/-- The arbiter of a stack controller (R262): per entry (LOCAL, D2D, IOD_BULK, IOD_PRI, GEODE as 0 to 4) its wait
counter, backoff and n; the cycle within the window, the PRIORITY grants of the window, the round-robin pointer, and
the limits in effect (R264). `blocks` counts the 64-byte blocks granted while TEL's counters run, since they last
took them in (R513). -/
structure Arb where
  cycle   : Nat := 0
  pri     : Nat := 0
  rr      : Nat := 4
  wait    : List Nat := [0, 0, 0, 0, 0]
  backoff : List Nat := [0, 0, 0, 0, 0]
  n       : List Nat := [2, 2, 2, 2, 2]
  limit   : Nat := 512
  quota   : Nat := 16
  window  : Nat := 64
  blocks  : Nat := 0
  deriving DecidableEq, Repr

/-- One stack (R243, R253, R262, R270). `lost` counts the times the contents went with the refresh (R428, R429), 0
once they are filled: a block not written since then reads as free bytes and is detected under R254. `upset` holds
the blocks whose stored CRC has come to differ from their data, by physical block number, each with the number of
reads in a row that mismatch; every other block's CRC is that of its data. (DESIGN CHOICE: log entry 38) -/
structure Stack where
  trained     : Bool := false
  selfRefresh : Bool := false
  retraining  : Bool := false
  filling     : Bool := false
  lost        : Nat := 0
  upset       : Store Nat := []
  deriving DecidableEq, Repr

/-- A resolution on a die (R354): the core, its held result O, and the re-runs as they come in, each with its result
and its lowest failing column; `partner` is the candidate X runs on. -/
structure Resolution where
  core    : CoreId
  o       : Held
  partner : Option CoreId
  s       : Option (Res × Option Nat) := none
  x       : Option (Res × Option Nat) := none
  deriving DecidableEq, Repr

/-- A Flint sweep (R360, R363): the cores still to finish, each with the groups it has yet to run, and what
FLT_SWEEP_STAT shows. -/
structure Sweep where
  busy    : Bool := false
  done    : Bool := false
  aborted : Bool := false
  stop    : Bool := false
  todo    : List (CoreId × Nat) := []
  failed  : Nat := 0
  cores   : Nat := 0
  deriving DecidableEq, Repr

/-- Flint arbitration (R351 to R363): the resolution of each die, the last outcome, the sweep, and
BLK_CTL.ENABLE of its page (R523). -/
structure Flt where
  active : List (DieId × Resolution) := []
  last   : Nat := 0
  sweep  : Sweep := {}
  enable : Bool := true
  deriving DecidableEq, Repr

end Sys2Proof.Machine
end

