-- ==== Sys2Proof/Machine/FabricParts.lean ====
section
/-!
DEFINITION. The parts of the state that the links hold: fabric ports, the router, outstanding
requests, the collective engine and ring forwarder, and the bridge links.
-/

namespace Sys2Proof.Machine

open Sys2Proof

/-- Port states of FAB_LINK_STAT.STATE (R299). -/
inductive PortState
  | disabled
  | down
  | training
  | up
  | retrain
  deriving DecidableEq, Repr

/-- The code of a port state (R305). -/
def PortState.code : PortState → Nat
  | .disabled => 0
  | .down => 1
  | .training => 2
  | .up => 3
  | .retrain => 4

/-- Credit state of one VC (R292, R293): the peer's LIMIT, FUs sent and the last CR_TOTAL received, FUs received into
the buffer and entries freed (all modulo 65,536). -/
structure Credit where
  limit : Nat := 0
  sent  : Nat := 0
  total : Nat := 0
  recv  : Nat := 0
  freed : Nat := 0
  deriving DecidableEq, Repr

/-- A fabric port (R285 to R305). Sender: `next` sequence number, `buf` the unacknowledged FUs oldest first, `queue`
sequenced FUs not yet numbered, `expiries` without progress. Receiver: `cnt` the count, `exp` the expected number,
`ackSeq`, `ackValid`, `discard`. `vcTurn` whose credit count the next trailer carries, `bulkTurn` whether VC2 comes
before VC0. `queue` marks the FUs that enter a ring here (R324). `wake`: software asked for training (R300).
`askParity`: the PARITY of this training's INITs. Training: what the INITs have shown. Neighbour: HELLO and delay.
`dueBcast`: halt-broadcast copies to send, with those that have fallen due marked (R297). -/
structure Port where
  st        : PortState := .down
  cause     : Nat := 0
  signal    : Bool := false
  fec       : Bool := false
  parity    : Bool := false
  bistFail  : Bool := false
  fails     : Nat := 0
  next      : Nat := 0
  buf       : List Fu := []
  queue     : List (Fu × Bool) := []
  expiries  : Nat := 0
  afterRetrain : Bool := false
  cnt       : Nat := 0
  exp       : Nat := 0
  ackSeq    : Nat := 0
  ackValid  : Bool := false
  discard   : Bool := false
  credits   : List Credit := [{}, {}, {}, {}]
  vcTurn    : Nat := 0
  bulkTurn  : Bool := false
  wake      : Bool := false
  seen      : Bool := false
  sentSeen  : Bool := false
  gotSeen   : Bool := false
  askParity : Bool := false
  peerParity : Bool := false
  peerFec   : Bool := false
  locked    : Bool := false
  traffic   : Bool := false
  trafficLast : Bool := false
  nbValid   : Bool := false
  nbMismatch : Bool := false
  nbPort    : Nat := 0
  nbCoord   : BitVec 24 := 0
  nbFeed    : Byte := 0
  delayValid : Bool := false
  samples   : List Int := []
  stamps    : List (Int × Int) := []
  peerLock  : Nat := 0
  dueBcast  : List (Fu × Bool) := []
  deriving DecidableEq, Repr

/-- The sequenced FUs of a port that are not acknowledged. -/
def Port.outgoing (p : Port) : List Fu := p.buf ++ p.queue.map (·.1)

/-- A record of a RING_STATE (R320): axis, origin coordinate, PLUS_OK, MINUS_OK, SEQ. -/
structure RingRec where
  axis  : Nat
  coord : Nat
  plus  : Bool
  minus : Bool
  seq   : Word
  deriving DecidableEq, Repr

/-- The router (R307 to R326): ring records, the map at the last tick (link usability by axis·64 + link), the sequence
numbers of its own RING_STATEs, the neighbours found absent, and the halt broadcasts already seen (R106). `errs`: own
requests that found no route. -/
structure Frt where
  recs   : List RingRec := []
  map    : Store Bool := []
  mapAt  : Store Bool := []
  seq    : List Word := [0, 0, 0, 0]
  absent : List PortId := []
  seen   : List (Word × BitVec 64) := []
  errs   : List Nat := []
  deriving DecidableEq, Repr

/-- Who sent a fabric request (R265): a unit of a core, a bare queue header of MBQ, a DMA channel, a BAR2 access of a
host (by its number), Geode's drain or restore, COL, or the ring forwarder. -/
inductive ReqOwner
  | core (c : CoreId) (u : UnitId) (pos : Nat)
  | mbq (queue entry : Nat)
  | dma (ch : ChanId)
  | bar2 (h : HostId) (key : Nat)
  | bar2Write (h : HostId) (key : Nat)
  | drain
  | restore
  | col (id : Word)
  | ring (id : Word)
  deriving DecidableEq, Repr

/-- An outstanding fabric request (R27, R311, R315): its number, its TAG once sent, who waits for it, its destination,
the global address and length it reads or writes, whether it reads, and the FU. A request that the tracker limit of
R27 or the order of R327 holds back is not `sent`; `dead` is one whose requester timed out (R323). -/
structure Tracker where
  id    : Nat
  tag   : Nat := 0
  sent  : Bool := false
  owner : ReqOwner
  dest  : BitVec 24
  addr  : Nat
  len   : Nat
  read  : Bool
  dead  : Bool := false
  fu    : Fu
  deriving DecidableEq, Repr

/-- A collective in progress (R329 to R332): the issuing core and descriptor, opcode, axis, operation, COLL_ID,
format, element counts and local offsets; the elements already written and folded here. -/
structure Collective where
  core  : CoreId
  pos   : Nat
  op    : Nat
  axis  : Nat
  fold  : Nat
  id    : Word
  fmt   : Nat
  size  : Nat
  src   : Nat
  dst   : Nat
  need  : Nat
  wrote : Nat := 0
  folded : Nat := 0
  deriving DecidableEq, Repr

/-- A ring operation in progress (R333, R334): bytes written of each ring slot. -/
structure RingOp where
  core  : CoreId
  pos   : Nat
  id    : Word
  dst   : Nat
  bytes : Nat
  got   : List Nat
  deriving DecidableEq, Repr

/-- Whether every slot of a ring operation is written. -/
def RingOp.full (x : RingOp) : Bool := x.got.all (fun n => decide (x.bytes ≤ n))

/-- COL and the ring forwarder (R329 to R338): operations in progress, the staged segments that came before their
issue, the ports whose VC2 credit a full staging buffer holds back (R332), and the peak use in bytes. -/
structure Col where
  ops    : List Collective := []
  rings  : List RingOp := []
  staged : List Fu := []
  owed   : List PortId := []
  peak   : Nat := 0
  deriving DecidableEq, Repr

/-- Link states of D2D_STAT.STATE (R439). -/
inductive LinkState
  | down
  | training
  | handshake
  | up
  | retrain
  deriving DecidableEq, Repr

/-- The code of a link state (R439). -/
def LinkState.code : LinkState → Nat
  | .down => 1
  | .training => 2
  | .handshake => 3
  | .up => 4
  | .retrain => 5

/-- Widths of a bridge link (R424, R439). -/
inductive Width
  | none
  | halfLo
  | halfHi
  | full
  deriving DecidableEq, Repr

/-- The code of a width (R424). -/
def Width.code : Width → Nat
  | .none => 0
  | .halfLo => 1
  | .halfHi => 2
  | .full => 3

/-- The width of a code. -/
def Width.ofCode : Nat → Width
  | 1 => .halfLo
  | 2 => .halfHi
  | 3 => .full
  | _ => .none

/-- A bridge link as its near end sees it (R419 to R426, R439): the sequence state of R421 (`oldest` is the sequence
number after the last one acknowledged), the replay buffer with the units sent and not acknowledged, oldest first, and
those of them still to be sent again, the REQ and RSP credit totals received and those of its own receiver, the unit
position out of 64 (R422), the handshake (`gotGen` is the GEN received last, `genPeer` the last one that was not
stale), and the sideband. -/
structure Link where
  st        : LinkState := .down
  width     : Width := .none
  gen       : Nat := 0
  genPeer   : Nat := 0
  gotGen    : Nat := 0
  near      : BitVec 16 := 0
  far       : BitVec 16 := 0
  proposal  : Width := .none
  sideband  : Bool := false
  fails     : Nat := 0
  oldest    : Nat := 0
  expiries  : Nat := 0
  afterRetrain : Bool := false
  cnt       : Nat := 0
  exp       : Nat := 0
  ackSeq    : Nat := 0
  ackValid  : Bool := false
  discard   : Bool := false
  credits   : List Nat := [0, 0]
  sent      : List D2dUnit := []
  again     : List D2dUnit := []
  freed     : List Nat := [0, 0]
  at64      : Nat := 0
  deriving DecidableEq, Repr

end Sys2Proof.Machine
end

