-- ==== Sys2Proof/Machine/PipelineParts.lean ====
section
/-!
DEFINITION. The parts of the state that the pipeline machinery holds: micro-batch contexts and
queues (MBQ), weight versions (VER) and snapshots (GEO).
-/

namespace Sys2Proof.Machine

open Sys2Proof

/-- Context states (R210, R239). -/
inductive CtxState
  | free
  | forward
  | backward
  | eval
  deriving DecidableEq, Repr

/-- The code of a context state (R239). -/
def CtxState.code : CtxState → Nat
  | .free => 0
  | .forward => 1
  | .backward => 2
  | .eval => 3

/-- A micro-batch context (R210). The capture record stands in HBM. -/
structure Ctx where
  st         : CtxState := .free
  mb         : Word := 0
  vstage     : Nat := 0
  captured   : Bool := false
  endPending : Bool := false
  stashBase  : Nat := 0
  stashLen   : Nat := 0
  deriving DecidableEq, Repr

/-- A queue record (R215). -/
structure Queue where
  kind     : Nat
  vstage   : Nat
  count    : Nat
  size     : Nat
  base     : Nat
  peer     : Word
  peerQ    : Nat
  deriving DecidableEq, Repr

/-- An outbound entry written in the current slot (R219): queue, entry and the context fields its header takes; `tags`
are requests outstanding for it, `stamped` once its full header is written. -/
structure OutEntry where
  queue   : Nat
  entry   : Nat
  mb      : Word
  vstage  : Nat
  tags    : List Nat := []
  stamped : Bool := false
  deriving DecidableEq, Repr

/-- Micro-batch queue control (R210 to R221). -/
structure Mbq where
  ctxs   : Store Ctx := []
  queues : List Queue := []
  outs   : List OutEntry := []
  stamps : Nat := 0
  deriving DecidableEq, Repr

/-- Ring position states (R224, R241). -/
inductive PosState
  | empty
  | pending
  | current
  | superseded
  | retired
  deriving DecidableEq, Repr

/-- The code of a position state (R241). -/
def PosState.code : PosState → Nat
  | .empty => 0
  | .pending => 1
  | .current => 2
  | .superseded => 3
  | .retired => 4

/-- A ring position (R224 to R232): `retire` is its retire tick; `pub` the retire tick of a publish waiting for the
next tick; `poison` a poisoned write through VSEL NEW was seen. -/
structure Pos where
  st     : PosState := .empty
  ver    : Nat := 0
  leases : Nat := 0
  retire : Nat := 0
  pub    : Option Nat := none
  poison : Bool := false
  deriving DecidableEq, Repr

/-- A weight record (R222) with its ring positions. -/
structure Weight where
  id      : Nat
  vstage  : Nat
  base    : Nat
  stride  : Nat
  len     : Nat
  hostOff : Nat
  ring    : List Pos
  deriving DecidableEq, Repr

/-- A shard record (R236). -/
structure Shard where
  weight : Nat
  d      : Nat
  full   : Nat
  len    : Nat
  deriving DecidableEq, Repr

/-- A host fetch (R238): the weights still to read, each as (storage offset, host address, length), and the count of
those done. -/
structure Fetch where
  busy : Bool := false
  done : Bool := false
  err  : Bool := false
  todo : List (Nat × Nat × Nat) := []
  count : Nat := 0
  deriving DecidableEq, Repr

/-- The version store (R222 to R238). `shown` is the ring state the query registers show, that of the last tick
(R533). -/
structure Ver where
  weights : List Weight := []
  shards  : List Shard := []
  hasShards : Bool := false
  captureBase : Nat := 0
  fetch   : Fetch := {}
  shown   : List Weight := []
  deriving DecidableEq, Repr

/-- An entry of the Geode range table (R368, R384): a plain range, or a weight. -/
structure Range where
  off    : Nat
  len    : Nat
  snap   : Bool
  role   : Nat
  weight : Option Nat
  deriving DecidableEq, Repr

/-- A committed or incoming point (R373, R374), as GEO_POINT shows it. -/
structure Point where
  valid  : Bool := false
  step   : BitVec 64 := 0
  tick   : BitVec 64 := 0
  origin : Word := 0
  deriving DecidableEq, Repr

/-- A running snapshot copy (R376, R377): target slot (true: B), job tick, the dies still copying, the shards' digests
and lengths, and the first poisoned block seen. -/
structure Copying where
  slotB  : Bool
  tick   : BitVec 64
  todo   : List DieId
  sha    : List (DieId × List Byte)
  lens   : List Nat
  poison : Option Nat := none
  dieDown : Bool := false
  deriving DecidableEq, Repr

/-- States of the buddy drain (R389). -/
inductive DrainState
  | idle
  | opening
  | draining
  | waiting
  | noBuddy
  deriving DecidableEq, Repr

/-- The code of a drain state (R389). -/
def DrainState.code : DrainState → Nat
  | .idle => 0
  | .opening => 1
  | .draining => 2
  | .waiting => 3
  | .noBuddy => 4

/-- The buddy drain as sender (R382): the slot drained, its point, the receiver's IN slot, the request tags
outstanding, the bytes acknowledged and to write, whether the shards (1) or the records (2) are being written (0:
held), and the last point drained. -/
structure Drain where
  st      : DrainState := .idle
  slotB   : Bool := false
  inB     : Bool := false
  point   : Point := {}
  tags    : List Nat := []
  sent    : Nat := 0
  total   : Nat := 0
  phase   : Nat := 0
  result  : Nat := 0
  last    : Option Point := none
  deriving DecidableEq, Repr

/-- What the last GEO_HELLO of the buddy said (R379, R381): port it came on, its buddy port, region, feed, coordinate
and layout. -/
structure Buddy where
  port     : PortId
  axis     : Nat
  region   : Bool
  mode     : Nat
  feed     : Byte
  coord    : Word
  base     : BitVec 64
  len      : BitVec 64
  slotLen  : BitVec 64
  deriving DecidableEq, Repr

/-- The host drain (R383): state code 0 idle, 1 armed, 2 draining, 3 done, 4 failed; the port selection and the slot
it reads. -/
structure HostDrain where
  st       : Nat := 0
  err      : Nat := 0
  durable  : Bool := false
  attempts : Nat := 0
  ports    : Nat := 3
  slotB    : Bool := false
  point    : Point := {}
  reading  : Bool := false
  deriving DecidableEq, Repr

/-- A restore (R386): its source, the reads outstanding (number, die, offset) and the bytes received, of the
records (stage 0), the version table (1) or the shards (2); stage 3 is done but for its end. -/
structure Restore where
  busy   : Bool := false
  done   : Bool := false
  err    : Nat := 0
  source : Nat := 0
  reads  : List (Nat × Nat × Nat) := []
  got    : List (Nat × Nat × List (Byte × Bool)) := []
  stage  : Nat := 0
  poison : Bool := false
  deriving DecidableEq, Repr

/-- Geode (R365 to R390): the area, the range table and its digest, the four points (local A, local B, IN A, IN B),
the copy, drains and restore. `loHeld` is the GEO_STEP_LO value held per requester (R535); `inDrain` the drain being
received: IN slot, sender's port, STEP and SNAP_TICK; `inRead` the IN slots that READ_REQs have reached since the last
GEO_HELLO timer; `same` the buddy ports whose last GEO_HELLO named this device's feed; `durDue` an armed durable drain
may start at this tick; `mismatch` the ports whose neighbour names another buddy port. -/
structure Geo where
  enabled  : Bool := false
  base     : Nat := 0
  len      : Nat := 0
  slotLen  : Nat := 0
  ranges   : List Range := []
  digest   : List Byte := []
  step     : BitVec 64 := 0
  loHeld   : List (Requester × Word) := []
  torn     : Bool := false
  durCommitted : Bool := false
  durDue   : Bool := false
  last     : Nat := 0
  points   : List Point := [{}, {}, {}, {}]
  copying  : Option Copying := none
  writing  : Bool := false
  drain    : Drain := {}
  hello    : Option Buddy := none
  mismatch : List PortId := []
  host     : HostDrain := {}
  restore  : Restore := {}
  inDrain  : Option (Bool × PortId × BitVec 64 × BitVec 64) := none
  inRead   : List Nat := []
  same     : List PortId := []
  deriving DecidableEq, Repr

end Sys2Proof.Machine
end

