-- ==== Sys2Proof/Machine/RegMap.lean ====
section
/-!
DEFINITION. The register map of BAR0 (R28, R495 to R537): which page an offset lies in, and for
every register of a page its access masks (R12), the bits whose reset carries (S) (R16) and its
reset value.
-/

namespace Sys2Proof.Machine

open Sys2Proof

/-- The block instances that own a page of BAR0 (R28, R497). -/
inductive Blk
  | glb | pwr | tim | sec | cfg | ras | tel | dbg
  | hif (h : HostId)
  | dma
  | fab (p : PortId)
  | frt | col
  | d2d (l : LinkId)
  | hbm (s : StackId)
  | ver | mbq | cad | geo | flt
  | core (c : CoreId)
  | arr (c : CoreId)
  | vec (c : CoreId)
  | cdma (c : CoreId)
  | cst (c : CoreId)
  deriving DecidableEq, Repr

/-- BAR0 offset of the first page of a core's region (R527). -/
def coreBase (c : CoreId) : Nat := 0x100000 + 0x10000 * c.val

/-- BAR0 offset of a page (R28). -/
def Blk.base : Blk → Nat
  | .glb => 0x0
  | .pwr => 0x1000
  | .tim => 0x2000
  | .sec => 0x3000
  | .cfg => 0x4000
  | .ras => 0x5000
  | .tel => 0x6000
  | .dbg => 0x7000
  | .hif h => 0x10000 + 0x1000 * h.num
  | .dma => 0x12000
  | .fab p => 0x20000 + 0x1000 * p.val
  | .frt => 0x28000
  | .col => 0x29000
  | .d2d l => 0x30000 + 0x1000 * l.val
  | .hbm s => 0x40000 + 0x1000 * s.val
  | .ver => 0x50000
  | .mbq => 0x51000
  | .cad => 0x52000
  | .geo => 0x53000
  | .flt => 0x54000
  | .core c => coreBase c
  | .arr c => coreBase c + 0x1000
  | .vec c => coreBase c + 0x2000
  | .cdma c => coreBase c + 0x3000
  | .cst c => coreBase c + 0x4000

/-- The page of a core region by page number 0 to 4 (R527). -/
def Blk.ofCorePage (c : CoreId) : Nat → Option Blk
  | 0 => some (.core c)
  | 1 => some (.arr c)
  | 2 => some (.vec c)
  | 3 => some (.cdma c)
  | 4 => some (.cst c)
  | _ => none

/-- The page a BAR0 offset lies in; none where no page is defined (R15, R394, R521). -/
def Blk.ofOff (a : Nat) : Option Blk :=
  let p := a / 0x1000
  if p = 0 then some .glb
  else if p = 1 then some .pwr
  else if p = 2 then some .tim
  else if p = 3 then some .sec
  else if p = 4 then some .cfg
  else if p = 5 then some .ras
  else if p = 6 then some .tel
  else if p = 7 then some .dbg
  else if p = 0x10 then some (.hif .h0)
  else if p = 0x11 then some (.hif .h1)
  else if p = 0x12 then some .dma
  else if h : 0x20 ≤ p ∧ p < 0x28 then some (.fab ⟨p - 0x20, by omega⟩)
  else if p = 0x28 then some .frt
  else if p = 0x29 then some .col
  else if h : 0x30 ≤ p ∧ p < 0x38 then some (.d2d ⟨p - 0x30, by omega⟩)
  else if h : 0x40 ≤ p ∧ p < 0x50 then some (.hbm ⟨p - 0x40, by omega⟩)
  else if p = 0x50 then some .ver
  else if p = 0x51 then some .mbq
  else if p = 0x52 then some .cad
  else if p = 0x53 then some .geo
  else if p = 0x54 then some .flt
  else if h : 0x100 ≤ p ∧ p < 0xD00 then
    Blk.ofCorePage ⟨(p - 0x100) / 16, by omega⟩ ((p - 0x100) % 16)
  else none

/-- BLOCK_TYPE (R497). -/
def Blk.typeCode : Blk → Nat
  | .glb => 0x01
  | .pwr => 0x02
  | .tim => 0x03
  | .sec => 0x04
  | .cfg => 0x05
  | .ras => 0x06
  | .tel => 0x07
  | .dbg => 0x08
  | .hif _ => 0x10
  | .dma => 0x11
  | .fab _ => 0x20
  | .frt => 0x21
  | .col => 0x22
  | .d2d _ => 0x28
  | .hbm _ => 0x30
  | .ver => 0x40
  | .mbq => 0x41
  | .cad => 0x42
  | .geo => 0x43
  | .flt => 0x44
  | .core _ => 0x50
  | .arr _ => 0x51
  | .vec _ => 0x52
  | .cdma _ => 0x53
  | .cst _ => 0x54

/-- INSTANCE of BLK_ID (R496). -/
def Blk.inst : Blk → Nat
  | .hif h => h.num
  | .fab p => p.val
  | .d2d l => l.val
  | .hbm s => s.val
  | .core c | .arr c | .vec c | .cdma c | .cst c => c.val
  | _ => 0

/-- BLK_CAP (R498, R522). -/
def Blk.cap : Blk → Nat
  | .glb => 0x00003004
  | .pwr => 0x00000005
  | .tim => 0x00000108
  | .sec => 0x00000008
  | .cfg => 0x00000002
  | .ras | .dbg => 0
  | .tel => 0x00000008
  | .hif _ => 0x000000FF
  | .dma => 0x00000010
  | .fab _ => 0x00010810
  | .frt => 0x00003F08
  | .col => 0x00200810
  | .d2d l => if l.val < 4 then 0x00000010 else 0x00000110
  | .hbm s => 0x00001020 + 0x10000 * (s.val / 4)
  | .ver => 0x00041000
  | .mbq => 0x00084030
  | .cad => 0x00810000
  | .geo => 0x00000404
  | .flt => 0x00000504
  | .core c => 0x60000000 + 0x100 * (c.val % 48) + c.val / 48
  | .arr _ => 0x00128080
  | .vec _ => 0xFF042080
  | .cdma _ => 0x00000010
  | .cst _ => 0x00060000

/-- The compute die that serves a page; none where X serves it (R28). -/
def Blk.die : Blk → Option DieId
  | .d2d l => if h : 4 ≤ l.val then some ⟨l.val - 4, by omega⟩ else none
  | .hbm s => some ⟨s.val / 4, by omega⟩
  | .core c | .arr c | .vec c | .cdma c | .cst c => some ⟨c.val / 48, by omega⟩
  | _ => none

/-- The core whose region a page belongs to. -/
def Blk.coreOf : Blk → Option CoreId
  | .core c | .arr c | .vec c | .cdma c | .cst c => some c
  | _ => none

/-- One register of a page: offset; the bits of each writable kind (R12), `act` being RWO bits that read 0 and start
an action; the bits a Shale record may set (S); the reset value. -/
structure RegRow where
  off   : Nat
  rwo   : Nat := 0
  rw    : Nat := 0
  rwl   : Nat := 0
  w1c   : Nat := 0
  act   : Nat := 0
  shale : Nat := 0
  reset : Nat := 0
  deriving DecidableEq, Repr

/-- A read-only register. -/
def roRow (off : Nat) (reset : Nat := 0) : RegRow := { off := off, reset := reset }

/-- An RWO register without (S) bits. -/
def rwoRow (off mask : Nat) (reset : Nat := 0) : RegRow := { off := off, rwo := mask, reset := reset }

/-- An RWO register whose writable bits all carry (S). -/
def rwosRow (off mask : Nat) (reset : Nat := 0) : RegRow :=
  { off := off, rwo := mask, shale := mask, reset := reset }

/-- The registers at `n` offsets `step` apart. -/
def rowsFrom (off step : Nat) (f : Nat → RegRow) : Nat → List RegRow
  | 0 => []
  | n + 1 => f off :: rowsFrom (off + step) step f n

/-- GLB (R507, R77, R418). -/
def glbRows : List RegRow :=
  [roRow 0x080 0x9216, roRow 0x084 0xB0, roRow 0x088,
   { off := 0x08C, rwo := 0xFFFF, shale := 0xFFFF, reset := 1000 },
   { off := 0x090, rw := 0xFFFFFFFF }, { off := 0x094, rw := 0xFFFFFFFF },
   roRow 0x098, rwosRow 0x09C 0x3F3F3F3F, roRow 0x0A0, rwoRow 0x0A4 0x30F, roRow 0x0A8,
   rwoRow 0x0B0 0xFFFFF000, rwoRow 0x0B4 0xFF, rwoRow 0x0B8 0xFFFFFFFF] ++
  [roRow 0x0C0, roRow 0x0C4, roRow 0x0C8, roRow 0x0CC, rwoRow 0x0D0 0xFFFFFFFF,
   rwoRow 0x0D4 0xFFFFFFFF, roRow 0x0D8, roRow 0x0E0, roRow 0x0E4]

/-- PWR (R509, R437, R463). -/
def pwrRows : List RegRow :=
  [{ off := 0x080, act := 0x107 }, roRow 0x084, roRow 0x088 200,
   { off := 0x08C, rwo := 0xFF, shale := 0xFF, reset := 0x696E5F },
   rwosRow 0x090 0x7FF 1800, rwosRow 0x094 0x7FF 1800, rwosRow 0x098 0x7FF 1800,
   rwosRow 0x09C 0x7FF 1800, rwosRow 0x0A0 0xFFF 3000, roRow 0x0A4, roRow 0x0A8,
   { off := 0x0B0, act := 0xF }, { off := 0x0B4, act := 0xF }, roRow 0x0B8]

/-- TIM (R108). -/
def timRows : List RegRow :=
  [{ off := 0x080, rwo := 0xFF1F, shale := 0xFF1E, reset := 0xFF1C }, roRow 0x084,
   rwoRow 0x088 0xFFFFFFFF, rwoRow 0x08C 0xFFFFFFFF, rwosRow 0x090 0xFFFFFFFF 1000000,
   roRow 0x094, roRow 0x098, roRow 0x09C, rwoRow 0x0A0 0xFFFFFFFF, rwoRow 0x0A4 0xFFFFFFFF,
   rwosRow 0x0A8 0xFFFFFFFF 10000, roRow 0x0B0, roRow 0x0B4, roRow 0x0B8,
   rwosRow 0x0BC 0xFFFFFFFF 100, rwosRow 0x0C0 0xFFFFFFFF 100]

/-- SEC (R493). -/
def secRows : List RegRow :=
  [roRow 0x080, roRow 0x084, { off := 0x088, act := 0x80000000 }, roRow 0x08C,
   { off := 0x090, act := 0x80000000, w1c := 0x20000000 },
   { off := 0x094, act := 0x80000000, w1c := 0x100 },
   rwoRow 0x098 0xFFFFFFFF, rwoRow 0x09C 0xFFFFFFFF, rwoRow 0x0A0 0xFFFFFFFF, roRow 0x0A4,
   roRow 0x0C0, roRow 0x0C4, roRow 0x0C8, roRow 0x0CC] ++ rowsFrom 0x100 4 (fun o => roRow o) 64

/-- CFG (R464). -/
def cfgRows : List RegRow :=
  [{ off := 0x080, w1c := 0x100 }, roRow 0x084, { off := 0x088, act := 0x80000000 }, roRow 0x08C,
   rwoRow 0x090 0xFFFFFFFF, rwoRow 0x094 0xFFFFFFFF, rwoRow 0x098 0xFFFFFFFF]

/-- RAS (R362). -/
def rasRows : List RegRow :=
  [roRow 0x080, roRow 0x084, rwosRow 0x088 0x17 0x13, roRow 0x08C, roRow 0x090, roRow 0x094,
   roRow 0x098, roRow 0x0A0, roRow 0x0A4]

/-- TEL (R512). -/
def telRows : List RegRow :=
  [{ off := 0x080, rwl := 0x3, shale := 0x1 }, roRow 0x088, roRow 0x08C] ++
  rowsFrom 0x090 4 (fun o => roRow o) 5 ++ rowsFrom 0x0B0 4 (fun o => roRow o) 5 ++
  rowsFrom 0x0D0 4 (fun o => roRow o) 6 ++
  rowsFrom 0x100 4 (fun o => { off := o, rwl := 0xFFFF, shale := 0xFFFF }) 8 ++
  rowsFrom 0x140 4 (fun o => roRow o) 16

/-- DBG (R516). -/
def dbgRows : List RegRow :=
  [roRow 0x080, { off := 0x084, rwl := 0xFF01 }, roRow 0x088, { off := 0x08C, rw := 0x3FF },
   roRow 0x090, roRow 0x094, roRow 0x098, roRow 0x09C] ++
  rowsFrom 0x0A0 4 (fun o => rwoRow o 0xFFFFFFFF) 6 ++
  [rwoRow 0x0C0 0x1FF03, rwoRow 0x0C4 0xFFFFFFFF, rwoRow 0x0C8 0xFFFFFFFF, rwoRow 0x0CC 0xFFFFFFFF]

/-- HIF (R414). -/
def hifRows : List RegRow :=
  [roRow 0x080, rwoRow 0x088 0x1, rwoRow 0x08C 0xFFFFFFFF, roRow 0x090, roRow 0x094]

/-- The registers of one DMA channel at offset `o` (R416). -/
def chanRows (o : Nat) : List RegRow :=
  [{ off := o, rwo := 0x2, rw := 0xF0001, shale := 0x2, reset := 0x40000 }, roRow (o + 4),
   { off := o + 8, rw := 0xFFFFFFFF }, { off := o + 0xC, rw := 0xFFFFFFFF },
   { off := o + 0x10, rw := 0xFFFFFFFF }, { off := o + 0x14, rw := 0xFFFFFFFF },
   roRow (o + 0x18), roRow (o + 0x1C)]

/-- The channel registers of `n` channels from offset `o`. -/
def chansRows (o : Nat) : Nat → List RegRow
  | 0 => []
  | n + 1 => chanRows o ++ chansRows (o + 0x20) n

/-- DMA (R416, R519). -/
def dmaRows : List RegRow := roRow 0x080 :: chansRows 0x100 16

/-- FAB (R530, R305). -/
def fabRows : List RegRow :=
  [{ off := 0x080, rwo := 0x19, act := 0x2, shale := 0x19, reset := 0x1 }, roRow 0x084,
   rwosRow 0x088 0xFFFF 2000, roRow 0x08C, roRow 0x090, roRow 0x094, roRow 0x098, roRow 0x0A0,
   roRow 0x0A4, roRow 0x0A8, roRow 0x0AC, roRow 0x0B0, roRow 0x0B4, roRow 0x0B8, roRow 0x0BC]

/-- FRT (R531). -/
def frtRows : List RegRow :=
  [rwosRow 0x080 0x3F3F3F3F, roRow 0x084, roRow 0x088, roRow 0x08C] ++
  rowsFrom 0x090 4 (fun o => roRow o) 8

/-- COL (R531). -/
def colRows : List RegRow := [roRow 0x080, roRow 0x084, roRow 0x088]

/-- D2D (R532, R439). -/
def d2dRows : List RegRow :=
  [{ off := 0x080, rwo := 0x2, act := 0x1, shale := 0x2 }, roRow 0x084, rwosRow 0x088 0xFFF 40,
   roRow 0x08C, roRow 0x090, roRow 0x094, roRow 0x098, roRow 0x09C]

/-- HBM (R529, R270). RETRAIN is WO and stands in `act`. -/
def hbmRows : List RegRow :=
  [{ off := 0x080, rwo := 0xFF00, act := 0x1, shale := 0xFF00, reset := 0x5F00 }, roRow 0x084,
   roRow 0x088 64, roRow 0x090, roRow 0x094, roRow 0x098, rwosRow 0x0A0 0xFFFF 512,
   rwosRow 0x0A4 0xFFFF 16, rwosRow 0x0A8 0xFFFF 64, roRow 0x0AC, roRow 0x0B0, roRow 0x0B4,
   rwosRow 0x0B8 0x3]

/-- VER (R533, R241). -/
def verRows : List RegRow :=
  [roRow 0x080, { off := 0x084, rwo := 0x6, act := 0x1, shale := 0x6, reset := 0x6 },
   { off := 0x088, w1c := 0x60000000 }, rwoRow 0x090 0xFFFFFFFF, rwoRow 0x094 0xFFFFFFFF,
   roRow 0x098, roRow 0x09C, { off := 0x0A0, rw := 0xFFFF }] ++
  rowsFrom 0x0B0 4 (fun o => roRow o) 4 ++ rowsFrom 0x0C0 4 (fun o => roRow o) 8

/-- MBQ (R533, R239). -/
def mbqRows : List RegRow :=
  [roRow 0x080, roRow 0x084, roRow 0x088, roRow 0x090, roRow 0x094] ++
  rowsFrom 0x200 4 (fun o => roRow o) 192

/-- CAD (R533, R110). -/
def cadRows : List RegRow :=
  rowsFrom 0x080 4 (fun o => roRow o) 9 ++ rowsFrom 0x100 4 (fun o => roRow o 0xFFFFFFFF) 48

/-- GEO (R535, R389). -/
def geoRows : List RegRow :=
  [roRow 0x080, roRow 0x084, roRow 0x088, roRow 0x08C, rwosRow 0x090 0x7 6, roRow 0x094,
   rwosRow 0x098 0x1, roRow 0x09C, rwosRow 0x0A0 0xFFFFFFFF 0x140014, roRow 0x0A4, roRow 0x0A8,
   rwoRow 0x0B0 0xFFFFFFFF, rwoRow 0x0B4 0xFFFFFFFF] ++
  [{ off := 0x0C0, rwo := 0x103, act := 0xC0000000, shale := 0x3, reset := 0x3 }, roRow 0x0C4,
   rwoRow 0x0C8 0xFFFFFFFF, rwoRow 0x0CC 0xFFFFFFFF, rwoRow 0x0D0 0xFFFFFFFF,
   rwoRow 0x0D4 0xFFFFFFFF, { off := 0x0D8, rwo := 0x3, act := 0x80000000 },
   { off := 0x0DC, w1c := 0x40000000 }, roRow 0x0E0, roRow 0x0E4, roRow 0x0E8, roRow 0x0EC] ++
  rowsFrom 0x100 4 (fun o => roRow o) 16

/-- FLT (R535, R363). -/
def fltRows : List RegRow :=
  [rwosRow 0x080 0x1FFFF 1024, rwosRow 0x084 0x1FFFF 16, rwosRow 0x088 0xFFFF 256, roRow 0x08C,
   rwoRow 0x090 0xFFFFF001, rwoRow 0x094 0xFF,
   { off := 0x098, rwo := 0x1F01FF, act := 0xC0000000, reset := 0x1F0100 },
   { off := 0x09C, w1c := 0x60000000 }] ++
  rowsFrom 0x0A0 4 (fun o => rwoRow o 0xFFFFFFFF) 6 ++ [roRow 0x0C0, roRow 0x0C4, roRow 0x0C8]

/-- CORE (R527). -/
def coreRows : List RegRow :=
  [roRow 0x080 0xFF, { off := 0x084, act := 0x3 }, roRow 0x088, roRow 0x090]

/-- ARR (R527, R144). -/
def arrRows : List RegRow :=
  [rwosRow 0x080 0x1, { off := 0x084, w1c := 0x100 }, { off := 0x088, act := 0x1 }, roRow 0x08C,
   roRow 0x090]

/-- The block-specific registers of a page, each at its offset (R507 to R537). -/
def Blk.rows : Blk → List RegRow
  | .glb => glbRows
  | .pwr => pwrRows
  | .tim => timRows
  | .sec => secRows
  | .cfg => cfgRows
  | .ras => rasRows
  | .tel => telRows
  | .dbg => dbgRows
  | .hif _ => hifRows
  | .dma => dmaRows
  | .fab _ => fabRows
  | .frt => frtRows
  | .col => colRows
  | .d2d _ => d2dRows
  | .hbm _ => hbmRows
  | .ver => verRows
  | .mbq => mbqRows
  | .cad => cadRows
  | .geo => geoRows
  | .flt => fltRows
  | .core _ => coreRows
  | .arr _ => arrRows
  | .vec _ => [roRow 0x080, roRow 0x084, roRow 0x088]
  | .cdma _ => [roRow 0x080, roRow 0x084]
  | .cst _ => [roRow 0x080, roRow 0x084, roRow 0x088]

/-- IRQ_EN at reset (R506, R508, R510, R511, R520, R536, R537). -/
def Blk.irqReset : Blk → Nat
  | .glb => 0x3
  | .tim => 0xF
  | .ras => 0x1
  | .dma => 0xFFFF
  | .flt => 0x7
  | .ver => 0x3
  | .geo => 0x1F
  | _ => 0

/-- The header registers (R495): ERR_STAT holds bits 31:8, 6, 5 and 0 as stored; the class bits are computed. BLK_CTL
stores LOCK, and ENABLE on FLT. -/
def Blk.headerRows (b : Blk) : List RegRow :=
  [roRow 0x000, roRow 0x004, { off := 0x008, rwo := 0x8, act := 0x6, reset := 0x1 }, roRow 0x00C,
   { off := 0x010, w1c := 0xFFFFFF61 }, rwosRow 0x014 0xFFFFFF00, rwosRow 0x018 0xFFFFFF00,
   roRow 0x020, roRow 0x024, roRow 0x028, roRow 0x02C, roRow 0x030,
   { off := 0x034, rwo := b.irqReset, shale := b.irqReset, reset := b.irqReset },
   { off := 0x038, w1c := b.irqReset }]

/-- The row at an offset of a list of rows. -/
def rowAt (o : Nat) : List RegRow → Option RegRow
  | [] => none
  | r :: rs => if r.off = o then some r else rowAt o rs

/-- The register at an offset of a page; none at a reserved offset (R15, R521). -/
def Blk.row? (b : Blk) (o : Nat) : Option RegRow :=
  if o < 0x80 then rowAt o b.headerRows else rowAt o b.rows

/-- What a register word of BAR0 reads before anything is written to it: its reset value. -/
def resetWord (a : Nat) : Word :=
  match Blk.ofOff a with
  | none => 0
  | some b =>
    match b.row? (a % 0x1000) with
    | none => 0
    | some r => BitVec.ofNat 32 r.reset

/-- Bits hi:lo of a word as a number. -/
def fld (w : Word) (hi lo : Nat) : Nat := w.toNat / 2 ^ lo % 2 ^ (hi + 1 - lo)

/-- A word with bits hi:lo set to a number. -/
def setFld (w : Word) (hi lo v : Nat) : Word :=
  let m := (2 ^ (hi + 1 - lo) - 1) * 2 ^ lo
  (w &&& ~~~(BitVec.ofNat 32 m)) ||| BitVec.ofNat 32 (v % 2 ^ (hi + 1 - lo) * 2 ^ lo)

/-- Bit b of a word. -/
def wbit (w : Word) (b : Nat) : Bool := w.toNat / 2 ^ b % 2 = 1

end Sys2Proof.Machine
end

