-- ==== Sys2Proof/Machine/SecurityParts.lean ====
section
/-!
DEFINITION. The parts of the state that the standby domain and the debug logic hold: the security
processor, the Shale configuration, the I3C target, the trace buffer and the test port.
-/

namespace Sys2Proof.Machine

open Sys2Proof

/-- What follows the first bytes of an attestation response (R479, R480): nothing, the endorsement, or a signature
over bytes 8 to 383 by the normal or the debug-marked identity. `rand` is the use counter of the opt_rand it was made
with. -/
inductive ReplyTail
  | none
  | endorsement
  | signature (marked : Bool) (rand : Nat)
  deriving DecidableEq, Repr

/-- An attestation response (R478 to R480): its first bytes and what follows them. -/
structure Reply where
  head : List Byte
  tail : ReplyTail := .none
  deriving DecidableEq, Repr

/-- One carrier of attestation messages (R481 to R483): the response being made, and the response that is ready. -/
structure Mail where
  work  : Option Reply := none
  ready : Option Reply := none
  deriving DecidableEq, Repr

/-- The security processor (R466 to R494): fuses, keys, boot result, measurement registers, debug level, token state,
zeroisation and firmware update. `zToks` are the tokens whose zeroisation runs, in order of arrival, each with its
carrier (none once its response is discarded) and whether the fuses will program. -/
structure Sec where
  lifecycle : Nat := 4
  minSvn    : Nat := 0
  ownerRoot : List Byte := []
  udsBlown  : Bool := false
  ownerPk   : Option (List Byte) := none
  flash     : FlashSlots := {}
  bootA     : Nat := 0
  bootB     : Nat := 0
  slotB     : Bool := false
  fwSvn     : Nat := 0
  fwVersion : Word := 0
  booted    : Bool := false
  identity  : Bool := false
  meas      : List (List Byte) := []
  level     : Nat := 0
  marked    : Bool := false
  nonce     : Option (List Byte) := none
  fails     : Nat := 0
  result    : Nat := 0
  zBusy     : Bool := false
  zDone     : Bool := false
  zCause    : Nat := 0
  zToks     : List (Option Carrier × Token × Bool) := []
  fwBusy    : Bool := false
  fwErr     : Nat := 0
  fwDone    : Bool := false
  doe0      : Mail := {}
  doe1      : Mail := {}
  mailI3c   : Mail := {}
  deriving DecidableEq, Repr

/-- Shale (R457 to R465): slot statuses, the standby copy of the applied image and its slot, and the update. -/
structure Cfg where
  aStatus  : Nat := 0
  bStatus  : Nat := 0
  rejected : Bool := false
  applied  : Option ShaleImage := none
  slotB    : Bool := false
  busy     : Bool := false
  err      : Nat := 0
  done     : Bool := false
  deriving DecidableEq, Repr

/-- The I3C target (R442, R482, R556): dynamic address, whether in-band interrupts are enabled, the bytes that the
next private read returns, and the 8 KiB request buffer. -/
structure I3c where
  addr   : Option (BitVec 7) := none
  ibi    : Bool := true
  next   : List Byte := []
  buffer : Store Byte := []
  deriving DecidableEq, Repr

/-- The trace buffer (R517): word k of entry h stands at 4·(h mod 1,024) + k. -/
structure Dbg where
  ring : Store Word := []
  deriving DecidableEq, Repr

/-- The test port (R559): the instruction register. -/
structure Jtag where
  ir : Byte := 0xFF
  deriving DecidableEq, Repr

end Sys2Proof.Machine
end

