-- ==== Sys2Proof/Machine/SystemParts.lean ====
section
/-!
DEFINITION. The parts of the state that the system blocks hold: job control, time, the cadence
engine, RAS, power, the hosts and the outputs. Register words themselves stand in one register file
(`State.regs`); what is here is what those words are computed from, or what no register shows.
-/

namespace Sys2Proof.Machine

open Sys2Proof

/-- Job states of GLB_JOB_STATE.STATE (R68). -/
inductive JobState
  | empty
  | loading
  | loaded
  | armed
  | running
  | paused
  | halted
  | loadFailed
  | clearing
  deriving DecidableEq, Repr

/-- The code of a job state (R68). -/
def JobState.code : JobState → Nat
  | .empty => 0
  | .loading => 1
  | .loaded => 2
  | .armed => 3
  | .running => 4
  | .paused => 5
  | .halted => 6
  | .loadFailed => 7
  | .clearing => 8

/-- ARMED, RUNNING or PAUSED: a job is active (R341). -/
def JobState.active : JobState → Bool
  | .armed | .running | .paused => true
  | _ => false

/-- Whether a job is loaded in a state (R68, R233). -/
def JobState.holdsJob : JobState → Bool
  | .loaded | .armed | .running | .paused | .halted => true
  | .empty | .loading | .loadFailed | .clearing => false

/-- A command that waits for its tick (R69 to R71). ARM waits in state ARMED. -/
inductive JobCmd
  | pause
  | resume
  | halt (bcast : Bool)
  deriving DecidableEq, Repr

/-- GLB_JOB_STATE.PENDING of a waiting command (R69, R77). -/
def JobCmd.code : JobCmd → Nat
  | .pause => 3
  | .resume => 4
  | .halt _ => 5

/-- The command that waits, and the hall tick it waits for; none is the first tick to come (R70). -/
structure PendingCmd where
  cmd : JobCmd
  at? : Option Nat
  deriving DecidableEq, Repr

/-- A reason to halt at a tick (R74, R75): its code and, for a received broadcast, the port on which it arrived and
the origin coordinate it carried. `bcast` says a halt broadcast follows (R106). -/
structure HaltReq where
  code   : Nat
  remote : Option (PortId × BitVec 24)
  bcast  : Bool
  deriving DecidableEq, Repr

/-- What a TICK found due for the job at that tick; the row of that name carries it out. -/
inductive Due
  | halt
  | start
  | pause
  | resume
  deriving DecidableEq, Repr

/-- One section of the loaded image (R42): its type, image offset and length. -/
structure Section where
  type : Nat
  off  : Nat
  len  : Nat
  deriving DecidableEq, Repr

/-- Job control (R68 to R78). `result` is the LOAD_ERR code that LOAD found (0: none), published at LOAD_DONE; `prot`
the protected image range (R45) as local offset and length; `secs` the sections of the loaded image, `armTick` the
tick at which an armed job starts. -/
structure Job where
  st        : JobState := .empty
  loadErr   : Nat := 0
  result    : Nat := 0
  zeroHbm   : Bool := false
  pend      : Option PendingCmd := none
  armTick   : Option Nat := none
  halts     : List HaltReq := []
  due       : Option Due := none
  pauseTick : Nat := 0
  prot      : Option (Nat × Nat) := none
  secs      : List Section := []
  deriving DecidableEq, Repr

/-- Lock states of TIM_LOCK.STATE (R84). -/
inductive LockState
  | free
  | acquiring
  | locked
  | holdover
  deriving DecidableEq, Repr

/-- The code of a lock state (R108). -/
def LockState.code : LockState → Nat
  | .free => 0
  | .acquiring => 1
  | .locked => 2
  | .holdover => 3

/-- The PTP instance (R81): what the messages received so far have given. `sync` is the last Sync that waits for its
Follow_Up (sequence number, reception time); `offset` the last offset of the local counter from the transmitter. -/
structure Ptp where
  announce : Bool := false
  syncOk   : Bool := false
  sync     : Option (BitVec 16 × BitVec 64) := none
  msDiff   : Option Int := none
  reqSeq   : BitVec 16 := 0
  reqAt    : Option (BitVec 64) := none
  delay    : Int := 0
  offset   : Option Int := none
  deriving DecidableEq, Repr

/-- The time and tick unit (R79 to R93). `now` and `frac` are the time counter; `tick` the hall tick number; `tickAt`
when that tick was (none before the first tick since TICK_EN was set); `held` the TIM_NOW_LO values held per requester
(R566); `portRef` the offset of each port that counts as a reference, in units of 2^-16 ns; `pps` the offset of the last
accepted edge of 1PPS_IN, its time and its age in iterations; `corr` the integral term of R83 in units of 1/64 ns per ms
and `rate` the last rate_adj in the same unit; the three run lengths are those of R84. -/
structure Tim where
  now      : BitVec 64 := 0
  frac     : BitVec 16 := 0
  elapsed  : Nat := 0
  tick     : BitVec 64 := 0
  tickAt   : Option (BitVec 64) := none
  held     : List (Requester × Word) := []
  lock     : LockState := .free
  refPorts : Byte := 0
  offset   : Int := 0
  corr     : Int := 0
  rate     : Int := 0
  good     : Nat := 0
  noRef    : Nat := 0
  bad      : Nat := 0
  heldMs   : Nat := 0
  portRef  : List (PortId × Int) := []
  pps      : Option Int := none
  ppsAt    : Option (BitVec 64) := none
  ppsAge   : Nat := 0
  ptp      : Ptp := {}
  refclk   : Bool := true
  fabclk   : Bool := true
  window   : Bool := false
  deadline : Bool := false
  deriving DecidableEq, Repr

/-- Kinds of a cadence entry (R94). -/
inductive SlotKind
  | compute
  | stepBoundary
  | snapshot
  | eval
  | check
  | idle
  deriving DecidableEq, Repr

/-- The code of a slot kind (R94). -/
def SlotKind.code : SlotKind → Nat
  | .compute => 0
  | .stepBoundary => 1
  | .snapshot => 2
  | .eval => 3
  | .check => 4
  | .idle => 5

/-- The slot kind of a code; 6 to 255 are reserved (R94). -/
def SlotKind.ofCode : Nat → Option SlotKind
  | 0 => some .compute
  | 1 => some .stepBoundary
  | 2 => some .snapshot
  | 3 => some .eval
  | 4 => some .check
  | 5 => some .idle
  | _ => none

/-- Descriptor work is permitted in these kinds only (R32). -/
def SlotKind.descWork : SlotKind → Bool
  | .compute | .stepBoundary | .eval | .check => true
  | _ => false

/-- What has become of a queued repair piece (R100, R101); a piece refused after a start counts as done. -/
inductive PieceState
  | queued
  | running (core : CoreId)
  | done
  | faulted
  deriving DecidableEq, Repr

/-- A repair piece queued for re-dispatch (R98, R100, R101): the failed logical core, its entry's fields and the image
offset of the entry in bytes. -/
structure PieceRun where
  logical  : Nat
  list     : Nat
  piece    : Nat
  wave     : Nat
  helper   : Nat
  noReplay : Bool
  entry    : Nat
  st       : PieceState
  deriving DecidableEq, Repr

/-- The cadence engine (R94 to R104): the current slot and its repair queue. `live` maps a logical core to the
physical core that carries it (255: orphan); `overrun` marks logical cores overrunning under R90 with the image offset
that R105 records; `late` writes incomplete at the deadline or lost to a fence in the window (R91, R347), by logical
core (0xFF: MBQ); `lost` the numbers of requests whose descriptor is gone (fenced or faulted), each with its logical
core and image offset; `unplaced` the logical cores whose work has no repair pieces (R102), with their lists. -/
structure Cad where
  dispatched : Bool := false
  kind       : SlotKind := .compute
  entry      : Nat := 0
  listTable  : Nat := 0
  repairTable : Nat := 0xFFFFFFFF
  live       : Store Nat := []
  pieces     : List PieceRun := []
  overrun    : List (Nat × Nat) := []
  late       : List (Nat × Nat) := []
  lost       : List (Nat × Nat × Nat) := []
  unplaced   : List (Nat × Nat) := []
  fatal      : Bool := false
  deriving DecidableEq, Repr

/-- One compute die and its links to X as the power manager sees them (R20, R427 to R432). `up` is Cn_UP; `cause` the
isolation code; `refresh` its stacks have been in self-refresh since the die left service; `missed` counts telemetry
misses; `heard` a frame arrived for the current step; `want` is a higher frequency that waits for the regulator;
`ringAt` and `outAt` what the last tick found of link D2D(4 + n) and of the die's isolation (R22, R23). -/
structure Die where
  up       : Bool := false
  isolated : Bool := false
  cause    : Nat := 0
  dieId    : Nat := 0xF
  gated    : Bool := false
  refresh  : Bool := false
  busy     : Bool := false
  failed   : Bool := false
  heard    : Bool := false
  missed   : Nat := 0
  want     : Option Nat := none
  hot      : Bool := false
  frame    : Option DieTelemetry := none
  ringAt   : Bool := false
  outAt    : Bool := false
  deriving DecidableEq, Repr

/-- Power states of PWR_STATE.STATE (R463). -/
inductive PowerState
  | starting
  | run
  | idle
  | retain
  | off
  deriving DecidableEq, Repr

/-- The code of a power state (R463). -/
def PowerState.code : PowerState → Nat
  | .starting => 0
  | .run => 1
  | .idle => 2
  | .retain => 3
  | .off => 4

/-- The power manager and the start-up sequence (R430 to R463). `phase` is PWR_STATE.PHASE; `warm` a warm reset runs;
`hiPow` the package is above its power limit (R433, R437); `powered` the main domain is powered (R441). -/
structure Pwr where
  st       : PowerState := .starting
  target   : PowerState := .starting
  phase    : Nat := 0
  lastOff  : Nat := 0
  ready    : Bool := false
  warm     : Bool := false
  tripped  : Bool := false
  force    : Bool := false
  hiPow    : Bool := false
  powered  : Bool := false
  deriving DecidableEq, Repr

/-- A BAR2 read of another device that waits for fabric responses (R397): its number, window offset, global address
and length, the requests outstanding and the bytes received by offset. -/
structure Bar2Read where
  key  : Nat
  w    : Nat
  g    : Nat
  len  : Nat
  tags : List Nat
  got  : Store (Byte × Bool) := []
  deriving DecidableEq, Repr

/-- A BAR2 write of another device that was passed on (R397, R398): its number and global address. -/
structure Bar2Post where
  key : Nat
  g   : Nat
  deriving DecidableEq, Repr

/-- The configuration space of a port's function as software can change it (R391, R394, R399, R411): the Command
register, the base registers of BAR0, BAR2 and BAR4, the codes of Max Payload Size and Max Read Request Size, MSI-X
Enable and Function Mask, and the Uncorrectable and Correctable Error Status registers of AER. (PRESUMED: log entry
32) -/
structure PciConfig where
  command : Nat := 0
  bar0    : Nat := 0
  bar2    : Nat := 0
  bar4    : Nat := 0
  mps     : Nat := 0
  mrrs    : Nat := 2
  msixOn  : Bool := false
  msixOff : Bool := false
  uncorr  : Word := 0
  corr    : Word := 0
  deriving DecidableEq, Repr

/-- A PCIe port (R391 to R415): the DSTATE and link fields of HIF_LINK_STAT, whether the function is in reset,
configuration-ready, whether its host has sent a heartbeat since it last ceased to be alive and the milliseconds
since, its MSI-X table and pending bits (by vector), its configuration space, and the BAR2 accesses under way.
(DESIGN CHOICE: log entry 56) -/
structure HostPort where
  d3hot   : Bool := false
  up      : Bool := false
  flit    : Bool := false
  width   : Nat := 0
  speed   : Nat := 0
  inReset : Bool := false
  ready   : Bool := false
  beat    : Bool := false
  ageMs   : Nat := 0
  msix    : Store Word := []
  pba     : Store Bool := []
  cfg     : PciConfig := {}
  reads   : List Bar2Read := []
  posts   : List Bar2Post := []
  deriving DecidableEq, Repr

/-- A transfer of a DMA channel that waits for fabric responses (R406, R407): the descriptor's fields, the
device bytes received by offset (device to host), the bytes moved, the requests outstanding, and whether the
device side failed. -/
structure DmaJob where
  tag    : Word
  host   : Nat
  dev    : Nat
  len    : Nat
  toHost : Bool
  irq    : Bool
  ro     : Bool
  got    : Store (Byte × Bool) := []
  moved  : Nat := 0
  tags   : List Nat := []
  hostErr : Bool := false
  err    : Bool := false
  poison : Bool := false
  deriving DecidableEq, Repr

/-- DMA channel states of DMA_CH_STAT.STATE (R416). -/
inductive ChanState
  | idle
  | running
  | stopping
  | error
  deriving DecidableEq, Repr

/-- The code of a channel state (R416). -/
def ChanState.code : ChanState → Nat
  | .idle => 0
  | .running => 1
  | .stopping => 2
  | .error => 3

/-- A host DMA channel (R404 to R410). -/
structure Channel where
  st    : ChanState := .idle
  head  : Nat := 0
  tail  : Nat := 0
  phase : Bool := true
  job   : Option DmaJob := none
  deriving DecidableEq, Repr

/-- Control ownership (R401, R402): none is NONE. -/
structure Owner where
  host : Option HostId := none
  deriving DecidableEq, Repr

/-- What the block has handed to the outside: the model's own record of its outputs, newest first. -/
inductive Output
  | fu (p : PortId) (f : Fu)
  | d2d (l : LinkId) (u : D2dUnit)
  | vector (h : HostId) (v : Nat)
  | regData (r : Requester) (off : Nat) (v : Word) (ep : Bool)
  | bar2Data (h : HostId) (w : Nat) (bytes : List Byte) (ep : Bool)
  | completerAbort (r : Requester)
  | unsupported (h : HostId)
  | retry (h : HostId)
  | configData (h : HostId) (off : Nat) (v : Word)
  | errCor (h : HostId)
  | hostWrite (h : HostId) (addr : Nat) (bytes : List Byte) (ep ro : Bool)
  | hostRead (h : HostId) (addr : Nat) (len : Nat)
  | inBandInterrupt (data : Byte)
  | doeData (h : HostId) (bytes : List Byte)
  | tickPulse
  | ppsPulse
  | delayReq (seq : BitVec 16)
  | jtagData (v : Word)
  deriving DecidableEq, Repr

end Sys2Proof.Machine
end

