-- ==== Sys2Proof/Machine/State.lean ====
section
/-!
DEFINITION. The state of the device and its state at reset. Tables (`Store`) hold what has a number: an
unlisted number reads as the default that each use names.
-/

namespace Sys2Proof.Machine

open Sys2Proof

/-- The device. `regs` holds the register words by BAR0 offset (unlisted: the reset value); `cls` the class of each
set error cause by page offset + bit, plus 8 where the cause was masked when it was raised (R341, R343, R503);
`caps`
the captured _HI values by requester and offset (R11). `hbm` is byte memory by physical address, stack·2^36 + stack
address (unlisted: 0, R456), `bad` the poison bits by 64-byte block of it (R253), and `kept` the blocks written
since
their stack's contents were lost. The stores of dies, cores, stacks with their arbiters, ports, links, hosts and
channels are by their number. `out` is what the device has sent out, newest first, `fresh` the use counter of the
free
values, and `pending` the queue of commands that wait: these three are the model's own. (DESIGN CHOICE: log
entries 4, 5) -/
structure State where
  regs     : Store Word := []
  cls      : Store Nat := []
  caps     : List (Requester × Nat × Word) := []
  job      : Job := {}
  tim      : Tim := {}
  cad      : Cad := {}
  cores    : Store Core := []
  hbm      : List Host.Cell := []
  bad      : Store Bool := []
  kept     : Store Bool := []
  stackTab : Store Stack := []
  arbs     : Store Arb := []
  dies     : Store Die := []
  pwr      : Pwr := {}
  flt      : Flt := {}
  mbq      : Mbq := {}
  ver      : Ver := {}
  geo      : Geo := {}
  ports    : Store Port := []
  frt      : Frt := {}
  trackers : List Tracker := []
  nextTag  : Nat := 0
  col      : Col := {}
  links    : Store Link := []
  hosts    : Store HostPort := []
  owner    : Owner := {}
  chans    : Store Channel := []
  sec      : Sec := {}
  cfg      : Cfg := {}
  i3c      : I3c := {}
  dbg      : Dbg := {}
  jtag     : Jtag := {}
  out      : List Output := []
  fresh    : Nat := 0
  pending  : List Instr := []
  deriving DecidableEq, Repr

/-- No command of this device ends in a fault: every error of the spec is an effect on the state (R341, R399). The
type is empty, so nothing raises one. -/
inductive Fault
  deriving DecidableEq, Repr

/-- Why a command is refused. -/
inductive Refusal
  /-- A command that has no meaning in the model yet; safe: nothing happens. -/
  | notModelled (mnemonic : String)
  deriving DecidableEq, Repr

/-- The fuses and the flash that a part comes with (R470). (DEDUCED: log entry 7) -/
def fusedSec : Sec :=
  { lifecycle := if Config.fusedLifecycle = 0 ∨ Config.fusedLifecycle > 4 then 4
      else Config.fusedLifecycle
    minSvn := Config.fusedMinSvn.toNat
    ownerRoot := (List.range 32).map Config.fusedOwnerRoot
    meas := List.replicate 8 (List.replicate 32 0) }

/-- The device right after cold reset, before START_UP runs (R450, R454): PHASE 0, STATE 0. (DESIGN CHOICE: log
entries 2, 5) -/
def State.reset : State := { sec := fusedSec }

end Sys2Proof.Machine
end

