-- ==== Sys2Proof/Machine/Ops.lean ====
section
/-!
DEFINITION. The named operations over the state that every block uses: register words, the tables of
cores, dies, ports and the like, outputs, interrupts (R411, R506), the trace buffer (R517), the event
counters (R513), and raising an error cause (R341 to R345, R502 to R505).
-/

namespace Sys2Proof.Machine

open Sys2Proof

/-! ### Register words -/

/-- The word at a BAR0 offset. -/
def State.word (s : State) (a : Nat) : Word := Store.get resetWord s.regs a

/-- The state with a word at a BAR0 offset. -/
def State.setWord (s : State) (a : Nat) (w : Word) : State :=
  { s with regs := Store.set resetWord s.regs a w }

/-- The word of a register of a page. -/
def State.reg (s : State) (b : Blk) (o : Nat) : Word := s.word (b.base + o)

/-- The state with a register of a page set. -/
def State.setReg (s : State) (b : Blk) (o : Nat) (w : Word) : State := s.setWord (b.base + o) w

/-- Field hi:lo of a register. -/
def State.field (s : State) (b : Blk) (o hi lo : Nat) : Nat := fld (s.reg b o) hi lo

/-- The state with field hi:lo of a register set. -/
def State.setField (s : State) (b : Blk) (o hi lo v : Nat) : State :=
  s.setReg b o (setFld (s.reg b o) hi lo v)

/-- A bit of a register. -/
def State.flag (s : State) (b : Blk) (o bt : Nat) : Bool := wbit (s.reg b o) bt

/-- The state with a bit of a register set to a flag. -/
def State.setFlag (s : State) (b : Blk) (o bt : Nat) (v : Bool) : State := s.setField b o bt bt (bit v)

/-- A register pair _LO / _HI as a number. -/
def State.reg64 (s : State) (b : Blk) (o : Nat) : Nat := (s.reg b o).toNat + 2 ^ 32 * (s.reg b (o + 4)).toNat

/-- The state with a register pair set. -/
def State.setReg64 (s : State) (b : Blk) (o v : Nat) : State :=
  (s.setReg b o (BitVec.ofNat 32 v)).setReg b (o + 4) (BitVec.ofNat 32 (v / 2 ^ 32))

/-- A 32-bit counter that saturates, increased. -/
def State.countSat (s : State) (b : Blk) (o n : Nat) : State :=
  s.setReg b o (BitVec.ofNat 32 (min 0xFFFFFFFF ((s.reg b o).toNat + n)))

/-- A 32-bit counter that wraps, increased. -/
def State.countWrap (s : State) (b : Blk) (o n : Nat) : State :=
  s.setReg b o (s.reg b o + BitVec.ofNat 32 n)

/-! ### Tables -/

/-- A core. -/
def State.core (s : State) (c : CoreId) : Core := Store.get (fun _ => {}) s.cores c.val

/-- The state with a core replaced. -/
def State.setCore (s : State) (c : CoreId) (x : Core) : State :=
  { s with cores := Store.set (fun _ => {}) s.cores c.val x }

/-- The state with a core changed. -/
def State.modCore (s : State) (c : CoreId) (f : Core → Core) : State := s.setCore c (f (s.core c))

/-- A compute die. -/
def State.die (s : State) (d : DieId) : Die := Store.get (fun _ => {}) s.dies d.val

/-- The state with a die changed. -/
def State.modDie (s : State) (d : DieId) (f : Die → Die) : State :=
  { s with dies := Store.set (fun _ => {}) s.dies d.val (f (s.die d)) }

/-- A stack. -/
def State.stack (s : State) (t : StackId) : Stack := Store.get (fun _ => {}) s.stackTab t.val

/-- The state with a stack changed. -/
def State.modStack (s : State) (t : StackId) (f : Stack → Stack) : State :=
  { s with stackTab := Store.set (fun _ => {}) s.stackTab t.val (f (s.stack t)) }

/-- The arbiter of a stack's controller (R260). -/
def State.arb (s : State) (t : StackId) : Arb := Store.get (fun _ => {}) s.arbs t.val

/-- The state with a stack's arbiter set. -/
def State.setArb (s : State) (t : StackId) (a : Arb) : State :=
  { s with arbs := Store.set (fun _ => {}) s.arbs t.val a }

/-- A fabric port. -/
def State.port (s : State) (p : PortId) : Port := Store.get (fun _ => {}) s.ports p.val

/-- The state with a port changed. -/
def State.modPort (s : State) (p : PortId) (f : Port → Port) : State :=
  { s with ports := Store.set (fun _ => {}) s.ports p.val (f (s.port p)) }

/-- A bridge link. -/
def State.link (s : State) (l : LinkId) : Link := Store.get (fun _ => {}) s.links l.val

/-- The state with a link changed. -/
def State.modLink (s : State) (l : LinkId) (f : Link → Link) : State :=
  { s with links := Store.set (fun _ => {}) s.links l.val (f (s.link l)) }

/-- A PCIe port. -/
def State.hostPort (s : State) (h : HostId) : HostPort := Store.get (fun _ => {}) s.hosts h.num

/-- The state with a PCIe port changed. -/
def State.modHost (s : State) (h : HostId) (f : HostPort → HostPort) : State :=
  { s with hosts := Store.set (fun _ => {}) s.hosts h.num (f (s.hostPort h)) }

/-- A DMA channel. -/
def State.chan (s : State) (c : ChanId) : Channel := Store.get (fun _ => {}) s.chans c.val

/-- The state with a channel changed. -/
def State.modChan (s : State) (c : ChanId) (f : Channel → Channel) : State :=
  { s with chans := Store.set (fun _ => {}) s.chans c.val (f (s.chan c)) }

/-- The compute die of a core (R24). -/
def coreDie (c : CoreId) : DieId := ⟨c.val / 48, by have := c.isLt; omega⟩

/-- The compute die of a stack (R9). -/
def stackDie (t : StackId) : DieId := ⟨t.val / 4, by have := t.isLt; omega⟩

/-- Every member of a finite range, in order. -/
def allFin (n : Nat) : List (Fin n) := List.finRange n

/-- The core whose page or number this is, if it is one. -/
def coreOfNat (n : Nat) : Option CoreId := if h : n < 192 then some ⟨n, h⟩ else none

/-- Whether a core is a husk (R346). -/
def State.husk (s : State) (c : CoreId) : Bool := (s.core c).cause != 0

/-- Fold of an operation over a list of things. -/
def State.each {α : Type} (s : State) (l : List α) (f : State → α → State) : State := l.foldl f s

/-! ### Outputs, interrupts, trace and event counters -/

/-- The state with one more output. (DESIGN CHOICE: log entry 56) -/
def State.emit (s : State) (o : Output) : State := { s with out := o :: s.out }

/-- The hall tick number (R87). -/
def State.tick (s : State) : Nat := s.tim.tick.toNat

/-- Whether an MSI-X vector of a port is masked: bit 0 of its vector control word. Its reset is 1, as PCIe gives
it. (PRESUMED: log entry 32) -/
def HostPort.masked (p : HostPort) (v : Nat) : Bool :=
  wbit (Store.get (fun k => if k % 4 = 3 then 1 else 0) p.msix (4 * v + 3)) 0

/-- Whether a port can signal a vector (R411): MSI-X Enable is set, neither the Function Mask nor the vector's own mask
is, and the function is in D0 with its link up. (PRESUMED: log entry 32) -/
def HostPort.signals (p : HostPort) (v : Nat) : Bool :=
  p.up && p.cfg.msixOn && !p.cfg.msixOff && !p.masked v && !p.d3hot

/-- A vector fired at a port: sent, or kept pending while it cannot be; a function in reset holds no pending bit
(R411, R412). (PRESUMED: log entry 32) -/
def State.fire (s : State) (h : HostId) (v : Nat) : State :=
  let p := s.hostPort h
  if p.inReset then s
  else if p.signals v then s.emit (.vector h v)
  else s.modHost h (fun p => { p with pba := Store.set (fun _ => false) p.pba v true })

/-- An Advisory Non-Fatal Error of a port (R399): recorded in AER with its uncorrectable status bit, and ERR_COR
sent. (PRESUMED: log entry 32) -/
def State.advisory (s : State) (h : HostId) (bt : Nat) : State :=
  (s.modHost h (fun p => { p with cfg := { p.cfg with
    corr := p.cfg.corr ||| 0x2000, uncorr := p.cfg.uncorr ||| BitVec.ofNat 32 (2 ^ bt) } })).emit (.errCor h)

/-- A host's request completed with Completer Abort (R399). -/
def State.completerAborts (s : State) (h : HostId) : State :=
  ((s.countSat (.hif h) 0x90 1).advisory h 15).emit (.completerAbort (.mmio h))

/-- The vector of an IRQ_STAT bit of a page that fires on both ports (R411). -/
def Blk.vector (b : Blk) (bt : Nat) : Option Nat :=
  match b with
  | .ras => some 0
  | .glb => some (1 + bt)
  | .tim => some 3
  | .geo => some 4
  | .ver => some 5
  | .flt => some 6
  | _ => none

/-- The port a DMA channel is bound to: DMA_CH_CTL.PORT (R404). -/
def State.chanHost (s : State) (c : ChanId) : HostId :=
  if s.flag .dma (0x100 + 0x20 * c.val) 1 then .h1 else .h0

/-- The effect of an IRQ_STAT bit that changed to 1 while it is enabled. -/
def State.fireBit (s : State) (b : Blk) (bt : Nat) : State :=
  match b, b.vector bt with
  | .dma, _ => if h : bt < 16 then s.fire (s.chanHost ⟨bt, h⟩) (16 + bt) else s
  | _, some v => (s.fire .h0 v).fire .h1 v
  | _, none => s

/-- An IRQ_STAT bit set by its event (R506). -/
def State.irq (s : State) (b : Blk) (bt : Nat) : State :=
  let was := s.flag b 0x38 bt
  let s' := s.setFlag b 0x38 bt true
  if !was && s.flag b 0x34 bt then s'.fireBit b bt else s'

/-- An event entered into the trace buffer (R517). -/
def State.trace (s : State) (ev unit detail : Nat) : State :=
  if s.flag .dbg 0x84 0 && s.flag .dbg 0x84 (7 + ev) then
    let h := (s.reg .dbg 0x88).toNat
    let w := [BitVec.ofNat 32 s.tick, BitVec.ofNat 32 (s.tick / 2 ^ 32),
      BitVec.ofNat 32 (ev + 256 * unit), BitVec.ofNat 32 detail]
    { s with dbg := { s.dbg with
        ring := Store.setMany (fun _ => 0) s.dbg.ring (4 * (h % 1024)) w } }.countWrap .dbg 0x88 1
  else s

/-- One event counter increased where it selects the event and unit (R512, R513). -/
def State.telOne (ev unit n : Nat) (s : State) (k : Nat) : State :=
  let sel := s.reg .tel (0x100 + 4 * k)
  if fld sel 7 0 = ev ∧ (fld sel 15 8 = 0xFF ∨ fld sel 15 8 = unit) then
    s.setReg64 .tel (0x140 + 8 * k) (s.reg64 .tel (0x140 + 8 * k) + n)
  else s

/-- An event counted by TEL (R512, R513). -/
def State.tel (s : State) (ev unit n : Nat) : State :=
  if s.flag .tel 0x80 0 then s.each (List.range 8) (State.telOne ev unit n) else s

/-- The blocks granted that an event counter has still to take in (R513, EVENT 4): those of its unit, a stack or all. -/
def State.telGrants (s : State) (k : Nat) : Nat :=
  let sel := s.reg .tel (0x100 + 4 * k)
  if fld sel 7 0 ≠ 4 then 0
  else ((s.arbs.filter (fun e => fld sel 15 8 == 0xFF || fld sel 15 8 == e.1)).map (fun e => e.2.blocks)).sum

/-- An event counter of TEL (R512, R513). (DESIGN CHOICE: log entry 38) -/
def State.telCount (s : State) (k : Nat) : Nat := s.reg64 .tel (0x140 + 8 * k) + s.telGrants k

/-- The event counters take in the blocks granted, before their control or selection changes. -/
def State.foldGrants (s : State) : State :=
  let s' := s.each (List.range 8) (fun t k => t.setReg64 .tel (0x140 + 8 * k) (s.telCount k))
  { s' with arbs := Store.mapVals (fun _ => {}) (fun _ a => { a with blocks := 0 }) s'.arbs }

/-- An in-band interrupt with its data byte (R442, R556). -/
def State.ibi (s : State) (data : Byte) : State :=
  if s.i3c.ibi && s.i3c.addr.isSome then s.emit (.inBandInterrupt data) else s

/-! ### Error causes -/

/-- A cause as it is raised: its page and ERR_STAT bit, class 1 to 4, halt cause, and what its record holds (R342,
R504). -/
structure Cause where
  page : Blk
  bit  : Nat
  cls  : Nat
  halt : Nat := 0
  addr : Nat := 0
  kind : Nat := 5
  req  : Nat := 0
  deriving DecidableEq, Repr

/-- The set of classes under which the set causes of a page were raised: bit c for class c, bit 8 + c for a class
reported to RAS. -/
def classSet (l : Store Nat) (base : Nat) : Nat :=
  (l.filter (fun e => decide (base ≤ e.1 ∧ e.1 < base + 32))).foldl (fun m e => m ||| e.2) 0

/-- ERR_STAT as it reads: the stored bits with the class bits 4:1 (R502). -/
def State.errStat (s : State) (b : Blk) : Word :=
  s.reg b 0x10 ||| (BitVec.ofNat 32 (classSet s.cls b.base) &&& 0x1E)

/-- RAS_SUMMARY.HIGHEST (R362, R503). -/
def State.highest (s : State) : Nat :=
  let m := s.cls.foldl (fun m e => if e.1 % 0x1000 < 32 then m ||| e.2 / 256 else m) 0
  if m / 16 % 2 = 1 then 4 else if m / 8 % 2 = 1 then 3 else if m / 4 % 2 = 1 then 2
  else if m / 2 % 2 = 1 then 1 else 0

/-- Whether ALERT_N is asserted (R362, R549). -/
def State.alert (s : State) : Bool :=
  let a := s.field .ras 0x88 2 0
  a != 0 && decide (a ≤ s.highest)

/-- What follows a change from `s` to `s'` that may have moved RAS_SUMMARY.HIGHEST: the RAS interrupt on a rise to
ALERT_CLASS (R511) and the in-band interrupt on a change of ALERT_N (R442). -/
def State.settleAlert (s s' : State) : State :=
  let a := s'.field .ras 0x88 2 0
  let s1 := if s.highest < s'.highest && a != 0 && decide (a ≤ s'.highest) then s'.irq .ras 0 else s'
  if s.alert = s'.alert then s1 else s1.ibi 0x02

/-- The class a cause takes: raised by its ERR_SEV bit (R343), job-fatal counting as non-fatal while no job is active
(R341). -/
def State.effClass (s : State) (c : Cause) : Nat :=
  let k := if c.bit ≥ 8 && s.flag c.page 0x18 c.bit then min 4 (c.cls + 1) else c.cls
  if k = 3 && !s.job.st.active then 2 else k

/-- Whether ERR_MASK keeps a cause from RAS (R343, R503). -/
def State.isMasked (s : State) (c : Cause) : Bool :=
  decide (s.effClass c ≤ 2) && decide (8 ≤ c.bit) && s.flag c.page 0x14 c.bit

/-- The record and count of a cause (R342, R504). -/
def State.record (s : State) (c : Cause) : State :=
  let k := s.effClass c
  let first := s.reg c.page 0x10 &&& 0xFFFFFF01 = 0
  let old := Store.get (fun _ => 0) s.cls (c.page.base + 32)
  let s := s.countSat c.page 0x30 1
  if first ∨ old < k then
    let s := { s with cls := Store.set (fun _ => 0) s.cls (c.page.base + 32) k }
    let s := s.setReg64 c.page 0x20 c.addr
    let s := s.setReg c.page 0x28 (BitVec.ofNat 32 (c.req % 256 * 256 + c.kind % 16))
    s.setReg c.page 0x2C (BitVec.ofNat 32 s.tick)
  else s.setFlag c.page 0x10 6 true

/-- The ERR_STAT bit of a cause and the class it was raised with. -/
def State.setCause (s : State) (c : Cause) : State :=
  let k := s.effClass c
  let key := c.page.base + c.bit
  let m := 2 ^ k + (if s.isMasked c then 0 else 2 ^ (8 + k))
  let s' := s.setFlag c.page 0x10 c.bit true
  { s' with cls := Store.set (fun _ => 0) s'.cls key (Store.get (fun _ => 0) s'.cls key ||| m) }

/-- RAS_FIRST_PAGE, its tick and RESET_REQ on a fatal cause (R345, R362). -/
def State.rasReport (s : State) (c : Cause) (k : Nat) : State :=
  let old := s.reg .ras 0x84
  let s := if k ≥ 3 && (!wbit old 31 || (k == 4 && fld old 26 24 == 3)) then
      (s.setReg .ras 0x84
        (BitVec.ofNat 32 (2 ^ 31 + k * 2 ^ 24 + c.page.base / 4096 % 4096 * 4096 + c.bit))).setReg64
          .ras 0xA0 s.tick
    else s
  if k = 4 then s.setFlag .ras 0x80 31 true else s

/-- A halt that takes effect at the next tick (R74, R344). -/
def State.requestHalt (s : State) (h : HaltReq) : State :=
  { s with job := { s.job with halts := s.job.halts ++ [h] } }

/-- The halt that a fatal cause asks for: of an active job, and for a device-fatal cause also of a loaded one
(R341). (DEDUCED: log entry 39) -/
def State.haltFor (s : State) (c : Cause) (k code : Nat) : State :=
  let _ := c
  if k ≥ 3 && (s.job.st.active || (k == 4 && s.job.st == .loaded)) then
    { s.requestHalt { code := code, remote := none, bcast := true } with
      cad := { s.cad with fatal := true } }
  else s

/-- The class of a cause that is job-fatal while a job is active and non-fatal otherwise (R85, R302, R326, R343,
R350). -/
def State.jobClass (s : State) : Nat := if s.job.st.active then 3 else 2

/-- A cause raised (R341 to R345). (DEDUCED: log entry 39) -/
def State.raise (s : State) (c : Cause) : State :=
  let k := s.effClass c
  let code := if c.bit ≥ 8 && s.flag c.page 0x18 c.bit && c.cls ≠ k then 0x0B else c.halt
  let s1 := (s.record c).setCause c
  let s2 := if s.isMasked c then s1 else s1.rasReport c k
  s.settleAlert (s2.haltFor c k code)

/-- POISON_SEEN of a page (R349). (DEDUCED: log entry 60) -/
def State.poisonSeen (s : State) (b : Blk) : State := s.setFlag b 0x10 5 true

/-- ERR_SRC.KIND of a requester's access; JTAG has no code of its own and counts as internal. -/
def requesterKind : Requester → Nat
  | .mmio .h0 => 0
  | .mmio .h1 => 1
  | _ => 5

/-- An access violation recorded in a page (R342, R399); an I3C access sets no ERR_STAT bit (R442). -/
def State.violation (s : State) (b : Blk) (addr : Nat) (r : Requester) : State :=
  if r = .i3c then s
  else s.raise { page := b, bit := 0, cls := 2, addr := addr, kind := requesterKind r }

/-- Whether a requester's writes count as the owner's (R12, R442, R484). (DEDUCED: log entry 22) -/
def State.isOwner (s : State) (r : Requester) : Bool :=
  match r with
  | .mmio h => s.owner.host = some h
  | .jtag => s.sec.level = 2
  | .i3c => true

/-- One free byte, and the use counter advanced. (DESIGN CHOICE: log entry 3) -/
def State.takeFree (s : State) : Byte × State := (Config.freeByte s.fresh, { s with fresh := s.fresh + 1 })

/-- `n` free bytes, and the use counter advanced. (DESIGN CHOICE: log entry 3) -/
def State.takeFreeBytes (s : State) (n : Nat) : List Byte × State :=
  ((List.range n).map (fun i => Config.freeByte (s.fresh + i)), { s with fresh := s.fresh + n })

/-- The job enters a state: its interrupt and trace entry (R68, R508, R517). -/
def State.setJobState (s : State) (j : JobState) : State :=
  if s.job.st = j then s
  else ({ s with job := { s.job with st := j } }.irq .glb 0).trace 8 0 j.code

end Sys2Proof.Machine
end

