-- ==== Sys2Proof/Machine/Memory.lean ====
section
/-!
DEFINITION. Local memory (R243 to R271): the interleave, reads and writes of bytes with the poison of
their 64-byte blocks, blocks whose contents were lost, and the stack arbiter.
-/

namespace Sys2Proof.Machine

open Sys2Proof

/-! ### Local offsets -/

/-- HBM_INTERLEAVE.MODE (R245, R246). -/
def State.interleave (s : State) : Nat := s.field (.hbm 0) 0xB8 1 0

/-- The physical address of a local offset: stack·2^36 + stack address (R245). -/
def physical (mode off : Nat) : Nat :=
  let off := off % 2 ^ 40
  if mode = 0 then
    (4 * (off / 2 ^ 38) + off / 2 ^ 12 % 4) * 2 ^ 36 + (off / 2 ^ 14 % 2 ^ 24 * 2 ^ 12 + off % 2 ^ 12)
  else if mode = 1 then (off / 2 ^ 12 % 16) * 2 ^ 36 + (off / 2 ^ 16 * 2 ^ 12 + off % 2 ^ 12)
  else off

/-- The physical address of a local offset under the mode in force. -/
def State.phys (s : State) (off : Nat) : Nat := physical s.interleave off

/-- The stack of a physical address. -/
def physStack (a : Nat) : StackId := ⟨a / 2 ^ 36 % 16, Nat.mod_lt _ (by decide)⟩

/-- The stack that holds a local offset (R245). -/
def State.stackOf (s : State) (off : Nat) : StackId := physStack (s.phys off)

/-- Whether the stack of a local offset serves requests: its die is up and the stack is trained (R259, R455). -/
def State.served (s : State) (off : Nat) : Bool :=
  let t := s.stackOf off
  (s.die (stackDie t)).up && (s.stack t).trained

/-- The die at a place of the ring. -/
def dieAt (n : Nat) : DieId := ⟨n % 4, Nat.mod_lt _ (by decide)⟩

/-- Ring link Cn – C(n+1). -/
def ringLinkOf (n : Nat) : LinkId := ⟨4 + n % 4, by omega⟩

/-- The ring links of a path of k hops from die a, and the dies it passes through (R22). -/
def ringPath (a k : Nat) (plus : Bool) : List Nat × List Nat :=
  if plus then ((List.range k).map (fun i => a + i), (List.range (k - 1)).map (fun i => a + 1 + i))
  else ((List.range k).map (fun i => a + 3 - i), (List.range (k - 1)).map (fun i => a + 3 - i))

/-- Whether a path could be chosen at the last tick (R22, R23). -/
def State.pathAt (s : State) (p : List Nat × List Nat) : Bool :=
  p.1.all (fun n => (s.die (dieAt n)).ringAt) && p.2.all (fun n => !(s.die (dieAt n)).outAt)

/-- Whether a link is trained: up, or in a retrain, which keeps its state and holds its traffic (R23, R425). -/
def Link.trained (q : Link) : Bool := q.st == .up || q.st == .retrain

/-- Whether a path still carries traffic. -/
def State.pathNow (s : State) (p : List Nat × List Nat) : Bool :=
  p.1.all (fun n => (s.link (ringLinkOf n)).trained) && p.2.all (fun n => (s.die (dieAt n)).up)

/-- The ring path of the last tick from die a to die b: the shorter way, C(a+1) first, else the other way round;
none where traffic goes through X (R22, R23). -/
def State.ringRoute (s : State) (a b : DieId) : Option (List Nat × List Nat) :=
  let k := (b.val + 4 - a.val) % 4
  let one := ringPath a.val (if k = 3 then 1 else k) (k != 3)
  let two := ringPath a.val (4 - (if k = 3 then 1 else k)) (k == 3)
  if s.pathAt one then some one else if s.pathAt two then some two else none

/-- Whether an access from die a to die b gets through on the route of the last tick (R22, R23, R425). -/
def State.routeOk (s : State) (a b : DieId) : Bool :=
  match s.ringRoute a b with
  | some p => s.pathNow p
  | none => true

/-- Whether a local offset can be reached from a core: its stack serves requests and the route to its die stands
(R22, R23, R259). -/
def State.servedTo (s : State) (c : CoreId) (off : Nat) : Bool :=
  s.served off && s.routeOk (coreDie c) (stackDie (s.stackOf off))

/-- The ring links and the isolated dies as a tick finds them (R22, R23). -/
def State.latchRoutes (s : State) : State :=
  s.each (allFin 4) (fun s d =>
    let up := (s.link (ringLinkOf d.val)).trained
    s.modDie d (fun x => { x with ringAt := up, outAt := x.isolated }))

/-- The first offset of each 4 KiB granule that a range of local offsets touches. -/
def granules (off len : Nat) : List Nat :=
  if len = 0 then []
  else (List.range ((off + len - 1) / 4096 - off / 4096 + 1)).map (fun i => (off / 4096 + i) * 4096)

/-- The first local offset of a range that no stack serves. -/
def State.firstUnserved (s : State) (off len : Nat) : Option Nat :=
  if (granules off len).all s.served then none
  else (granules off len).find? (fun g => !s.served g)

/-! ### Bytes and blocks -/

/-- Whether the contents of a physical block were lost and not written since (R428, R429). -/
def State.isLost (s : State) (b : Nat) : Bool :=
  (s.stack (physStack (64 * b))).lost != 0 && !Store.get (fun _ => false) s.kept b

/-- The byte at a physical address. (DESIGN CHOICE: log entry 6) -/
def State.physByte (s : State) (a : Nat) : Byte :=
  if s.isLost (a / 64) then Config.lostByte (s.stack (physStack a)).lost a
  else Store.get (fun _ => 0) s.hbm a

/-- The byte at a local offset. -/
def State.byte (s : State) (off : Nat) : Byte := s.physByte (s.phys off)

/-- The reads in a row of a physical block that find its stored CRC and its data to differ (R253, R254). (DESIGN
CHOICE: log entry 38) -/
def State.upsetOf (s : State) (b : Nat) : Nat := Store.get (fun _ => 0) (s.stack (physStack (64 * b))).upset b

/-- Whether the block of a local offset reads poisoned (R254, R255). (DESIGN CHOICE: log entry 6) -/
def State.poisoned (s : State) (off : Nat) : Bool :=
  let b := s.phys off / 64
  s.isLost b || Store.get (fun _ => false) s.bad b || decide (3 ≤ s.upsetOf b)

/-- The bytes at `n` local offsets from `off`. -/
def State.bytes (s : State) (off n : Nat) : List Byte := (List.range n).map (fun i => s.byte (off + i))

/-- The local offsets of the 64-byte blocks that a range touches. -/
def blocksOf (off len : Nat) : List Nat :=
  if len = 0 then []
  else (List.range ((off + len - 1) / 64 - off / 64 + 1)).map (fun i => (off / 64 + i) * 64)

/-- Whether any block of a range reads poisoned. -/
def State.rangePoisoned (s : State) (off len : Nat) : Bool := (blocksOf off len).any s.poisoned

/-- Bytes as a little-endian number (R7). -/
def leNat : List Byte → Nat
  | [] => 0
  | b :: l => b.toNat + 256 * leNat l

/-- `n` bytes of a number, little-endian. -/
def leBytes (v : Nat) : Nat → List Byte
  | 0 => []
  | n + 1 => BitVec.ofNat 8 v :: leBytes (v / 256) n

/-- The little-endian number at a local offset. -/
def State.mem (s : State) (off n : Nat) : Nat := leNat (s.bytes off n)

/-- The state with one byte stored, without its block's poison. -/
def State.putByte (s : State) (off : Nat) (v : Byte) : State :=
  { s with hbm := Store.set (fun _ => 0) s.hbm (s.phys off) v }

/-- The state with consecutive bytes stored. -/
def State.putBytes (s : State) (off : Nat) : List Byte → State
  | [] => s
  | v :: vs => (s.putByte off v).putBytes (off + 1) vs

/-- The poison bit of the block of a local offset set. -/
def State.setPoison (s : State) (off : Nat) (p : Bool) : State :=
  { s with bad := Store.set (fun _ => false) s.bad (s.phys off / 64) p }

/-- A controller's finding that both re-reads of a block mismatch (R254): the block is marked poisoned. -/
def State.markPoisoned (s : State) (off : Nat) : State :=
  let t := s.stackOf off
  let off := off / 64 * 64
  (((s.setPoison off true).countSat (.hbm t) 0x90 2).countSat (.hbm t) 0x94 1).raise
    { page := .hbm t, bit := 9, cls := 2, addr := off, kind := 4 }

/-- A lost block as the first read of it leaves it: its open bytes stay, marked poisoned. -/
def State.findLost (s : State) (off : Nat) : State :=
  let b := s.phys off / 64
  if s.isLost b then
    let v := s.bytes (off / 64 * 64) 64
    let s := { s with kept := Store.set (fun _ => false) s.kept b true }
    (s.putBytes (off / 64 * 64) v).markPoisoned off
  else s

/-- The reads in a row of a physical block that mismatch, set. -/
def State.setUpset (s : State) (b n : Nat) : State :=
  s.modStack (physStack (64 * b)) (fun x => { x with upset := Store.set (fun _ => 0) x.upset b n })

/-- The table of R254 on a block whose stored CRC differs from its data: one or two re-reads end with a match; the
third mismatch in a row marks it poisoned. A poisoned block is not re-read (R255). -/
def State.findUpset (s : State) (off : Nat) : State :=
  let b := s.phys off / 64
  let n := s.upsetOf b
  if n = 0 ∨ Store.get (fun _ => false) s.bad b then s
  else
    let s := s.setUpset b 0
    if 3 ≤ n then s.markPoisoned off
    else
      let t := s.stackOf off
      (s.countSat (.hbm t) 0x90 n).raise { page := .hbm t, bit := 8, cls := 1, addr := off / 64 * 64, kind := 4 }

/-- The integrity check of one block as it is read (R254). -/
def State.checkBlock (s : State) (off : Nat) : State := (s.findLost off).findUpset off

/-- Whether any stack has lost contents or a block whose stored CRC differs from its data. -/
def State.anyLost (s : State) : Bool := s.stackTab.any (fun e => e.2.lost != 0 || !e.2.upset.isEmpty)

/-- The integrity check of a read over a range (R254). (DESIGN CHOICE: log entry 38) -/
def State.checkRead (s : State) (off len : Nat) : State :=
  if s.anyLost then s.each (blocksOf off len) State.checkBlock else s

/-- A write of bytes within one block, at offsets from its start: the whole block takes the poison of the data, a
partial write reads first and keeps the block's own; the CRC is written anew (R253, R255). (DESIGN CHOICE: log
entry 38) -/
def State.writeBlock (s : State) (blk : Nat) (l : List (Nat × Byte)) (p : Bool) : State :=
  let whole := decide (64 ≤ l.length)
  let s := if whole then s else s.checkBlock blk
  let old := s.poisoned blk
  let b := s.phys blk / 64
  let s := if s.isLost b then { s with kept := Store.set (fun _ => false) s.kept b true } else s
  let s := if s.upsetOf b = 0 then s else s.setUpset b 0
  let s := l.foldl (fun s e => s.putByte (blk + e.1) e.2) s
  s.setPoison blk (p || (!whole && old))

/-- The cells of a table of (address, (byte, poison)) that lie in the block of the first, and the rest. -/
def takeBlock (b : Nat) : Store (Byte × Bool) → List (Nat × Byte) × Bool × Store (Byte × Bool)
  | [] => ([], false, [])
  | (a, v, p) :: m =>
    if a / 64 = b then
      let r := takeBlock b m
      ((a % 64, v) :: r.1, p || r.2.1, r.2.2)
    else ([], false, (a, v, p) :: m)

/-- A write of a table of bytes at local offsets, block by block; `n` bounds the blocks. -/
def State.writeCells (s : State) : Nat → Store (Byte × Bool) → State
  | 0, _ => s
  | _, [] => s
  | n + 1, (a, v) :: m =>
    let r := takeBlock (a / 64) ((a, v) :: m)
    (s.writeBlock (a / 64 * 64) r.1 r.2.1).writeCells n r.2.2

/-- Consecutive bytes as a table. -/
def cellsOf (off : Nat) (p : Bool) : List Byte → Store (Byte × Bool)
  | [] => []
  | v :: vs => (off, v, p) :: cellsOf (off + 1) p vs

/-- A write of consecutive bytes at a local offset (R253). -/
def State.write (s : State) (off : Nat) (v : List Byte) (p : Bool) : State :=
  s.writeCells v.length (cellsOf off p v)

/-- Cells written from a list of bytes with a poison of each. -/
def cellsOfP (off : Nat) : List (Byte × Bool) → Store (Byte × Bool)
  | [] => []
  | v :: vs => (off, v) :: cellsOfP (off + 1) vs

/-- A write of consecutive bytes, each with its poison. -/
def State.writeP (s : State) (off : Nat) (v : List (Byte × Bool)) : State :=
  s.writeCells v.length (cellsOfP off v)

/-- A stack filled with zero data, poison clear (R456). (DESIGN CHOICE: log entry 6) -/
def State.fillStack (s : State) (t : StackId) : State :=
  let here := fun (a : Nat) => a / 2 ^ 36 == t.val
  let s := { s with
    hbm := Store.keep (fun a => !here a) s.hbm
    bad := Store.keep (fun b => !here (64 * b)) s.bad
    kept := Store.keep (fun b => !here (64 * b)) s.kept }
  s.modStack t (fun x => { x with lost := 0, upset := [] })

/-- A stack whose contents went with its refresh (R428, R429). (DESIGN CHOICE: log entry 6) -/
def State.loseStack (s : State) (t : StackId) : State :=
  let here := fun (a : Nat) => a / 2 ^ 36 == t.val
  let s := { s with
    hbm := Store.keep (fun a => !here a) s.hbm
    bad := Store.keep (fun b => !here (64 * b)) s.bad
    kept := Store.keep (fun b => !here (64 * b)) s.kept }
  { s.modStack t (fun x => { x with lost := s.fresh + 1, upset := [] }) with fresh := s.fresh + 1 }

/-- All of local memory zero, as CLEAR with ZERO_HBM and zeroisation leave it (R76, R490). -/
def State.zeroHbm (s : State) : State := s.each (allFin 16) State.fillStack

/-! ### The stack arbiter (R260 to R264) -/

/-- The number of an arbiter entry: LOCAL, D2D, IOD_BULK, IOD_PRI, GEODE (R260, R270). -/
def entryNum : ArbEntry → Nat
  | .cores => 0
  | .d2d => 1
  | .iodBulk => 2
  | .iodPri => 3
  | .geode => 4

/-- PRESENT of HBM_ARB_MASK: the entries of a die that is up whose links are trained; no rule fences a copy agent
(R262). -/
def State.present (s : State) (t : StackId) : List Bool :=
  let d := stackDie t
  let up := (s.die d).up
  let ring := (s.link ⟨4 + d.val, by omega⟩).trained || (s.link ⟨4 + (d.val + 3) % 4, by omega⟩).trained
  let io := (s.link ⟨d.val, by omega⟩).trained
  [up, up && ring, up && io, up && io, up]

/-- The nth number of a list, 0 beyond its end. -/
def nth (l : List Nat) (i : Nat) : Nat := l.getD i 0

/-- The first bulk entry after the round-robin pointer that is eligible. -/
def roundRobin (elig : List Bool) (rr : Nat) : Option Nat :=
  let order := [0, 1, 2, 4]
  let after := order.filter (fun e => decide (rr < e)) ++ order.filter (fun e => decide (e ≤ rr))
  after.find? (fun e => elig.getD e false)

/-- The entry with the largest wait among the forced ones, first in the order LOCAL, D2D, IOD_BULK, GEODE on ties. -/
def forcedWinner (forced : List Bool) (wait : List Nat) : Option Nat :=
  [0, 1, 2, 4].foldl (fun best e =>
    if forced.getD e false then
      match best with
      | none => some e
      | some b => if nth wait b < nth wait e then some e else some b
    else best) none

/-- One controller cycle of the arbiter: the granted entry and the new state (R262). -/
def Arb.cycleStep (a : Arb) (present pending : List Bool) (limit quota window : Nat) :
    Option Nat × Arb :=
  let start := a.cycle % a.window == 0
  let a := if start then { a with cycle := 0, pri := 0, limit := limit, quota := quota, window := window }
    else a
  let live := [0, 1, 2, 3, 4].map (fun i => present.getD i false && pending.getD i false)
  let wait := [0, 1, 2, 3, 4].map (fun i => if live.getD i false then nth a.wait i else 0)
  let forced := [0, 1, 2, 3, 4].map
    (fun i => i != 3 && live.getD i false && decide (a.limit ≤ nth wait i))
  let elig := [0, 1, 2, 3, 4].map (fun i =>
    live.getD i false && (forced.getD i false || nth a.backoff i == 0) &&
      (i != 3 || decide (a.pri < a.quota)))
  let g := if forced.any id then forcedWinner forced wait
    else if elig.getD 3 false then some 3 else roundRobin elig a.rr
  let lost := fun i => elig.getD i false && some i != g
  let n := [0, 1, 2, 3, 4].map (fun i =>
    if !present.getD i false || some i == g then 2
    else if lost i then min (nth a.n i + 1) 10 else nth a.n i)
  let backoff := [0, 1, 2, 3, 4].map (fun i =>
    if !present.getD i false then 0
    else (if lost i then 2 ^ nth a.n i else nth a.backoff i) - 1)
  let wait := [0, 1, 2, 3, 4].map (fun i =>
    if some i == g || !live.getD i false then 0 else nth wait i + 1)
  (g, { a with
    cycle := a.cycle + 1
    pri := if g = some 3 then a.pri + 1 else a.pri
    rr := match g with
      | some 3 => a.rr
      | some e => e
      | none => a.rr
    wait := wait, backoff := backoff, n := n })

/-- One arbiter cycle of a stack with the entry of a request and the others that wait; answers whether the
request was granted. (DEDUCED: log entry 37) -/
def State.arbitrate (s : State) (t : StackId) (entry : ArbEntry) (waiting : List ArbEntry) :
    Bool × State :=
  let pending := [0, 1, 2, 3, 4].map
    (fun i => i == entryNum entry || (waiting.map entryNum).contains i)
  let r := (s.arb t).cycleStep (s.present t) pending (s.field (.hbm t) 0xA0 15 0)
    (s.field (.hbm t) 0xA4 15 0) (s.field (.hbm t) 0xA8 15 0)
  (r.1 == some (entryNum entry), s.setArb t r.2)

/-- A request that waits until its cycle comes, of at most `n` cycles; answers whether it was granted. (DEDUCED:
log entry 37) -/
def State.grant (t : StackId) (entry : ArbEntry) (waiting : List ArbEntry) : Nat → State → Bool × State
  | 0, s => (false, s)
  | n + 1, s =>
    let r := s.arbitrate t entry waiting
    if r.1 then r else State.grant t entry waiting n r.2

/-- More cycles than a present entry can wait: the limit and the window are at most 65,535 cycles each (R263, R264). -/
def grantBound : Nat := 2 ^ 18

/-- Whether an entry's sideband present signal is high (R262). -/
def State.isPresent (s : State) (t : StackId) (e : ArbEntry) : Bool := (s.present t).getD (entryNum e) false

/-- A request at a stack: granted once its cycle comes; a masked entry is granted none (R262, R263). (DEDUCED: log
entry 37) -/
def State.requestAt (s : State) (t : StackId) (entry : ArbEntry) (waiting : List ArbEntry) : Bool × State :=
  if s.isPresent t entry then State.grant t entry waiting grantBound s else (false, s)

/-- Blocks granted by a stack's arbiter, counted while TEL's counters run (R512, R513). (DESIGN CHOICE: log entry
38) -/
def State.countGrant (s : State) (t : StackId) (n : Nat) : State :=
  if s.flag .tel 0x80 0 then s.setArb t { s.arb t with blocks := (s.arb t).blocks + n } else s

/-- A request at a stack for a number of blocks; answers whether it was granted (R261 to R263, R513). -/
def State.requestFor (s : State) (t : StackId) (entry : ArbEntry) (waiting : List ArbEntry) (n : Nat) : Bool × State :=
  let r := s.requestAt t entry waiting
  (r.1, if r.1 then r.2.countGrant t n else r.2)

/-- Who makes an access to local memory (R26, R260): a core, the traffic that comes through X, or the die's copy
agent. -/
inductive Source
  | core (c : CoreId)
  | system
  | agent
  deriving DecidableEq, Repr

/-- The requester as which an access reaches a stack controller, by its source and path (R26, R260). -/
def State.entryOf (s : State) (src : Source) (t : StackId) : ArbEntry :=
  match src with
  | .core c =>
    if coreDie c = stackDie t then .cores
    else if (s.ringRoute (coreDie c) (stackDie t)).isSome then .d2d
    else .iodBulk
  | .system => .iodPri
  | .agent => .geode

/-- The first offset of each 1 KiB piece that a range touches (R261). -/
def pieces (off len : Nat) : List Nat :=
  if len = 0 then []
  else (List.range ((off + len - 1) / 1024 - off / 1024 + 1)).map (fun i => max off ((off / 1024 + i) * 1024))

/-- A request for some blocks of the 1 KiB range of an offset takes its turn at its stack's controller (R26, R260
to
R263). What is pending besides it no command says. (DEDUCED: log entry 37) -/
def State.takeTurn (s : State) (src : Source) (off n : Nat) : State :=
  (s.requestFor (s.stackOf off) (s.entryOf src (s.stackOf off)) [] n).2

/-- An access to a range of local memory takes its turns at the stack controllers: one request for each 1 KiB piece
(R26, R261). (DEDUCED: log entry 37) -/
def State.enter (s : State) (src : Source) (off len : Nat) : State :=
  s.each (pieces off len) (fun s o => s.takeTurn src o (blocksOf o (min (1024 - o % 1024) (off + len - o))).length)

/-- A rising list without its repeats. -/
def onceEach : List Nat → List Nat
  | a :: b :: l => if a = b then onceEach (b :: l) else a :: onceEach (b :: l)
  | l => l

/-- A table of writes takes its turns at the stack controllers. (DESIGN CHOICE: log entry 38) -/
def State.enterCells (s : State) (src : Source) (m : Store (Byte × Bool)) : State :=
  let bs := onceEach (m.map (fun e => e.1 / 64))
  s.each (onceEach (bs.map (fun b => b / 16))) (fun s k =>
    s.takeTurn src (1024 * k) (bs.filter (fun b => b / 16 == k)).length)

end Sys2Proof.Machine
end

