-- ==== Sys2Proof/Machine/Link.lean ====
section
/-!
DEFINITION. The sending side of a fabric port, its link state, and the parts of a flow unit (R278 to R305).
-/

namespace Sys2Proof.Machine

open Sys2Proof

/-! ### Flow units -/

/-- The payload padded with zeros to 240 bytes (R279). -/
def fuPayload (f : Fu) : List Byte := f.payload.take 240 ++ List.replicate (240 - f.payload.length) 0

/-- The header as a number (R279). -/
def fuHeader (f : Fu) : Nat :=
  f.vc.toNat + 2 ^ 2 * f.type.toNat + 2 ^ 8 * f.dest.toNat + 2 ^ 32 * f.len.toNat +
    2 ^ 40 * f.poison.toNat + 2 ^ 44 * bit f.mark + 2 ^ 45 * f.rsvd.toNat + 2 ^ 48 * f.tag.toNat

/-- The trailer as a number (R280). -/
def fuTrailer (f : Fu) : Nat :=
  f.ackSeq.toNat + 2 ^ 12 * bit f.ackValid + 2 ^ 13 * f.crVc.toNat + 2 ^ 15 * bit f.trRsvd +
    2 ^ 16 * f.crTotal.toNat

/-- Bytes 0 to 251 (R278). -/
def fuBytes (f : Fu) : List Byte := leBytes (fuHeader f) 8 ++ fuPayload f ++ leBytes (fuTrailer f) 4

/-- Whether the CRC field matches (R281). -/
def fuCrcOk (f : Fu) : Bool := crc32c (fuBytes f) == f.crc

/-- Little-endian number of `n` payload bytes from byte `i`. -/
def fuNum (f : Fu) (i n : Nat) : Nat := leNat ((f.payload.drop i).take n)

/-- A flow unit as a sender builds it, before its trailer and CRC. -/
def mkFu (vc type dest tag len poison : Nat) (payload : List Byte) : Fu :=
  { vc := BitVec.ofNat 2 vc, type := BitVec.ofNat 6 type, dest := BitVec.ofNat 24 dest
    len := BitVec.ofNat 8 len, poison := BitVec.ofNat 4 poison, mark := type == 1, rsvd := 0
    tag := BitVec.ofNat 16 tag, payload := payload, ackSeq := 0, ackValid := false, crVc := 0
    trRsvd := false, crTotal := 0, crc := 0 }

/-- A link-control FU with its payload (R295 to R298). -/
def ctlFu (type : Nat) (payload : List Byte) : Fu := mkFu 3 type 0 0 payload.length 0 payload

/-- The VC that a TYPE demands; none is reserved (R282, R310). -/
def typeVc (t : Nat) : Option Nat :=
  if t ≤ 5 then some 3
  else if t = 0x10 ∨ t = 0x15 then some 0
  else if 0x11 ≤ t ∧ t ≤ 0x14 then some 2
  else if 0x18 ≤ t ∧ t ≤ 0x1A then some 1
  else if t = 0x20 ∨ t = 0x21 then some 2
  else none

/-- Whether a DISCOVERY FU carries a reserved KIND (R317). -/
def badDiscovery (f : Fu) : Bool := f.type == 5 && decide (7 < fuNum f 0 1)

/-- Whether an FU that passed its CRC is malformed (R283, R317). -/
def fuMalformed (f : Fu) : Bool :=
  typeVc f.type.toNat != some f.vc.toNat || f.mark != (f.type == 1) || decide (240 < f.len.toNat) ||
    f.rsvd != 0 || badDiscovery f

/-- Whether a type is sequenced (R282). -/
def sequenced (f : Fu) : Bool := decide (5 ≤ f.type.toNat)

/-! ### Coordinates (R307 to R309) -/

/-- The index of a coordinate word's field for an axis: A first (R309, DEST layout). -/
def destAxis (dest : Nat) (ax : Nat) : Nat := dest / 2 ^ (6 * (3 - ax)) % 64

/-- A GLB_COORD-layout word in DEST layout. -/
def destOfCoord (w : Word) : Nat :=
  2 ^ 18 * fld w 29 24 + 2 ^ 12 * fld w 21 16 + 2 ^ 6 * fld w 13 8 + fld w 5 0

/-- A DEST-layout coordinate in GLB_COORD layout. -/
def coordOfDest (d : Nat) : Word :=
  BitVec.ofNat 32 (2 ^ 24 * destAxis d 0 + 2 ^ 16 * destAxis d 1 + 2 ^ 8 * destAxis d 2 + destAxis d 3)

/-- The device's own coordinate in DEST layout. -/
def State.own (s : State) : Nat := destOfCoord (s.reg .glb 0x9C)

/-- Ring length of an axis (R308). -/
def State.ring (s : State) (ax : Nat) : Nat := destAxis (destOfCoord (s.reg .frt 0x80)) ax + 1

/-- A DEST coordinate with the field of one axis replaced. -/
def setAxis (dest ax v : Nat) : Nat :=
  let k := 2 ^ (6 * (3 - ax))
  dest - destAxis dest ax * k + v % 64 * k

/-- The opposite port of the same axis. -/
def oppositePort (p : PortId) : PortId :=
  if p.val % 2 = 0 then ⟨(p.val + 1) % 8, Nat.mod_lt _ (by decide)⟩
  else ⟨p.val - 1, by have := p.isLt; omega⟩

/-- Port X+ (plus) or X− of an axis. -/
def axisPort (ax : Nat) (plus : Bool) : PortId := ⟨(2 * ax + (if plus then 0 else 1)) % 8, Nat.mod_lt _ (by decide)⟩

/-! ### Port causes (R306) -/

/-- FAB_SEQ_STAT.TX_OLDEST (R305). -/
def Port.oldest (p : Port) : Nat := (p.next + 4096 - p.buf.length % 4096) % 4096

/-- A FAB cause of a port; `rx` for a receive-side cause. -/
def State.fabCause (s : State) (p : PortId) (bt cls : Nat) (rx : Bool) : State :=
  let q := s.port p
  s.raise { page := .fab p, bit := bt, cls := cls, halt := 0x0B, kind := 2, req := p.val
            addr := if rx then q.exp else q.oldest }

/-- A port enters a state; the trace entry of R517. -/
def State.setPortState (s : State) (p : PortId) (st : PortState) : State :=
  if (s.port p).st = st then s
  else (s.modPort p (fun q => { q with st := st })).trace 5 p.val st.code

/-! ### Sending (R285 to R294) -/

/-- An FU as it leaves a port: with the trailer of the moment and its CRC (R280, R281, R287). -/
def State.sendOut (s : State) (p : PortId) (f : Fu) : State :=
  let q := s.port p
  let f := { f with
    ackSeq := BitVec.ofNat 12 q.ackSeq, ackValid := q.ackValid && !q.parity
    crVc := BitVec.ofNat 2 q.vcTurn, trRsvd := false
    crTotal := BitVec.ofNat 16 (q.credits.getD q.vcTurn {}).freed }
  let f := { f with crc := crc32c (fuBytes f) }
  (s.modPort p (fun q => { q with
    vcTurn := (q.vcTurn + 1) % 4
    traffic := q.traffic || decide (f.type.toNat ≠ 0 ∧ f.type.toNat ≠ 3) })).emit (.fu p f)

/-- Available credit of a VC (R293). -/
def Credit.available (c : Credit) : Nat := c.limit - (c.sent + 65536 - c.total % 65536) % 65536

/-- The first queued FU of a VC that its credit lets go: one that enters the ring needs two, one that continues on it
one (R293, R324). -/
def Port.ready (q : Port) (vc : Nat) : Option (Fu × Bool) :=
  let n := (q.credits.getD vc {}).available
  q.queue.find? (fun e => e.1.vc.toNat == vc && decide ((if e.2 then 2 else 1) ≤ n))

/-- The next sequenced FU a port sends (R294). -/
def Port.pick (q : Port) : Option (Fu × Bool) :=
  let order := if q.bulkTurn then [3, 1, 2, 0] else [3, 1, 0, 2]
  order.findSome? q.ready

/-- A list without the first element equal to `x`. -/
def eraseFirst {α : Type} [DecidableEq α] (x : α) : List α → List α
  | [] => []
  | y :: l => if y = x then l else y :: eraseFirst x l

/-- A credit of a VC changed. -/
def Port.modCredit (q : Port) (vc : Nat) (f : Credit → Credit) : Port :=
  { q with credits := q.credits.modify vc f }

/-- One sequenced FU first sent (R285, R286, R292). -/
def State.sendSequenced (s : State) (p : PortId) (e : Fu × Bool) : State :=
  let f := e.1
  let s := s.modPort p (fun q =>
    let q := q.modCredit f.vc.toNat (fun c => { c with sent := (c.sent + 1) % 65536 })
    { q with
      queue := eraseFirst e q.queue
      bulkTurn := if f.vc = 0 then true else if f.vc = 2 then false else q.bulkTurn
      next := if q.parity then q.next else (q.next + 1) % 4096
      buf := if q.parity then q.buf else q.buf ++ [f] })
  (s.sendOut p f).tel 5 p.val 1

/-- Every sequenced FU that may go, sent; `n` bounds them. -/
def State.flushN (s : State) (p : PortId) : Nat → State
  | 0 => s
  | n + 1 =>
    let q := s.port p
    if q.st = .up && decide (q.buf.length < 2047) then
      match q.pick with
      | none => s
      | some e => (s.sendSequenced p e).flushN p n
    else s

/-- What a port may send, sent. -/
def State.flush (s : State) (p : PortId) : State := s.flushN p (s.port p).queue.length

/-- A sequenced FU handed to a port; `enters` where it enters the ring there (R324). -/
def State.enqueue (s : State) (p : PortId) (f : Fu) (enters : Bool) : State :=
  (s.modPort p (fun q => { q with queue := q.queue ++ [(f, enters)] })).flush p

/-- A REPLAY_MARK and every unacknowledged FU again (R290, R295). -/
def State.replay (s : State) (p : PortId) : State :=
  let q := s.port p
  let s := s.sendOut p (ctlFu 1 (leBytes q.oldest 2))
  s.each q.buf (fun s f => s.sendOut p f)

/-- The halt-broadcast copies that have fallen due, sent in order once the port can (R294, R301). -/
def State.sendDue (s : State) (p : PortId) : State :=
  let q := s.port p
  if q.st = .up then
    (s.modPort p (fun q => { q with dueBcast := q.dueBcast.filter (fun e => !e.2) })).each
      (q.dueBcast.filter (·.2)) (fun s e => s.sendOut p e.1)
  else s

/-- A list of copies with the first one that is not due marked as due. -/
def markDue : List (Fu × Bool) → List (Fu × Bool)
  | [] => []
  | (f, true) :: l => (f, true) :: markDue l
  | (f, false) :: l => (f, true) :: l

/-- BCAST_COPY_TIMER: the next copy falls due (R297). -/
def State.bcastTimer (s : State) (p : PortId) : State :=
  (s.modPort p (fun q => { q with dueBcast := markDue q.dueBcast })).sendDue p

/-- A halt broadcast sent on one port: the first copy at once, three more due (R297). -/
def State.bcastOn (s : State) (p : PortId) (origin : Word) (cause : Nat) (tick : Nat) : State :=
  let copy := fun (k : Nat) =>
    ctlFu 4 (leBytes origin.toNat 4 ++ leBytes cause 1 ++ leBytes k 1 ++ [0, 0] ++ leBytes tick 8)
  if (s.port p).st = .up ∨ (s.port p).st = .retrain then
    (s.modPort p (fun q => { q with
      dueBcast := q.dueBcast ++ [(copy 0, true), (copy 1, false), (copy 2, false), (copy 3, false)] })).sendDue p
  else s

/-- A halt broadcast sent on every port that is up but one (R106). -/
def State.bcast (s : State) (origin : Word) (cause tick : Nat) (except : Option PortId) : State :=
  let key := (origin, BitVec.ofNat 64 tick)
  let s := { s with frt := { s.frt with seen := key :: s.frt.seen } }
  s.each ((allFin 8).filter (fun p => some p != except)) (fun s p => s.bcastOn p origin cause tick)

/-! ### Credits, acknowledgements and retrains -/

/-- An acknowledgement taken from a trailer (R288); answers false on a protocol error. -/
def State.takeAck (s : State) (p : PortId) (ack : Nat) : Bool × State :=
  let q := s.port p
  let d := (ack + 4096 - q.oldest) % 4096
  if d < q.buf.length then
    (true, s.modPort p (fun q => { q with
      buf := q.buf.drop (d + 1), expiries := 0, fails := 0, afterRetrain := false }))
  else (d == 4095, s)

/-- A credit count taken from a trailer (R293); answers false on a protocol error. -/
def State.takeCredit (s : State) (p : PortId) (vc total : Nat) : Bool × State :=
  let c := (s.port p).credits.getD vc {}
  if (total + 65536 - c.total) % 65536 ≤ c.limit then
    (true, s.modPort p (fun q => q.modCredit vc (fun c => { c with total := total })))
  else (false, s)

/-- A buffer entry of a VC freed (R293). -/
def State.freeCredit (s : State) (p : PortId) (vc : Nat) : State :=
  s.modPort p (fun q => q.modCredit vc (fun c => { c with freed := (c.freed + 1) % 65536 }))

end Sys2Proof.Machine
end

