-- ==== Sys2Proof/Machine/Fabric.lean ====
section
/-!
DEFINITION. The fabric router (R307 to R328): usability, ring map, routing, outstanding requests, a port
going down, and the receiving side of a port.
-/

namespace Sys2Proof.Machine

open Sys2Proof

/-! ### Operation flow units (R311) -/

/-- The operation header's content. -/
structure OpHdr where
  addr    : Nat
  src     : Nat
  op      : Nat := 0
  dlen    : Nat := 0
  fmt     : Nat := 0
  weight  : Nat := 0
  version : Nat := 0
  opId    : Nat := 0
  hop     : Nat := 0
  deriving DecidableEq, Repr

/-- The operation header of an FU. -/
def fuHdr (f : Fu) : OpHdr :=
  { addr := fuNum f 192 8, src := fuNum f 200 3, op := fuNum f 203 1, dlen := fuNum f 204 2
    fmt := fuNum f 206 1, weight := fuNum f 208 2, version := fuNum f 210 2, opId := fuNum f 212 4
    hop := fuNum f 216 4 }

/-- An operation FU (R310, R311). -/
def opFu (type dest tag poison : Nat) (h : OpHdr) (data : List Byte) : Fu :=
  mkFu ((typeVc type).getD 0) type dest tag 240 poison
    (data.take 192 ++ List.replicate (192 - data.length) 0 ++ leBytes h.addr 8 ++ leBytes h.src 3 ++
      leBytes h.op 1 ++ leBytes h.dlen 2 ++ leBytes h.fmt 1 ++ [0] ++ leBytes h.weight 2 ++
      leBytes h.version 2 ++ leBytes h.opId 4 ++ leBytes h.hop 4 ++ List.replicate 20 0)

/-- The POISON mask of data bytes with a poison of each (R312). -/
def poisonMask (l : List (Byte × Bool)) : Nat :=
  bit ((l.take 64).any (·.2)) + 2 * bit (((l.drop 64).take 64).any (·.2)) +
    4 * bit (((l.drop 128).take 64).any (·.2))

/-- Data bytes of an FU with the poison of their range (R312). -/
def fuData (f : Fu) : List (Byte × Bool) :=
  (((fuPayload f).take (fuHdr f).dlen).zipIdx).map (fun e => (e.1, f.poison.getLsbD (e.2 / 64)))

/-- Whether an owner can interpret the operation header of a request (R311). -/
def hdrOk (f : Fu) : Bool :=
  let h := fuHdr f
  let t := f.type.toNat
  let size := if t = 0x14 ∧ h.fmt = 2 then 2 else 4
  f.len == 240 && decide (h.addr < 2 ^ 40) && fuNum f 207 1 == 0 && fuNum f 220 20 == 0 &&
  h.opId == 0 && h.hop == 0 && (t == 0x15 || (h.weight == 0 && h.version == 0)) &&
  decide (f.tag.toNat < 0x4000) && !f.poison.getLsbD 3 &&
  (h.dlen == 0 || h.addr / 1024 == (h.addr + h.dlen - 1) / 1024) &&
  (if t = 0x10 then decide (1 ≤ h.dlen ∧ h.dlen ≤ 192) && h.fmt == 0 && h.op == 0
   else if t = 0x11 then decide (1 ≤ h.dlen ∧ h.dlen ≤ 192) && h.fmt == 0 && h.op == 0
   else if t = 0x15 then decide (1 ≤ h.dlen ∧ h.dlen ≤ 192) && h.fmt == 0 && h.op == 0
   else decide (size ≤ h.dlen ∧ h.dlen ≤ 192) && h.dlen % size == 0 && h.addr % size == 0 &&
     (if t = 0x12 then h.fmt == 0 && h.op == 0 else if t = 0x13 then h.fmt == 7 && h.op == 0
      else (h.fmt == 0 || h.fmt == 2 || h.fmt == 7) && decide (h.op ≤ 1)))

/-! ### Usability and the ring map (R318, R320) -/

/-- A port is usable: UP, with a valid HELLO and no mismatch (R318). -/
def State.usable (s : State) (p : PortId) : Bool :=
  let q := s.port p
  q.st = .up && q.nbValid && !q.nbMismatch

/-- The latest record of an origin on an axis. -/
def State.ringRec (s : State) (ax x : Nat) : Option RingRec :=
  s.frt.recs.find? (fun r => r.axis == ax && r.coord == x)

/-- PLUS_OK (plus) or MINUS_OK of a coordinate: the device's own ports directly (R320). -/
def State.sideOk (s : State) (ax x : Nat) (plus : Bool) : Bool :=
  if x = destAxis s.own ax then s.usable (axisPort ax plus)
  else
    match s.ringRec ax x with
    | none => false
    | some r => if plus then r.plus else r.minus

/-- Whether ring link x of an axis is usable as the records stand (R320). -/
def State.linkNow (s : State) (ax x : Nat) : Bool :=
  s.sideOk ax x true && s.sideOk ax ((x + 1) % s.ring ax) false

/-- Whether TICK_EN is set. -/
def State.tickEn (s : State) : Bool := s.flag .tim 0x80 0

/-- Ring link x of an axis as the router uses it (R321). -/
def State.ringLink (s : State) (ax x : Nat) : Bool :=
  if s.tickEn then Store.get (fun _ => false) s.frt.mapAt (64 * ax + x) else s.linkNow ax x

/-- The ring map as it stands, kept for the slot at a tick (R321). -/
def State.latchMap (s : State) : State :=
  let cells := [0, 1, 2, 3].flatMap (fun ax =>
    (List.range (s.ring ax)).filterMap (fun x => if s.linkNow ax x then some (64 * ax + x, true) else none))
  { s with frt := { s.frt with mapAt := cells } }

/-- Whether the neighbour on a port is absent (R326). -/
def State.isAbsent (s : State) (p : PortId) : Bool :=
  let ax := p.val / 2
  let n := s.ring ax
  let x := destAxis s.own ax
  let other := if p.val % 2 = 0 then (x + 1) % n else (x + n + n - 2) % n
  decide (2 ≤ n) && !s.usable p && !s.linkNow ax other

/-! ### Routing (R321, R322) -/

/-- Where an FU goes. -/
inductive Route
  | here
  | out (p : PortId) (enters : Bool)
  | lost
  deriving DecidableEq, Repr

/-- Whether every ring link crossed from coordinate x in one direction over k hops is usable. -/
def State.pathOk (s : State) (ax x k : Nat) (plus : Bool) : Bool :=
  let n := s.ring ax
  (List.range k).all (fun i =>
    s.ringLink ax (if plus then (x + i) % n else (x + n * (i + 1) - (i + 1)) % n))

/-- The direction chosen on an axis: none if both cross an unusable link (R321). -/
def State.direction (s : State) (ax dest : Nat) : Option Bool :=
  let n := s.ring ax
  let x := destAxis s.own ax
  let f := (destAxis dest ax + n - x % n) % n
  let b := n - f
  let plusOk := s.pathOk ax x f true
  let minusOk := s.pathOk ax x b false
  if f ≤ b then (if plusOk then some true else if minusOk then some false else none)
  else (if minusOk then some false else if plusOk then some true else none)

/-- The route of an FU to a coordinate, from the port it arrived on if it did (R321, R322). -/
def State.route (s : State) (dest : Nat) (inPort : Option PortId) : Route :=
  if dest = s.own then .here
  else
    let straight := match inPort with
      | none => none
      | some p => if destAxis dest (p.val / 2) ≠ destAxis s.own (p.val / 2) then some (oppositePort p) else none
    match straight with
    | some p => if s.usable p then .out p false else .lost
    | none =>
      match [0, 1, 2, 3].find? (fun ax => destAxis dest ax ≠ destAxis s.own ax) with
      | none => .here
      | some ax =>
        match s.direction ax dest with
        | none => .lost
        | some plus => if s.usable (axisPort ax plus) then .out (axisPort ax plus) true else .lost

/-- Whether a type is a request, which gets a response (R315). -/
def isRequest (t : Nat) : Bool := decide (0x10 ≤ t ∧ t ≤ 0x15)

/-- An ERROR FU that answers a request (R310, R315). -/
def State.errorFu (s : State) (f : Fu) (status : Nat) : Fu :=
  let h := fuHdr f
  opFu 0x1A h.src f.tag.toNat 0 { addr := h.addr, src := s.own, op := status } []

/-- An FU discarded by the router (R322). -/
def State.routeFail (s : State) (f : Fu) : State :=
  s.raise { page := .frt, bit := 8, cls := 2, kind := 2, addr := f.dest.toNat }

/-- An FU sent on its route, one that finds none discarded without an answer. -/
def State.sendPlain (s : State) (f : Fu) (inPort : Option PortId) : State :=
  match s.route f.dest.toNat inPort with
  | .out p e => s.enqueue p f e
  | _ => s.routeFail f

/-- An FU that cannot go on: discarded, and a request answered UNREACHABLE (R322). -/
def State.unreachable (s : State) (f : Fu) : State :=
  let s := s.routeFail f
  if isRequest f.type.toNat then
    if (fuHdr f).src = s.own then
      { s with frt := { s.frt with errs := s.frt.errs ++ [f.tag.toNat] } }
    else s.sendPlain (s.errorFu f 3) none
  else s

/-- An FU sent on its route, where it has one (R321, R322). -/
def State.sendFu (s : State) (f : Fu) (inPort : Option PortId) : State :=
  match s.route f.dest.toNat inPort with
  | .out p e => s.enqueue p f e
  | _ => s.unreachable f

/-- An FU for another device forwarded (R325). -/
def State.transit (s : State) (p : PortId) (f : Fu) : State :=
  match s.route f.dest.toNat (some p) with
  | .out o _ => ((s.countSat .frt 0x88 1).tel 7 o.val 1).sendFu f (some p)
  | _ => s.sendFu f (some p)

/-! ### Outstanding requests (R27, R327) -/

/-- The tracker pool of a requester: its die, or X as 4 (R27). -/
def ownerPool : ReqOwner → Nat
  | .core c _ _ => c.val / 48
  | _ => 4

/-- Whether two owners are one requester (R265). -/
def sameRequester : ReqOwner → ReqOwner → Bool
  | .core c u _, .core c' u' _ => c == c' && u == u'
  | .mbq .., .mbq .. => true
  | .dma c, .dma c' => c == c'
  | .bar2 h _, .bar2 h' _ => h == h'
  | .bar2Write h _, .bar2Write h' _ => h == h'
  | .bar2 h _, .bar2Write h' _ => h == h'
  | .bar2Write h _, .bar2 h' _ => h == h'
  | .drain, .drain | .drain, .restore | .restore, .drain | .restore, .restore => true
  | .col _, .col _ => true
  | .ring _, .ring _ => true
  | _, _ => false

/-- Whether two byte ranges touch a common 64-byte block. -/
def shareBlock (a n b m : Nat) : Bool :=
  decide (a / 64 ≤ (b + m - 1) / 64) && decide (b / 64 ≤ (a + n - 1) / 64)

/-- Whether an outstanding request is a queue header that holds back a data write to its entry (R219). -/
def holdsBack (u t : Tracker) : Bool :=
  match u.owner, t.owner with
  | .mbq .., .mbq .. => false
  | .mbq .., _ => u.dest == t.dest && decide (u.addr ≤ t.addr ∧ t.addr < u.addr + u.len)
  | _, _ => false

/-- Whether a waiting request may be sent: the pool has an entry free (R27), no earlier one of its requester to the
same device on the same VC waits, a read has no earlier write of its requester to a common block outstanding, unless it
timed out (R323, R327), and no queue header holds it back. -/
def mayGo (all : List Tracker) (t : Tracker) : Bool :=
  let pool := ownerPool t.owner
  let used := (all.filter (fun u => u.sent && ownerPool u.owner == pool)).length
  decide (used < (if pool = 4 then 8192 else 2048)) &&
  !(all.any (fun u => decide (u.id < t.id) && !u.sent && sameRequester u.owner t.owner &&
    u.dest == t.dest && u.fu.vc == t.fu.vc)) &&
  !(t.read && all.any (fun u => decide (u.id < t.id) && !u.read && !u.dead && sameRequester u.owner t.owner &&
    u.dest == t.dest && shareBlock u.addr u.len t.addr t.len)) &&
  !(all.any (fun u => decide (u.id < t.id) && holdsBack u t))

/-- A TAG not in use. -/
def State.freeTag (s : State) (from_ : Nat) : Nat :=
  let used := fun t => s.trackers.any (fun u => u.sent && u.tag == t)
  (((List.range (s.trackers.length + 1)).map (fun i => (from_ + i) % 16384)).find? (fun t => !used t)).getD 0

/-- A tracker marked as sent with its TAG, if it is the one of number `id`. -/
def Tracker.markSent (id tag : Nat) (u : Tracker) : Tracker :=
  if u.id = id then { u with tag := tag, sent := true } else u

/-- One waiting request sent. -/
def State.sendTracker (s : State) (t : Tracker) : State :=
  let tag := s.freeTag (t.id % 16384)
  let f := { t.fu with tag := BitVec.ofNat 16 tag }
  let s := { s with trackers := s.trackers.map (Tracker.markSent t.id tag) }
  s.sendFu f none

/-- Whether the buddy drain is held: by a rate of 0 or by RETAIN (R382, R389, R445). -/
def State.drainHeld (s : State) : Bool := decide (s.field .geo 0xA0 15 0 = 0) || decide (s.pwr.st = .retain)

/-- The requests that take part: those of a drain that is held wait outside the order of the others. -/
def State.inPlay (s : State) : List Tracker :=
  if s.drainHeld then s.trackers.filter (fun t => t.sent || decide (t.owner ≠ .drain)) else s.trackers

/-- Every waiting request that may go, sent in order. -/
def State.pump (s : State) : State :=
  s.each (s.inPlay.filter (fun t => !t.sent)) (fun s t => if mayGo s.inPlay t then s.sendTracker t else s)

/-- A request entered into the tracker; answers its number. -/
def State.request (s : State) (owner : ReqOwner) (dest addr len : Nat) (read : Bool) (f : Fu) : Nat × State :=
  let id := s.nextTag
  let t : Tracker := { id := id, owner := owner, dest := BitVec.ofNat 24 dest, addr := addr, len := len
                       read := read, fu := f }
  (id, { s with trackers := s.trackers ++ [t], nextTag := id + 1 })

/-- The tracker that a response's TAG names. -/
def State.trackerOf (s : State) (tag : Nat) : Option Tracker :=
  s.trackers.find? (fun t => t.sent && t.tag == tag)

/-- A tracker entry freed. -/
def State.freeTracker (s : State) (id : Nat) : State :=
  { s with trackers := s.trackers.filter (fun t => t.id != id) }

/-- A range of bytes cut into pieces of at most 192 bytes that do not straddle 1 KiB (R311); `n` bounds their number.
-/
def fuPieces : Nat → Nat → Nat → List (Nat × Nat)
  | 0, _, _ => []
  | n + 1, a, len =>
    if len = 0 then []
    else
      let k := min (min 192 len) (1024 - a % 1024)
      (a, k) :: fuPieces n (a + k) (len - k)

/-- A global address: DEST coordinate and local offset (R309). -/
def globalDest (g : Nat) : Nat := g / 2 ^ 40 % 2 ^ 24

/-- The local offset of a global address. -/
def globalOff (g : Nat) : Nat := g % 2 ^ 40

/-- Whether a coordinate lies within FRT_DIMS (R309). -/
def State.coordOk (s : State) (dest : Nat) : Bool := [0, 1, 2, 3].all (fun ax => decide (destAxis dest ax < s.ring ax))

/-- Reads of a remote range requested; answers their numbers. -/
def State.requestReads (s : State) (owner : ReqOwner) (g len : Nat) : List Nat × State :=
  (fuPieces len (globalOff g) len).foldl (fun r e =>
    let h : OpHdr := { addr := e.1, src := r.2.own, dlen := e.2 }
    let d := globalDest g
    let q := r.2.request owner d (d * 2 ^ 40 + e.1) e.2 true (opFu 0x10 d 0 0 h [])
    (r.1 ++ [q.1], q.2)) ([], s)

/-- Writes of consecutive bytes to a remote range requested, with an operation type, OP and FMT; answers their
numbers. -/
def State.requestWrites (s : State) (owner : ReqOwner) (g : Nat) (data : List (Byte × Bool))
    (type op fmt : Nat) : List Nat × State :=
  (fuPieces data.length (globalOff g) data.length).foldl (fun r e =>
    let l := (data.drop (e.1 - globalOff g)).take e.2
    let h : OpHdr := { addr := e.1, src := r.2.own, dlen := e.2, op := op, fmt := fmt }
    let d := globalDest g
    let q := r.2.request owner d (d * 2 ^ 40 + e.1) e.2 false (opFu type d 0 (poisonMask l) h (l.map (·.1)))
    (r.1 ++ [q.1], q.2)) ([], s)

/-! ### Discovery messages (R317 to R320) -/

/-- A DISCOVERY message queued on a port that is up. -/
def State.discovery (s : State) (p : PortId) (payload : List Byte) : State :=
  if (s.port p).st = .up then s.enqueue p (mkFu 3 5 0 0 payload.length 0 payload) false else s

/-- A HELLO sent on a port (R317). -/
def State.sendHello (s : State) (p : PortId) : State :=
  s.discovery p ([0] ++ leBytes p.val 1 ++ leBytes (s.field .glb 0x98 7 0) 1 ++ [0] ++
    leBytes (s.reg .glb 0x9C).toNat 4 ++ leBytes (s.reg .frt 0x80).toNat 4 ++
    leBytes (s.reg .glb 0x80).toNat 4)

/-- A RING_STATE of an axis sent on both its ports (R320). -/
def State.sendRingState (s : State) (ax : Nat) : State :=
  if s.ring ax < 2 then s
  else
    let seq := s.frt.seq.getD ax 0 + 1
    let s := { s with frt := { s.frt with seq := s.frt.seq.set ax seq } }
    let flags := bit (s.usable (axisPort ax true)) + 2 * bit (s.usable (axisPort ax false))
    let m := [2] ++ leBytes ax 1 ++ leBytes (destAxis s.own ax) 1 ++ leBytes flags 1 ++
      leBytes seq.toNat 4 ++ leBytes (s.reg .glb 0x9C).toNat 4
    (s.discovery (axisPort ax true) m).discovery (axisPort ax false) m

/-- NEIGHBOUR_ABSENT for a port (R326). -/
def State.raiseAbsent (s : State) (p : PortId) : State :=
  s.raise { page := .frt, bit := 10, cls := s.jobClass, halt := 0x0A, kind := 2, req := p.val }

/-- The absence of each neighbour judged again; a neighbour that became absent raises its cause (R326). -/
def State.judgeAbsent (s : State) : State :=
  let now := (allFin 8).filter s.isAbsent
  let fresh := now.filter (fun p => !s.frt.absent.contains p)
  ({ s with frt := { s.frt with absent := now } }).each fresh State.raiseAbsent

/-- What follows a change of a port's usability from `was` (R320, R326). -/
def State.usabilityChanged (s : State) (p : PortId) (was : Bool) : State :=
  if s.usable p = was then s else (s.sendRingState (p.val / 2)).judgeAbsent

/-! ### Retraining and going down (R301, R302) -/

/-- A retrain of a port (R301): sequence state, buffer and credits are kept, and the port is not usable while it lasts
(R318, R320, R326). -/
def State.startRetrain (s : State) (p : PortId) : State :=
  let was := s.usable p
  let s := ((s.setPortState p .retrain).modPort p (fun q => { q with discard := !q.parity, expiries := 0 }))
  ((s.countSat (.fab p) 0xB4 1).fabCause p 11 1 true).usabilityChanged p was

/-- A port goes DOWN, or DISABLED with cause 1 (R302, R303). FUs without a number go back to the router: one that
entered the ring here gets a new route, any other needed this port (R322). -/
def State.linkDown (s : State) (p : PortId) (cause : Nat) : State :=
  let q := s.port p
  let was := s.usable p
  let loss := !q.buf.isEmpty || (decide (cause = 5) && q.parity && (q.traffic || q.trafficLast))
  let s := if loss then s.fabCause p 15 s.jobClass false else s
  let s := s.fabCause p 14 2 true
  let s := s.setPortState p (if cause = 1 then .disabled else .down)
  let s := s.modPort p (fun q => { q with
    cause := cause, buf := [], queue := [], discard := false, expiries := 0
    afterRetrain := false, dueBcast := [], nbValid := false, nbMismatch := false, wake := false
    seen := false, sentSeen := false, gotSeen := false })
  let s := s.usabilityChanged p was
  s.each q.queue (fun s e => if e.2 then s.sendFu e.1 none else s.unreachable e.1)

/-- A retrain fails (R301): the third consecutive failure takes the link down. -/
def State.retrainFailed (s : State) (p : PortId) : State :=
  let n := (s.port p).fails + 1
  let s := s.modPort p (fun q => { q with fails := n })
  if 3 ≤ n then s.linkDown p 4 else s.startRetrain p

/-- A retrain asked for: before progress it is a failure of the one before (R301). -/
def State.wantRetrain (s : State) (p : PortId) : State :=
  if (s.port p).afterRetrain then
    (s.modPort p (fun q => { q with afterRetrain := false })).retrainFailed p
  else s.startRetrain p

/-- A protocol error of the receive or the send side; a port that is up retrains (R288, R289, R293, R306). -/
def State.protocolError (s : State) (p : PortId) (rx : Bool) : State :=
  let s := s.fabCause p 13 2 rx
  if (s.port p).st = .up then s.wantRetrain p else s

/-! ### Arrival (R281 to R293) -/

/-- Codewords that the FEC corrected, and codewords that it could not (R277). -/
def State.fecSeen (s : State) (p : PortId) (good bad : Nat) : State :=
  let q := s.port p
  if !q.fec || !(q.st = .up || q.st = .training) then s
  else
    let s := if good = 0 then s else s.countSat (.fab p) 0x94 good
    if bad = 0 then s else (s.countSat (.fab p) 0x98 bad).fabCause p 9 1 true

/-- A CRC failure (R277, R289, R303). (DEDUCED: log entry 42) -/
def State.crcFail (s : State) (p : PortId) : State :=
  let s := (s.countSat (.fab p) 0x90 1).fabCause p 8 1 true
  if (s.port p).parity then s.linkDown p 5 else s.modPort p (fun q => { q with discard := true })

/-- The trailer of an FU that passed its CRC taken (R287, R288, R293); answers false on a protocol error. -/
def State.takeTrailer (s : State) (p : PortId) (f : Fu) : Bool × State :=
  let r := s.takeCredit p f.crVc.toNat f.crTotal.toNat
  let a := if f.ackValid && !(s.port p).parity then r.2.takeAck p f.ackSeq.toNat else (true, r.2)
  (r.1 && a.1, a.2)

/-- Buffer entries of a VC (R292). -/
def vcBuffer (vc : Nat) : Nat := if vc < 2 then 512 else if vc = 2 then 2048 else 16

/-- Whether the receive buffer of a VC is full (R293). -/
def Port.full (q : Port) (vc : Nat) : Bool :=
  let c := q.credits.getD vc {}
  decide (vcBuffer vc ≤ (c.recv + 65536 - c.freed) % 65536)

/-- A sequenced FU taken while counting (R289): accepted, dropped as a duplicate, or a protocol error. -/
def State.takeSequenced (s : State) (p : PortId) (f : Fu) : Option Fu × State :=
  let q := s.port p
  if q.parity && q.full f.vc.toNat then (none, s.protocolError p true)
  else if q.parity then
    (some f, (s.modPort p (fun q => { q.modCredit f.vc.toNat (fun c => { c with recv := (c.recv + 1) % 65536 }) with
      fails := if q.buf.isEmpty then 0 else q.fails
      afterRetrain := q.afterRetrain && !q.buf.isEmpty })).tel 6 p.val 1)
  else if q.discard then (none, s)
  else
    let n := q.cnt
    let s := s.modPort p (fun q => { q with cnt := (n + 1) % 4096 })
    let d := (q.exp + 4096 - n) % 4096
    if d = 0 && q.full f.vc.toNat then (none, s.protocolError p true)
    else if d = 0 then
      let s := s.modPort p (fun q => { q.modCredit f.vc.toNat (fun c => { c with recv := (c.recv + 1) % 65536 }) with
        ackSeq := n, ackValid := true, exp := (q.exp + 1) % 4096
        fails := if q.buf.isEmpty then 0 else q.fails
        afterRetrain := q.afterRetrain && !q.buf.isEmpty })
      (some f, s.tel 6 p.val 1)
    else if d < 2048 then (none, s)
    else (none, s.protocolError p true)

/-- A REPLAY_MARK (R289, R295). -/
def State.takeMark (s : State) (p : PortId) (f : Fu) : State :=
  let n := fuNum f 0 2 % 4096
  let bad := decide (2048 ≤ ((s.port p).exp + 4096 - n) % 4096)
  let s := s.modPort p (fun q => { q with cnt := n, discard := false })
  if bad then s.protocolError p true else s

/-- An FU that passed its CRC, after its trailer: the FU that the receiver hands on, if any (R283, R289). -/
def State.received (s : State) (p : PortId) (f : Fu) : Option Fu × State :=
  if fuMalformed f then (none, (s.modPort p (fun q => { q with discard := !q.parity })).fabCause p 12 2 true)
  else if f.type.toNat = 1 then (none, if (s.port p).parity then s else s.takeMark p f)
  else if !sequenced f then (some f, s)
  else s.takeSequenced p f

/-- Whether a port takes an FU of a type: in TRAINING only INIT and IDLE pass, in RETRAIN and below nothing (R299). -/
def Port.takes (q : Port) (type : Nat) : Bool := q.st = .up || (q.st = .training && decide (type = 0 ∨ type = 2))

/-- An FU arriving at a port, up to the point where it is processed: the FU that the receiver hands on, if any, and
the state (R281 to R293). An error in its trailer asks for a retrain once the FU itself is dealt with. -/
def State.arrive (s : State) (p : PortId) (f : Fu) (unc : Bool) : Option Fu × State :=
  let q := s.port p
  if !(q.st = .up || q.st = .training) then (none, s)
  else if !fuCrcOk f || unc then (none, (s.crcFail p).flush p)
  else if !q.takes f.type.toNat then (none, s)
  else
    let s := s.modPort p (fun q => { q with traffic := q.traffic || decide (f.type.toNat ≠ 0 ∧ f.type.toNat ≠ 3) })
    let r := s.takeTrailer p f
    let a := r.2.received p f
    (a.1, (if r.1 then a.2 else a.2.protocolError p false).flush p)

/-- The IDLE that carries the port's acknowledgement back after an arrival (R287, R294). -/
def State.idleBack (s : State) (p : PortId) : State :=
  if (s.port p).st = .up then s.sendOut p (ctlFu 0 []) else s

end Sys2Proof.Machine
end

