-- ==== Sys2Proof/Machine/Pipeline.lean ====
section
/-!
DEFINITION. What a descriptor's fault is (R52), the loaded image (R40 to R45), and the objects of MBQ and
VER that descriptors and ticks act on (R210 to R242).
-/

namespace Sys2Proof.Machine

open Sys2Proof

/-! ### Descriptor faults -/

/-- A descriptor fault found: the state with what other pages recorded on its account, the CORE page's ERR_STAT bit
(R52) and the halt cause (R78). -/
structure Stop where
  s    : State
  bit  : Nat
  halt : Nat := 0x08
  deriving DecidableEq, Repr

/-- What may meet a descriptor fault. -/
abbrev Run? (α : Type) := Except Stop α

/-- A condition, or a descriptor fault. -/
def need (ok : Bool) (s : State) (bit : Nat) : Run? Unit :=
  if ok then .ok () else .error { s := s, bit := bit }

/-- ERR_STAT bits of the CORE page (R52). -/
def badOpcode : Nat := 8
def badSeq : Nat := 9
def badTensor : Nat := 10
def slotKindFault : Nat := 11
def staleCst : Nat := 12
def boundsFault : Nat := 13
def errorResponse : Nat := 14
def poisonControl : Nat := 15

/-- The record of an access that got an error response: in the GLB page (R45, R259). -/
def State.glbRecord (s : State) (addr kind : Nat) : State :=
  s.raise { page := .glb, bit := 0, cls := 2, addr := addr, kind := kind }

/-! ### The loaded image (R40 to R45) -/

/-- GLB_IMAGE_BASE. -/
def State.imageBase (s : State) : Nat :=
  (s.reg .glb 0xB0).toNat / 4096 * 4096 + 2 ^ 32 * s.field .glb 0xB4 7 0

/-- A section of the loaded image. -/
def State.section? (s : State) (type : Nat) : Option Section := s.job.secs.find? (fun x => x.type == type)

/-- Local offset and length of a section; length 0 when absent. -/
def State.sect (s : State) (type : Nat) : Nat × Nat :=
  match s.section? type with
  | none => (0, 0)
  | some x => (s.imageBase + x.off, x.len)

/-- Whether a range of local offsets touches the protected image range (R45). -/
def State.hitsImage (s : State) (off len : Nat) : Bool :=
  match s.job.prot with
  | none => false
  | some (b, n) => decide (0 < len ∧ off < b + n ∧ b < off + len)

/-- Job tick j (R77). -/
def State.jobTick (s : State) : Nat := s.reg64 .glb 0xC8

/-- Whether a job runs a slot now: RUNNING with the slot dispatched. -/
def State.inSlot (s : State) : Bool := s.job.st = .running && s.cad.dispatched

/-! ### Contexts (R210 to R214) -/

/-- A context. -/
def State.ctx (s : State) (k : Nat) : Ctx := Store.get (fun _ => {}) s.mbq.ctxs k

/-- The state with a context replaced. -/
def State.setCtx (s : State) (k : Nat) (x : Ctx) : State :=
  { s with mbq := { s.mbq with ctxs := Store.set (fun _ => {}) s.mbq.ctxs k x } }

/-- CTX_STATE of R212, R227: the descriptor faults, and MBQ records the context number. -/
def State.ctxStateFault (s : State) (k logical : Nat) : Stop :=
  { s := s.raise { page := .mbq, bit := 9, cls := 3, halt := 0x08, addr := k, kind := 3, req := logical }
    bit := errorResponse }

/-- CTX_START (R211, R212). -/
def State.ctxStart (s : State) (k dir vstage : Nat) (mb : Word) (logical : Nat) : Run? State :=
  let x := s.ctx k
  let same := x.mb == mb && x.vstage == vstage
  let reached := match x.st with
    | .free => false
    | .forward => dir == 0
    | .backward => dir == 0 || dir == 1
    | .eval => dir == 2
  if same && reached then .ok s
  else if x.st = .free ∧ dir ≠ 1 then
    .ok (s.setCtx k { x with st := if dir = 0 then .forward else .eval, mb := mb, vstage := vstage
                             captured := false, endPending := false })
  else if x.st = .forward ∧ !x.endPending ∧ dir = 1 ∧ same then .ok (s.setCtx k { x with st := .backward })
  else .error (s.ctxStateFault k logical)

/-- CTX_END (R211, R212). -/
def State.ctxEnd (s : State) (k logical : Nat) : Run? State :=
  let x := s.ctx k
  if x.st = .free then .error (s.ctxStateFault k logical)
  else .ok (s.setCtx k { x with endPending := true })

/-! ### Weight versions (R222 to R235) -/

/-- Whether version a precedes version b (R223). -/
def precedes (a b : Nat) : Bool :=
  let d := (b + 65536 - a % 65536) % 65536
  decide (1 ≤ d ∧ d ≤ 32767)

/-- The record of a weight. -/
def State.weight? (s : State) (id : Nat) : Option Weight := s.ver.weights.find? (fun w => w.id == id)

/-- The state with a weight's record changed. -/
def State.modWeight (s : State) (id : Nat) (f : Weight → Weight) : State :=
  { s with ver := { s.ver with weights := s.ver.weights.map (fun w => if w.id = id then f w else w) } }

/-- The state with a ring position of a weight changed. -/
def State.modPos (s : State) (id k : Nat) (f : Pos → Pos) : State :=
  s.modWeight id (fun w => { w with ring := w.ring.modify k f })

/-- The index of the first element that satisfies a test. -/
def findIdx {α : Type} (p : α → Bool) (l : List α) : Option Nat :=
  (l.zipIdx.find? (fun e => p e.1)).map (·.2)

/-- The ring position in a state. -/
def Weight.posIn (w : Weight) (st : PosState) : Option Nat := findIdx (fun p => p.st == st) w.ring

/-- The version number of the CURRENT position. -/
def Weight.currentVer (w : Weight) : Nat :=
  match w.ring.find? (fun p => p.st == .current) with
  | some p => p.ver
  | none => 0

/-- The ring position that a version number resolves to (R233). -/
def Weight.resolve (w : Weight) (v : Nat) : Option Nat :=
  findIdx (fun p => p.ver == v && (p.st == .current || p.st == .superseded)) w.ring

/-- Local offset of a ring position (R222). -/
def Weight.storage (w : Weight) (k : Nat) : Nat := w.base + k * w.stride

/-- A VER cause of a version request (R233, R242). -/
def State.verCause (s : State) (bt cls halt v w kind req : Nat) : State :=
  s.raise { page := .ver, bit := bt, cls := cls, halt := halt, addr := v % 65536 * 65536 + w % 65536
            kind := kind, req := req }

/-- The fault of a local request whose version does not resolve (R233). -/
def State.versionFault (s : State) (w : Weight) (v logical : Nat) : Stop :=
  if precedes v w.currentVer then
    { s := s.verCause 10 3 0x07 v w.id 3 logical, bit := errorResponse, halt := 0x07 }
  else { s := s.verCause 11 3 0x08 v w.id 3 logical, bit := errorResponse }

/-- Local offset of a context's captured version of a weight (R210). -/
def State.captureAt (s : State) (k id : Nat) : Nat := s.ver.captureBase + 8192 * k + 2 * id

/-- The version captured by a context for a weight (R229, R232). -/
def State.captured (s : State) (k id logical : Nat) : Run? Nat :=
  if !(s.ctx k).captured then
    .error { s := s.verCause 12 3 0x08 0 id 3 logical, bit := errorResponse }
  else
    let a := s.captureAt k id
    if !s.served a then .error { s := s.glbRecord a 3, bit := errorResponse }
    else
      let s' := (s.enter .system a 2).checkRead a 2
      if s'.poisoned a then
        .error { s := (s'.poisonSeen .ver).raise
                   { page := .ver, bit := 18, cls := 4, halt := 0x01, addr := id, kind := 3, req := logical }
                 bit := poisonControl, halt := 0x01 }
      else .ok (s.mem a 2)

/-- A lease taken on a position if it is current. -/
def Pos.lease (p : Pos) : Pos := if p.st = .current then { p with leases := p.leases + 1 } else p

/-- A lease taken on the current version. -/
def Weight.lease (w : Weight) : Weight := { w with ring := w.ring.map Pos.lease }

/-- VCAPTURE (R45, R227, R228). -/
def State.vcapture (s : State) (k logical : Nat) : Run? State :=
  let x := s.ctx k
  if x.captured then .ok s
  else if x.st = .forward ∨ x.st = .eval then
    let ws := s.ver.weights.filter (fun w => w.vstage == x.vstage)
    let full := ws.find? (fun w => w.ring.any (fun p => p.st == .current && decide (255 ≤ p.leases)))
    match full with
    | some w => .error { s := s.verCause 19 3 0x08 w.currentVer w.id 3 logical, bit := errorResponse }
    | none =>
      match ws.find? (fun w => s.hitsImage (s.captureAt k w.id) 2), ws.find? (fun w => !s.served (s.captureAt k w.id)) with
      | some w, _ => .error { s := s.glbRecord (s.captureAt k w.id) 3, bit := boundsFault }
      | none, some w => .error { s := s.glbRecord (s.captureAt k w.id) 3, bit := errorResponse }
      | none, none =>
        let s := s.each ws (fun s w =>
          let s := (s.enter .system (s.captureAt k w.id) 2).write (s.captureAt k w.id) (leBytes w.currentVer 2) false
          s.modWeight w.id Weight.lease)
        .ok (s.setCtx k { x with captured := true })
  else .error (s.ctxStateFault k logical)

/-- A VOPEN or VPUBLISH that fails with PUBLISH_CONFLICT or RING_FULL (R230, R231). -/
def State.publishFault (s : State) (bt v id logical : Nat) : Stop :=
  { s := s.verCause bt 3 0x08 v id 3 logical, bit := errorResponse }

/-- VOPEN (R230). -/
def State.vopen (s : State) (w : Weight) (v logical : Nat) : Run? State :=
  let resident := fun (p : Pos) => p.st == .current || p.st == .superseded || p.st == .pending
  let pend := w.ring.find? (fun p => p.st == .pending)
  if (pend.map (·.ver)) == some v then .ok s
  else if !precedes w.currentVer v || w.ring.any (fun p => resident p && p.ver == v) || pend.isSome then
    .error (s.publishFault 14 v w.id logical)
  else
    match findIdx (fun p => p.st == .empty || p.st == .retired) w.ring with
    | none => .error (s.publishFault 13 v w.id logical)
    | some k => .ok (s.modPos w.id k (fun _ => { st := .pending, ver := v }))

/-- VPUBLISH (R231). -/
def State.vpublish (s : State) (w : Weight) (v retire logical : Nat) : Run? State :=
  match findIdx (fun p => p.st == .pending && p.ver == v) w.ring with
  | none => .error (s.publishFault 14 v w.id logical)
  | some k =>
    match (w.ring.getD k {}).pub with
    | none => .ok (s.modPos w.id k (fun p => { p with pub := some retire }))
    | some r => if r = retire then .ok s else .error (s.publishFault 14 v w.id logical)

/-! ### Version storage and context release at a tick (R225, R232) -/

/-- A capture record read at a tick; no answer where it cannot be read: poisoned, which is poison in version
metadata
(R232), or at a die that is down (R259). The version it leases is then not known, and no lease is released.
(DEDUCED: log entry 69) -/
def State.captureRead (s : State) (a id : Nat) : Option Nat × State :=
  if !s.served a then (none, s.glbRecord a 5)
  else
    let s := (s.enter .system a 2).checkRead a 2
    if s.poisoned a then (none, (s.poisonSeen .ver).verCause 18 4 0x01 0 id 5 0) else (some (s.mem a 2), s)

/-- Step 1 of R225: a context with END_PENDING releases its leases and becomes FREE. -/
def State.releaseCtx (s : State) (k : Nat) : State :=
  let x := s.ctx k
  if !x.endPending then s
  else
    let s := if x.captured then
        s.each (s.ver.weights.filter (fun w => w.vstage == x.vstage)) (fun s w =>
          match s.captureRead (s.captureAt k w.id) w.id with
          | (none, s) => s
          | (some v, s) =>
            match w.resolve v with
            | none => s
            | some i => s.modPos w.id i (fun p => { p with leases := p.leases - 1 }))
      else s
    s.setCtx k { x with st := .free, endPending := false, captured := false }

/-- A position that a publish supersedes, with its retire tick. -/
def Pos.supersede (r : Nat) (q : Pos) : Pos :=
  match q.st with
  | .current => { q with st := .superseded, retire := r }
  | _ => q

/-- A position that becomes current. -/
def Pos.makeCurrent (q : Pos) : Pos := { q with st := .current, leases := 0, pub := none, retire := 0 }

/-- A weight whose position k takes over as current. -/
def Weight.takeOver (k r : Nat) (w : Weight) : Weight :=
  { w with ring := (w.ring.map (Pos.supersede r)).modify k Pos.makeCurrent }

/-- Steps 2 and 3 of R225 for one weight: publishes take effect, other PENDING positions drop. (DEDUCED: log entry
63) -/
def State.publishTick (s : State) (w : Weight) : State :=
  match w.posIn .pending with
  | none => s
  | some k =>
    let p := w.ring.getD k {}
    match p.pub with
    | none => (s.modPos w.id k (fun _ => {})).verCause 16 2 0 p.ver w.id 5 0
    | some r =>
      if p.poison then
        ((s.modPos w.id k (fun _ => {})).verCause 15 3 0x05 p.ver w.id 5 0).poisonSeen .ver
      else
        s.modWeight w.id (Weight.takeOver k r)

/-- A position retired if it may be. -/
def Pos.retireAt (j : Nat) (p : Pos) : Pos :=
  if p.st = .superseded ∧ p.leases = 0 ∧ p.retire ≤ j then { p with st := .retired } else p

/-- Step 4 of R225 for one weight, with the job tick of the new slot. -/
def Weight.retireAt (j : Nat) (w : Weight) : Weight :=
  { w with ring := w.ring.map (Pos.retireAt j) }

/-- What VER and MBQ do at a tick, with the job tick of the new slot (R225). The query registers show the result
(R241). (DEDUCED: log entry 61) -/
def State.versionTick (s : State) (j : Nat) : State :=
  let s := s.each (List.range 48) State.releaseCtx
  let s := s.each s.ver.weights State.publishTick
  let ws := s.ver.weights.map (Weight.retireAt j)
  { s with ver := { s.ver with weights := ws, shown := ws } }

/-! ### Stage queues (R215 to R220) -/

/-- STAMP values EMPTY and LATE (R217). -/
def stampEmpty : Nat := 0xFFFFFFFFFFFFFFFE
def stampLate : Nat := 0xFFFFFFFFFFFFFFFF

/-- A queue record, and the entry of a context in it (R216). -/
def State.queue? (s : State) (q : Nat) : Option Queue := s.mbq.queues[q]?

/-- Entry number of a context (R216). -/
def Queue.entryOf (q : Queue) (x : Ctx) : Nat := x.mb.toNat % q.count

/-- Offset of an entry: local for an inbound queue, the peer's for an outbound one (R216, R219). -/
def Queue.entryOff (q : Queue) (e : Nat) : Nat := q.base + e * q.size

/-- A queue tensor used against R218. -/
def State.queueMisuse (s : State) (q logical : Nat) : Stop :=
  { s := s.raise { page := .mbq, bit := 10, cls := 3, halt := 0x08, addr := q, kind := 3, req := logical }
    bit := boundsFault }

/-- The queue that a tensor's or QCHECK's access goes through, judged under R216 and R218. -/
def State.useQueue (s : State) (q k logical : Nat) (write : Bool) : Run? Queue :=
  match s.queue? q with
  | none => .error { s := s, bit := boundsFault }
  | some r =>
    if r.vstage ≠ (s.ctx k).vstage ∨ decide (2 ≤ r.kind) ≠ write then .error (s.queueMisuse q logical)
    else .ok r

/-- A late read (R220). -/
def State.lateRead (s : State) (hdr logical : Nat) (poison : Bool) : Stop :=
  let s := if poison then s.poisonSeen .mbq else s
  { s := (s.countSat .mbq 0x84 1).raise
      { page := .mbq, bit := 8, cls := 3, halt := 0x06, addr := hdr, req := logical }
    bit := errorResponse }

/-- The consumer check of an inbound entry (R220). -/
def State.queueCheck (s : State) (r : Queue) (k logical : Nat) : Run? State :=
  let x := s.ctx k
  let h := r.entryOff (r.entryOf x)
  match s.firstUnserved h 64 with
  | some g => .error { s := s.glbRecord (max g h) 3, bit := errorResponse }
  | none =>
    let s := (s.enter .system h 64).checkRead h 64
    let stamp := s.mem h 8
    let bad := s.rangePoisoned h 64
    if bad || stamp == stampEmpty || stamp == stampLate || decide (s.jobTick < stamp) ||
        s.mem (h + 8) 4 != x.mb.toNat then .error (s.lateRead h logical bad)
    else .ok s

/-- The 64 header bytes of an entry (R216). -/
def headerBytes (stamp mb vstage dir : Nat) (producer : Nat) (tick : Nat) : List Byte :=
  leBytes stamp 8 ++ leBytes mb 4 ++ leBytes vstage 1 ++ leBytes dir 1 ++ [0, 0] ++ leBytes producer 4 ++
    List.replicate 4 0 ++ leBytes tick 8 ++ List.replicate 32 0

/-- A header written to the peer of an outbound queue (R219): locally where the peer is this device. A failed local
write leaves the header as it was; one that straddles 1 KiB takes two FUs (R311). `span` is what data writes must wait
for. -/
def State.writeHeader (s : State) (r : Queue) (qn e span : Nat) (bytes : List Byte) : State :=
  let d := destOfCoord r.peer
  let a := r.entryOff e
  if d = s.own then
    if s.hitsImage a 64 || (s.firstUnserved a 64).isSome then s.glbRecord a 5
    else (s.enter .system a 64).write a bytes false
  else
    (s.each (fuPieces 64 a 64) (fun s p =>
      let h : OpHdr := { addr := p.1, src := s.own, dlen := p.2 }
      let v := (bytes.drop (p.1 - a)).take p.2
      (s.request (.mbq qn e) d (d * 2 ^ 40 + p.1) (a + span - p.1) false (opFu 0x11 d 0 0 h v)).2)).pump

/-- The outbound entries of the slot, one changed. -/
def State.modOut (s : State) (qn e : Nat) (f : OutEntry → OutEntry) : State :=
  let g := fun (o : OutEntry) => if o.queue = qn ∧ o.entry = e then f o else o
  { s with mbq := { s.mbq with outs := s.mbq.outs.map g } }

/-- The first write of a slot to an outbound entry: its header EMPTY (R219). -/
def State.openEntry (s : State) (qn : Nat) (r : Queue) (k : Nat) : State :=
  let x := s.ctx k
  let e := r.entryOf x
  if s.mbq.outs.any (fun o => o.queue == qn && o.entry == e) then s
  else
    let s := { s with mbq := { s.mbq with
      outs := s.mbq.outs ++ [({ queue := qn, entry := e, mb := x.mb, vstage := x.vstage } : OutEntry)] } }
    s.writeHeader r qn e r.size (headerBytes stampEmpty 0 0 0 0 0)

/-- The full header of one written entry whose data writes have completed (R219). -/
def State.stampEntry (s : State) (o : OutEntry) : State :=
  match s.queue? o.queue with
  | none => s
  | some r =>
    if o.stamped || !o.tags.isEmpty then s
    else
      let late := !s.cad.overrun.isEmpty || s.cad.fatal
      let stamp := if late then stampLate else s.jobTick + 1
      let s := s.modOut o.queue o.entry (fun (o : OutEntry) => { o with stamped := true })
      let s := { s with mbq := { s.mbq with stamps := s.mbq.stamps + 1 } }
      s.writeHeader r o.queue o.entry 64
        (headerBytes stamp o.mb.toNat o.vstage (r.kind % 2) (s.reg .glb 0x9C).toNat s.jobTick)

/-- Every entry that can be stamped, stamped; in the commit window up to the deadline only (R93). -/
def State.stampAll (s : State) : State :=
  if s.tim.window && !s.tim.deadline then s.each s.mbq.outs State.stampEntry else s

end Sys2Proof.Machine
end

