-- ==== Sys2Proof/Machine/Tensor.lean ====
section
/-!
DEFINITION. Tensors (R53 to R60): the tensor table, resolving a tensor's place (R57, R58, R214, R216, R233),
reading and writing elements with their poison, and the core store's lines (R37, R257, R258).
-/

namespace Sys2Proof.Machine

open Sys2Proof

/-! ### Tensor descriptors -/

/-- Element coordinates, or sizes, of the five dimensions. -/
structure Co where
  i0 : Nat
  i1 : Nat
  i2 : Nat
  i3 : Nat
  i4 : Nat
  deriving DecidableEq, Repr

/-- Whether two sizes agree in every dimension. -/
def Co.same (a b : Co) : Bool := a.i0 == b.i0 && a.i1 == b.i1 && a.i2 == b.i2 && a.i3 == b.i3 && a.i4 == b.i4

/-- A tensor descriptor (R54). -/
structure Tens where
  base      : Nat
  scaleBase : Nat
  sizes     : Co
  st1       : Int
  st2       : Int
  st3       : Int
  st4       : Int
  attr      : Nat
  weight    : Nat
  version   : Nat
  vselWord  : Nat
  deriving DecidableEq, Repr

/-- Bits hi:lo of a number. -/
def bits (v hi lo : Nat) : Nat := v / 2 ^ lo % 2 ^ (hi + 1 - lo)

/-- The little-endian number in bytes i to i+n−1 of a list. -/
def numAt (l : List Byte) (i n : Nat) : Nat := leNat ((l.drop i).take n)

/-- A signed 32-bit number in a list of bytes. -/
def intAt (l : List Byte) (i : Nat) : Int := (BitVec.ofNat 32 (numAt l i 4)).toInt

/-- The tensor descriptor in 64 bytes (R54). -/
def Tens.ofBytes (l : List Byte) : Tens :=
  { base := numAt l 0 8, scaleBase := numAt l 8 8
    sizes := ⟨numAt l 16 4, numAt l 20 4, numAt l 24 4, numAt l 28 4, numAt l 32 4⟩
    st1 := intAt l 36, st2 := intAt l 40, st3 := intAt l 44, st4 := intAt l 48
    attr := numAt l 52 4, weight := numAt l 56 2, version := numAt l 58 2, vselWord := numAt l 60 4 }

/-- DIMS (R55). -/
def Tens.dims (t : Tens) : Nat := bits t.attr 12 10

/-- SPACE (R55): 0 GLOBAL, 1 CORE_STORE, 2 QUEUE, 3 STASH. -/
def Tens.space (t : Tens) : Nat := bits t.attr 9 8

/-- PROT (R55). -/
def Tens.prot (t : Tens) : Nat := bits t.attr 7 6

/-- MX (R55). -/
def Tens.mx (t : Tens) : Bool := bits t.attr 4 4 == 1

/-- FORMAT (R55). -/
def Tens.fmtCode (t : Tens) : Nat := bits t.attr 3 0

/-- The element format; LOAD has refused the reserved codes. -/
def Tens.fmt (t : Tens) : Fmt := (Fmt.ofCode t.fmtCode).getD .fp32

/-- NORM_EN (R55). -/
def Tens.normEn (t : Tens) : Bool := bits t.attr 24 24 == 1

/-- NORM_IDX (R55). -/
def Tens.normIdx (t : Tens) : Nat := bits t.attr 23 16

/-- VSEL (R54). -/
def Tens.vsel (t : Tens) : Nat := bits t.vselWord 1 0

/-- SIZE0 to SIZE4, size 1 above DIMS (R59). -/
def Tens.size (t : Tens) : Co :=
  let d := t.dims
  ⟨t.sizes.i0, if d < 2 then 1 else t.sizes.i1, if d < 3 then 1 else t.sizes.i2,
    if d < 4 then 1 else t.sizes.i3, if d < 5 then 1 else t.sizes.i4⟩

/-- Number of rows of dimension 0. -/
def Co.rows (n : Co) : Nat := n.i1 * n.i2 * n.i3 * n.i4

/-- The coordinates of row r in the order of R59, at element 0. -/
def Co.row (n : Co) (r : Nat) : Co :=
  ⟨0, r % n.i1, r / n.i1 % n.i2, r / (n.i1 * n.i2) % n.i3, r / (n.i1 * n.i2 * n.i3)⟩

/-- Every row's coordinates in the order of R59. -/
def Co.allRows (n : Co) : List Co := (List.range n.rows).map n.row

/-- Whether a tensor of these sizes is empty (R59). -/
def Co.empty (n : Co) : Bool := n.i0 * n.rows == 0

/-- The row number of coordinates (R60). -/
def Co.rowNum (n i : Co) : Nat := i.i1 + n.i1 * (i.i2 + n.i2 * (i.i3 + n.i3 * i.i4))

/-- Tensor index within the table (R53). -/
def State.tensorOk (s : State) (idx : Nat) : Bool := decide (64 * idx + 64 ≤ (s.sect 5).2)

/-- Local offset of a tensor descriptor. -/
def State.tensorOff (s : State) (idx : Nat) : Nat := (s.sect 5).1 + 64 * idx

/-- The tensor descriptor of an index. -/
def State.tensor (s : State) (idx : Nat) : Tens := Tens.ofBytes (s.bytes (s.tensorOff idx) 64)

/-- Whether a tensor's address space has an element with a format of fewer than 8 bits. -/
def Tens.nib (t : Tens) (i : Co) : Int :=
  2 * (t.base : Int) + (t.fmt.nibbles : Int) *
    ((i.i0 : Int) + t.st1 * i.i1 + t.st2 * i.i2 + t.st3 * i.i3 + t.st4 * i.i4)

/-! ### Places -/

/-- Where a tensor's addresses lie: the core store, the global address space, or a region that starts at a
global address and has a length (version storage, a queue slot's payload, a stash). -/
inductive Place
  | store
  | glob
  | region (org lim : Nat)
  deriving DecidableEq, Repr

/-- Where one byte lies: `beyond` is a coordinate above its FRT_DIMS field (R309), `out` any other place outside the
tensor's space. -/
inductive Loc
  | cst (n : Nat)
  | mem (off : Nat)
  | far (g : Nat)
  | beyond
  | out
  deriving DecidableEq, Repr

/-- A tensor whose place is resolved. `pend` is the weight and ring position of VSEL NEW, `queue` the outbound queue.
-/
structure Ten where
  t     : Tens
  place : Place
  pend  : Option (Nat × Nat) := none
  queue : Option Nat := none
  deriving DecidableEq, Repr

/-- A global byte address: local, remote or outside FRT_DIMS (R247, R309). -/
def State.globLoc (s : State) (g : Nat) : Loc :=
  if globalDest g = s.own then .mem (globalOff g)
  else if s.coordOk (globalDest g) then .far g
  else .beyond

/-- Where a byte address of a tensor lies (R57). -/
def State.loc (s : State) (p : Place) (a : Int) : Loc :=
  if a < 0 then .out
  else
    let n := a.toNat
    match p with
    | .store => if n < 0x1800000 then .cst n else .out
    | .glob => if n < 2 ^ 64 then s.globLoc n else .out
    | .region org lim => if n < lim then s.globLoc (org + n) else .out

/-- The global address of a local offset. -/
def State.globalOf (s : State) (off : Nat) : Nat := s.own * 2 ^ 40 + off

/-- The version storage that a tensor's VSEL selects (R58, R224, R233). -/
def State.resolveVersion (s : State) (t : Tens) (k logical : Nat) (write : Bool) : Run? (State × Ten) :=
  match s.weight? t.weight with
  | none => .error { s := s, bit := badTensor }
  | some w =>
    let at_ := fun (i : Nat) => Place.region (s.globalOf (w.storage i)) w.len
    if t.vsel = 3 then
      match w.posIn .pending with
      | none => .error { s := s.verCause 20 3 0x08 0 w.id 3 logical, bit := errorResponse }
      | some i => .ok (s, { t := t, place := at_ i, pend := some (w.id, i) })
    else if write then .error { s := s, bit := boundsFault }
    else
      match (if t.vsel = 1 then s.captured k w.id logical else .ok t.version) with
      | .error e => .error e
      | .ok v =>
        match w.resolve v with
        | none => .error (s.versionFault w v logical)
        | some i => .ok (s, { t := t, place := at_ i })

/-- A tensor's place resolved for reading or writing, with the check of an inbound queue (R57, R58, R214, R216, R218,
R220). `k` is the context. -/
def State.resolve (s : State) (t : Tens) (k logical : Nat) (write : Bool) : Run? (State × Ten) :=
  if t.space = 1 then .ok (s, { t := t, place := .store })
  else if t.space = 3 then
    let x := s.ctx k
    .ok (s, { t := t, place := .region (s.globalOf x.stashBase) x.stashLen })
  else if t.space = 2 then
    match s.useQueue (t.base / 2 ^ 48) k logical write with
    | .error e => .error e
    | .ok q =>
      let a := q.entryOff (q.entryOf (s.ctx k)) + 64
      let t' := { t with base := t.base % 2 ^ 32, scaleBase := t.scaleBase % 2 ^ 32 }
      if write then
        .ok (s, { t := t', place := .region (destOfCoord q.peer * 2 ^ 40 + a) (q.size - 64)
                  queue := some (t.base / 2 ^ 48) })
      else
        match s.queueCheck q k logical with
        | .error e => .error e
        | .ok s => .ok (s, { t := t', place := .region (s.globalOf a) (q.size - 64) })
  else if t.vsel = 0 then .ok (s, { t := t, place := .glob })
  else s.resolveVersion t k logical write

/-! ### Accesses of a descriptor -/

/-- What a descriptor does while it runs: the state, the bytes that arrived from other devices and those still wanted
(ranges of global addresses), the writes gathered so far by core-store offset, local offset and global address, the
positions whose storage it writes poisoned, whether it consumed poison, and the fault that stopped it (ERR_STAT bit,
halt cause). From the first byte wanted on nothing more is gathered, as the run is made again once the bytes are
there. `fwd` says that reads look at the writes gathered so far (R266), `acc` that every write is an operation of its
own on the bytes there (R314), with `layers` those already gathered that later ones meet; `mute` that an element lies
beyond FRT_DIMS, and `beats` counts what the vector engine has issued. -/
structure Io where
  s    : State
  c    : CoreId
  got  : Store (Byte × Bool) := []
  want : List (Nat × Nat) := []
  cst  : Store (Byte × Bool) := []
  mem  : Store (Byte × Bool) := []
  far  : Store (Byte × Bool) := []
  newP : List (Nat × Nat) := []
  seen : Bool := false
  stop : Option (Nat × Nat) := none
  fwd  : Bool := false
  acc  : Bool := false
  layers : List (Store (Byte × Bool) × Store (Byte × Bool)) := []
  mute : Bool := false
  beats : Nat := 0
  at_  : Option Nat := none
  deriving DecidableEq, Repr

/-- A run stopped by a fault; the first one counts. -/
def Io.fail (o : Io) (e : Stop) : Io :=
  if o.stop.isSome then o else { o with s := e.s, stop := some (e.bit, e.halt) }

/-- Whether the run has been stopped. -/
def Io.stopped (o : Io) : Bool := o.stop.isSome

/-- A fold over a list that ends at a fault. -/
def Io.each {α : Type} (o : Io) : List α → (Io → α → Io) → Io
  | [], _ => o
  | x :: l, f => if o.stopped then o else (f o x).each l f

/-- A global range wanted, joined to the last one where it continues it. -/
def addWant (g : Nat) (l : List (Nat × Nat)) : List (Nat × Nat) :=
  match l with
  | (b, n) :: m => if g = b + n then (b, n + 1) :: m else (g, 1) :: (b, n) :: m
  | [] => [(g, 1)]

/-- Offset of a line's mark in the core's tables. -/
def lineOf (n : Nat) : Nat := n / 64

/-! ### Writes reach their places -/

/-- The core-store lines of a table of writes. -/
def linesOf (m : Store (Byte × Bool)) : List Nat := (m.map (fun e => lineOf e.1)).eraseDups

/-- The writes of one line reach the core store (R37, R256, R257): zero fill, marks, poison, clean tag. -/
def Core.writeLine (x : Core) (m : Store (Byte × Bool)) (l : Nat) : Core :=
  let here := m.filter (fun e => lineOf e.1 == l)
  let whole := here.length == 64
  let fresh := !Store.get (fun _ => false) x.written l
  let p := here.any (fun e => e.2.2)
  let old := !whole && !fresh && Store.get (fun _ => false) x.lpoison l
  let base := if fresh then Store.setMany (fun _ => 0) x.cst (64 * l) (List.replicate 64 0) else x.cst
  { x with
    cst := here.foldl (fun t e => Store.set (fun _ => 0) t e.1 e.2.1) base
    written := Store.set (fun _ => false) x.written l true
    lpoison := Store.set (fun _ => false) x.lpoison l (p || old)
    clean := Store.set (fun _ => none) x.clean l none
    badLines := x.badLines.filter (· != l) }

/-- Clean tags whose source the core writes are cleared (R257). -/
def Core.untag (x : Core) (m : Store (Byte × Bool)) : Core :=
  let hit := fun (t : CleanTag) => m.any (fun e => decide (t.off ≤ e.1 ∧ e.1 < t.off + 64))
  let keep := fun (t : Option CleanTag) => match t with
    | some t => if hit t then none else some t
    | none => none
  { x with clean := Store.mapVals (fun _ => none) (fun _ t => keep t) x.clean }

/-- Poison of a write through VSEL NEW recorded (R232). -/
def State.markNew (s : State) (e : Nat × Nat) : State := s.modPos e.1 e.2 (fun p => { p with poison := true })

/-- The local writes of a descriptor carried out: core store, memory, the poison that R232 records. -/
def Io.flush (o : Io) : State :=
  let s := if o.cst.isEmpty then o.s
    else o.s.modCore o.c (fun x => (linesOf o.cst).foldl (fun x l => x.writeLine o.cst l) x)
  let s := if o.mem.isEmpty then s
    else ((s.modCore o.c (fun x => x.untag o.mem)).enterCells (.core o.c) o.mem).writeCells o.mem.length o.mem
  s.each o.newP.eraseDups State.markNew

/-! ### Reads -/

/-- A table with a value at a key. -/
def Store.put {α : Type} (m : Store α) (k : Nat) (v : α) : Store α := Store.insert (Store.erase m k) k v

/-- A core-store line whose CRC fails (R258): refetched when clean, poisoned otherwise. -/
def State.badLine (s : State) (c : CoreId) (l : Nat) : State :=
  let s := s.modCore c (fun x => { x with badLines := x.badLines.filter (· != l) })
  match Store.get (fun _ => none) (s.core c).clean l with
  | some tag =>
    let s := (s.enter (.core c) tag.off 64).checkRead tag.off 64
    let v := s.bytes tag.off 64
    let p := s.rangePoisoned tag.off 64
    let s := s.modCore c (fun x => { x with
      cst := Store.setMany (fun _ => 0) x.cst (64 * l) v
      lpoison := Store.set (fun _ => false) x.lpoison l p })
    (s.countSat (.cst c) 0x84 1).raise
      { page := .cst c, bit := 8, cls := 1, addr := 64 * l, kind := 4, req := c.val }
  | none =>
    let s := s.modCore c (fun x => { x with lpoison := Store.set (fun _ => false) x.lpoison l true })
    (s.countSat (.cst c) 0x88 1).raise
      { page := .cst c, bit := 9, cls := 2, addr := 64 * l, kind := 4, req := c.val }

/-- A line's CRC check before a read. -/
def State.checkLine (s : State) (c : CoreId) (l : Nat) : State :=
  if (s.core c).badLines.contains l then s.badLine c l else s

/-- The source of a clean line that must be refetched, where it is not served any more (R258, R259). -/
def State.refetchDown (s : State) (c : CoreId) (l : Nat) : Option Nat :=
  if (s.core c).badLines.contains l then
    match Store.get (fun _ => none) (s.core c).clean l with
    | some tag => if s.servedTo c tag.off then none else some tag.off
    | none => none
  else none

/-- One byte of the core's own store read (R37, R257, R258). -/
def Io.readCst (o : Io) (n : Nat) : (Byte × Bool) × Io :=
  let l := lineOf n
  if !Store.get (fun _ => false) (o.s.core o.c).written l then
    ((0, false), o.fail { s := o.s, bit := staleCst })
  else if let some a := o.s.refetchDown o.c l then
    ((0, false), o.fail { s := o.s.glbRecord a 3, bit := errorResponse })
  else
    let s := o.s.checkLine o.c l
    let x := s.core o.c
    ((Store.get (fun _ => 0) x.cst n, Store.get (fun _ => false) x.lpoison l), { o with s := s })

/-- One byte of local HBM read; the bytes of a 1 KiB range that a run reads in turn are one request (R254, R259,
R261). (DESIGN CHOICE: log entry 38) -/
def Io.readMem (o : Io) (off : Nat) : (Byte × Bool) × Io :=
  if !o.s.servedTo o.c off then
    ((0, false), o.fail { s := o.s.glbRecord off 3, bit := errorResponse })
  else
    let same := o.at_ == some (off / 64)
    let near := o.at_.map (fun b => b / 16) == some (off / 1024)
    let s := if same then o.s else if near then o.s.countGrant (o.s.stackOf off) 1 else o.s.enter (.core o.c) off 1
    let s := s.checkRead off 1
    ((s.byte off, s.poisoned off), { o with s := s, at_ := some (off / 64) })

/-- A run stopped by an element beyond FRT_DIMS: its operation sends nothing (R309). -/
def Io.failMute (o : Io) : Io := { o.fail { s := o.s, bit := boundsFault } with mute := true }

/-- The writes gathered so far carried out before a read of a block that they meet, where the run asks for it
(R266). -/
def Io.caughtUp (o : Io) (m : Store (Byte × Bool)) (n : Nat) : Io :=
  if o.fwd && o.want.isEmpty && m.any (fun e => lineOf e.1 == lineOf n) then { o with s := o.flush, cst := [], mem := [], newP := [] } else o

/-- One byte read; a remote byte that has not arrived is wanted. -/
def Io.readByte (o : Io) (l : Loc) : (Byte × Bool) × Io :=
  if o.stopped then ((0, false), o)
  else
    match l with
    | .cst n => (o.caughtUp o.cst n).readCst n
    | .mem off => (o.caughtUp o.mem off).readMem off
    | .far g =>
      match o.got.find? (fun e => e.1 == g) with
      | some e => (e.2, o)
      | none => ((0, false), { o with want := addWant g o.want })
    | .beyond => ((0, false), o.failMute)
    | .out => ((0, false), o.fail { s := o.s, bit := boundsFault })

/-- Bytes at consecutive addresses of a tensor read: their number, whether any is poisoned. -/
def Io.readBytes (o : Io) (p : Place) (a : Int) : Nat → (Nat × Bool) × Io
  | 0 => ((0, false), o)
  | n + 1 =>
    let r := o.readByte (o.s.loc p a)
    let q := r.2.readBytes p (a + 1) n
    ((r.1.1.toNat + 256 * q.1.1, r.1.2 || q.1.2), q.2)

/-- Byte address of the scale of an element (R60). -/
def Tens.scaleAt (t : Tens) (i : Co) : Int :=
  (t.scaleBase + t.size.rowNum i * ((t.size.i0 + 31) / 32) + i.i0 / 32 : Nat)

/-- The element code of a tensor alone (R56). -/
def Io.readCode (o : Io) (T : Ten) (i : Co) : (Nat × Bool) × Io :=
  let a := T.t.nib i
  if T.t.fmt = .fp4 then
    let r := o.readBytes T.place (a / 2) 1
    ((r.1.1 / (if a % 2 = 0 then 1 else 16) % 16, r.1.2), r.2)
  else o.readBytes T.place (a / 2) (T.t.fmt.nibbles / 2)

/-- An element read, with its scale where MX = 1. -/
def Io.readEl (o : Io) (T : Ten) (i : Co) : El × Io :=
  let r := o.readCode T i
  if T.t.mx then
    let q := r.2.readBytes T.place (T.t.scaleAt i) 1
    ({ code := r.1.1, scale := some q.1.1, p := r.1.2 || q.1.2 }, q.2)
  else ({ code := r.1.1, p := r.1.2 }, r.2)

/-! ### Writes gathered -/

/-- A check of a byte about to be written (R45, R57, R259): the protected range first. -/
def Io.checkWrite (o : Io) (l : Loc) : Io :=
  if o.stopped then o
  else
    match l with
    | .beyond => o.failMute
    | .out => o.fail { s := o.s, bit := boundsFault }
    | .mem off =>
      if o.s.hitsImage off 1 then o.fail { s := o.s.glbRecord off 3, bit := boundsFault }
      else if !o.s.servedTo o.c off then o.fail { s := o.s.glbRecord off 3, bit := errorResponse }
      else o
    | _ => o

/-- One byte gathered for writing. (DESIGN CHOICE: log entry 73) -/
def Io.putByte (o : Io) (T : Ten) (l : Loc) (v : Byte × Bool) : Io :=
  let o := if v.2 && T.pend.isSome then { o with newP := T.pend.toList ++ o.newP } else o
  match l with
  | .cst n => { o with cst := Store.put o.cst n v }
  | .mem off => { o with mem := Store.put o.mem off v }
  | .far g => { o with far := Store.put o.far g v }
  | .beyond => o
  | .out => o

/-- Whether a write to a place has been gathered. -/
def Io.holds (o : Io) (l : Loc) : Bool :=
  match l with
  | .cst n => o.cst.any (fun e => e.1 == n)
  | .mem off => o.mem.any (fun e => e.1 == off)
  | .far g => o.far.any (fun e => e.1 == g)
  | .beyond => false
  | .out => false

/-- The byte locations from an address on. -/
def State.locs (s : State) (p : Place) (a : Int) (n : Nat) : List Loc :=
  (List.range n).map (fun (k : Nat) => s.loc p (a + (k : Int)))

/-- Consecutive bytes of a tensor checked and gathered for writing: none of them if one may not be written. -/
def Io.writeBytes (o : Io) (T : Ten) (a : Int) (v : List (Byte × Bool)) : Io :=
  let ls := o.s.locs T.place a v.length
  let o := o.each ls Io.checkWrite
  if o.stopped || !o.want.isEmpty then o
  else
    let o := if o.acc && ls.any o.holds then { o with layers := o.layers ++ [(o.mem, o.far)], mem := [], far := [] }
      else o
    (ls.zip v).foldl (fun o e => o.putByte T e.1 e.2) o

/-- The bytes of consecutive dimension-0 element codes, each with its poison (R56). -/
def codeBytes (f : Fmt) : List (Nat × Bool) → List (Byte × Bool)
  | [] => []
  | e :: l =>
    if f = .fp4 then
      match l with
      | [] => [(BitVec.ofNat 8 (e.1 % 16), e.2)]
      | e' :: l => (BitVec.ofNat 8 (e.1 % 16 + 16 * (e'.1 % 16)), e.2 || e'.2) :: codeBytes f l
    else (leBytes e.1 (f.nibbles / 2)).map (fun b => (b, e.2)) ++ codeBytes f l

/-- Consecutive elements of one row written from coordinates `i` on, with the scales of their blocks. -/
def Io.writeEls (o : Io) (T : Ten) (i : Co) (codes scales : List (Nat × Bool)) : Io :=
  let o := o.writeBytes T (T.t.nib i / 2) (codeBytes T.t.fmt codes)
  if T.t.mx && !o.stopped then
    o.writeBytes T (T.t.scaleAt i) (scales.map (fun e => (BitVec.ofNat 8 e.1, e.2)))
  else o

/-- The next elements of a row whose codes fill whole bytes: one, of FP4 two (R56). -/
def Fmt.step (f : Fmt) : Nat := if f = .fp4 then 2 else 1

/-! ### Atomic operations (R314) -/

/-- The larger (0) or smaller (1) of two values in a float format, bit for bit; a NaN gives the format's NaN
(R186, R314). -/
def chooseFloat (f : Fmt) (op old new : Nat) : Nat :=
  let a := f.val old
  let b := f.val new
  if a = .nan ∨ b = .nan then f.nanCode
  else if (if op = 0 then orderedLt a b else orderedLt b a) then new else old

/-- The larger or smaller of two INT32 codes. -/
def chooseInt (op old new : Nat) : Nat :=
  let lt := decide ((BitVec.ofNat 32 old).toInt < (BitVec.ofNat 32 new).toInt)
  if (if op = 0 then lt else !lt) then new else old

/-- One element of an atomic operation of a fabric type (R314): ADD_F32, ADD_I32, REDUCE. -/
def combineEl (type op fmt old new : Nat) : Nat :=
  if type = 0x12 then (fadd true (BitVec.ofNat 32 old) (BitVec.ofNat 32 new)).toNat
  else if type = 0x13 then (old + new) % 2 ^ 32
  else if fmt = 7 then chooseInt op old new
  else chooseFloat (if fmt = 2 then .bf16 else .fp32) op old new

/-- Bytes of a list after an atomic operation on elements of `size` bytes. -/
def combineBytes (type op fmt size : Nat) : Nat → List Byte → List Byte → List Byte
  | 0, _, _ => []
  | n + 1, old, new =>
    leBytes (combineEl type op fmt (leNat (old.take size)) (leNat (new.take size))) size ++
      combineBytes type op fmt size n (old.drop size) (new.drop size)

/-- An atomic add or reduce-write on consecutive elements at a local offset (R267, R312, R314). -/
def State.combine (s : State) (off type op fmt : Nat) (l : List (Byte × Bool)) : State :=
  let size := if type = 0x14 ∧ fmt = 2 then 2 else 4
  let s := s.checkRead off l.length
  let new := combineBytes type op fmt size (l.length / size) (s.bytes off l.length) (l.map (·.1))
  s.writeP off (new.zipIdx.map (fun e => (e.1, (l.getD e.2 (0, false)).2 || s.poisoned (off + e.2))))

/-- The runs of consecutive addresses of a table. -/
def runsOf : Store (Byte × Bool) → List (Nat × List (Byte × Bool))
  | [] => []
  | (a, v) :: m =>
    match runsOf m with
    | (b, l) :: r => if b = a + 1 then (a, v :: l) :: r else (a, [v]) :: (b, l) :: r
    | [] => [(a, [v])]

/-- Atomic operations of a core on gathered values of its own device; a clean tag whose source they change is
cleared (R257, R314). -/
def State.combineAll (s : State) (c : CoreId) (type op fmt : Nat) (m : Store (Byte × Bool)) : State :=
  if m.isEmpty then s
  else ((s.modCore c (fun x => x.untag m)).enterCells (.core c) m).each (runsOf m) (fun s e => s.combine e.1 type op fmt e.2)

/-- The remote writes of a descriptor requested with an operation type; answers their numbers (R219, R311). -/
def State.farWrites (s : State) (owner : ReqOwner) (m : Store (Byte × Bool)) (type op fmt : Nat) :
    List Nat × State :=
  let r := (runsOf m).foldl (fun (r : List Nat × State) e =>
    let q := r.2.requestWrites owner e.1 e.2 type op fmt
    (r.1 ++ q.1, q.2)) ([], s)
  (r.1, r.2.pump)

end Sys2Proof.Machine
end

