-- ==== Sys2Proof/Machine/Sequencer.lean ====
section
/-!
DEFINITION. The descriptor sequencer (R46 to R52, R111, R112, R565): fetching the next descriptor of a core's
list, its faults, its issue, and the sequencer's own operations.
-/

namespace Sys2Proof.Machine

open Sys2Proof

/-- A descriptor about to issue: its 64 bytes as a number (bit 0 is bit 0 of byte 0), its position in the list and its
image offset in 64-byte units. -/
structure Desc where
  raw : Nat
  pos : Nat
  off : Nat
  deriving DecidableEq, Repr

/-- The number in bytes i to i+n−1 of a descriptor. -/
def Desc.num (d : Desc) (i n : Nat) : Nat := d.raw / 2 ^ (8 * i) % 2 ^ (8 * n)

/-- A byte of a descriptor. -/
def Desc.byte (d : Desc) (i : Nat) : Nat := d.num i 1

/-- OPCODE (R47). -/
def Desc.op (d : Desc) : Nat := d.byte 0

/-- SEQ (R47). -/
def Desc.seq (d : Desc) : Nat := d.num 6 2

/-- CTX_VALID (R47). -/
def Desc.ctxValid (d : Desc) : Bool := bits d.raw 30 30 == 1

/-- CTX (R47). -/
def Desc.ctx (d : Desc) : Nat := bits d.raw 29 24

/-- Whether the WAIT bit of a unit is set (R47). -/
def Desc.waits (d : Desc) : UnitId → Bool
  | .seq => false
  | .arr => bits d.raw 8 8 == 1
  | .vec => bits d.raw 9 9 == 1
  | .cdma => bits d.raw 10 10 == 1
  | .fab => bits d.raw 11 11 == 1
  | .ver => bits d.raw 12 12 == 1

/-- Whether the reserved bits of the header word are zero (R47). -/
def Desc.headerOk (d : Desc) : Bool := bits d.raw 47 31 == 0 && bits d.raw 15 13 == 0

/-- Whether every byte of 8 to 63 outside the listed ones is zero. -/
def Desc.restZero (d : Desc) (used : List Nat) : Bool :=
  (List.range 56).all (fun i => used.contains (i + 8) || d.byte (i + 8) == 0)

/-- Whether CTX is in range where it counts (R47). -/
def Desc.ctxOk (d : Desc) : Bool := !d.ctxValid || decide (d.ctx < 48)

/-- The opcodes that are not reserved (R48). -/
def opcodes : List Nat :=
  [0x00, 0x01, 0x02, 0x10, 0x20, 0x21, 0x22, 0x23, 0x24, 0x25, 0x26, 0x27, 0x28, 0x29, 0x2A, 0x30, 0x31,
    0x32, 0x33, 0x38, 0x39, 0x3A, 0x3B, 0x3C, 0x3D, 0x3E, 0x3F, 0x40, 0x44, 0x45, 0x46, 0x47, 0x48, 0x49] ++
  [0x4C, 0x4D, 0x4E, 0x4F, 0x50, 0x54, 0x55, 0x56, 0x57, 0x58, 0x5C, 0x5D, 0x60, 0x61, 0x70, 0x71, 0x72,
    0x73, 0x80, 0x81, 0x82, 0x83, 0x90, 0x91, 0x92, 0x93, 0xA0, 0xA1, 0xA2, 0xA4, 0xA5, 0xB8]

/-- The unit of an opcode (R111). -/
def unitOf (op : Nat) : UnitId :=
  if op < 0x10 then .seq
  else if op < 0x20 then .arr
  else if op < 0x60 then .vec
  else if op < 0x70 then .cdma
  else if op < 0x80 then .fab
  else if op < 0x90 then .ver
  else if op < 0xB0 then .fab
  else .seq

/-- The tensor indices that a descriptor names. -/
def Desc.tensors (d : Desc) : List Nat :=
  let op := d.op
  if op = 0x10 then
    [d.num 8 2, d.num 10 2] ++ (if d.byte 14 / 2 % 2 = 1 then [] else [d.num 12 2])
  else if 0x20 ≤ op ∧ op < 0x60 then
    [8, 12, 16, 20].filterMap (fun i => if bits (d.num i 4) 17 16 = 1 then some (d.num i 2) else none)
  else if op = 0x61 ∨ op = 0xA5 then [d.num 10 2]
  else if op = 0x81 then [d.num 14 2]
  else if op = 0x60 ∨ op = 0x73 ∨ (0x90 ≤ op ∧ op ≤ 0xA4) then [d.num 8 2, d.num 10 2]
  else []

/-- What becomes of a descriptor that is tried: it is held back, or it issues with its effect and, unless it
completes at once, its entry among those in flight. -/
abbrev Try := Run? (Option (State × Option InFlight))

/-- The run from which a core may issue now: the job runs a slot whose commit window has not opened (R90), the
core is
no husk and not halted, and its list has neither ended nor faulted (R51, R52, R138). (DESIGN CHOICE: log entry 11) -/
def State.active? (s : State) (c : CoreId) : Option Run :=
  let x := s.core c
  if s.inSlot && !s.tim.window && x.cause == 0 && !x.halt then
    match x.run with
    | some r => if r.ended || r.faulted then none else some r
    | none => none
  else none

/-- The image offset of the descriptor that a run issues next. -/
def Run.at (r : Run) : Nat := r.base + r.pos

/-- Local offset of an image offset in 64-byte units. -/
def State.descAddr (s : State) (off : Nat) : Nat := s.imageBase + 64 * off

/-- A core's descriptor pointer set. -/
def State.setPtr (s : State) (c : CoreId) (off : Nat) : State := s.modCore c (fun x => { x with ptr := off })

/-- The run of a core marked as faulted. -/
def Core.faultRun (x : Core) : Core := { x with run := x.run.map (fun r => { r with faulted := true }) }

/-- The repair piece that a core runs, if it runs one, enters a state (R101). -/
def State.markPiece (s : State) (c : CoreId) (st : PieceState) : State :=
  match (s.core c).run with
  | some r =>
    match r.piece with
    | some i => { s with cad := { s.cad with pieces := s.cad.pieces.modify i (fun p => { p with st := st }) } }
    | none => s
  | none => s

/-- A descriptor fault of a core at an image offset (R52). (DESIGN CHOICE: log entry 11) -/
def State.descFault (s : State) (c : CoreId) (off logical bt halt : Nat) : State :=
  let s := ((s.markPiece c .faulted).modCore c Core.faultRun).setPtr c off
  s.raise { page := .core c, bit := bt, cls := if bt = poisonControl then 4 else 3
            halt := if bt = poisonControl then 0x01 else halt
            addr := s.descAddr off, kind := 3, req := logical }

/-- Whether the WAIT bits of a descriptor are met (R49). -/
def Core.waitsMet (x : Core) (d : Desc) : Bool := x.fly.all (fun e => !d.waits e.unit)

/-- Descriptors of a unit that are in flight. -/
def Core.inUnit (x : Core) (u : UnitId) : Nat := (x.fly.filter (fun e => decide (e.unit = u))).length

/-- Whether an entry waits in the queue of a unit (R112). -/
def InFlight.waitsIn (e : InFlight) (u : UnitId) : Bool := decide (e.unit = u) && decide (e.phase = .queued)

/-- Descriptors of a unit that have issued and not yet started (R112). -/
def Core.queued (x : Core) (u : UnitId) : Nat := (x.fly.filter (fun e => e.waitsIn u)).length

/-- Queue depths (R111); the sequencer has no queue. -/
def queueDepth : UnitId → Option Nat
  | .seq => none
  | .arr => some 2
  | .vec => some 4
  | .cdma => some 16
  | .fab => some 32
  | .ver => some 8

/-- Whether the issue queue of a unit is full (R111). -/
def Core.queueFull (x : Core) (u : UnitId) : Bool := (queueDepth u).any (fun n => decide (n ≤ x.queued u))

/-- Whether a unit cannot start its next descriptor yet: an earlier one is still in its queue, or has not all the
bytes that it reads (R112, R193, R266). (DESIGN CHOICE: log entry 64) -/
def Core.unitBusy (x : Core) (u : UnitId) : Bool :=
  x.fly.any (fun e => decide (e.unit = u) && (decide (e.phase = .queued) || decide (e.phase = .fetch)))

/-- A descriptor issued: the pointer, the position, and its entry in flight. -/
def Core.issued (x : Core) (off : Nat) (e : Option InFlight) : Core :=
  { x with ptr := off, run := x.run.map (fun r => { r with pos := r.pos + 1 }), fly := x.fly ++ e.toList }

/-- The next descriptor of a core, which must have the given opcode, tried (R46, R49, R112, R565). Faults of the
descriptor itself are found when it is next in order, before its WAIT bits and its queue are looked at. (DESIGN
CHOICE: log entry 12; DEDUCED: log entry 60) -/
def State.issue (s : State) (c : CoreId) (op : Nat) (body : Desc → Nat → State → Try) : State :=
  match s.active? c with
  | none => s
  | some r =>
    let off := r.at
    let a := s.descAddr off
    let ds := s.sect 4
    if a < ds.1 ∨ ds.1 + ds.2 < a + 64 then s.descFault c off r.logical boundsFault 0x08
    else if !s.servedTo c a then (s.glbRecord a 3).descFault c off r.logical errorResponse 0x08
    else
      let s1 := (s.enter (.core c) a 64).checkRead a 64
      if s1.poisoned a then (s1.poisonSeen (.core c)).descFault c off r.logical poisonControl 0x01
      else
        let d : Desc := { raw := s1.mem a 64, pos := r.pos, off := off }
        let ts := d.tensors.filter s1.tensorOk
        let s2 := s1.each ts (fun s i => (s.enter (.core c) (s.tensorOff i) 64).checkRead (s.tensorOff i) 64)
        if ts.any (fun i => s2.poisoned (s2.tensorOff i)) then
          (s2.poisonSeen (.core c)).descFault c off r.logical poisonControl 0x01
        else if d.seq ≠ r.pos then s2.descFault c off r.logical 9 0x08
        else if !opcodes.contains d.op then s2.descFault c off r.logical badOpcode 0x08
        else if d.op ≠ op then s
        else if !(s.core c).waitsMet d || (s.core c).queueFull (unitOf op) then s
        else
          match body d r.logical s2 with
          | .error e => e.s.descFault c off r.logical e.bit e.halt
          | .ok none => s
          | .ok (some t) => t.1.modCore c (fun x => x.issued off t.2)

/-! ### Common checks -/

/-- The header and context checks of R565 items 3 and 4, around an opcode's own operand check. (DESIGN CHOICE: log
entries 8, 11) -/
def Desc.check (d : Desc) (s : State) (fieldsOk needCtx : Bool) : Run? Unit :=
  if !d.headerOk || !fieldsOk then .error { s := s, bit := badOpcode }
  else if !d.ctxOk || (needCtx && !d.ctxValid) then .error { s := s, bit := badTensor }
  else .ok ()

/-- The slot kind now. -/
def State.kindIn (s : State) (l : List SlotKind) : Bool := l.contains s.cad.kind

/-- The context check of a tensor: SPACE QUEUE and STASH, and VSEL CAPTURED, need CTX_VALID (R57, R58). -/
def Desc.tensorCtx (d : Desc) (t : Tens) : Bool :=
  d.ctxValid || !(t.space == 2 || t.space == 3 || t.vsel == 1)

/-- The slot-kind check of a tensor: queues in COMPUTE and EVAL (R31), VSEL NEW in STEP_BOUNDARY (R58). -/
def State.tensorKind (s : State) (t : Tens) : Bool :=
  (t.space != 2 || s.kindIn [.compute, .eval]) && (t.vsel != 3 || s.kindIn [.stepBoundary])

/-! ### The sequencer's own operations -/

/-- NOP (R48). -/
def Desc.nop (d : Desc) (s : State) : Try := do
  d.check s (d.restZero []) false
  return some (s, none)

/-- The clean tags that a FENCE of scope DEVICE or HALL leaves: those of version storage (R257). -/
def Core.fenceTags (x : Core) : Core :=
  let keep := fun (t : Option CleanTag) => match t with
    | some t => if t.version then some t else none
    | none => none
  { x with clean := Store.mapVals (fun _ => none) (fun _ t => keep t) x.clean }

/-- FENCE (R50). -/
def Desc.fence (d : Desc) (c : CoreId) (s : State) : Try := do
  d.check s (d.restZero [8] && decide (d.byte 8 ≤ 2)) false
  if !(s.core c).fly.isEmpty then return none
  return some (if d.byte 8 = 0 then s else s.modCore c Core.fenceTags, none)

/-- An accepted descriptor's run marked as ended. -/
def Core.endRun (x : Core) : Core := { x with run := x.run.map (fun r => { r with ended := true }) }

/-- END (R51): a list, or a repair piece, is done. -/
def Desc.endList (d : Desc) (c : CoreId) (s : State) : Try := do
  d.check s (d.restZero []) false
  if !(s.core c).fly.isEmpty then return none
  return some ((s.markPiece c .done).modCore c Core.endRun, none)

/-! ### In flight -/

/-- A descriptor's entry in flight. -/
def Desc.inFlight (d : Desc) (tags : List Nat := []) (held : Bool := false) : InFlight :=
  { unit := unitOf d.op, desc := BitVec.ofNat 512 d.raw, pos := d.pos, off := d.off, tags := tags
    held := held }

/-- A descriptor's entry in its unit's queue (R112). -/
def Desc.queuedEntry (d : Desc) (upsets : List Upset := []) : InFlight :=
  { d.inFlight with phase := .queued, upsets := upsets }

/-- Whether the collective engine or the ring forwarder has room for an operation of an opcode (R332, R334). -/
def State.roomFor (s : State) (op : Nat) : Bool :=
  if 0xA0 ≤ op ∧ op ≤ 0xA2 then decide (s.col.ops.length < 16)
  else if op = 0xA4 then decide ((s.col.rings.filter (fun x => !x.full)).length < 8)
  else true

/-- A descriptor that has passed its checks issues: it starts at once, or waits in its unit's queue (R112). -/
def Desc.enter (d : Desc) (c : CoreId) (s : State) (start : State → Run? (State × Option InFlight)) : Try :=
  if (s.core c).unitBusy (unitOf d.op) || !s.roomFor d.op then .ok (some (s, some d.queuedEntry))
  else
    match start s with
    | .error e => .error e
    | .ok r => .ok (some r)

/-- An entry in flight taken in: it replaces the one of its unit and position, if there is one. -/
def Core.putFly (x : Core) (e : InFlight) : Core :=
  { x with fly := (x.fly.filter (fun k => !(decide (k.unit = e.unit) && k.pos == e.pos))) ++ [e] }

/-- The descriptor of an entry in flight. -/
def InFlight.toDesc (e : InFlight) : Desc := { raw := e.desc.toNat, pos := e.pos, off := e.off }

/-- Whether an entry in flight may complete: nothing outstanding and not held (R50, R91). -/
def InFlight.ready (e : InFlight) : Bool := decide (e.phase = .issued) && e.tags.isEmpty && !e.held

/-- The entry in flight of a unit at a position changed. -/
def Core.modFly (x : Core) (u : UnitId) (pos : Nat) (f : InFlight → InFlight) : Core :=
  { x with fly := x.fly.map (fun e => if e.unit = u ∧ e.pos = pos then f e else e) }

/-- The entry in flight of a unit at a position. -/
def Core.flyAt (x : Core) (u : UnitId) (pos : Nat) : Option InFlight :=
  x.fly.find? (fun e => decide (e.unit = u) && e.pos == pos)

/-- The entry in flight of a unit at a position taken out. -/
def Core.dropFly (x : Core) (u : UnitId) (pos : Nat) : Core :=
  { x with fly := x.fly.filter (fun e => !(decide (e.unit = u) && e.pos == pos)) }

/-- The oldest descriptor of a unit that has started (R49). -/
def Core.oldest (x : Core) (u : UnitId) : Option InFlight :=
  x.fly.find? (fun e => decide (e.unit = u) && !decide (e.phase = .queued))

/-- A descriptor of a unit that is ready completes (R49). -/
def State.completeEntry (s : State) (c : CoreId) (u : UnitId) (e : InFlight) : State :=
  if e.ready then
    let s := s.modCore c (fun x => x.dropFly u e.pos)
    if u = .vec then s.countWrap (.vec c) 0x84 1 else s
  else s

/-- The logical core whose work a core runs. -/
def State.logicalOf (s : State) (c : CoreId) : Nat :=
  match (s.core c).run with
  | some r => r.logical
  | none => 0xFF

/-- Reads of wanted ranges requested from other devices (R311); answers their numbers. -/
def State.fetchFar (s : State) (owner : ReqOwner) (l : List (Nat × Nat)) : List Nat × State :=
  let r := l.reverse.foldl (fun (r : List Nat × State) e =>
    let q := r.2.requestReads owner e.1 e.2
    (r.1 ++ q.1, q.2)) ([], s)
  (r.1, r.2.pump)

/-- Requests outstanding for an outbound entry noted on it (R219). -/
def OutEntry.addTags (l : List Nat) (o : OutEntry) : OutEntry := { o with tags := o.tags ++ l }

/-- The first writes of a slot to outbound entries, by queue and context (R219). -/
def State.openOuts (s : State) (outs : List (Nat × Nat)) : State :=
  s.each outs (fun s e => match s.queue? e.1 with
    | none => s
    | some q => s.openEntry e.1 q e.2)

/-- The outstanding writes of a descriptor noted on its outbound entries. -/
def State.noteOuts (s : State) (outs : List (Nat × Nat)) (ids : List Nat) : State :=
  s.each outs (fun s e => match s.queue? e.1 with
    | none => s
    | some q => s.modOut e.1 (q.entryOf (s.ctx e.2)) (OutEntry.addTags ids))

/-- The writes of a descriptor carried out, local and remote; answers the requests outstanding. -/
def Io.commit (o : Io) (d : Desc) (page : Blk) (outs : List (Nat × Nat)) (type op fmt : Nat) :
    List Nat × State :=
  let wrote := !(o.cst.isEmpty && o.mem.isEmpty && o.far.isEmpty)
  let o := if wrote then { o with s := o.s.openOuts outs } else o
  let all := o.layers ++ [(o.mem, o.far)]
  let s := if type = 0x11 then o.flush
    else ({ o with mem := [] } : Io).flush.each (all.map (·.1)) (fun s m => s.combineAll o.c type op fmt m)
  let s := if o.seen then s.poisonSeen page else s
  let r := all.foldl (fun (r : List Nat × State) m =>
    let q := r.2.farWrites (.core o.c (unitOf d.op) d.pos) m.2 type op fmt
    (r.1 ++ q.1, q.2)) ([], s)
  (r.1, if wrote then r.2.noteOuts outs r.1 else r.2)

/-- The requests that a descriptor leaves behind when it ends in a fault or with its core: writes among them that
are still outstanding at the deadline are late (R91, R105). -/
def State.leaveBehind (s : State) (logical off : Nat) (tags : List Nat) : State :=
  { s with cad := { s.cad with lost := s.cad.lost ++ tags.map (fun t => (t, logical, off)) } }

/-- The writes of a descriptor that ends in a fault after having made them. -/
def Io.commitLost (o : Io) (d : Desc) (page : Blk) (outs : List (Nat × Nat)) (type op fmt : Nat) : State :=
  let r := o.commit d page outs type op fmt
  r.2.leaveBehind (r.2.logicalOf o.c) d.off r.1

/-- What follows a descriptor's run from state `s0`: bytes of other devices that are wanted are fetched first
(R57), a
fault leaves what was written before it (R178), and otherwise its writes are carried out. With an element beyond
FRT_DIMS the operation sends nothing (R309). The page is that of its unit, `outs` the outbound entries it writes;
type, OP and FMT are those of remote writes (R310). (DESIGN CHOICE: log entry 12; DEDUCED: log entry 60) -/
def State.finish (s0 : State) (o : Io) (d : Desc) (page : Blk) (outs : List (Nat × Nat))
    (type : Nat := 0x11) (op : Nat := 0) (fmt : Nat := 0) : Run? (State × InFlight) :=
  let far := !o.want.isEmpty
  match o.stop with
  | some e =>
    if o.mute then
      .error { s := ({ o with far := [], layers := [] } : Io).commitLost d page outs type op fmt
               bit := e.1, halt := e.2 }
    else if far then
      let r := s0.fetchFar (.core o.c (unitOf d.op) d.pos) o.want
      .ok (r.2, { d.inFlight r.1 with phase := .fetch, got := o.got })
    else .error { s := o.commitLost d page outs type op fmt, bit := e.1, halt := e.2 }
  | none =>
    if far then
      let r := s0.fetchFar (.core o.c (unitOf d.op) d.pos) o.want
      .ok (r.2, { d.inFlight r.1 with phase := .fetch, got := o.got })
    else
      let r := o.commit d page outs type op fmt
      .ok (r.2, { d.inFlight r.1 with writes := true })

/-- A finished run as what a start gives. -/
def asStart (r : Run? (State × InFlight)) : Run? (State × Option InFlight) :=
  match r with
  | .error e => .error e
  | .ok (s, e) => .ok (s, some e)

/-- A descriptor in flight takes a fault (R52); the writes that it has sent stay outstanding. -/
def State.flyFault (s : State) (c : CoreId) (e : InFlight) (bt halt : Nat) : State :=
  ((s.modCore c (fun x => x.dropFly e.unit e.pos)).leaveBehind (s.logicalOf c) e.off
    (if e.writes then e.tags else [])).descFault c e.off (s.logicalOf c) bt halt

end Sys2Proof.Machine
end

