-- ==== Sys2Proof/Machine/Vector.lean ====
section
/-!
DEFINITION. The vector engine's operands, values and trees (R171 to R184, R194, R195, R204): what every vector
operation is made of.
-/

namespace Sys2Proof.Machine

open Sys2Proof

/-! ### Operands (R172, R175 to R177) -/

/-- A vector operand: an immediate, a tensor, a vector register or a tile register. -/
inductive Opd
  | imm (w : Word)
  | ten (T : Ten)
  | vreg (n : Nat)
  | treg (n : Nat)
  deriving DecidableEq, Repr

/-- SIZE0 to SIZE4 of an operand (R172). -/
def Opd.size : Opd → Co
  | .imm _ => ⟨1, 1, 1, 1, 1⟩
  | .ten T => T.t.size
  | .vreg _ => ⟨128, 1, 1, 1, 1⟩
  | .treg _ => ⟨128, 128, 1, 1, 1⟩

/-- Format of an operand as a float opcode sees it (R172). -/
def Opd.fmt : Opd → Fmt
  | .ten T => T.t.fmt
  | _ => .fp32

/-- Whether an operand uses MX. -/
def Opd.mx : Opd → Bool
  | .ten T => T.t.mx
  | _ => false

/-- Whether an operand is an immediate. -/
def Opd.isImm : Opd → Bool
  | .imm _ => true
  | _ => false

/-- Whether an operand is a register. -/
def Opd.isReg : Opd → Bool
  | .vreg _ => true
  | .treg _ => true
  | _ => false

/-- Whether an operand is a V register. -/
def Opd.isV : Opd → Bool
  | .vreg _ => true
  | _ => false

/-- Whether an operand is a T register. -/
def Opd.isT : Opd → Bool
  | .treg _ => true
  | _ => false

/-- Whether an operand is a tensor. -/
def Opd.isTen : Opd → Bool
  | .ten _ => true
  | _ => false

/-- DIMS of an operand. -/
def Opd.dims : Opd → Nat
  | .ten T => T.t.dims
  | .treg _ => 2
  | _ => 1

/-- A vector descriptor's operands and parameters. `b0`, `b1`, `b2` are the BCAST fields; `g` is true in
Granite. -/
structure Vop where
  op    : Nat
  g     : Bool
  dst   : Opd
  s0    : Opd
  s1    : Opd
  s2    : Opd
  b0    : Nat
  b1    : Nat
  b2    : Nat
  imm0  : Word
  imm1  : Word
  seed  : Word
  subop : Nat
  acc   : Bool
  round : Bool
  deriving DecidableEq, Repr

/-- An operand reference (R176). -/
def Desc.ref (d : Desc) (i : Nat) : Nat := d.num i 4

/-- The operand that a reference names; `w` is the immediate. -/
def State.opd (s : State) (r : Nat) (w : Word) : Opd :=
  let k := bits r 17 16
  if k = 0 then .imm w
  else if k = 1 then .ten { t := s.tensor (bits r 15 0), place := .glob }
  else if k = 2 then .vreg (bits r 15 0)
  else .treg (bits r 15 0)

/-- ARR_MODE.GRANITE of a core (R153). -/
def State.granite (s : State) (c : CoreId) : Bool := s.flag (.arr c) 0x80 0

/-- The vector descriptor read. -/
def Desc.vop (d : Desc) (s : State) (c : CoreId) : Vop :=
  let w := fun (i : Nat) => BitVec.ofNat 32 (d.num i 4)
  { op := d.op, g := s.granite c
    dst := s.opd (d.ref 8) 0, s0 := s.opd (d.ref 12) 0
    s1 := s.opd (d.ref 16) (w 24), s2 := s.opd (d.ref 20) (w 28)
    b0 := bits (d.ref 12) 19 18, b1 := bits (d.ref 16) 19 18, b2 := bits (d.ref 20) 19 18
    imm0 := w 24, imm1 := w 28, seed := w 32, subop := bits (d.num 36 4) 15 8
    acc := bits (d.num 36 4) 1 1 == 1, round := bits (d.num 36 4) 0 0 == 1 }

/-- Coordinates with another first one. -/
def Co.at0 (i : Co) (k : Nat) : Co := { i with i0 := k }

/-- Source coordinates from walk coordinates (R174). -/
def bcast (b : Nat) (i : Co) : Co :=
  if b = 0 then i
  else if b = 1 then ⟨i.i0, 0, 0, 0, 0⟩
  else if b = 2 then ⟨0, i.i1, i.i2, i.i3, i.i4⟩
  else ⟨0, 0, 0, 0, 0⟩

/-- Whether dimensions 1 to 4 agree. -/
def Co.sameRows (a b : Co) : Bool := a.i1 == b.i1 && a.i2 == b.i2 && a.i3 == b.i3 && a.i4 == b.i4

/-- The shape rule of a source against the walk tensor (R174). -/
def shapeOk (x : Opd) (b : Nat) (w : Co) : Bool :=
  let n := x.size
  x.isImm ||
  (if b = 0 then n.same w
   else if b = 1 then n.i0 == w.i0
   else if b = 2 then n.sameRows w && decide (1 ≤ n.i0)
   else !n.empty)

/-! ### Values (R180 to R182) -/

/-- A result before it is written: an FP32 value, a 32-bit integer, or bits that move unchanged. -/
inductive Val
  | f (w : Word)
  | i (w : Word)
  | raw (code : Nat)
  deriving DecidableEq, Repr

/-- An element as a float opcode reads it, in FP32 (R180). -/
def El.word (e : El) (f : Fmt) (g : Bool) : Word :=
  match e.scale with
  | some sc => fl g (mxVal f g sc e.code)
  | none => fl g (f.read g e.code)

/-- An element as an integer opcode reads it (R180, R188). -/
def El.int (e : El) (f : Fmt) : Word :=
  match f with
  | .int8 => BitVec.signExtend 32 (BitVec.ofNat 8 e.code)
  | _ => BitVec.ofNat 32 e.code

/-- One register lane read. -/
def regEl (v : Store Word) (p : Store Bool) (k : Nat) : El :=
  { code := (Store.get (fun _ => 0) v k).toNat, p := Store.get (fun _ => false) p k }

/-- The element of an operand at its own coordinates. -/
def Io.opdEl (o : Io) (x : Opd) (i : Co) : El × Io :=
  let q := o.s.core o.c
  let r : El × Io := match x with
    | .imm w => ({ code := w.toNat }, o)
    | .ten T => o.readEl T i
    | .vreg n => (regEl q.v q.vp (128 * n + i.i0), o)
    | .treg n => (regEl q.t q.tp (16384 * n + 128 * i.i1 + i.i0), o)
  if r.1.p then (r.1, { r.2 with seen := true }) else r

/-- A source's element for a walk coordinate. -/
def Io.src (o : Io) (x : Opd) (b : Nat) (i : Co) : El × Io := o.opdEl x (bcast b i)

/-- A source's FP32 value and poison. -/
def Io.srcF (o : Io) (v : Vop) (x : Opd) (b : Nat) (i : Co) : (Word × Bool) × Io :=
  let r := o.src x b i
  ((r.1.word x.fmt v.g, r.1.p), r.2)

/-- A source's integer value and poison. -/
def Io.srcI (o : Io) (x : Opd) (b : Nat) (i : Co) : (Word × Bool) × Io :=
  let r := o.src x b i
  ((r.1.int x.fmt, r.1.p), r.2)

/-- The exact value of a result (R181). -/
def Val.num (g : Bool) : Val → Num
  | .f w => rd g w
  | .i w => Num.ofInt w.toInt
  | .raw _ => .zero

/-- A result as the code of a format without MX (R181). -/
def Val.code (v : Val) (f : Fmt) (g : Bool) (r : Rnd) : Nat :=
  match v with
  | .raw c => c
  | .i w =>
    match f with
    | .int32 => w.toNat
    | .int8 => intCode 8 (satInt 8 w.toInt)
    | f => f.conv g r (Num.ofInt w.toInt)
  | .f w => f.conv g r (rd g w)

/-- A result as a register word. -/
def Val.word : Val → Word
  | .f w => w
  | .i w => w
  | .raw c => BitVec.ofNat 32 c

/-- The rounding of the element at a coordinate of DST (R166, R177). -/
def Vop.rnd (v : Vop) (i : Co) : Rnd :=
  if v.round then
    .sr (srHash v.seed ([i.i0, i.i1, i.i2, i.i3, i.i4].map (BitVec.ofNat 32))).toNat
  else .rne

/-- The blocks of at most 32 of a list. -/
def chunks {α : Type} (n : Nat) : Nat → List α → List (List α)
  | 0, _ => []
  | k + 1, l => if l.isEmpty then [] else l.take n :: chunks n k (l.drop n)

/-- One quantised block: its codes, its scale, and the poison that all of them share (R169, R184). -/
def quantise (f : Fmt) (g : Bool) (l : List (Val × Bool × Rnd)) : List (Nat × Bool) × (Nat × Bool) :=
  let p := l.any (fun e => e.2.1)
  let x := l.map (fun e => (e.1.num g, e.2.2))
  let sc := mxScale f (x.map (·.1))
  ((mxCodes f g sc x).map (fun c => (c, p)), (sc, p))

/-- Codes and scales of the results of one beat. -/
def encodeBeat (f : Fmt) (mx g : Bool) (l : List (Val × Bool × Rnd)) :
    List (Nat × Bool) × List (Nat × Bool) :=
  if mx then
    let q := (chunks 32 4 l).map (quantise f g)
    (q.flatMap (·.1), q.map (·.2))
  else (l.map (fun e => (e.1.code f g e.2.2, e.2.1)), [])

/-! ### The lane tree (R194, R195) -/

/-- One level of the tree. -/
def pairUp (op : Word → Word → Word) : List Word → List Word
  | a :: b :: l => op a b :: pairUp op l
  | l => l

/-- The levels of the tree over 2^n lanes. -/
def laneTree (op : Word → Word → Word) : Nat → List Word → Word
  | 0, l => l.headD 0
  | n + 1, l => laneTree op n (pairUp op l)

/-- The tree over up to 128 lanes, masked ones holding the identity. -/
def beatTree (op : Word → Word → Word) (idn : Word) (l : List Word) : Word :=
  laneTree op 7 (l ++ List.replicate (128 - l.length) idn)

/-- Reductions: 0 sum, 1 max, 2 min. -/
def redOp (g : Bool) (k : Nat) : Word → Word → Word :=
  if k = 0 then fadd g else if k = 1 then fmax g else fmin g

/-- The identity of a reduction (R194). -/
def redIdn (k : Nat) : Word := if k = 0 then 0x80000000 else if k = 1 then 0xFF800000 else 0x7F800000

/-- A row reduced in the order of R194. -/
def redRow (g : Bool) (k : Nat) (l : List Word) : Word :=
  if l.isEmpty then (if k = 0 then 0 else redIdn k)
  else (chunks 128 l.length l).foldl (fun r b => redOp g k r (beatTree (redOp g k) (redIdn k) b)) (redIdn k)

/-! ### Writing a beat (R181, R184, R204) -/

/-- A norm accumulator increased by the squares of one beat (R204). -/
def State.normAdd (s : State) (c : CoreId) (idx : Nat) (g : Bool) (l : List (Word × Bool)) : State :=
  let t := beatTree (fadd g) 0x80000000 (l.map (fun e => fmul g e.1 e.1))
  let p := l.any (·.2)
  s.modCore c (fun x => { x with
    na := Store.set (fun _ => 0) x.na idx (fadd g (Store.get (fun _ => 0) x.na idx) t)
    nap := Store.set (fun _ => false) x.nap idx (p || Store.get (fun _ => false) x.nap idx) })

/-- Elements as they were stored, decoded to FP32 (R204). -/
def decodeBeat (f : Fmt) (mx g : Bool) (codes scales : List (Nat × Bool)) : List (Word × Bool) :=
  codes.zipIdx.map (fun e =>
    let el : El := { code := e.1.1, p := e.1.2
                     scale := if mx then (scales[e.2 / 32]?).map (·.1) else none }
    (el.word f g, el.p))

/-- Consecutive lanes of a V register written. -/
def Core.putV (x : Core) (n lane : Nat) (l : List (Word × Bool)) : Core :=
  { x with v := Store.setMany (fun _ => 0) x.v (128 * n + lane) (l.map (·.1))
           vp := Store.setMany (fun _ => false) x.vp (128 * n + lane) (l.map (·.2)) }

/-- Consecutive columns of a row of a T register written. -/
def Core.putT (x : Core) (n row col : Nat) (l : List (Word × Bool)) : Core :=
  { x with t := Store.setMany (fun _ => 0) x.t (16384 * n + 128 * row + col) (l.map (·.1))
           tp := Store.setMany (fun _ => false) x.tp (16384 * n + 128 * row + col) (l.map (·.2)) }

/-- The results of consecutive elements of a row written to an operand from coordinates `i` on. -/
def Io.putVals (o : Io) (g : Bool) (rnd : Co → Rnd) (x : Opd) (i : Co) (l : List (Val × Bool)) : Io :=
  if o.stopped || !o.want.isEmpty then o
  else
    match x with
    | .imm _ => o
    | .vreg n =>
      let ws := l.map (fun e => (e.1.word, e.2))
      { o with s := o.s.modCore o.c (fun q => q.putV n i.i0 ws) }
    | .treg n =>
      let ws := l.map (fun e => (e.1.word, e.2))
      { o with s := o.s.modCore o.c (fun q => q.putT n i.i1 i.i0 ws) }
    | .ten T =>
      let l' := l.zipIdx.map (fun e => (e.1.1, e.1.2, rnd (i.at0 (i.i0 + e.2))))
      let b := encodeBeat T.t.fmt T.t.mx g l'
      let o := o.writeEls T i b.1 b.2
      if T.t.normEn && !o.stopped then
        { o with s := o.s.normAdd o.c T.t.normIdx g (decodeBeat T.t.fmt T.t.mx g b.1 b.2) }
      else o

/-- The starts of the beats of a row. -/
def beatsOf (n : Nat) : List Nat := (List.range ((n + 127) / 128)).map (fun b => 128 * b)

/-- The lanes of a beat that are not masked. -/
def lanesOf (n b : Nat) : List Nat := (List.range (min 128 (n - b))).map (fun l => b + l)

/-- Values computed one after another from the run. -/
def Io.collect {α β : Type} (o : Io) (f : Io → α → β × Io) : List α → List β × Io
  | [] => ([], o)
  | x :: l =>
    let r := f o x
    let q := r.2.collect f l
    (r.1 :: q.1, q.2)

/-- A beat issued (R208). -/
def Io.beat (o : Io) : Io := if o.stopped then o else { o with beats := o.beats + 1 }

/-- What the elements of a row give, one beat after the other (R173). -/
def Io.rowBeats {β : Type} (o : Io) (f : Io → Nat → β × Io) (n : Nat) : List β × Io :=
  let r := o.collect (fun o b =>
    let q := o.collect f (lanesOf n b)
    (q.1, q.2.beat)) (beatsOf n)
  (r.1.flatten, r.2)

/-- An operand whose writes add to no norm accumulator (R204). -/
def Opd.noNorm : Opd → Opd
  | .ten T => .ten { T with t := { T.t with attr := T.t.attr - bits T.t.attr 24 24 * 2 ^ 24 } }
  | x => x

/-- An element-wise operation over the walk of DST, beat by beat (R173). -/
def Io.ewise (o : Io) (v : Vop) (f : Io → Co → (Val × Bool) × Io) : Io :=
  let n := v.dst.size
  o.each n.allRows (fun o row =>
    o.each (beatsOf n.i0) (fun o b =>
      let r := o.collect (fun o l => f o (row.at0 l)) (lanesOf n.i0 b)
      (r.2.putVals v.g v.rnd v.dst (row.at0 b) r.1).beat))

/-- The FP32 values of one row of a source, and whether any is poisoned. -/
def Io.rowF (o : Io) (v : Vop) (x : Opd) (row : Co) : (List Word × Bool) × Io :=
  let r := o.rowBeats (fun o l => o.srcF v x 0 (row.at0 l)) x.size.i0
  ((r.1.map (·.1), r.1.any (·.2)), r.2)

/-- NaN, +0 and 1.0 in FP32. -/
def fNan : Word := 0x7FC00000
def fZero : Word := 0
def fOne : Word := 0x3F800000

end Sys2Proof.Machine
end

