-- ==== Sys2Proof/Machine/VectorOps.lean ====
section
/-!
DEFINITION. The vector operations (R185 to R207): one run function for each opcode, the checks of R178, and
the start of a vector descriptor.
-/

namespace Sys2Proof.Machine

open Sys2Proof

/-! ### Element-wise operations (R185 to R188) -/

/-- One operand through a function of FP32 values. -/
def Io.el1 (o : Io) (v : Vop) (f : Word → Word) : Io :=
  o.ewise v (fun o i =>
    let a := o.srcF v v.s0 v.b0 i
    ((.f (f a.1.1), a.1.2), a.2))

/-- Two operands. -/
def Io.el2 (o : Io) (v : Vop) (f : Word → Word → Word) : Io :=
  o.ewise v (fun o i =>
    let a := o.srcF v v.s0 v.b0 i
    let b := a.2.srcF v v.s1 v.b1 i
    ((.f (f a.1.1 b.1.1), a.1.2 || b.1.2), b.2))

/-- Two integer operands. -/
def Io.elInt (o : Io) (v : Vop) (f : Word → Word → Word) : Io :=
  o.ewise v (fun o i =>
    let a := o.srcI v.s0 v.b0 i
    let b := a.2.srcI v.s1 v.b1 i
    ((.i (f a.1.1 b.1.1), a.1.2 || b.1.2), b.2))

/-- Whether the operation only moves bits from the given sources (R182). -/
def Vop.moves (v : Vop) (from_ : List Opd) : Bool :=
  from_.all (fun x => decide (x.fmt = v.dst.fmt)) && [v.dst, v.s0, v.s1, v.s2].all (fun x => !x.mx)

/-- A source's element moved: its bits, or its value (R182). -/
def Io.move (o : Io) (v : Vop) (asBits : Bool) (x : Opd) (i : Co) : (Val × Bool) × Io :=
  let r := o.opdEl x i
  ((if asBits then .raw r.1.code else .f (r.1.word x.fmt v.g), r.1.p), r.2)

/-- COPY. -/
def runCopy (v : Vop) (o : Io) : Io := o.ewise v (fun o i => o.move v (v.moves [v.s0]) v.s0 (bcast v.b0 i))

/-- ADD. -/
def runAdd (v : Vop) (o : Io) : Io := o.el2 v (fadd v.g)

/-- SUB. -/
def runSub (v : Vop) (o : Io) : Io := o.el2 v (fsub v.g)

/-- MUL. -/
def runMul (v : Vop) (o : Io) : Io := o.el2 v (fmul v.g)

/-- FMA. -/
def runFma (v : Vop) (o : Io) : Io :=
  o.ewise v (fun o i =>
    let a := o.srcF v v.s0 v.b0 i
    let b := a.2.srcF v v.s1 v.b1 i
    let c := b.2.srcF v v.s2 v.b2 i
    ((.f (ffma v.g a.1.1 b.1.1 c.1.1), a.1.2 || b.1.2 || c.1.2), c.2))

/-- MIN (R186). -/
def runMin (v : Vop) (o : Io) : Io := o.el2 v (fmin v.g)

/-- MAX (R186). -/
def runMax (v : Vop) (o : Io) : Io := o.el2 v (fmax v.g)

/-- ABS (R186). -/
def runAbs (v : Vop) (o : Io) : Io := o.el1 v (fun a => if isNan a then fNan else a &&& 0x7FFFFFFF)

/-- NEG (R186). -/
def runNeg (v : Vop) (o : Io) : Io := o.el1 v (fun a => if isNan a then fNan else a ^^^ 0x80000000)

/-- Whether a value is ±0 or NaN. -/
def noChoice (g : Bool) (a : Word) : Bool := isNan a || (rd g a).isZero

/-- SELECT: the value not chosen is not consumed (R186). -/
def runSelect (v : Vop) (o : Io) : Io :=
  o.ewise v (fun o i =>
    let a := o.srcF v v.s0 v.b0 i
    let m := v.moves [v.s1, v.s2]
    let r := if noChoice v.g a.1.1 then a.2.move v m v.s2 (bcast v.b2 i) else a.2.move v m v.s1 (bcast v.b1 i)
    ((r.1.1, r.1.2 || a.1.2), r.2))

/-- The comparison of CMP: 0 EQ, 1 NE, 2 LT, 3 LE. -/
def cmpHolds (k : Nat) (a b : Num) : Bool :=
  if k = 0 then a.eq b
  else if k = 1 then !a.eq b
  else if k = 2 then a.lt b
  else a.lt b || a.eq b

/-- CMP (R185, R186). -/
def runCmp (v : Vop) (o : Io) : Io :=
  o.el2 v (fun a b => if cmpHolds v.subop (rd v.g a) (rd v.g b) then fOne else fZero)

/-- EXP2 (R187). -/
def runExp2 (v : Vop) (o : Io) : Io := o.el1 v (fexp2 v.g)

/-- LOG2 (R187). -/
def runLog2 (v : Vop) (o : Io) : Io := o.el1 v (flog2 v.g)

/-- RECIP (R187). -/
def runRecip (v : Vop) (o : Io) : Io := o.el1 v (frecip v.g)

/-- RSQRT (R187). -/
def runRsqrt (v : Vop) (o : Io) : Io := o.el1 v (frsqrt v.g)

/-- IADD (R188). -/
def runIadd (v : Vop) (o : Io) : Io := o.elInt v (fun a b => a + b)

/-- ISUB (R188). -/
def runIsub (v : Vop) (o : Io) : Io := o.elInt v (fun a b => a - b)

/-- IMUL (R188). -/
def runImul (v : Vop) (o : Io) : Io := o.elInt v (fun a b => a * b)

/-- IMIN (R188). -/
def runImin (v : Vop) (o : Io) : Io := o.elInt v (fun a b => if a.toInt ≤ b.toInt then a else b)

/-- IMAX (R188). -/
def runImax (v : Vop) (o : Io) : Io := o.elInt v (fun a b => if a.toInt ≤ b.toInt then b else a)

/-- IAND (R188). -/
def runIand (v : Vop) (o : Io) : Io := o.elInt v (fun a b => a &&& b)

/-- IOR (R188). -/
def runIor (v : Vop) (o : Io) : Io := o.elInt v (fun a b => a ||| b)

/-- IXOR (R188). -/
def runIxor (v : Vop) (o : Io) : Io := o.elInt v (fun a b => a ^^^ b)

/-- A shift by the amount in bits 4:0: 0 left, 1 logical right, 2 arithmetic right. -/
def shiftWord (k : Nat) (a b : Word) : Word :=
  let n := b.toNat % 32
  if k = 0 then a <<< n else if k = 1 then a >>> n else a.sshiftRight n

/-- ISHIFT (R188). -/
def runIshift (v : Vop) (o : Io) : Io := o.elInt v (shiftWord v.subop)

/-! ### Moves within rows and registers (R189 to R192) -/

/-- PERM (R189). -/
def runPerm (v : Vop) (o : Io) : Io :=
  o.ewise v (fun o i =>
    let a := o.srcI v.s1 v.b1 i
    let j := a.1.1.toInt
    let m := v.moves [v.s0]
    if j < 0 ∨ (v.s0.size.i0 : Int) ≤ j then ((if m then .raw 0 else .f fZero, a.1.2), a.2)
    else
      let r := a.2.move v m v.s0 ((bcast v.b0 i).at0 j.toNat)
      ((r.1.1, r.1.2 || a.1.2), r.2))

/-- The source of lane l under a SHUFFLE pattern: whether it is SRC1, and the lane (R190). -/
def shuffleFrom (k p l : Nat) : Bool × Nat :=
  if k = 0 then (false, l ^^^ (2 ^ p))
  else if k = 1 then (false, (l + p) % 128)
  else if k = 2 then (l % 2 == 1, l / 2)
  else if k = 3 then (l % 2 == 1, 64 + l / 2)
  else if k = 4 then (decide (64 ≤ l), 2 * (l % 64))
  else (decide (64 ≤ l), 2 * (l % 64) + 1)

/-- SHUFFLE (R190). -/
def runShuffle (v : Vop) (o : Io) : Io :=
  o.ewise v (fun o i =>
    let e := shuffleFrom v.subop v.imm0.toNat i.i0
    let r := o.opdEl (if e.1 then v.s1 else v.s0) (i.at0 e.2)
    ((.raw r.1.code, r.1.p), r.2))

/-- The format that PACK and UNPACK name (R191). -/
def Vop.packFmt (v : Vop) : Fmt := (Fmt.ofCode v.imm0.toNat).getD .fp16

/-- Bytes as 32-bit lanes, each with its poison. -/
def lanesOfBytes : Nat → List (Byte × Bool) → List (Val × Bool)
  | 0, _ => []
  | n + 1, l =>
    (.raw (leNat ((l.take 4).map (·.1))), (l.take 4).any (·.2)) :: lanesOfBytes n (l.drop 4)

/-- PACK (R191). -/
def runPack (v : Vop) (o : Io) : Io :=
  let f := v.packFmt
  let size := f.nibbles / 2
  let r := o.rowBeats (fun o l => o.srcF v v.s0 0 ⟨l, 0, 0, 0, 0⟩) 128
  let bs := r.1.zipIdx.flatMap (fun e =>
    (leBytes (f.conv v.g (v.rnd ⟨e.2, 0, 0, 0, 0⟩) (rd v.g e.1.1)) size).map (fun b => (b, e.1.2)))
  r.2.putVals v.g v.rnd v.dst ⟨v.imm1.toNat * 32 * size, 0, 0, 0, 0⟩ (lanesOfBytes (32 * size) bs)

/-- UNPACK (R191). -/
def runUnpack (v : Vop) (o : Io) : Io :=
  let f := v.packFmt
  let size := f.nibbles / 2
  let r := o.collect (fun o l => o.opdEl v.s0 ⟨v.imm1.toNat * 32 * size + l, 0, 0, 0, 0⟩) (List.range (32 * size))
  let bs := r.1.flatMap (fun e => (leBytes e.code 4).map (fun b => (b, e.p)))
  let el := fun (i : Nat) =>
    let l := (bs.drop (size * i)).take size
    (Val.f (fl v.g (f.read v.g (leNat (l.map (·.1))))), l.any (·.2))
  r.2.beat.putVals v.g v.rnd v.dst ⟨0, 0, 0, 0, 0⟩ ((List.range 128).map el)

/-- The class code of a stored element (R192). -/
def classCode (f : Fmt) (e : El) : Nat :=
  if e.scale = some 255 then 0
  else
    match f.val e.code with
    | .nan => 0
    | .inf n => if n then 1 else 8
    | .fin n m _ =>
      if !f.isFloat then (if m = 0 then 5 else if n then 2 else 7)
      else if m = 0 then (if n then 4 else 5)
      else if f ≠ .e8m0 ∧ e.code % 2 ^ (f.width - 1) < 2 ^ f.mbits then (if n then 3 else 6)
      else (if n then 2 else 7)

/-- CLASS (R192). -/
def runClass (v : Vop) (o : Io) : Io :=
  o.ewise v (fun o i =>
    let a := o.src v.s0 v.b0 i
    ((.i (BitVec.ofNat 32 (classCode v.s0.fmt a.1)), a.1.p), a.2))

/-- A 32-bit count added to an old value, saturating (R192). -/
def countAdd (old : Word) (n : Nat) : Word := BitVec.ofInt 32 (min (2 ^ 31 - 1) (old.toInt + n))

/-- COUNT (R192). -/
def runCount (v : Vop) (o : Io) : Io :=
  let n := v.s0.size
  let q := o.collect (fun o row => o.rowBeats (fun o k => o.opdEl v.s0 (row.at0 k)) n.i0) n.allRows
  let r := (q.1.flatten, q.2)
  let cs := r.1.map (classCode v.s0.fmt)
  let p := r.1.any (·.p)
  let lanes := List.range 16
  let old := if v.acc then r.2.collect (fun o l => o.srcI v.dst 0 ⟨l, 0, 0, 0, 0⟩) lanes
    else (lanes.map (fun _ => (0, false)), r.2)
  let out := (lanes.zip old.1).map (fun e =>
    (Val.i (countAdd e.2.1 (cs.filter (· == e.1)).length), p || e.2.2))
  old.2.putVals v.g v.rnd v.dst ⟨0, 0, 0, 0, 0⟩ out

/-! ### Reductions (R194 to R196) -/

/-- A reduction of every row of SRC0 to one DST element. -/
def Io.reduce (o : Io) (v : Vop) (k : Nat) (f : Word → Word) : Io :=
  o.each v.s0.size.allRows (fun o row =>
    let r := o.rowF v v.s0 row
    let x := redRow v.g k (r.1.1.map f)
    let old := if v.acc then r.2.srcF v v.dst 0 row else ((0, false), r.2)
    let y := if v.acc then redOp v.g k old.1.1 x else x
    old.2.putVals v.g v.rnd v.dst row [(.f y, r.1.2 || old.1.2)])

/-- RED_SUM. -/
def runRedSum (v : Vop) (o : Io) : Io := o.reduce v 0 id

/-- RED_MAX. -/
def runRedMax (v : Vop) (o : Io) : Io := o.reduce v 1 id

/-- RED_MIN. -/
def runRedMin (v : Vop) (o : Io) : Io := o.reduce v 2 id

/-- RED_SUMSQ. -/
def runRedSumsq (v : Vop) (o : Io) : Io := o.reduce v 0 (fun a => fmul v.g a a)

/-- TRED (R196). -/
def runTred (v : Vop) (o : Io) : Io :=
  let k := v.subop % 4
  let cols := v.subop / 16 % 2 = 1
  let r := o.collect (fun o e =>
    let r := o.collect (fun o i =>
      o.srcF v v.s0 0 (if cols then ⟨e, i, 0, 0, 0⟩ else ⟨i, e, 0, 0, 0⟩)) (List.range 128)
    ((redRow v.g k (r.1.map (·.1)), r.1.any (·.2)), r.2.beat)) (List.range 128)
  let old := if v.acc then r.2.collect (fun o e => o.srcF v v.dst 0 ⟨e, 0, 0, 0, 0⟩) (List.range 128)
    else (r.1, r.2)
  let out := (r.1.zip old.1).map (fun e =>
    if v.acc then (Val.f (redOp v.g k e.2.1 e.1.1), e.1.2 || e.2.2) else (Val.f e.1.1, e.1.2))
  old.2.putVals v.g v.rnd v.dst ⟨0, 0, 0, 0, 0⟩ out

/-! ### Softmax (R197 to R200) -/

/-- What a row of SMX_UPDATE gives: the values p, and M, L and ALPHA. -/
def smxRow (g : Bool) (c mOld lOld : Word) (x : List Word) : List Word × Word × Word × Word :=
  let sc := x.map (fun a => fmul g a c)
  let mNew := fmax g mOld (redRow g 1 sc)
  if isNan mNew || isNan lOld then (x.map (fun _ => fNan), fNan, fNan, fNan)
  else
    let eq := fun (a b : Word) => (rd g a).eq (rd g b)
    let alpha := if eq mOld mNew then fOne else fexp2 g (fsub g mOld mNew)
    let p := sc.map (fun a =>
      if mNew = 0xFF800000 then fZero else if eq a mNew then fOne else fexp2 g (fsub g a mNew))
    (p, mNew, fadd g (fmul g lOld alpha) (redRow g 0 p), alpha)

/-- Results written beat by beat along a row. -/
def Io.putRow (o : Io) (v : Vop) (row : Co) (l : List (Val × Bool)) : Io :=
  o.each (beatsOf l.length) (fun o b => o.putVals v.g v.rnd v.dst (row.at0 b) ((l.drop b).take 128))

/-- SMX_UPDATE (R198). -/
def runSmxUpdate (v : Vop) (o : Io) : Io :=
  if v.dst.size.empty then o
  else
    o.each v.dst.size.allRows (fun o row =>
      let x := o.rowF v v.s0 row
      let m := x.2.srcF v v.s1 0 row
      let l := m.2.srcF v v.s1 0 (row.at0 1)
      let p := x.1.2 || m.1.2 || l.1.2
      let r := smxRow v.g v.imm0 m.1.1 l.1.1 x.1.1
      let o := l.2.putRow v row (r.1.map (fun a => (.f a, p)))
      o.putVals v.g (fun _ => .rne) v.s1.noNorm row [(.f r.2.1, p), (.f r.2.2.1, p), (.f r.2.2.2, p)])

/-- SMX_FINAL (R199). -/
def runSmxFinal (v : Vop) (o : Io) : Io :=
  if v.dst.size.empty then o
  else
    o.each v.dst.size.allRows (fun o row =>
      let m := o.srcF v v.s1 0 row
      let l := m.2.srcF v v.s1 0 (row.at0 1)
      let p := m.1.2 || l.1.2
      let bad := isNan m.1.1 || isNan l.1.1
      let none_ := (rd v.g l.1.1).isZero
      let q := frecip v.g l.1.1
      let f := fun (a : Word) => if bad then fNan else if none_ then fZero else fmul v.g a q
      let x := l.2.collect (fun o b =>
        let r := o.collect (fun o k => o.srcF v v.s0 0 (row.at0 k)) (lanesOf v.dst.size.i0 b)
        (r.1.any (·.2), (r.2.putVals v.g v.rnd v.dst (row.at0 b)
          (r.1.map (fun e => (.f (f e.1), p || (e.2 && !bad && !none_))))).beat)) (beatsOf v.dst.size.i0)
      let lse := if bad then fNan else if none_ then 0xFF800000 else fadd v.g m.1.1 (flog2 v.g l.1.1)
      x.2.putVals v.g (fun _ => .rne) v.s1.noNorm (row.at0 3) [(.f lse, p || x.1.any id)])

/-! ### Normalisation, accumulators, clipping (R201 to R207) -/

/-- ROWSTATS (R201). -/
def runRowstats (v : Vop) (o : Io) : Io :=
  o.each v.s0.size.allRows (fun o row =>
    let r := o.rowF v v.s0 row
    let a := redRow v.g 0 r.1.1
    let b := redRow v.g 0 (r.1.1.map (fun x => fmul v.g x x))
    let old := if v.acc then r.2.srcF v v.dst 0 row else ((0, false), r.2)
    let old2 := if v.acc then old.2.srcF v v.dst 0 (row.at0 1) else ((0, false), old.2)
    let y := fun (w n : Word) => if v.acc then fadd v.g w n else n
    old2.2.putVals v.g v.rnd v.dst row
      [(.f (y old.1.1 a), r.1.2 || old.1.2), (.f (y old2.1.1 b), r.1.2 || old2.1.2)])

/-- The pair that NORM_FIN writes from S1 and S2 (R202). -/
def normPair (g : Bool) (kind : Nat) (n eps a b : Word) : Word × Word :=
  let r := frecip g n
  if kind = 0 then
    let mu := fmul g a r
    let var := fmax g (fsub g (fmul g b r) (fmul g mu mu)) fZero
    (mu, frsqrt g (fadd g var eps))
  else (fZero, frsqrt g (fadd g (fmul g b r) eps))

/-- NORM_FIN (R202). -/
def runNormFin (v : Vop) (o : Io) : Io :=
  o.each v.dst.size.allRows (fun o row =>
    let a := if v.subop = 0 then o.srcF v v.s0 0 row else ((0, false), o)
    let b := a.2.srcF v v.s0 0 (row.at0 1)
    let r := normPair v.g v.subop v.imm0 v.imm1 a.1.1 b.1.1
    (b.2.putVals v.g v.rnd v.dst row
      [(.f r.1, a.1.2), (.f r.2, a.1.2 || b.1.2)]).beat)

/-- NORM_APPLY (R203). -/
def runNormApply (v : Vop) (o : Io) : Io :=
  o.ewise v (fun o i =>
    let x := o.srcF v v.s0 v.b0 i
    let mu := x.2.srcF v v.s1 0 (i.at0 0)
    let rho := mu.2.srcF v v.s1 0 (i.at0 1)
    let t := fmul v.g (fsub v.g x.1.1 mu.1.1) rho.1.1
    let p := x.1.2 || mu.1.2 || rho.1.2
    if v.s2.isImm then ((.f t, p), rho.2)
    else
      let ga := rho.2.srcF v v.s2 0 ⟨i.i0, 0, 0, 0, 0⟩
      let be := ga.2.srcF v v.s2 0 ⟨i.i0, 1, 0, 0, 0⟩
      ((.f (ffma v.g t ga.1.1 be.1.1), p || ga.1.2 || be.1.2), be.2))

/-- NACC_STORE (R206). -/
def runNaccStore (v : Vop) (o : Io) : Io :=
  o.ewise v (fun o i =>
    let e := regEl (o.s.core o.c).na (o.s.core o.c).nap (v.imm0.toNat + i.i0)
    let w := BitVec.ofNat 32 e.code
    let o := if e.p then { o with seen := true } else o
    if v.acc then
      let old := o.srcF v v.dst 0 i
      ((.f (fadd v.g old.1.1 w), e.p || old.1.2), old.2)
    else ((.f w, e.p), o))

/-- CLIP_SCALE (R207). -/
def runClipScale (v : Vop) (o : Io) : Io :=
  o.el1 v (fun a => fmin v.g fOne (fmul v.g v.imm0 (frsqrt v.g a)))

/-- The run of an opcode. -/
def vecRun (v : Vop) : Io → Io :=
  match v.op with
  | 0x20 => runCopy v
  | 0x21 => runAdd v
  | 0x22 => runSub v
  | 0x23 => runMul v
  | 0x24 => runFma v
  | 0x25 => runMin v
  | 0x26 => runMax v
  | 0x27 => runAbs v
  | 0x28 => runNeg v
  | 0x29 => runSelect v
  | 0x2A => runCmp v
  | 0x30 => runExp2 v
  | 0x31 => runLog2 v
  | 0x32 => runRecip v
  | 0x33 => runRsqrt v
  | 0x38 => runIadd v
  | 0x39 => runIsub v
  | 0x3A => runImul v
  | 0x3B => runImin v
  | 0x3C => runImax v
  | 0x3D => runIand v
  | 0x3E => runIor v
  | 0x3F => runIxor v
  | 0x40 => runIshift v
  | 0x44 => runPerm v
  | 0x45 => runShuffle v
  | 0x46 => runPack v
  | 0x47 => runUnpack v
  | 0x48 => runClass v
  | 0x49 => runCount v
  | 0x4C => runRedSum v
  | 0x4D => runRedMax v
  | 0x4E => runRedMin v
  | 0x4F => runRedSumsq v
  | 0x50 => runTred v
  | 0x54 => runSmxUpdate v
  | 0x55 => runSmxFinal v
  | 0x56 => runRowstats v
  | 0x57 => runNormFin v
  | 0x58 => runNormApply v
  | 0x5C => runNaccStore v
  | 0x5D => runClipScale v
  | _ => id

/-! ### The checks of R178 -/

/-- Whether an operation uses SRC0, SRC1 and SRC2 (R176, R185). -/
def Vop.uses (v : Vop) : Bool × Bool × Bool :=
  let op := v.op
  if op = 0x5C then (false, false, false)
  else if op = 0x24 ∨ op = 0x29 ∨ op = 0x58 then (true, true, true)
  else if op = 0x45 then (true, decide (2 ≤ v.subop), false)
  else if (0x21 ≤ op ∧ op ≤ 0x26) ∨ op = 0x2A ∨ (0x38 ≤ op ∧ op ≤ 0x44) ∨ op = 0x54 ∨ op = 0x55 then
    (true, true, false)
  else (true, false, false)

/-- RED_SUM to RED_SUMSQ, and COUNT, TRED and ROWSTATS: SRC0 is the walk tensor (R173). -/
def Vop.walksSrc (v : Vop) : Bool :=
  v.op == 0x49 || decide (0x4C ≤ v.op ∧ v.op ≤ 0x50) || v.op == 0x56

/-- Operations that take ACC (R177). -/
def Vop.takesAcc (v : Vop) : Bool := v.walksSrc || v.op == 0x5C

/-- SUBOP and integer parameters in range (R185 to R207); the range of NACC_STORE needs the size of DST. -/
def Vop.paramOk (v : Vop) (dstKnown : Bool) : Bool :=
  let op := v.op
  let packs := fun (n : Nat) => match n with
    | 1 | 2 => decide (v.imm1.toNat ≤ 1)
    | 3 | 4 | 6 => decide (v.imm1.toNat ≤ 3)
    | _ => false
  let sub :=
    if op = 0x2A then decide (v.subop ≤ 3)
    else if op = 0x40 then decide (v.subop ≤ 2)
    else if op = 0x45 then decide (v.subop ≤ 5)
    else if op = 0x50 then decide (v.subop % 16 ≤ 2 ∧ v.subop ≤ 18)
    else if op = 0x57 then decide (v.subop ≤ 1)
    else v.subop == 0
  let par :=
    if op = 0x45 then
      (if v.subop = 0 then decide (v.imm0.toNat ≤ 6) else if v.subop = 1 then decide (v.imm0.toNat ≤ 127)
       else v.imm0 == 0)
    else if op = 0x46 ∨ op = 0x47 then packs v.imm0.toNat
    else if op = 0x5C then !dstKnown || decide (v.imm0.toNat + v.dst.size.i0 ≤ 256)
    else true
  sub && par && (!v.acc || v.takesAcc)

/-- ROUND allowed for the format that is written (R181), as far as that is known. -/
def Vop.roundOk (v : Vop) (dstKnown : Bool) : Bool :=
  let f := if v.op = 0x46 then v.packFmt else if v.dst.isTen then v.dst.fmt else .fp32
  !v.round || (!dstKnown && v.op != 0x46) || [Fmt.fp16, .bf16, .e4m3, .e5m2, .fp4, .int8].contains f

/-- The fields of one operand reference (R176). -/
def refOk (r : Nat) (used dst immOk : Bool) : Bool :=
  let k := bits r 17 16
  let n := bits r 15 0
  bits r 31 20 == 0 &&
  (if !used then k == 0 && n == 0
   else (k != 0 || (immOk && n == 0)) && (!dst || bits r 19 18 == 0) &&
     (k != 2 || decide (n ≤ 31)) && (k != 3 || decide (n ≤ 3)))

/-- The first row of R178. -/
def Desc.vecFields (d : Desc) (v : Vop) (dstKnown : Bool) : Bool :=
  let ctrl := d.num 36 4
  let u := v.uses
  d.num 40 24 == 0 && bits ctrl 31 16 == 0 && bits ctrl 7 2 == 0 &&
  refOk (d.ref 8) true true false && refOk (d.ref 12) u.1 false false &&
  refOk (d.ref 16) u.2.1 false true && refOk (d.ref 20) u.2.2 false true &&
  (!v.walksSrc || v.b0 == 0) && v.paramOk dstKnown && v.roundOk dstKnown

/-- Whether a float opcode reads an operand's format (R180). (DESIGN CHOICE: log entry 73) -/
def Opd.readable (x : Opd) : Bool := decide (x.fmt ≠ .e8m0)

/-- Whether an integer opcode reads an operand's format (R180). -/
def Opd.intOk (x : Opd) : Bool := !x.isTen || decide (x.fmt = .int8 ∨ x.fmt = .int32)

/-- An FP32 tensor without MX whose rows agree with a walk and have a length (R197, R201 to R203). -/
def Opd.rowsOf (x : Opd) (n : Nat) (w : Co) : Bool :=
  x.isTen && decide (x.fmt = .fp32) && !x.mx && x.size.i0 == n && x.size.sameRows w

/-- A one-dimensional tensor of a format without MX. -/
def Opd.flat (x : Opd) (f : Fmt) : Bool := x.isTen && decide (x.fmt = f) && !x.mx && x.dims == 1

/-- The third row of R178: formats and shapes. -/
def Vop.shapeOk (v : Vop) : Bool :=
  let op := v.op
  let n := v.dst.size
  let w := v.s0.size
  let ew := Machine.shapeOk v.s0 v.b0 n && (!v.uses.2.1 || Machine.shapeOk v.s1 v.b1 n) &&
    (!v.uses.2.2 || Machine.shapeOk v.s2 v.b2 n)
  let dstOld := !v.acc || v.dst.readable
  if op = 0x20 then ew && (v.moves [v.s0] || v.s0.readable)
  else if op = 0x29 then ew && v.s0.readable && (v.moves [v.s1, v.s2] || (v.s1.readable && v.s2.readable))
  else if 0x38 ≤ op ∧ op ≤ 0x40 then ew && v.s0.intOk && v.s1.intOk
  else if op = 0x44 then
    Machine.shapeOk v.s1 v.b1 n && v.s1.intOk && !v.s1.isImm && (v.moves [v.s0] || v.s0.readable) &&
      (if v.b0 = 0 then w.sameRows n else if v.b0 = 1 then true
       else if v.b0 = 2 then w.sameRows n && decide (1 ≤ w.i0) else !w.empty)
  else if op = 0x45 then
    (v.dst.isV && v.s0.isV && (!v.uses.2.1 || v.s1.isV) || v.dst.isT && v.s0.isT && (!v.uses.2.1 || v.s1.isT)) &&
      v.b0 == 0 && v.b1 == 0
  else if op = 0x46 ∨ op = 0x47 then v.dst.isV && v.s0.isV && v.b0 == 0
  else if op = 0x48 then ew && decide (v.dst.isReg ∨ v.dst.fmt = .int8 ∨ v.dst.fmt = .int32)
  else if op = 0x49 then v.dst.isV || (v.dst.flat .int32 && n.i0 == 16)
  else if 0x4C ≤ op ∧ op ≤ 0x4F then n.same (w.at0 1) && v.s0.readable && dstOld
  else if op = 0x50 then
    v.s0.isT && (v.dst.isV || (v.dst.isTen && v.dst.dims == 1 && n.i0 == 128)) && dstOld
  else if op = 0x54 ∨ op = 0x55 then
    w == n && v.b0 == 0 && v.s0.readable && v.s1.rowsOf 4 n && v.b1 == 0
  else if op = 0x56 then v.dst.rowsOf 2 w && v.s0.readable
  else if op = 0x57 then v.dst.rowsOf 2 n && w == n && v.b0 == 0 && v.s0.readable
  else if op = 0x58 then
    Machine.shapeOk v.s0 v.b0 n && v.s0.readable && v.s1.rowsOf 2 n && v.b1 == 0 &&
      (v.s2.isImm || (v.s2.size.same ⟨n.i0, 2, 1, 1, 1⟩ && v.s2.readable && v.b2 == 0))
  else if op = 0x5C then v.dst.isV || v.dst.flat .fp32
  else ew && v.s0.readable && (!v.uses.2.1 || v.s1.readable) && (!v.uses.2.2 || v.s2.readable)

/-- The operands in use. -/
def Vop.opds (v : Vop) : List Opd :=
  let u := v.uses
  [v.dst] ++ (if u.1 then [v.s0] else []) ++ (if u.2.1 then [v.s1] else []) ++ (if u.2.2 then [v.s2] else [])

/-- The tensor descriptor of an operand. -/
def Opd.tens? : Opd → Option Tens
  | .ten T => some T.t
  | _ => none

/-- The checks of R178 that precede the walk, in its order. -/
def Desc.vecCheck (d : Desc) (v : Vop) (s : State) : Run? Unit :=
  let known := d.tensors.all s.tensorOk
  let dstKnown := bits (d.ref 8) 17 16 != 1 || s.tensorOk (d.num 8 2)
  let ts := v.opds.filterMap Opd.tens?
  if !d.headerOk || !d.vecFields v dstKnown then .error { s := s, bit := badOpcode }
  else if !d.ctxOk || !known || !ts.all d.tensorCtx then .error { s := s, bit := badTensor }
  else if !v.shapeOk then .error { s := s, bit := badTensor }
  else if (v.op == 0x50 && !s.kindIn [.check]) || !ts.all s.tensorKind then .error { s := s, bit := 11 }
  else .ok ()

/-! ### Starting a vector descriptor -/

/-- An operand with its place resolved. -/
def State.resolveOpd (s : State) (x : Opd) (k logical : Nat) (write : Bool) : Run? (State × Opd) :=
  match x with
  | .ten T =>
    match s.resolve T.t k logical write with
    | .error e => .error e
    | .ok (s, T) => .ok (s, .ten T)
  | x => .ok (s, x)

/-- An operand with its place resolved if it is accessed. -/
def State.resolveIf (s : State) (go : Bool) (x : Opd) (k logical : Nat) (write : Bool) : Run? (State × Opd) :=
  if go then s.resolveOpd x k logical write else .ok (s, x)

/-- Whether the descriptor accesses any element of DST (R173). -/
def Vop.works (v : Vop) : Bool :=
  if v.op = 0x49 then true
  else if v.walksSrc then decide (0 < v.s0.size.rows)
  else !v.dst.size.empty

/-- Every operand's place resolved, sources first. -/
def Vop.resolve (v : Vop) (s : State) (k logical : Nat) : Run? (State × Vop) := do
  let u := v.uses
  let reads0 := u.1 && !v.s0.size.empty
  let a ← s.resolveIf reads0 v.s0 k logical false
  let b ← a.1.resolveIf u.2.1 v.s1 k logical false
  let b' ← b.1.resolveIf (v.op == 0x54 || v.op == 0x55) b.2 k logical true
  let c ← b'.1.resolveIf u.2.2 v.s2 k logical false
  let o ← c.1.resolveIf v.acc v.dst k logical false
  let e ← o.1.resolveOpd v.dst k logical true
  return (e.1, { v with s0 := a.2, s1 := b'.2, s2 := c.2, dst := e.2 })

/-- Beats that the engine has issued, counted (R208, R513). -/
def State.countBeats (s : State) (c : CoreId) (n : Nat) : State :=
  (s.modCore c (fun x => { x with beats := x.beats + n })).tel 3 (coreDie c).val n

/-- The outbound queue that an operand writes, with its context. -/
def Opd.outs (x : Opd) (k : Nat) : List (Nat × Nat) :=
  match x with
  | .ten T => (T.queue.map (fun q => (q, k))).toList
  | _ => []

/-- A vector descriptor run, with the bytes that have arrived for it (R173 to R207). -/
def Desc.vecStart (d : Desc) (c : CoreId) (logical : Nat) (got : Store (Byte × Bool)) (s : State) :
    Run? (State × InFlight) :=
  let v := d.vop s c
  if !v.works then .ok (s, d.inFlight)
  else
    match v.resolve s d.ctx logical with
    | .error e => .error e
    | .ok (s1, v) =>
      let o := vecRun v { s := s1, c := c, got := got }
      s.finish { o with s := o.s.countBeats c o.beats } d (.vec c) (v.dst.outs d.ctx)

/-- A vector descriptor issued (R178, R208). -/
def Desc.vector (d : Desc) (c : CoreId) (logical : Nat) (s : State) : Try := do
  let v := d.vop s c
  d.vecCheck v s
  d.enter c (s.modCore c (fun x => { x with vecOp := d.op })) (fun s => asStart (d.vecStart c logical [] s))

end Sys2Proof.Machine
end

