-- ==== Sys2Proof/Machine/Array.lean ====
section
/-!
DEFINITION. The digit-serial array (R114 to R136, R157 to R159, R351, R352): the MMA's checks, its result, its
checksum, and its commit.
-/

namespace Sys2Proof.Machine

open Sys2Proof

/-! ### The instruction (R132) -/

/-- The fields of an MMA descriptor (R132), with its tensors. -/
structure Mma where
  a     : Tens
  b     : Tens
  c     : Tens
  force : Bool
  tile  : Nat
  toTile : Bool
  acc   : Bool
  m     : Nat
  k     : Nat
  n     : Nat
  m0    : Nat
  k0    : Nat
  n0    : Nat
  deriving DecidableEq, Repr

/-- The MMA descriptor read. -/
def Desc.mma (d : Desc) (s : State) : Mma :=
  let f := d.byte 14
  { a := s.tensor (d.num 8 2), b := s.tensor (d.num 10 2), c := s.tensor (d.num 12 2)
    force := bits f 4 4 == 1, tile := bits f 3 2, toTile := bits f 1 1 == 1, acc := bits f 0 0 == 1
    m := bits (d.num 16 2) 12 0, k := d.byte 18, n := d.byte 19
    m0 := d.num 20 4, k0 := d.num 24 4, n0 := d.num 28 4 }

/-- Significand bits of an operand format (R118); none where it is no operand format. -/
def Fmt.sig : Fmt → Option Nat
  | .fp4 => some 2
  | .e5m2 => some 3
  | .e4m3 => some 4
  | .bf16 => some 8
  | .int8 => some 8
  | .fp16 => some 11
  | .fp32 => some 24
  | _ => none

/-- Passes of a stationary format (R118). -/
def Fmt.passes (f : Fmt) : Nat := ((f.sig.getD 0) + 7) / 8

/-- Digits of a streaming format (R118). -/
def Fmt.digits (f : Fmt) : Nat := ((f.sig.getD 0) + 3) / 4

/-- d of a pairing (R118). -/
def Mma.d (x : Mma) : Nat := x.b.fmt.passes * x.a.fmt.digits

/-- M_max of a pairing (R122). -/
def mMax (d : Nat) : Nat := min 4096 (26106 / d - 255)

/-- Whether a pairing and its result format are allowed (R119, R133). -/
def Mma.pairOk (x : Mma) : Bool :=
  let ints := decide (x.a.fmt = .int8)
  x.a.fmt.sig.isSome && x.b.fmt.sig.isSome && ints == decide (x.b.fmt = .int8) &&
  (x.toTile || (!x.c.mx && decide (x.c.fmt = (if ints then .int32 else .fp32))))

/-- The checks of R133 in their order. -/
def Desc.mmaCheck (d : Desc) (x : Mma) (s : State) : Run? Unit :=
  let ops := [x.a, x.b] ++ (if x.toTile then [] else [x.c])
  let odd := fun (t : Tens) => (t.mx && x.k0 % 32 != 0) || (decide (t.fmt = .fp4) && x.k0 % 2 != 0)
  if !d.headerOk || bits (d.byte 14) 7 5 != 0 || d.byte 15 != 0 || bits (d.num 16 2) 15 13 != 0 ||
      d.num 32 32 != 0 || decide (4096 < x.m) || decide (128 < x.k) || decide (128 < x.n) ||
      (x.toTile && decide (128 < x.m)) then .error { s := s, bit := badOpcode }
  else if !d.ctxOk || !d.tensors.all s.tensorOk then .error { s := s, bit := badTensor }
  else if ops.any (fun t => t.space != 1 || decide (2 < t.dims)) then .error { s := s, bit := badTensor }
  else if !x.pairOk then .error { s := s, bit := badTensor }
  else if odd x.a || odd x.b || decide (mMax x.d < x.m) then .error { s := s, bit := badOpcode }
  else if decide (x.a.size.i0 < x.k0 + x.k) || decide (x.b.size.i0 < x.k0 + x.k) ||
      decide (x.a.size.i1 < x.m0 + x.m) || decide (x.b.size.i1 < x.n0 + x.n) ||
      (!x.toTile && (decide (x.c.size.i0 < x.n0 + x.n) || decide (x.c.size.i1 < x.m0 + x.m))) then
    .error { s := s, bit := boundsFault }
  else .ok ()

/-! ### Operands -/

/-- The operands as the array consumes them: rows of A, columns of B, rows of the old C. -/
structure MmaIn where
  a    : List (List El) := []
  b    : List (List El) := []
  cOld : List (List (Word × Bool)) := []
  deriving DecidableEq, Repr

/-- A tensor in the core store. -/
def inStore (t : Tens) : Ten := { t := t, place := .store }

/-- Rows of elements of a tensor. -/
def Io.readTile (o : Io) (t : Tens) (i0 i1 cols rows : Nat) : List (List El) × Io :=
  o.collect (fun o r => o.collect (fun o c => o.readEl (inStore t) ⟨i0 + c, i1 + r, 0, 0, 0⟩) (List.range cols))
    (List.range rows)

/-- The old C of an accumulating MMA (R127). -/
def Io.readOldC (o : Io) (x : Mma) : List (List (Word × Bool)) × Io :=
  if !x.acc then ([], o)
  else if x.toTile then
    o.collect (fun o r => o.collect (fun o c =>
      let e := o.opdEl (.treg x.tile) ⟨c, r, 0, 0, 0⟩
      ((BitVec.ofNat 32 e.1.code, e.1.p), e.2)) (List.range x.n)) (List.range x.m)
  else
    let r := o.readTile x.c x.n0 x.m0 x.n x.m
    (r.1.map (fun l => l.map (fun e => (BitVec.ofNat 32 e.code, e.p))), r.2)

/-- B and the old C, which are read before cycle 0 (R134). -/
def Io.readStationary (o : Io) (x : Mma) : MmaIn × Io :=
  let b := o.readTile x.b x.k0 x.n0 x.k x.n
  let c := b.2.readOldC x
  ({ b := b.1, cOld := c.1 }, c.2)

/-- A, which streams (R134). -/
def Io.readStream (o : Io) (x : Mma) (i : MmaIn) : MmaIn × Io :=
  let a := o.readTile x.a x.k0 x.m0 x.k x.m
  ({ i with a := a.1 }, a.2)

/-! ### The result (R127, R128, R131, R158, R159) -/

/-- One segment folded into the running sum of a float result. -/
def segStep (g : Bool) (fa fb : Fmt) (r : Word) (seg : List (El × El)) : Word :=
  let p := seg.foldl (fun p e => fadd g p (fl g ((fa.read g e.1.code).mul (fb.read g e.2.code)))) 0
  match seg with
  | [] => r
  | e :: _ =>
    let xa := e.1.scale.getD 127
    let xb := e.2.scale.getD 127
    if xa = 255 ∨ xb = 255 then fNan
    else fl g ((rd g r).add ((rd g p).scale ((xa : Int) + xb - 254)))

/-- One float element (R127). -/
def dotFloat (g : Bool) (fa fb : Fmt) (c : Word) (l : List (El × El)) : Word :=
  (chunks 32 4 l).foldl (segStep g fa fb) c

/-- One INT8 element (R128). -/
def dotInt (c : Word) (l : List (El × El)) : Word :=
  l.foldl (fun r e => r + e.1.int .int8 * e.2.int .int8) c

/-- One result element with its poison (R127, R131). -/
def Mma.elem (x : Mma) (g : Bool) (c : Word × Bool) (a b : List El) : Word × Bool :=
  let l := a.zip b
  let p := c.2 || l.any (fun e => e.1.p || e.2.p)
  (if x.a.fmt = .int8 then dotInt c.1 l else dotFloat g x.a.fmt x.b.fmt c.1 l, p)

/-- The result of an MMA on its operands. -/
def Mma.result (x : Mma) (g : Bool) (i : MmaIn) : Res :=
  i.a.zipIdx.map (fun ra => i.b.zipIdx.map (fun cb =>
    x.elem g (if x.acc then (i.cOld.getD ra.2 []).getD cb.2 (0, false) else (0, false)) ra.1 cb.1))

/-- A result with silent errors in some elements. -/
def applyUpsets (l : List Upset) (r : Res) : Res :=
  r.zipIdx.map (fun ro => ro.1.zipIdx.map (fun e =>
    ((l.filter (fun u => u.row == ro.2 && u.col == e.2)).foldl (fun w u => w ^^^ u.xor) e.1.1, e.1.2)))

/-! ### The checksum (R352) -/

/-- A finite value as m·2^e. -/
def Num.pair? : Num → Option (Int × Int)
  | .fin n m e => some (if n then -(m : Int) else m, e)
  | _ => none

/-- The exact product of two such values. -/
def pairMul (a b : Int × Int) : Int × Int := (a.1 * b.1, a.2 + b.2)

/-- The magnitude. -/
def pairAbs (a : Int × Int) : Int × Int := ((a.1.natAbs : Int), a.2)

/-- The negative. -/
def pairNeg (a : Int × Int) : Int × Int := (-a.1, a.2)

/-- a ≤ b for values m·2^e. -/
def pairLe (a b : Int × Int) : Bool :=
  let e := min a.2 b.2
  decide (a.1 * 2 ^ (a.2 - e).toNat ≤ b.1 * 2 ^ (b.2 - e).toNat)

/-- The exact difference of two values. -/
def pairSub (a b : Int × Int) : Int × Int :=
  let e := min a.2 b.2
  (a.1 * 2 ^ (a.2 - e).toNat - b.1 * 2 ^ (b.2 - e).toNat, e)

/-- An operand element as the checksum takes it: scaled, none if it is excluded. -/
def El.pair? (e : El) (f : Fmt) (g : Bool) : Option (Int × Int) :=
  if e.p || e.scale == some 255 then none
  else ((f.read g e.code).scale ((e.scale.getD 127 : Int) - 127)).pair?

/-- Every element of a list, if all are there. -/
def allSome {α : Type} : List (Option α) → Option (List α)
  | [] => some []
  | none :: _ => none
  | some x :: l => (allSome l).map (x :: ·)

/-- The nonzero ones of some numbers m·2^e at their smallest exponent. -/
def commonExp (l : List (Int × Int)) : List Int × Int :=
  let l := l.filter (fun x => x.1 != 0)
  let e := l.foldl (fun e x => min e x.2) (l.head?.elim 0 (·.2))
  (l.map (fun x => x.1 * 2 ^ (x.2 - e).toNat), e)

/-- A sum in the format of the checksum units: exact where no partial sum can exceed 48 bits, and otherwise off by
no
more than its roundings, one for each product and one for each addition, of half a unit in the 48th place each
(R352). (DESIGN CHOICE: log entry 3) -/
def flintSum (l : List (Int × Int)) : Int × Int :=
  let r := commonExp l
  let size := (r.1.map Int.natAbs).sum
  if size < 2 ^ 48 then (r.1.sum, r.2)
  else
    let most : Int := 2 * r.1.length * (size / 2 ^ 47 + 1)
    (r.1.sum + max (-most) (min most (Config.flintError l)), r.2)

/-- Whether a float column passes, with the tolerance; an excluded one does. -/
def floatColumn (tol : Nat) (a : List (List (Option (Int × Int)))) (b c old : List (Option (Int × Int))) :
    Bool :=
  match allSome (a.map allSome), allSome b, allSome c, allSome old with
  | some a, some b, some c, some old =>
    let cols := (List.range b.length).map (fun k => a.map (fun r => r.getD k (0, 0)))
    let o := flintSum (c ++ old.map pairNeg)
    let p := flintSum ((cols.zip b).map (fun e => pairMul (flintSum e.1) e.2))
    let w := flintSum ((cols.zip b).map (fun e =>
      pairMul (flintSum (e.1.map pairAbs)) (pairAbs e.2)) ++ c.map pairAbs ++ old.map pairAbs)
    pairLe (pairAbs (pairSub o p)) (pairMul (tol, -24) w)
  | _, _, _, _ => true

/-- Whether an INT32 column passes; an excluded one does. -/
def intColumn (a : List (List El)) (b : List El) (c old : List (Word × Bool)) : Bool :=
  if a.any (fun r => r.any (·.p)) || b.any (·.p) || c.any (·.2) || old.any (·.2) then true
  else
    let o := (c.foldl (fun s e => s + e.1) 0) - (old.foldl (fun s e => s + e.1) (0 : Word))
    let p := a.foldl (fun s r => dotInt s (r.zip b)) 0
    o == p

/-- A column of a result. -/
def colOf (r : List (List (Word × Bool))) (n : Nat) : List (Word × Bool) := r.map (fun l => l.getD n (0, false))

/-- An FP32 word as the checksum takes it. -/
def wordPair? (g : Bool) (e : Word × Bool) : Option (Int × Int) := if e.2 then none else (rd g e.1).pair?

/-- The lowest failing column of a result's checksum; none where it passes (R352). -/
def Mma.failing (x : Mma) (g : Bool) (tol : Nat) (i : MmaIn) (r : Res) : Option Nat :=
  let ints := decide (x.a.fmt = .int8)
  let a := i.a.map (fun l => l.map (fun e => e.pair? x.a.fmt g))
  (List.range x.n).find? (fun n =>
    let b := i.b.getD n []
    !(if ints then intColumn i.a b (colOf r n) (colOf i.cOld n)
      else floatColumn tol a (b.map (fun e => e.pair? x.b.fmt g)) ((colOf r n).map (wordPair? g))
        ((colOf i.cOld n).map (wordPair? g))))

/-! ### Gating (R130) -/

/-- Nonzero parts of a significand cut into parts of w bits. (DESIGN CHOICE: log entry 66) -/
def partsOf (w : Nat) : Nat → Nat → Nat
  | 0, _ => 0
  | n + 1, v => (if v % 2 ^ w = 0 then 0 else 1) + partsOf w n (v / 2 ^ w)

/-- The significand of an element code, as an integer. (DESIGN CHOICE: log entry 66) -/
def sigOf (f : Fmt) (g : Bool) (c : Nat) : Nat :=
  match f.read g c with
  | .fin _ m e =>
    let q := f.place m e
    if f = .int8 ∨ m = 0 then m else if q ≤ e then m * 2 ^ (e - q).toNat else m / 2 ^ (q - e).toNat
  | _ => 2 ^ (f.sig.getD 1) - 1

/-- Cell-cycles that are not gated: for each k, nonzero digits of A times nonzero slices of B. (DESIGN CHOICE: log
entry 66) -/
def Mma.busyCells (x : Mma) (g : Bool) (i : MmaIn) : Nat :=
  let da := i.a.map (fun l => l.map (fun e => partsOf 4 x.a.fmt.digits (sigOf x.a.fmt g e.code)))
  let db := i.b.map (fun l => l.map (fun e => partsOf 8 x.b.fmt.passes (sigOf x.b.fmt g e.code)))
  ((List.range x.k).map (fun k =>
    (da.map (fun l => l.getD k 0)).sum * (db.map (fun l => l.getD k 0)).sum)).sum

/-! ### Commit (R121, R124, R204) -/

/-- T of an MMA (R121). -/
def Mma.cycles (x : Mma) : Nat := x.d * (x.m + 255) + 12

/-- One result row written to C. -/
def Io.putC (o : Io) (x : Mma) (g : Bool) (e : List (Word × Bool) × Nat) : Io :=
  let dst : Opd := if x.toTile then .treg x.tile else .ten (inStore x.c)
  let at_ : Co := if x.toTile then ⟨0, e.2, 0, 0, 0⟩ else ⟨x.n0, x.m0 + e.2, 0, 0, 0⟩
  o.putVals g (fun _ => .rne) dst at_ (e.1.map (fun w => (.raw w.1.toNat, w.2)))

/-- ARR_STAT.STATUS after an event of the instruction at a position: it shows the one that began last (R144). -/
def Core.setStatus (x : Core) (pos : Nat) (st : ArrStatus) : Core :=
  if x.latest = some pos then { x with status := st } else x

/-- A result committed and written back (R121, R124, R131): C, the norm accumulator, the counts. -/
def State.commitMma (s : State) (c : CoreId) (x : Mma) (r : Res) (pos : Nat) : State :=
  let o : Io := { s := s, c := c }
  let s := (o.each r.zipIdx (fun o e => o.putC x (s.granite c) e)).flush
  let s := if r.any (fun l => l.any (·.2)) then s.poisonSeen (.arr c) else s
  let die := (coreDie c).val
  let s := ((s.countWrap (.arr c) 0x8C 1).tel 1 die x.cycles).tel 2 die 1
  s.modCore c (fun q => q.setStatus pos .done)

/-- The operands of an MMA read again by a re-run or a check (R354). -/
def State.mmaIn (s : State) (c : CoreId) (x : Mma) : MmaIn × Io :=
  let o : Io := { s := s, c := c }
  let b := o.readStationary x
  b.2.readStream x b.1

/-- Whether Flint samples an instruction of a core (R351). -/
def State.sampled (s : State) (c : CoreId) (force : Bool) : Bool :=
  let watched := s.flag .flt (0xA0 + 4 * (c.val / 32)) (c.val % 32)
  let n := s.field .flt (if watched then 0x84 else 0x80) 16 0
  s.flt.enable && (force || (s.core c).samples % n == c.val % n)

/-- The rows of C of an MMA in core store, as byte ranges. -/
def Mma.cRows (x : Mma) : List (Int × Nat) :=
  (List.range x.m).map (fun (r : Nat) => (x.c.nib ⟨x.n0, x.m0 + r, 0, 0, 0⟩ / 2, 4 * x.n))

/-- The rows of an operand as byte ranges, with its scales. -/
def opRows (t : Tens) (k0 r0 k n : Nat) : List (Int × Nat) :=
  (List.range n).flatMap (fun (r : Nat) =>
    (t.nib ⟨k0, r0 + r, 0, 0, 0⟩ / 2, (k * t.fmt.nibbles + 1) / 2) ::
      (if t.mx then [(t.scaleAt ⟨k0, r0 + r, 0, 0, 0⟩, (k + 31) / 32)] else []))

/-- Whether two sets of byte ranges meet. -/
def rangesMeet (l m : List (Int × Nat)) : Bool :=
  l.any (fun a => m.any (fun b => decide (a.1 < b.1 + b.2 ∧ b.1 < a.1 + a.2)))

/-- Whether an MMA must wait for an earlier one that is not yet written back (R125): also where both write the same
bytes or add to norm accumulators, as they complete in their order (R49, R204). (DEDUCED: log entry 65) -/
def Mma.waitsFor (x y : Mma) : Bool :=
  (x.toTile && y.toTile && x.tile == y.tile) ||
  (!y.toTile && (rangesMeet (opRows x.a x.k0 x.m0 x.k x.m ++ opRows x.b x.k0 x.n0 x.k x.n) y.cRows ||
    (!x.toTile && (rangesMeet x.cRows y.cRows || (x.c.normEn && y.c.normEn)))))

/-- Banks of a core's output buffer in use: results of instructions that have begun and that no resolution buffer
holds, and a re-run's own (R124, R354). -/
def State.banksUsed (s : State) (c : CoreId) : Nat :=
  let own := (s.core c).fly.filter (fun e => decide (e.unit = .arr) && !decide (e.phase = .queued) && !e.buffered)
  let reruns := s.flt.active.filter (fun e => decide (e.2.core = c) && e.2.s.isSome)
  own.length + reruns.length

/-- Whether a re-run of a resolution goes first at a core's next array instruction boundary (R354). -/
def State.rerunFirst (s : State) (c : CoreId) : Bool :=
  s.flt.active.any (fun e => (decide (e.2.core = c) && e.2.s.isNone) || (e.2.partner == some c && e.2.x.isNone))

/-- The descriptor of a held result. -/
def Held.mma (h : Held) (s : State) : Mma := ({ raw := h.desc.toNat, pos := h.pos, off := h.off } : Desc).mma s

/-- The array instructions of a core that have begun and are not written back (R125). -/
def State.arrAhead (s : State) (c : CoreId) : List Mma :=
  ((s.core c).fly.filter (fun e => decide (e.unit = .arr) && !decide (e.phase = .queued))).map
    (fun e => e.toDesc.mma s)

/-- Whether an instruction whose shadow load is done must wait to begin its cycle 0: for the one before it to reach
cycle T, for a bank, for a re-run, or for the release of the core (R123, R124, R138, R354). -/
def State.arrWaits (s : State) (c : CoreId) : Bool :=
  decide (2 ≤ s.banksUsed c) || (s.core c).halt || (s.core c).held.any (fun h => !h.sampled) || s.rerunFirst c

/-- The shadow load of an instruction (R123, R134): B taken in, the marks of an accumulated C checked. (DEDUCED:
log entry 14) -/
def State.loadShadow (s : State) (c : CoreId) (pos : Nat) (x : Mma) : Run? State :=
  if (s.core c).shadow.any (fun h => h.pos == pos) then .ok s
  else
    let o : Io := { s := s, c := c }
    let o := if x.toTile then o
      else o.each x.cRows (fun o r => (o.s.locs .store r.1 r.2).foldl Io.checkWrite o)
    let b := o.readStationary x
    match b.2.stop with
    | some e => .error { s := b.2.s, bit := e.1, halt := e.2 }
    | none => .ok (b.2.s.modCore c (fun q => { q with shadow := some { pos := pos, b := b.1.b } }))

/-- The count of an instruction that begins cycle 0 (R144, R351): the shadow tile becomes the active one. (DESIGN
CHOICE: log entry 66) -/
def Core.beginMma (x : Core) (pos d total busy : Nat) : Core :=
  { x with samples := x.samples + 1, d := d, status := .running, latest := some pos, shadow := none
           cells := x.cells + total, gated := x.gated + (total - busy) }

/-- Cycle 0 of an instruction (R121, R127, R134, R351): A streams, and the result waits for its commit point, for
Flint's verdict where it is sampled. -/
def State.cycleZero (s : State) (c : CoreId) (e : InFlight) (x : Mma) : Run? (State × InFlight) :=
  let g := s.granite c
  let b := (s.core c).shadow.elim [] (fun h => h.b)
  let o : Io := { s := s, c := c }
  let old := o.readOldC x
  let a := old.2.readStream x { b := b, cOld := old.1 }
  let s' := a.2.s.modCore c (fun q => q.beginMma e.pos x.d (x.m * x.k * x.n * x.d) (x.busyCells g a.1))
  match a.2.stop with
  | some f => .error { s := s'.modCore c (fun q => q.setStatus e.pos .faulted), bit := f.1, halt := f.2 }
  | none =>
    let r := applyUpsets e.upsets (x.result g a.1)
    let sampled := s.sampled c x.force
    let h : Held := { desc := e.desc, off := e.off, pos := e.pos, res := r, sampled := sampled
                      fail := if sampled then x.failing g (s.field .flt 0x88 15 0) a.1 r else none }
    .ok (s'.modCore c (fun q =>
          { q with held := q.held ++ [h], status := if sampled then .held else .running }),
      { e with phase := .running, held := sampled, upsets := [] })

/-- The next array instruction taken as far as it can go (R123 to R125): it waits for hazards, then loads its shadow
tile, then begins its cycle 0 as soon as it may. -/
def State.arrStart (s : State) (c : CoreId) (e : InFlight) : Run? (State × InFlight) :=
  let x := e.toDesc.mma s
  if (s.arrAhead c).any x.waitsFor then .ok (s, e)
  else
    match s.loadShadow c e.pos x with
    | .error f => .error f
    | .ok s => if s.arrWaits c then .ok (s, e) else s.cycleZero c e x

/-- An MMA issued (R121 to R136): an empty shape completes at once, every other instruction enters the array queue
and goes on from there. (DEDUCED: log entry 13) -/
def Desc.runMma (d : Desc) (c : CoreId) (upsets : List Upset) (s : State) : Try := do
  let x := d.mma s
  d.mmaCheck x s
  if x.m = 0 ∨ x.n = 0 then return some (s, none)
  let e := d.queuedEntry upsets
  if 0 < (s.core c).queued .arr then return some (s, some e)
  match s.arrStart c e with
  | .error f => .error f
  | .ok r => return some (r.1, some r.2)

end Sys2Proof.Machine
end

