-- ==== Sys2Proof/Machine/Units.lean ====
section
/-!
DEFINITION. The descriptors of the core DMA, fabric and version units (R211 to R213, R226, R237, R248 to R250,
R313), but for the collectives.
-/

namespace Sys2Proof.Machine

open Sys2Proof

/-! ### Copies (R213, R249, R257) -/

/-- Equal FORMAT, MX, DIMS and SIZE0 to SIZE4 (R249). -/
def sameShape (a b : Tens) : Bool :=
  a.fmtCode == b.fmtCode && a.mx == b.mx && a.dims == b.dims && a.size.same b.size

/-- Poison consumed by a copy, noted. -/
def Io.noteSeen (o : Io) (p : Bool) : Io := if p then { o with seen := true } else o

/-- Elements of a row copied from dimension-0 element k on, as many as fill whole bytes (R249). -/
def Io.copyEls (o : Io) (src dst : Ten) (row : Co) (k : Nat) : Io :=
  let n := min src.t.fmt.step (src.t.size.i0 - k)
  let r := o.collect (fun o j => o.readCode src (row.at0 (k + j))) (List.range n)
  let o := r.2.noteSeen (r.1.any (·.2))
  if o.stopped then o else o.writeBytes dst (dst.t.nib (row.at0 k) / 2) (codeBytes src.t.fmt r.1)

/-- The scale of one block of a row copied (R60, R249). -/
def Io.copyScale (o : Io) (src dst : Ten) (row : Co) (b : Nat) : Io :=
  let r := o.readBytes src.place (src.t.scaleAt (row.at0 (32 * b))) 1
  let o := r.2.noteSeen r.1.2
  if o.stopped then o else o.writeBytes dst (dst.t.scaleAt (row.at0 (32 * b))) [(BitVec.ofNat 8 r.1.1, r.1.2)]

/-- One row copied: its codes, then its scales, each with its own poison (R249). -/
def Io.copyRow (o : Io) (src dst : Ten) (row : Co) : Io :=
  let n := src.t.size.i0
  let w := src.t.fmt.step
  let o := o.each ((List.range ((n + w - 1) / w)).map (fun i => w * i)) (fun o k => o.copyEls src dst row k)
  if src.t.mx then o.each (List.range ((n + 31) / 32)) (fun o b => o.copyScale src dst row b) else o

/-- A tensor copied row by row in the order of R59. -/
def Io.copy (o : Io) (src dst : Ten) : Io :=
  if src.t.size.empty then o else o.each src.t.size.allRows (fun o row => o.copyRow src dst row)

/-- A run of bytes of a copy: core-store offset, source local offset, length. -/
abbrev CopySeg := Nat × Nat × Nat

/-- Runs joined where one continues another on both sides. -/
def joinSegs : List CopySeg → List CopySeg
  | [] => []
  | x :: l =>
    match joinSegs l with
    | [] => [x]
    | y :: r =>
      if x.1 + x.2.2 = y.1 ∧ x.2.1 + x.2.2 = y.2.1 then (x.1, x.2.1, x.2.2 + y.2.2) :: r else x :: y :: r

/-- A run of a copy from a byte address of the source to one of the destination, if it goes from local memory into
the core store. -/
def State.copySeg (s : State) (src dst : Ten) (from_ to_ : Int) (n : Nat) : Option CopySeg :=
  match s.loc src.place from_, s.loc dst.place to_ with
  | .mem a, .cst c => some (c, a, n)
  | _, _ => none

/-- The runs of a copy from local memory into the core store, of elements and of scales. -/
def State.copySegs (s : State) (src dst : Ten) : List CopySeg :=
  let n := src.t.size.i0
  let codes := src.t.size.allRows.filterMap (fun row =>
    s.copySeg src dst (src.t.nib row / 2) (dst.t.nib row / 2) (n * src.t.fmt.nibbles / 2))
  let scales := if src.t.mx then src.t.size.allRows.filterMap (fun row =>
      s.copySeg src dst (src.t.scaleAt row) (dst.t.scaleAt row) ((n + 31) / 32)) else []
  joinSegs codes ++ joinSegs scales

/-- Clean tags of the lines that one run fills (R257). -/
def Core.tagSeg (x : Core) (version : Bool) (e : CopySeg) : Core :=
  let first := (e.1 + 63) / 64
  (List.range ((e.1 + e.2.2) / 64 - first)).foldl (fun x i =>
    let l := first + i
    let t : CleanTag := { off := e.2.1 + (64 * l - e.1), version := version }
    { x with clean := Store.set (fun _ => none) x.clean l (some t) }) x

/-- Clean tags after a DMA_COPY from local HBM or version storage (R257). -/
def State.tagClean (s : State) (c : CoreId) (src dst : Ten) : State :=
  let t := src.t
  if dst.t.space = 1 ∧ t.space = 0 ∧ t.vsel ≠ 3 then
    let l := s.copySegs src dst
    s.modCore c (fun x => l.foldl (fun x e => x.tagSeg (t.vsel != 0) e) x)
  else s

/-- Blocks of 64 bytes that a run moves. -/
def Io.units (o : Io) : Nat :=
  (linesOf o.cst).length + (linesOf o.mem).length + (linesOf o.far).length

/-- Whether both ends of a copy lie in one kind of place, so that it may read what it wrote (R266). -/
def sameKind (a b : Ten) : Bool :=
  match a.place, b.place with
  | .store, .store => true
  | .store, _ => false
  | _, .store => false
  | _, _ => true

/-- Both tensors of a copy resolved, the source first; an empty one accesses nothing. -/
def State.resolvePair (s : State) (a b : Tens) (k logical : Nat) : Run? (State × Ten × Ten) :=
  if a.size.empty then .ok (s, { t := a, place := .glob }, { t := b, place := .glob })
  else
    match s.resolve a k logical false with
    | .error e => .error e
    | .ok (s, x) =>
      match s.resolve b k logical true with
      | .error e => .error e
      | .ok (s, y) => .ok (s, x, y)

/-- Where the writes of a copy to another device go: the outbound queue of DST. -/
def Ten.outs (T : Ten) (k : Nat) : List (Nat × Nat) := (T.queue.map (fun q => (q, k))).toList

/-- The tensors of a two-tensor descriptor: SRC at bytes 8-9, DST at bytes 10-11. -/
def Desc.pair (d : Desc) (s : State) : Tens × Tens := (s.tensor (d.num 8 2), s.tensor (d.num 10 2))

/-- The checks of R565 for a two-tensor descriptor: fields, context, indices, the operation's own rule, slot
kind. -/
def Desc.pairCheck (d : Desc) (s : State) (fieldsOk needCtx rule kindOk : Bool) : Run? Unit := do
  d.check s fieldsOk needCtx
  let t := d.pair s
  need (d.tensors.all s.tensorOk && d.tensorCtx t.1 && d.tensorCtx t.2 && rule) s badTensor
  need (kindOk && s.tensorKind t.1 && s.tensorKind t.2) s 11

/-- DMA_COPY run (R249). -/
def Desc.copyStart (d : Desc) (c : CoreId) (logical : Nat) (got : Store (Byte × Bool)) (s : State) :
    Run? (State × InFlight) :=
  let t := d.pair s
  match s.resolvePair t.1 t.2 d.ctx logical with
  | .error e => .error e
  | .ok (s1, x, y) =>
    let o : Io := { s := s1, c := c, got := got, fwd := sameKind x y }
    let o := o.copy x y
    match s.finish o d (.cdma c) [] with
    | .error e => .error e
    | .ok (s, e) =>
      if e.phase = .fetch then .ok (s, e)
      else .ok ((s.tagClean c x y).modCore c (fun q => { q with blocks := q.blocks + o.units }), e)

/-- Lines whose CRC fails from now on (R258). -/
def State.upsetLines (s : State) (c : CoreId) (l : List (BitVec 19)) : State :=
  if l.isEmpty then s
  else s.modCore c (fun x => { x with badLines := x.badLines ++ l.map (fun (b : BitVec 19) => b.toNat) })

/-- DMA_COPY (R248, R249). -/
def Desc.dmaCopy (d : Desc) (c : CoreId) (logical : Nat) (s : State) : Try := do
  let t := d.pair s
  d.pairCheck s (d.restZero [8, 9, 10, 11]) false
    (sameShape t.1 t.2 && (t.1.space == 1 || t.2.space == 1) && (t.2.vsel == 0 || t.2.vsel == 3) &&
      t.1.space != 2 && t.2.space != 2) true
  d.enter c (s.modCore c (fun q => { q with cdmaOp := 0x60 })) (fun s => asStart (d.copyStart c logical [] s))

/-- One row filled (R250). -/
def Io.fillRow (o : Io) (dst : Ten) (v scale : Nat) (row : Co) : Io :=
  let n := dst.t.size.i0
  o.writeEls dst row (List.replicate n (v % 2 ^ (dst.t.fmt.width), false))
    (List.replicate ((n + 31) / 32) (scale, false))

/-- DMA_FILL run (R250). -/
def Desc.fillStart (d : Desc) (c : CoreId) (logical : Nat) (s : State) : Run? (State × InFlight) :=
  let t := s.tensor (d.num 10 2)
  if t.size.empty then .ok (s, d.inFlight)
  else
    match s.resolve t d.ctx logical true with
    | .error e => .error e
    | .ok (s1, y) =>
      let o : Io := { s := s1, c := c }
      let o := o.each t.size.allRows (fun o row => o.fillRow y (d.num 12 4) (d.byte 16) row)
      match s.finish o d (.cdma c) [] with
      | .error e => .error e
      | .ok (s, e) => .ok (s.modCore c (fun q => { q with blocks := q.blocks + o.units }), e)

/-- DMA_FILL (R250). -/
def Desc.dmaFill (d : Desc) (c : CoreId) (logical : Nat) (s : State) : Try := do
  d.check s (d.restZero [10, 11, 12, 13, 14, 15, 16]) false
  let t := s.tensor (d.num 10 2)
  need (s.tensorOk (d.num 10 2) && (t.space == 1 || (t.space == 0 && (t.vsel == 0 || t.vsel == 3)))) s badTensor
  need (s.tensorKind t) s 11
  d.enter c (s.modCore c (fun q => { q with cdmaOp := 0x61 })) (fun s => asStart (d.fillStart c logical s))

/-! ### Contexts and queues (R211 to R213, R220) -/

/-- The slot kinds of queue and capture work (R31). -/
def flowKinds : List SlotKind := [.compute, .eval]

/-- CTX_START begun (R211). -/
def Desc.ctxStartRun (d : Desc) (logical : Nat) (s : State) : Run? (State × Option InFlight) := do
  let s ← s.ctxStart d.ctx (d.byte 8) (d.byte 9) (BitVec.ofNat 32 (d.num 12 4)) logical
  return (s, some d.inFlight)

/-- CTX_START (R211, R213). -/
def Desc.ctxStart (d : Desc) (c : CoreId) (logical : Nat) (s : State) : Try := do
  d.check s (d.restZero [8, 9, 12, 13, 14, 15] && decide (d.byte 8 ≤ 2) && decide (d.byte 9 ≤ 7)) true
  need (s.kindIn flowKinds) s 11
  d.enter c s (fun s => d.ctxStartRun logical s)

/-- CTX_END begun (R211). -/
def Desc.ctxEndRun (d : Desc) (logical : Nat) (s : State) : Run? (State × Option InFlight) := do
  let s ← s.ctxEnd d.ctx logical
  return (s, some d.inFlight)

/-- CTX_END (R211, R213). -/
def Desc.ctxEnd (d : Desc) (c : CoreId) (logical : Nat) (s : State) : Try := do
  d.check s (d.restZero []) true
  need (s.kindIn flowKinds) s 11
  d.enter c s (fun s => d.ctxEndRun logical s)

/-- QCHECK begun (R213, R220). -/
def Desc.qcheckRun (d : Desc) (logical : Nat) (s : State) : Run? (State × Option InFlight) := do
  let q ← s.useQueue (d.num 8 2) d.ctx logical false
  let s ← s.queueCheck q d.ctx logical
  return (s, some d.inFlight)

/-- QCHECK (R213, R220). -/
def Desc.qcheck (d : Desc) (c : CoreId) (logical : Nat) (s : State) : Try := do
  d.check s (d.restZero [8, 9]) true
  need (s.kindIn flowKinds) s 11
  d.enter c s (fun s => d.qcheckRun logical s)

/-- QCOPY run (R213). -/
def Desc.qcopyStart (d : Desc) (c : CoreId) (logical : Nat) (got : Store (Byte × Bool)) (s : State) :
    Run? (State × InFlight) :=
  let t := d.pair s
  match s.resolvePair t.1 t.2 d.ctx logical with
  | .error e => .error e
  | .ok (s1, x, y) =>
    let o : Io := { s := s1, c := c, got := got, fwd := sameKind x y }
    s.finish (o.copy x y) d (.core c) (y.outs d.ctx)

/-- QCOPY (R213). -/
def Desc.qcopy (d : Desc) (c : CoreId) (logical : Nat) (s : State) : Try := do
  let t := d.pair s
  d.pairCheck s (d.restZero [8, 9, 10, 11]) true
    (sameShape t.1 t.2 && (t.1.space == 2 || t.2.space == 2) && t.1.vsel == 0 && t.2.vsel == 0)
    (s.kindIn flowKinds)
  d.enter c s (fun s => asStart (d.qcopyStart c logical [] s))

/-! ### Versions (R226 to R231, R237) -/

/-- VCAPTURE begun (R227). -/
def Desc.vcaptureRun (d : Desc) (logical : Nat) (s : State) : Run? (State × Option InFlight) := do
  let s ← s.vcapture d.ctx logical
  return (s, some d.inFlight)

/-- VCAPTURE (R226, R227). -/
def Desc.vcapture (d : Desc) (c : CoreId) (logical : Nat) (s : State) : Try := do
  d.check s (d.restZero []) true
  need (s.kindIn flowKinds) s 11
  d.enter c s (fun s => d.vcaptureRun logical s)

/-- VOPEN or VPUBLISH begun, with the weight that it names (R230, R231). -/
def Desc.onWeight (d : Desc) (s : State) (f : Weight → Run? State) : Run? (State × Option InFlight) :=
  match s.weight? (d.num 8 2) with
  | none => .error { s := s, bit := badOpcode }
  | some w =>
    match f w with
    | .error e => .error e
    | .ok s => .ok (s, some d.inFlight)

/-- VOPEN begun (R230). -/
def Desc.vopenRun (d : Desc) (logical : Nat) (s : State) : Run? (State × Option InFlight) :=
  d.onWeight s (fun w => s.vopen w (d.num 12 2) logical)

/-- VOPEN (R226, R230). -/
def Desc.vopen (d : Desc) (c : CoreId) (logical : Nat) (s : State) : Try := do
  d.check s (d.restZero [8, 9, 12, 13] && (s.weight? (d.num 8 2)).isSome) false
  need (s.kindIn [.stepBoundary]) s 11
  d.enter c s (fun s => d.vopenRun logical s)

/-- VPUBLISH begun (R231). -/
def Desc.vpublishRun (d : Desc) (logical : Nat) (s : State) : Run? (State × Option InFlight) :=
  d.onWeight s (fun w => s.vpublish w (d.num 12 2) (d.num 16 8) logical)

/-- VPUBLISH (R226, R231). -/
def Desc.vpublish (d : Desc) (c : CoreId) (logical : Nat) (s : State) : Try := do
  d.check s (d.restZero [8, 9, 12, 13, 16, 17, 18, 19, 20, 21, 22, 23] &&
    (s.weight? (d.num 8 2)).isSome) false
  need (s.kindIn [.stepBoundary]) s 11
  d.enter c s (fun s => d.vpublishRun logical s)

/-- The shards of a weight in ascending D (R236); without a SHARD section the own one alone. -/
def State.shardsOf (s : State) (w : Weight) : List Shard :=
  if s.ver.hasShards then s.ver.shards.filter (fun x => x.weight == w.id)
  else [{ weight := w.id, d := destAxis s.own 3, full := 0, len := w.len }]

/-- The version number that a VGATHER asks for (R229, R237). -/
def Desc.gatherVersion (d : Desc) (w : Weight) (logical : Nat) (s : State) : Run? Nat :=
  if d.byte 10 = 1 then s.captured d.ctx w.id logical else .ok (d.num 12 2)

/-- Requests for one remote shard (R233, R237, R311); answers their numbers. -/
def State.gatherShard (s : State) (owner : ReqOwner) (w v : Nat) (x : Shard) : List Nat × State :=
  let d := setAxis s.own 3 x.d
  (fuPieces x.len 0 x.len).foldl (fun (r : List Nat × State) e =>
    let h : OpHdr := { addr := e.1, src := r.2.own, dlen := e.2, weight := w, version := v }
    let q := r.2.request owner d (d * 2 ^ 40 + e.1) e.2 true (opFu 0x15 d 0 0 h [])
    (r.1 ++ [q.1], q.2)) ([], s)

/-- The bytes of a shard: local ones from the resolved storage, remote ones as they arrived. -/
def Io.shardBytes (o : Io) (own : Option Nat) (x : Shard) : List (Byte × Bool) × Io :=
  let d := setAxis o.s.own 3 x.d
  let at_ := fun (i : Nat) => match own with
    | some a => Loc.mem (a + i)
    | none => Loc.far (d * 2 ^ 40 + i)
  o.collect (fun o i => o.readByte (at_ i)) (List.range x.len)

/-- One shard written into DST. -/
def Io.putShard (o : Io) (dst : Ten) (own : Option Nat) (x : Shard) : Io :=
  let r := o.shardBytes own x
  let o := if r.1.any (·.2) then { r.2 with seen := true } else r.2
  if o.stopped then o else o.writeBytes dst ((dst.t.base : Int) + x.full) r.1

/-- VGATHER run, with the bytes that have arrived (R237). -/
def Desc.gatherStart (d : Desc) (c : CoreId) (logical : Nat) (got : Store (Byte × Bool)) (first : Bool)
    (s : State) : Run? (State × InFlight) := do
  let t := s.tensor (d.num 14 2)
  match s.weight? (d.num 8 2) with
  | none => .error { s := s, bit := badOpcode }
  | some w =>
    let v ← d.gatherVersion w logical s
    let xs := (s.shardsOf w).filter (fun x => decide (0 < x.len))
    let mine := destAxis s.own 3
    let own ← if xs.any (fun x => x.d == mine) then
        match w.resolve v with
        | none => .error (s.versionFault w v logical)
        | some i => .ok (some (w.storage i))
      else .ok none
    let remote := xs.filter (fun x => x.d != mine)
    if first && !remote.isEmpty then
      let r := remote.foldl (fun (r : List Nat × State) x =>
        let q := r.2.gatherShard (.core c .ver d.pos) w.id v x
        (r.1 ++ q.1, q.2)) ([], s)
      return (r.2.pump, { d.inFlight r.1 with phase := .fetch })
    else
      let dst : Ten := { t := t, place := if t.space = 1 then .store else .glob }
      let o : Io := { s := s, c := c, got := got }
      let o := o.each xs (fun o x => o.putShard dst (if x.d = mine then own else none) x)
      s.finish o d (.core c) []

/-- VGATHER (R226, R237). -/
def Desc.vgather (d : Desc) (c : CoreId) (logical : Nat) (s : State) : Try := do
  let vs := d.byte 10
  d.check s (d.restZero [8, 9, 10, 12, 13, 14, 15] && (s.weight? (d.num 8 2)).isSome &&
    (vs == 1 || vs == 2)) (vs == 1)
  let t := s.tensor (d.num 14 2)
  let local_ := t.space == 1 || (t.space == 0 && globalDest t.base == s.own)
  let long := match s.weight? (d.num 8 2) with
    | none => false
    | some w => (s.shardsOf w).all (fun x => decide (2 * (x.full + x.len) ≤ t.size.i0 * t.fmt.nibbles))
  need (s.tensorOk (d.num 14 2) && t.vsel == 0 && t.dims == 1 && local_ && long) s badTensor
  d.enter c s (fun s => asStart (d.gatherStart c logical [] true s))

/-! ### Remote operations (R313) -/

/-- A tensor in GLOBAL space at the device's own coordinate. -/
def State.isLocal (s : State) (t : Tens) : Bool := t.space == 0 && globalDest t.base == s.own

/-- The operation of a remote descriptor: TYPE, OP and FMT of its flow units (R310, R311). -/
def Desc.remoteOp (d : Desc) (t : Tens) : Nat × Nat × Nat :=
  if d.op = 0x92 then (if t.fmtCode = 7 then (0x13, 0, 7) else (0x12, 0, 0))
  else if d.op = 0x93 then (0x14, d.byte 12, t.fmtCode)
  else (0x11, 0, 0)

/-- A remote descriptor run (R313, R314). -/
def Desc.remoteStart (d : Desc) (c : CoreId) (logical : Nat) (got : Store (Byte × Bool)) (s : State) :
    Run? (State × InFlight) :=
  let t := d.pair s
  match s.resolvePair t.1 t.2 d.ctx logical with
  | .error e => .error e
  | .ok (s1, x, y) =>
    let o : Io := { s := s1, c := c, got := got, fwd := sameKind x y && decide (d.op ≤ 0x91)
                    acc := decide (0x92 ≤ d.op) }
    let f := d.remoteOp t.2
    s.finish (o.copy x y) d (.core c) [] f.1 f.2.1 f.2.2

/-- RREAD, RWRITE, RADD and REDUCE_WRITE (R313). -/
def Desc.remote (d : Desc) (c : CoreId) (logical : Nat) (s : State) : Try := do
  let t := d.pair s
  let rem := if d.op = 0x90 then t.1 else t.2
  let loc := if d.op = 0x90 then t.2 else t.1
  let fmtOk := if d.op = 0x92 then (t.2.fmtCode == 0 || t.2.fmtCode == 7) && !t.2.mx
    else if d.op = 0x93 then (t.2.fmtCode == 0 || t.2.fmtCode == 2 || t.2.fmtCode == 7) && !t.2.mx
    else true
  let fields := if d.op = 0x93 then d.restZero [8, 9, 10, 11, 12] && decide (d.byte 12 ≤ 1)
    else d.restZero [8, 9, 10, 11]
  d.pairCheck s fields false
    (sameShape t.1 t.2 && t.1.vsel == 0 && t.2.vsel == 0 && rem.space == 0 &&
      (loc.space == 1 || s.isLocal loc) && fmtOk) true
  d.enter c s (fun s => asStart (d.remoteStart c logical [] s))

end Sys2Proof.Machine
end

