-- ==== Sys2Proof/Machine/Collective.lean ====
section
/-!
DEFINITION. The collective engine and the ring forwarder (R329 to R335, R338).
-/

namespace Sys2Proof.Machine

open Sys2Proof

/-! ### Causes and ends -/

/-- COLL_MISMATCH (R330, R531). -/
def State.collMismatch (s : State) (id : Word) (sender : Nat) : State :=
  s.raise { page := .col, bit := 8, cls := 3, halt := 0x0B, addr := id.toNat + 2 ^ 32 * sender, kind := 2 }

/-- A collective or ring operation ends in a fault of its descriptor, if that is still in flight. -/
def State.colFault (s : State) (c : CoreId) (pos bt : Nat) : State :=
  match (s.core c).flyAt .fab pos with
  | none => s
  | some e => s.flyFault c e bt 0x08

/-- An in-flight entry no longer held. -/
def InFlight.release (e : InFlight) : InFlight := { e with held := false, phase := .issued }

/-- A collective or ring operation counted as completed (R338). -/
def State.colDone (s : State) : State := s.countWrap .col 0x84 1

/-- The local write of a result, or the ERR_STAT bit of the fault that it meets (R45, R259). -/
def State.localPut (s : State) (off : Nat) (l : List (Byte × Bool)) : State × Option Nat :=
  if s.hitsImage off l.length then (s.glbRecord off 5, some boundsFault)
  else
    match s.firstUnserved off l.length with
    | some g => (s.glbRecord (max g off) 5, some errorResponse)
    | none => ((s.enter .system off l.length).writeP off l, none)

/-- A local read for the engine: its bytes, or the fault. -/
def State.localGet (s : State) (off n : Nat) : State × (List (Byte × Bool)) × Option Nat :=
  match s.firstUnserved off n with
  | some g => (s.glbRecord (max g off) 5, [], some errorResponse)
  | none =>
    let s := (s.enter .system off n).checkRead off n
    (s, (List.range n).map (fun i => (s.byte (off + i), s.poisoned (off + i))), none)

/-! ### Segments (R311, R330, R331) -/

/-- First element of chunk r of a vector of S elements on a ring of n (R330). -/
def chunkAt (r n size : Nat) : Nat := r * size / n

/-- Element size of a collective in 4-bit nibbles. -/
def Collective.nibs (x : Collective) : Nat := ((Fmt.ofCode x.fmt).getD .fp32).nibbles

/-- Bytes of some elements of a collective; FP4 chunks meet at whole bytes. (DEDUCED: log entry 67) -/
def Collective.bytesOf (x : Collective) (n : Nat) : Nat := (n * x.nibs + 1) / 2

/-- Elements in some bytes. -/
def Collective.elemsIn (x : Collective) (bytes : Nat) : Nat := 2 * bytes / x.nibs

/-- Element size of a reduction in bytes. -/
def Collective.esize (x : Collective) : Nat := x.nibs / 2

/-- The operation of a reduction as R314 codes it: type and OP of the element function. -/
def Collective.elem (x : Collective) : Nat × Nat :=
  if x.fold = 0 then (if x.fmt = 7 then (0x13, 0) else (0x12, 0)) else (0x14, x.fold - 1)

/-- A running value folded with this device's elements (R331). -/
def Collective.foldIn (x : Collective) (run mine : List (Byte × Bool)) : List (Byte × Bool) :=
  let e := x.elem
  let n := x.esize
  let out := combineBytes e.1 e.2 x.fmt n (run.length / n) (run.map (·.1)) (mine.map (·.1))
  out.zipIdx.map (fun b => (b.1, (run.getD b.2 (0, false)).2 || (mine.getD b.2 (0, false)).2))

/-- A run of elements sent to a rank as COL_DATA segments, none of which straddles 1 KiB of the operation's bytes;
`hop` is the sender's chain position (R311). -/
def State.colSend (s : State) (x : Collective) (rank hop e0 : Nat) (l : List (Byte × Bool)) : State :=
  let dest := setAxis s.own x.axis rank
  let a := x.bytesOf e0
  s.each (fuPieces l.length a l.length) (fun s e =>
    let v := (l.drop (e.1 - a)).take e.2
    let h : OpHdr := { addr := x.elemsIn e.1, src := s.own, dlen := e.2, fmt := x.fmt
                       opId := x.id.toNat, hop := hop }
    s.sendFu (opFu 0x20 dest 0 (poisonMask v) h (v.map (·.1))) none)

/-- The collective in progress with an identifier. -/
def State.colOp (s : State) (id : Word) : Option Collective := s.col.ops.find? (fun x => x.id == id)

/-- A collective taken out. -/
def State.dropCol (s : State) (id : Word) : State :=
  { s with col := { s.col with ops := s.col.ops.filter (fun x => x.id != id) } }

/-- A segment of a collective of this device. -/
def ownSegment (own : Nat) (id : Word) (f : Fu) : Bool :=
  let h := fuHdr f
  f.type.toNat == 0x20 && h.src == own && h.opId == id.toNat

/-- Whether a segment that this device sent for a collective is not acknowledged yet (R332). -/
def State.colUnacked (s : State) (id : Word) : Bool :=
  s.ports.any (fun e => (e.2.outgoing).any (ownSegment s.own id))

/-- Elements that a rank folds on their way (R331). (DEDUCED: log entry 67) -/
def State.foldNeed (s : State) (x : Collective) : Nat :=
  if x.op = 0xA1 ∨ destAxis s.own x.axis = 0 then 0 else x.size

/-- A collective completes once all of DST is written, its part of the fold is done, and every segment it sent has
been acknowledged (R331, R332). (DEDUCED: log entry 67) -/
def State.colCheck (s : State) (id : Word) : State :=
  match s.colOp id with
  | none => s
  | some x =>
    if x.need ≤ x.wrote ∧ s.foldNeed x ≤ x.folded ∧ !s.colUnacked id then
      ((s.dropCol id).modCore x.core (fun q => q.modFly .fab x.pos InFlight.release)).colDone
    else s

/-- Every collective looked at. -/
def State.colCheckAll (s : State) : State := s.each (s.col.ops.map (·.id)) State.colCheck

/-- A collective ends in a fault. -/
def State.colFail (s : State) (x : Collective) (bt : Nat) : State := (s.dropCol x.id).colFault x.core x.pos bt

/-- Elements noted as written to DST. -/
def Collective.note (id : Word) (n : Nat) (x : Collective) : Collective :=
  if x.id = id then { x with wrote := x.wrote + n } else x

/-- Result elements written to the local DST from an element of it on. -/
def State.colWrite (s : State) (x : Collective) (e : Nat) (l : List (Byte × Bool)) : State :=
  if l.isEmpty then s
  else
    let s := if l.any (·.2) then s.poisonSeen .col else s
    match s.localPut (x.dst + x.bytesOf e) l with
    | (s, some bt) => s.colFail x bt
    | (s, none) =>
      { s with col := { s.col with ops := s.col.ops.map (Collective.note x.id (x.elemsIn l.length)) } }

/-- The part of a run of elements from e0 that lies in elements a to b − 1. -/
def Collective.cut (x : Collective) (e0 a b : Nat) (l : List (Byte × Bool)) : Nat × List (Byte × Bool) :=
  let n := x.esize
  let lo := max a e0
  (lo, (l.drop (n * (lo - e0))).take (n * (b - lo)))

/-- Reduced elements handed to their owners by the last rank (R331). -/
def State.colSpread (s : State) (x : Collective) (e0 : Nat) (l : List (Byte × Bool)) : State :=
  let n := s.ring x.axis
  let r := destAxis s.own x.axis
  s.each (List.range n) (fun s q =>
    let a := if x.op = 0xA0 then chunkAt q n x.size else 0
    let b := if x.op = 0xA0 then chunkAt (q + 1) n x.size else x.size
    let p := x.cut e0 a b l
    if q = r then s.colWrite x (p.1 - a) p.2
    else if p.2.isEmpty then s else s.colSend x q (n - 1) p.1 p.2)

/-- Elements noted as folded. -/
def Collective.noteFold (id : Word) (n : Nat) (x : Collective) : Collective :=
  if x.id = id then { x with folded := x.folded + n } else x

/-- A running value that this rank has folded goes on, or is the result (R331). -/
def State.colStep (s : State) (x : Collective) (e0 : Nat) (l : List (Byte × Bool)) : State :=
  let r := destAxis s.own x.axis
  if r + 1 < s.ring x.axis then s.colSend x (r + 1) r e0 l else s.colSpread x e0 l

/-- A segment of a collective that has issued here (R330, R331). -/
def State.colSegment (s : State) (x : Collective) (f : Fu) : State :=
  let h := fuHdr f
  let n := s.ring x.axis
  let r := destAxis s.own x.axis
  let l := fuData f
  let k := x.elemsIn l.length
  let fits := fun (a b : Nat) => decide (a ≤ h.addr ∧ h.addr + k ≤ b)
  if h.fmt ≠ x.fmt ∨ 2 * l.length % x.nibs ≠ 0 ∨ k = 0 then s.collMismatch x.id h.src
  else if x.op = 0xA1 then
    if h.hop < n ∧ h.hop ≠ r ∧ fits (chunkAt h.hop n x.size) (chunkAt (h.hop + 1) n x.size) then
      s.colWrite x h.addr l
    else s.collMismatch x.id h.src
  else if h.hop + 1 = r ∧ fits 0 x.size then
    match s.localGet (x.src + h.addr * x.esize) l.length with
    | (s, _, some bt) => s.colFail x bt
    | (s, mine, none) =>
      let s := { s with col := { s.col with ops := s.col.ops.map (Collective.noteFold x.id k) } }
      s.colStep x h.addr (x.foldIn l mine)
  else
    let a := if x.op = 0xA0 then chunkAt r n x.size else 0
    let b := if x.op = 0xA0 then chunkAt (r + 1) n x.size else x.size
    if h.hop = n - 1 ∧ r ≠ n - 1 ∧ fits a b then s.colWrite x (h.addr - a) l
    else s.collMismatch x.id h.src

/-- Bytes in the staging buffer (R332). -/
def Col.stagedBytes (c : Col) : Nat := 192 * c.staged.length

/-- A segment or block that came before its issue is staged (R332). -/
def State.stage (s : State) (f : Fu) : State :=
  let c := { s.col with staged := s.col.staged ++ [f] }
  { s with col := { c with peak := max c.peak c.stagedBytes } }

/-- Whether the staging buffer is full (R332). -/
def State.stageFull (s : State) : Bool := decide (2 ^ 25 ≤ s.col.stagedBytes)

/-- The VC2 credits that a full staging buffer held back, returned once there is room (R332). -/
def State.payOwed (s : State) : State :=
  if s.stageFull then s
  else
    let l := s.col.owed
    ({ s with col := { s.col with owed := [] } }).each l (fun s p => s.freeCredit p 2)

/-! ### The ring forwarder (R333 to R335) -/

/-- The ring operation with an identifier. -/
def State.ringOp (s : State) (id : Word) : Option RingOp := s.col.rings.find? (fun x => x.id == id)

/-- Ring operations in progress. -/
def Col.ringCount (c : Col) : Nat := (c.rings.filter (fun x => !x.full)).length

/-- Bytes noted as written to a ring slot. -/
def RingOp.note (id : Word) (k n : Nat) (x : RingOp) : RingOp :=
  if x.id = id then { x with got := x.got.modify k (· + n) } else x

/-- Whether a RING_WAIT entry is held for slot k of an operation. -/
def waitsRing (id : Word) (got : List Nat) (bytes : Nat) (e : InFlight) : Bool :=
  let d := e.toDesc
  e.held && d.op == 0xA5 && d.num 16 4 == id.toNat && decide (bytes ≤ got.getD (d.byte 12) 0)

/-- RING_WAIT entries whose slot is now written are no longer held (R334). -/
def Core.wakeRing (x : Core) (r : RingOp) : Core :=
  { x with fly := x.fly.map (fun e => if waitsRing r.id r.got r.bytes e then e.release else e) }

/-- Every core's RING_WAITs looked at after a write to a ring slot. -/
def State.wakeRings (s : State) (id : Word) : State :=
  match s.ringOp id with
  | none => s
  | some r =>
    let s := if r.full then s.colDone else s
    s.each (s.cores.map (·.1)) (fun s n => match coreOfNat n with
      | none => s
      | some c => s.modCore c (fun x => x.wakeRing r))

/-- Bytes written into a ring slot. -/
def State.ringPut (s : State) (x : RingOp) (k off : Nat) (l : List (Byte × Bool)) : State :=
  let s := if l.any (·.2) then s.poisonSeen .col else s
  match s.localPut (x.dst + k * x.bytes + off) l with
  | (s, some bt) => s.colFault x.core x.pos bt
  | (s, none) =>
    ({ s with col := { s.col with rings := s.col.rings.map (RingOp.note x.id k l.length) } }).wakeRings x.id

/-- A block of bytes sent on C+ to the next device; `hop` is the rounds it will have travelled there. -/
def State.ringSend (s : State) (id : Word) (hop off : Nat) (l : List (Byte × Bool)) : State :=
  let n := s.ring 2
  let dest := setAxis s.own 2 ((destAxis s.own 2 + 1) % n)
  s.each (fuPieces l.length off l.length) (fun s e =>
    let v := (l.drop (e.1 - off)).take e.2
    let h : OpHdr := { addr := e.1, src := s.own, dlen := e.2, opId := id.toNat, hop := hop }
    s.sendFu (opFu 0x21 dest 0 (poisonMask v) h (v.map (·.1))) none)

/-- A RING_BLOCK of an operation that has issued here: written, and relayed unless it has come round (R334). -/
def State.ringBlock (s : State) (x : RingOp) (f : Fu) : State :=
  let h := fuHdr f
  let n := s.ring 2
  let l := fuData f
  if h.hop = 0 ∨ n ≤ h.hop ∨ x.bytes < h.addr + l.length then s.collMismatch x.id h.src
  else
    let s := if h.hop + 1 < n then s.ringSend x.id (h.hop + 1) h.addr l else s
    s.ringPut x h.hop h.addr l

/-! ### Issue (R329, R333) -/

/-- Staged segments of an operation taken up once it has issued. -/
def State.takeStaged (s : State) (type : Nat) (id : Word) (f : State → Fu → State) : State :=
  let mine := fun (u : Fu) => u.type.toNat == type && (fuHdr u).opId == id.toNat
  let l := s.col.staged.filter mine
  let s := { s with col := { s.col with staged := s.col.staged.filter (fun u => !mine u) } }
  (s.each l f).payOwed

/-- A segment handled by the collective it belongs to. -/
def State.colTake (id : Word) (s : State) (f : Fu) : State :=
  match s.colOp id with
  | none => s
  | some x => (s.colSegment x f).colCheck id

/-- A block handled by the ring operation it belongs to. -/
def State.ringTake (id : Word) (s : State) (f : Fu) : State :=
  match s.ringOp id with
  | none => s
  | some x => s.ringBlock x f

/-- What rank r does when a collective issues (R331). -/
def State.colStart (s : State) (x : Collective) : State :=
  let n := s.ring x.axis
  let r := destAxis s.own x.axis
  if x.op = 0xA1 then
    let a := chunkAt r n x.size
    match s.localGet x.src (x.bytesOf (chunkAt (r + 1) n x.size - a)) with
    | (s, _, some bt) => s.colFail x bt
    | (s, mine, none) =>
      s.each (List.range n) (fun s q => if q = r then s.colWrite x a mine else s.colSend x q r a mine)
  else if r = 0 then
    match s.localGet x.src (x.size * x.esize) with
    | (s, _, some bt) => s.colFail x bt
    | (s, mine, none) => s.colStep x 0 mine
  else s

/-- The size rule of a collective (R330): S by the local sizes, none where they do not match. -/
def colSize (op r n src dst : Nat) : Option Nat :=
  let len := fun (size : Nat) => chunkAt (r + 1) n size - chunkAt r n size
  if op = 0xA0 then (if dst = len src then some src else none)
  else if op = 0xA1 then (if src = len dst then some dst else none)
  else if src = dst then some src else none

/-- The tensor rule of a collective (R329). -/
def State.colRule (s : State) (op fold : Nat) (a b : Tens) : Bool :=
  let plain := fun (t : Tens) => t.dims == 1 && s.isLocal t && t.vsel == 0 && !t.mx
  plain a && plain b && a.fmtCode == b.fmtCode &&
  (op == 0xA1 || a.fmtCode == 0 || a.fmtCode == 7 || (fold != 0 && a.fmtCode == 2))

/-- A collective begun (R331, R332). -/
def Desc.collectiveRun (d : Desc) (c : CoreId) (s : State) : Run? (State × Option InFlight) :=
  let axis := d.byte 12
  let t := d.pair s
  let size := colSize d.op (destAxis s.own axis) (s.ring axis) t.1.size.i0 t.2.size.i0
  let id := BitVec.ofNat 32 (d.num 16 4)
  let x : Collective := { core := c, pos := d.pos, op := d.op, axis := axis, fold := d.byte 13, id := id
                          fmt := t.1.fmtCode, size := size.getD 0, src := globalOff t.1.base
                          dst := globalOff t.2.base, need := t.2.size.i0 }
  let s := { s with col := { s.col with ops := s.col.ops ++ [x] } }
  let s := s.modCore c (fun q => q.putFly (d.inFlight [] true))
  .ok (((s.colStart x).takeStaged 0x20 id (State.colTake id)).colCheck id, none)

/-- REDUCE_SCATTER, ALL_GATHER and ALL_REDUCE (R329 to R332). -/
def Desc.collective (d : Desc) (c : CoreId) (s : State) : Try := do
  let axis := d.byte 12
  let fold := d.byte 13
  let t := d.pair s
  let op := d.op
  let size := colSize op (destAxis s.own axis) (s.ring axis) t.1.size.i0 t.2.size.i0
  d.pairCheck s (d.restZero [8, 9, 10, 11, 12, 13, 16, 17, 18, 19] && (axis == 1 || axis == 3) &&
    decide (fold ≤ 2) && (op != 0xA1 || fold == 0)) false (s.colRule op fold t.1 t.2 && size.isSome) true
  d.enter c s (fun s => d.collectiveRun c s)

/-- The tensor rule of RING_START (R333). -/
def State.ringRule (s : State) (t : Tens) : Bool := t.dims == 1 && s.isLocal t && t.vsel == 0 && !t.mx

/-- RING_START begun: the own block into slot 0 and on C+ (R334, R335). -/
def Desc.ringStartRun (d : Desc) (c : CoreId) (logical : Nat) (s : State) : Run? (State × Option InFlight) :=
  let t := d.pair s
  let n := s.ring 2
  let id := BitVec.ofNat 32 (d.num 16 4)
  if 2 ≤ n ∧ !(List.range n).all (s.ringLink 2) then
    .error { s := s.raise { page := .col, bit := 9, cls := 3, halt := 0x08, addr := id.toNat, kind := 3
                            req := logical }
             bit := errorResponse }
  else
    let bytes := t.1.size.i0 * t.1.fmt.nibbles / 2
    let x : RingOp := { core := c, pos := d.pos, id := id, dst := globalOff t.2.base, bytes := bytes
                        got := List.replicate n 0 }
    match s.localGet (globalOff t.1.base) bytes with
    | (s, _, some bt) => .error { s := s, bit := bt }
    | (s, mine, none) =>
      let rings := s.col.rings.filter (fun y => y.id != id)
      let s := { s with col := { s.col with rings := rings ++ [x] } }
      let s := s.modCore c (fun q => q.putFly d.inFlight)
      let s := if 2 ≤ n then s.ringSend id 1 0 mine else s
      .ok ((s.ringPut x 0 0 mine).takeStaged 0x21 id (State.ringTake id), none)

/-- RING_START (R333 to R335). -/
def Desc.ringStart (d : Desc) (c : CoreId) (logical : Nat) (s : State) : Try := do
  let t := d.pair s
  let n := s.ring 2
  d.pairCheck s (d.restZero [8, 9, 10, 11, 16, 17, 18, 19]) false
    (s.ringRule t.1 && s.ringRule t.2 && t.1.fmtCode == t.2.fmtCode && t.2.size.i0 == n * t.1.size.i0) true
  d.enter c s (fun s => d.ringStartRun c logical s)

/-- RING_WAIT begun (R334). -/
def Desc.ringWaitRun (d : Desc) (s : State) : Run? (State × Option InFlight) :=
  let done := match s.ringOp (BitVec.ofNat 32 (d.num 16 4)) with
    | none => false
    | some r => decide (r.bytes ≤ r.got.getD (d.byte 12) 0)
  .ok (s, some (d.inFlight [] (!done)))

/-- RING_WAIT (R333, R334). -/
def Desc.ringWait (d : Desc) (c : CoreId) (s : State) : Try := do
  d.check s (d.restZero [10, 11, 12, 16, 17, 18, 19]) false
  let t := s.tensor (d.num 10 2)
  let k := d.byte 12
  need (s.tensorOk (d.num 10 2) && s.ringRule t && decide (k < s.ring 2)) s badTensor
  d.enter c s (fun s => d.ringWaitRun s)

/-- A COL_DATA that arrived: handled by its collective, or staged (R331, R332). -/
def State.takeColData (s : State) (f : Fu) : State :=
  let id := BitVec.ofNat 32 (fuHdr f).opId
  if (s.colOp id).isSome then State.colTake id s f else s.stage f

/-- A RING_BLOCK that arrived: handled by its operation, or staged (R334). -/
def State.takeRingBlock (s : State) (f : Fu) : State :=
  let id := BitVec.ofNat 32 (fuHdr f).opId
  if (s.ringOp id).isSome then State.ringTake id s f else s.stage f

end Sys2Proof.Machine
end

