-- ==== Sys2Proof/Machine/Repair.lean ====
section
/-!
DEFINITION. Remap and repair (R97 to R104), aborts (R141, R142) and fencing (R346, R347), with the start of a
resolution that a fence may let begin (R354, R357).
-/

namespace Sys2Proof.Machine

open Sys2Proof

/-! ### Tables of the slot (R95 to R98) -/

/-- The physical core that carries a logical core now; none for an orphan (R97). -/
def State.carrier (s : State) (l : Nat) : Option CoreId := coreOfNat (Store.get (fun _ => 0xFF) s.cad.live l)

/-- The list of a logical core in the slot's list table; none where VALID = 0 (R95). -/
def State.listOf (s : State) (l : Nat) : Option Nat :=
  if s.cad.listTable = 0xFFFFFFFF then none
  else
    let w := s.mem (s.descAddr s.cad.listTable + 4 * l) 4
    if w / 2 ^ 31 = 1 then some (w % 2 ^ 26) else none

/-- Local offset of a logical core's header in the slot's repair table. -/
def State.repairHeader (s : State) (l : Nat) : Nat := s.descAddr s.cad.repairTable + 8 * l

/-- A repair piece as its entry gives it (R98); the entry at an image offset in bytes. -/
def State.pieceAt (s : State) (l entry : Nat) : PieceRun :=
  let a := s.imageBase + entry
  { logical := l, list := s.mem a 4, piece := s.mem (a + 4) 1, wave := s.mem (a + 5) 1
    helper := s.mem (a + 6) 1, noReplay := s.mem (a + 7) 1 % 2 == 1, entry := entry, st := .queued }

/-- The repair pieces of a logical core in the slot (R98). -/
def State.piecesOf (s : State) (l : Nat) : List PieceRun :=
  if s.cad.repairTable = 0xFFFFFFFF then []
  else
    let h := s.repairHeader l
    (List.range (s.mem h 2)).map (fun i => s.pieceAt l (64 * s.mem (h + 4) 4 + 16 * i))

/-- A poisoned block among the repair structures of a logical core (R96). -/
def State.repairPoison (s : State) (l : Nat) : Option Nat :=
  if s.cad.repairTable = 0xFFFFFFFF then none
  else
    let h := s.repairHeader l
    let n := s.mem h 2
    (blocksOf h 8 ++ blocksOf (s.descAddr (s.mem (h + 4) 4)) (16 * n)).find? s.poisoned

/-- TABLE_POISON (R96). -/
def State.tablePoison (s : State) (a : Nat) : State :=
  (s.poisonSeen .cad).raise { page := .cad, bit := 10, cls := 4, halt := 0x01, addr := a }

/-! ### Working state (R36) -/

/-- A core's registers, norm accumulators and array as at a tick (R36). -/
def Core.clearRegs (x : Core) : Core :=
  { x with v := [], vp := [], t := [], tp := [], na := [], nap := [], held := [], shadow := none, latest := none }

/-- A core's working state reset (R36, R257): also every line unwritten, with neither poison nor tag. -/
def Core.resetWork (x : Core) : Core :=
  { x.clearRegs with written := [], lpoison := [], clean := [], badLines := [] }

/-! ### Pieces (R99 to R102) -/

/-- The descriptors of a list up to its END, each as its position and PIECE (R46, R47); `n` bounds them. -/
def State.pieceNumbers (s : State) (list : Nat) : Nat → Nat → List (Nat × Nat)
  | 0, _ => []
  | n + 1, pos =>
    let w := s.mem (s.descAddr (list + pos)) 8
    if w % 256 = 0 then [] else (pos, w / 2 ^ 16 % 256) :: s.pieceNumbers list n (pos + 1)

/-- Whether a position of a core's run has completed: issued, no longer in flight, and not where it faulted. -/
def Core.posDone (x : Core) (r : Run) (pos : Nat) : Bool :=
  decide (pos < r.pos) && x.fly.all (fun e => e.pos != pos) && !(r.faulted && r.base + pos == x.ptr)

/-- REPAIR_REFUSED (R100). -/
def State.refuse (s : State) (p : PieceRun) : State :=
  s.raise { page := .cad, bit := 9, cls := 3, halt := 0x0B, addr := p.entry / 64, req := p.logical }

/-- What becomes of one piece of a fenced core's own list (R100): kept, queued, or refused. -/
def State.replanPiece (s : State) (x : Core) (r : Run) (ds : List (Nat × Nat)) (p : PieceRun) : State :=
  let mine := (ds.filter (fun d => d.2 == p.piece)).map (·.1)
  if mine.all (x.posDone r) then s
  else if p.noReplay && mine.any (fun d => decide (d < r.pos)) then s.refuse p
  else { s with cad := { s.cad with pieces := s.cad.pieces ++ [p] } }

/-- The work of a logical core queued to its helpers, its pieces judged one by one; without pieces it cannot be
placed (R100, R102). -/
def State.replanList (s : State) (l list : Nat) (judge : State → PieceRun → State) : State :=
  match s.repairPoison l with
  | some a => s.tablePoison a
  | none =>
    match s.piecesOf l with
    | [] => { s with cad := { s.cad with unplaced := s.cad.unplaced ++ [(l, list)] } }
    | ps => s.each ps judge

/-- A helper's piece after the helper was fenced (R101, R347). -/
def State.requeue (s : State) (i : Nat) (started : Bool) : State :=
  match s.cad.pieces[i]? with
  | none => s
  | some p =>
    if started && p.noReplay then
      { s.refuse p with cad := { (s.refuse p).cad with
        pieces := s.cad.pieces.modify i (fun p => { p with st := .done }) } }
    else { s with cad := { s.cad with pieces := s.cad.pieces.modify i (fun p => { p with st := .queued }) } }

/-- The image offset of a run's first unretired descriptor (R105). -/
def Core.unretired (x : Core) (r : Run) : Nat :=
  r.base + x.fly.foldl (fun m e => min m e.pos) (if r.faulted then min r.pos (x.ptr - r.base) else r.pos)

/-- What the cadence engine does with the work of a core that was fenced, `x` as it was before (R100, R101,
R347). -/
def State.replan (s : State) (x : Core) : State :=
  if !s.inSlot then s
  else
    match x.run with
    | none => s
    | some r =>
      if s.tim.window then
        if (r.ended || r.faulted) && x.fly.isEmpty then s
        else { s with cad := { s.cad with late := s.cad.late ++ [(r.logical, x.unretired r)] } }
      else
        match r.piece with
        | some i => if r.ended || r.faulted then s else s.requeue i (decide (0 < r.pos))
        | none =>
          if r.ended then s
          else
            let ds := s.pieceNumbers r.base 65536 0
            if (s.piecesOf r.logical).isEmpty && r.faulted then s
            else s.replanList r.logical r.base (fun s p => s.replanPiece x r ds p)

/-! ### Aborts (R141, R142) -/

/-- The status of an array whose uncommitted instructions end in one way (R140, R141, R144). -/
def Core.endStatus (x : Core) (st : ArrStatus) : ArrStatus :=
  if x.held.any (fun h => x.latest == some h.pos) then st else x.status

/-- An abort of a core's array (R141, R142): instructions before their commit point are discarded, else it is late;
those in the queue are discarded with neither fault nor effect. -/
def Core.abort (x : Core) : Core :=
  let left := x.fly.filter (fun e => !decide (e.unit = .arr) || decide (e.phase = .issued))
  let y := { x with fly := left, shadow := none }
  if x.held.isEmpty then { y with abortLate := true }
  else { y with held := [], status := x.endStatus .aborted }

/-! ### Resolutions begin and end (R354, R357) -/

/-- The partner of a core: the first candidate that is no husk (R354). -/
def State.partnerOf (s : State) (c : CoreId) : Option CoreId :=
  ([48, 96, 144].map (fun k => (⟨(c.val + k) % 192, Nat.mod_lt _ (by decide)⟩ : CoreId))).find?
    (fun q => !s.husk q)

/-- The oldest result of a core whose failing verdict has returned. -/
def Core.disputed (x : Core) : Option Held := x.held.find? (·.judged)

/-- The next resolution of a die, if none runs there and a disagreement waits (R354). -/
def State.nextResolution (s : State) (d : DieId) : State :=
  if s.flt.active.any (fun e => decide (e.1 = d)) then s
  else
    match (allFin 192).find? (fun c => decide (coreDie c = d) && (s.core c).disputed.isSome) with
    | none => s
    | some c =>
      match (s.core c).disputed with
      | none => s
      | some h =>
        let r : Resolution := { core := c, o := h, partner := s.partnerOf c }
        let s := s.modCore c (fun x => x.modFly .arr h.pos (fun e => { e with buffered := true }))
        { s with flt := { s.flt with active := s.flt.active ++ [(d, r)] } }

/-- A die's resolution ended, the next one begun. -/
def State.endResolution (s : State) (d : DieId) : State :=
  ({ s with flt := { s.flt with active := s.flt.active.filter (fun e => !decide (e.1 = d)) } }).nextResolution d

/-- A resolution whose partner is gone takes the next candidate for X (R357). -/
def State.repartner (s : State) (c : CoreId) (e : DieId × Resolution) : DieId × Resolution :=
  if e.2.partner = some c ∧ e.2.x.isNone then (e.1, { e.2 with partner := s.partnerOf e.2.core }) else e

/-- What the fence or abort of a core does to resolutions: its own ends, X re-runs on it move on (R357). -/
def State.leaveFlint (s : State) (c : CoreId) : State :=
  let s := { s with flt := { s.flt with active := s.flt.active.map (s.repartner c) } }
  if s.flt.active.any (fun e => decide (e.2.core = c)) then s.endResolution (coreDie c) else s

/-- A core taken out of a sweep (R360). -/
def State.leaveSweep (s : State) (c : CoreId) : State :=
  { s with flt := { s.flt with sweep := { s.flt.sweep with
    todo := s.flt.sweep.todo.filter (fun e => !decide (e.1 = c)) } } }

/-! ### Fencing (R346) -/

/-- Whether a request is a core's and has not left it. -/
def unsentOf (c : CoreId) (t : Tracker) : Bool :=
  match t.owner with
  | .core c' _ _ => decide (c = c') && !t.sent
  | _ => false

/-- Requests of a core that have not left it, dropped (R100). -/
def State.dropUnsent (s : State) (c : CoreId) : State :=
  let gone := (s.trackers.filter (unsentOf c)).map (·.id)
  let keep := fun (o : OutEntry) => { o with tags := o.tags.filter (fun t => !gone.contains t) }
  { s with
    trackers := s.trackers.filter (fun t => !unsentOf c t)
    mbq := { s.mbq with outs := s.mbq.outs.map keep } }

/-- Husks (R104). -/
def State.husks (s : State) : Nat := (s.cores.filter (fun e => e.2.cause != 0)).length

/-- A core as a fence leaves it. -/
def Core.fenced (x : Core) (cause : Nat) : Core :=
  { x.abort with cause := cause, logical := none, run := none, own := none, fly := [], held := []
                 testing := false, halt := x.halt }

/-- FALLBACK_EXCEEDED for the fence of a core (R104, R534). -/
def State.checkFallback (s : State) (c : CoreId) (cause : Nat) : State :=
  if s.job.st.active && decide (s.field .cad 0x90 3 0 < s.husks) then
    s.raise { page := .cad, bit := 8, cls := 3, halt := 0x03, addr := c.val, req := cause }
  else s

/-- A core removed from the live map (R97). -/
def State.unmap (s : State) (x : Core) : State :=
  match x.logical with
  | none => s
  | some l => { s with cad := { s.cad with live := Store.set (fun _ => 0xFF) s.cad.live l 0xFF } }

/-- The writes that a fenced core has sent stay outstanding (R91, R100). -/
def State.leaveCore (s : State) (c : CoreId) : State :=
  s.each ((s.core c).fly.filter (fun e => e.writes))
    (fun s e => s.leaveBehind (s.logicalOf c) e.off (e.tags.filter (fun t => s.trackers.any (fun u => u.id == t))))

/-- FENCE_CORE (R346): a core that is no husk becomes one, and its work is repaired. -/
def State.fence (s : State) (c : CoreId) (cause : Nat) : State :=
  if s.husk c then s
  else
    let x := s.core c
    let s := (s.dropUnsent c).leaveCore c
    let s := s.modCore c (fun x => x.fenced cause)
    let s := ((s.trace 2 (coreDie c).val (cause * 256 + c.val)).leaveFlint c).leaveSweep c
    ((s.unmap x).checkFallback c cause).replan x

/-- The image offset of the descriptor that a unit of a core runs, 0 outside a list (R528). -/
def Core.running (x : Core) (u : UnitId) : Nat :=
  match x.fly.find? (fun e => decide (e.unit = u)) with
  | some e => e.off
  | none => 0

/-- The page, ERR_STAT bit, recorded address and STATUS change of a fatal core error (R145, R209, R273, R528). -/
def Core.fatal (x : Core) (c : CoreId) : CoreCause → Cause
  | .arrDatapath => { page := .arr c, bit := 8, cls := 2, addr := x.running .arr, req := c.val }
  | .arrShadow => { page := .arr c, bit := 9, cls := 2, addr := x.running .arr, req := c.val }
  | .arrOutbuf => { page := .arr c, bit := 10, cls := 2, addr := x.running .arr, req := c.val }
  | .vecLane => { page := .vec c, bit := 8, cls := 2, addr := x.running .vec, req := c.val }
  | .vecRegfile => { page := .vec c, bit := 9, cls := 2, addr := x.running .vec, req := c.val }
  | .vecNacc => { page := .vec c, bit := 10, cls := 2, addr := x.running .vec, req := c.val }
  | .cdmaParity => { page := .cdma c, bit := 8, cls := 2, addr := x.running .cdma, req := c.val }
  | .cstTagParity l => { page := .cst c, bit := 10, cls := 2, addr := 64 * l.toNat, req := c.val }

/-- Whether a cause lies in the array. -/
def causeInArray : CoreCause → Bool
  | .arrDatapath | .arrShadow | .arrOutbuf => true
  | _ => false

/-- The instructions before their commit point abandoned by a fault of the array (R140). -/
def Core.faultArray (x : Core) : Core :=
  if x.held.isEmpty then x else { x with held := [], status := x.endStatus .faulted }

/-- FATAL_CORE_ERROR (R145, R209, R273, R346). -/
def State.fatalCore (s : State) (c : CoreId) (k : CoreCause) : State :=
  if s.husk c then s
  else
    let s := s.raise ((s.core c).fatal c k)
    let s := if causeInArray k then s.modCore c Core.faultArray else s
    s.fence c 1

/-- ARR_ABORT.GO on a core (R141, R143). -/
def State.arrAbort (s : State) (c : CoreId) : State := (s.modCore c Core.abort).leaveFlint c

/-! ### Running pieces (R101) -/

/-- The mapped logical core that runs a piece: its HELPER or the next mapped one (R101). -/
def State.helperOf (s : State) (p : PieceRun) : Option Nat :=
  ((List.range 192).map (fun i => (p.helper + i) % 192)).find? (fun l => (s.carrier l).isSome)

/-- The order in which a helper takes its pieces (R101). -/
def pieceKey (p : PieceRun) : Nat := p.logical * 65536 + p.wave * 256 + p.piece

/-- The first of some pieces in the order of R101. -/
def firstPiece (l : List (PieceRun × Nat)) : Option (PieceRun × Nat) :=
  l.foldl (fun b e => match b with
    | none => some e
    | some b => if pieceKey e.1 < pieceKey b.1 then some e else some b) none

/-- Whether a queued piece must wait for a lower wave (R101). -/
def State.waveWaits (s : State) (p : PieceRun) : Bool :=
  s.cad.pieces.any (fun q => q.logical == p.logical && decide (q.wave < p.wave) && !decide (q.st = .done))

/-- Whether a core may start a piece: it is mapped, its own list, if it has one, has ended without a fault, and
it runs no other piece (R101). -/
def Core.mayHelp (x : Core) : Bool :=
  let own := if (x.run.bind (·.piece)).isSome then x.own else x.run
  x.cause == 0 && !x.halt && x.logical.isSome && x.fly.isEmpty &&
    (match own with
    | some r => r.ended && !r.faulted
    | none => true) &&
    (match x.run with
    | some r => r.ended || (r.piece.isSome && r.faulted)
    | none => true)

/-- REPAIR_PIECE: a helper starts the first piece queued to it (R101). -/
def State.startPiece (s : State) (c : CoreId) : State :=
  let x := s.core c
  if !s.inSlot || s.tim.window || !x.mayHelp then s
  else
    let mine := s.cad.pieces.zipIdx.filter (fun e => decide (e.1.st = .queued) && s.helperOf e.1 == x.logical)
    match firstPiece mine with
    | none => s
    | some (p, i) =>
      if s.waveWaits p then s
      else
        let own := if (x.run.bind (·.piece)).isSome then x.own else x.run
        let r : Run := { base := p.list, logical := p.logical, piece := some i }
        let s := s.modCore c (fun x => { x.resetWork with own := own, run := some r, ptr := p.list, fly := [] })
        let s := { s with cad := { s.cad with
          pieces := s.cad.pieces.modify i (fun p => { p with st := .running c }) } }
        s.tel 10 (coreDie c).val 1

end Sys2Proof.Machine
end

