-- ==== Sys2Proof/Machine/Flint.lean ====
section
/-!
DEFINITION. Flint (R351 to R364): verdicts, resolutions, the log, known-answer tests and sweeps.
-/

namespace Sys2Proof.Machine

open Sys2Proof

/-! ### The log (R361) -/

/-- OUTCOME codes of a resolution (R361). -/
inductive Verdict
  | falseAlarm
  | checkerFault
  | transient
  | rerunTransient
  | persistent
  | unresolved
  deriving DecidableEq, Repr

/-- The code of an outcome (R361). -/
def Verdict.code : Verdict → Nat
  | .falseAlarm => 1
  | .checkerFault => 2
  | .transient => 3
  | .rerunTransient => 4
  | .persistent => 5
  | .unresolved => 6

/-- A FLT cause of a core with an image offset (R364). -/
def State.fltCause (s : State) (bt cls off : Nat) (c : CoreId) : State :=
  s.raise { page := .flt, bit := bt, cls := cls, addr := off, req := c.val }

/-- A log record's bytes 8 to 22. -/
structure LogBody where
  core    : CoreId
  partner : Nat := 0xFF
  outcome : Nat
  off     : Nat := 0
  m       : Nat := 0
  k       : Nat := 0
  n       : Nat := 0
  d       : Nat := 0
  flags   : Nat := 0
  col     : Nat := 0
  deriving DecidableEq, Repr

/-- The 32 bytes of a log record (R361). -/
def State.logBytes (s : State) (b : LogBody) : List Byte :=
  leBytes s.tick 8 ++ leBytes b.core.val 1 ++ leBytes ((s.core b.core).logical.getD 0xFF) 1 ++
    leBytes b.partner 1 ++ leBytes b.outcome 1 ++ leBytes b.off 4 ++ leBytes b.m 2 ++ leBytes b.k 1 ++
    leBytes b.n 1 ++ leBytes b.d 1 ++ leBytes b.flags 1 ++ leBytes b.col 1 ++ List.replicate 9 0

/-- Local offset of the log ring (R363). -/
def State.logBase (s : State) : Nat :=
  (s.reg .flt 0x90).toNat / 4096 * 4096 + 2 ^ 32 * s.field .flt 0x94 7 0

/-- A record written to the log, where it is enabled; a refused write is recorded under R45 (R361, R364). -/
def State.fltLog (s : State) (b : LogBody) : State :=
  if !s.flag .flt 0x90 0 then s
  else
    let head := (s.reg .flt 0xC8).toNat
    let a := s.logBase + head % 4096 * 32
    let s1 := if 4096 ≤ head then s.fltCause 13 1 b.off b.core else s
    let s2 := if s.hitsImage a 32 || !s.served a then s1.glbRecord a 5 else (s1.enter .system a 32).write a (s.logBytes b) false
    s2.countWrap .flt 0xC8 1

/-- The trace entry of an outcome (R517). -/
def State.fltTrace (s : State) (c : CoreId) (outcome : Nat) : State :=
  s.trace 3 (coreDie c).val (c.val * 256 + outcome)

/-! ### The watch list (R356, R358) -/

/-- Whether a core is on the watch list. -/
def State.watched (s : State) (c : CoreId) : Bool := s.flag .flt (0xA0 + 4 * (c.val / 32)) (c.val % 32)

/-- A core put on the watch list. -/
def State.watch (s : State) (c : CoreId) : State := s.setFlag .flt (0xA0 + 4 * (c.val / 32)) (c.val % 32) true

/-- A core blamed (R356). -/
def State.blame (s : State) (c : CoreId) : State :=
  if s.watched c && s.flag .ras 0x88 4 then s.fence c 2 else s.watch c

/-! ### Verdicts (R353) -/

/-- A verdict counted. -/
def State.countVerdict (s : State) (c : CoreId) : State := (s.countWrap .flt 0xC4 1).tel 11 (coreDie c).val 1

/-- A held result out of the holds of a core, its descriptor free to complete. -/
def Core.letGo (x : Core) (h : Held) : Core :=
  { (x.modFly .arr h.pos InFlight.release) with held := x.held.filter (fun k => k.pos != h.pos) }

/-- A held instruction commits a result (R139, R353). -/
def State.release (s : State) (c : CoreId) (h : Held) (r : Res) : State :=
  (s.commitMma c (h.mma s) r h.pos).modCore c (fun q => q.letGo h)

/-- The instruction at a position reaches its commit point, if no verdict is needed for it (R121). -/
def State.commitPoint (s : State) (c : CoreId) (pos : Nat) : State :=
  match (s.core c).held.find? (fun h => h.pos == pos && !h.sampled) with
  | none => s
  | some h => s.release c h h.res

/-- DESC_COMPLETE: the oldest descriptor of a unit that has started completes (R49); an array instruction that
Flint
does not sample passes its commit point and is written back (R121, R124). (DESIGN CHOICE: log entry 12) -/
def State.descComplete (s : State) (c : CoreId) (u : UnitId) : State :=
  match (s.core c).oldest u with
  | none => s
  | some e =>
    let s := if u = .arr then s.commitPoint c e.pos else s
    match (s.core c).flyAt u e.pos with
    | none => s
    | some e => s.completeEntry c u e

/-- The lowest failing column of a verdict, where a fault of the checker may spoil a column's checksum (R352,
R355). (DEDUCED: log entry 13) -/
def Mma.judged (x : Mma) (fail : Option Nat) (spoilt : Option (BitVec 7)) : Option Nat :=
  match spoilt with
  | none => fail
  | some n => if n.toNat < x.n then some (min n.toNat (fail.getD n.toNat)) else fail

/-- A held result marked as disputed, with the column its verdict reports. -/
def Core.dispute (x : Core) (h : Held) (col : Nat) : Core :=
  { x with held := x.held.map (fun k => if k.pos = h.pos then { k with judged := true, fail := some col } else k) }

/-- VERDICT: the oldest held result of a core commits, or its resolution starts (R139, R353). (DESIGN CHOICE: log
entry 8; DEDUCED: log entry 13) -/
def State.verdict (s : State) (c : CoreId) (spoilt : Option (BitVec 7)) : State :=
  match (s.core c).held.find? (fun h => h.sampled && !h.judged) with
  | none => s
  | some h =>
    let s := s.countVerdict c
    match (h.mma s).judged h.fail spoilt with
    | none => s.release c h h.res
    | some col =>
      let s := (s.countSat .flt 0x8C 1).fltCause 8 1 h.off c
      (s.modCore c (fun x => x.dispute h col)).nextResolution (coreDie c)

/-! ### Resolutions (R354 to R357) -/

/-- The resolution that runs on a die. -/
def State.resolution (s : State) (d : DieId) : Option Resolution :=
  (s.flt.active.find? (fun e => decide (e.1 = d))).map (·.2)

/-- The resolution of a die changed. -/
def State.modResolution (s : State) (d : DieId) (f : Resolution → Resolution) : State :=
  { s with flt := { s.flt with active := s.flt.active.map (fun e => if e.1 = d then (e.1, f e.2) else e) } }

/-- The instruction run again on the operands in the disputed core's store (R354). -/
def State.rerun (s : State) (r : Resolution) (upsets : List Upset) (spoilt : Option (BitVec 7)) : Res × Option Nat :=
  let x := r.o.mma s
  let g := s.granite r.core
  let i := (s.mmaIn r.core x).1
  let res := applyUpsets upsets (x.result g i)
  (res, x.judged (x.failing g (s.field .flt 0x88 15 0) i res) spoilt)

/-- RERUN_S: the re-run on the same core, which needs a free bank (R354). (DEDUCED: log entry 13) -/
def State.rerunS (s : State) (d : DieId) (upsets : List Upset) (spoilt : Option (BitVec 7)) : State :=
  match s.resolution d with
  | none => s
  | some r =>
    if r.s.isSome || decide (2 ≤ s.banksUsed r.core) || (s.core r.core).halt then s
    else (s.modResolution d (fun q => { q with s := some (s.rerun r upsets spoilt) })).countVerdict r.core

/-- RERUN_X: the re-run on the partner core (R354). (DEDUCED: log entry 13) -/
def State.rerunX (s : State) (d : DieId) (upsets : List Upset) (spoilt : Option (BitVec 7)) : State :=
  match s.resolution d with
  | none => s
  | some r =>
    match r.partner with
    | none => s
    | some p =>
      if r.x.isSome || (s.core p).halt then s
      else (s.modResolution d (fun q => { q with x := some (s.rerun r upsets spoilt) })).countVerdict p

/-- The decision table of R355, and its form without a partner. -/
def decideFlint (o : Res) (s : Res × Option Nat) (x : Option (Res × Option Nat)) : Verdict :=
  match x with
  | none => if o = s.1 ∧ s.2 = none then .checkerFault else .unresolved
  | some x =>
    if o = s.1 ∧ s.1 = x.1 then (if x.2 = none then .checkerFault else .falseAlarm)
    else if s.1 = x.1 then .transient
    else if o = x.1 then .rerunTransient
    else if o = s.1 ∧ x.2 = none then .persistent
    else .unresolved

/-- The result of a re-run. -/
def resOf (q : Option (Res × Option Nat)) : Res :=
  match q with
  | some v => v.1
  | none => []

/-- Byte 21 of a log record (R361). -/
def Resolution.flags (r : Resolution) : Nat :=
  let fails := fun (q : Option (Res × Option Nat)) => match q with
    | some v => v.2.isSome
    | none => false
  let same := fun (a b : Option Res) => match a, b with
    | some a, some b => decide (a = b)
    | _, _ => false
  let o := some r.o.res
  let s := r.s.map (·.1)
  let x := r.x.map (·.1)
  bit r.o.fail.isSome + 2 * bit (fails r.s) + 4 * bit (fails r.x) + 8 * bit (same o s) + 16 * bit (same s x) +
    32 * bit (same o x)

/-- The log record of a resolution (R361). -/
def State.logOutcome (s : State) (r : Resolution) (v : Verdict) : State :=
  let x := r.o.mma s
  let p := match r.partner with
    | some p => p.val
    | none => 0xFF
  (s.fltLog { core := r.core, partner := p, outcome := v.code, off := r.o.off, m := x.m, k := x.k, n := x.n
              d := x.d, flags := r.flags, col := r.o.fail.getD 0 }).fltTrace r.core v.code

/-- A rejected result: discarded, STATUS FAULTED, the core fenced (R140, R355). -/
def State.reject (s : State) (r : Resolution) : State :=
  let last := (s.core r.core).latest == some r.o.pos
  let s := s.modCore r.core (fun x => { x with held := x.held.filter (fun h => h.pos != r.o.pos) })
  let s := s.fence r.core 2
  if last then s.modCore r.core (fun x => { x with status := .faulted }) else s

/-- The result of S stays in its own bank until it is written back (R354). -/
def State.inBank (s : State) (r : Resolution) : State :=
  s.modCore r.core (fun x => x.modFly .arr r.o.pos (fun e => { e with buffered := false }))

/-- An outcome carried out (R355, R356). -/
def State.applyOutcome (s : State) (d : DieId) (r : Resolution) (v : Verdict) (watchPartner : Bool) : State :=
  let s := s.logOutcome r v
  let s := { s with flt := { s.flt with last := v.code
                                        active := s.flt.active.filter (fun e => !decide (e.1 = d)) } }
  let s := match v with
    | .falseAlarm => s.release r.core r.o r.o.res
    | .checkerFault => ((s.release r.core r.o r.o.res).fltCause 9 1 r.o.off r.core).blame r.core
    | .transient => ((s.inBank r).release r.core r.o (resOf r.s)).blame r.core
    | .rerunTransient => (s.release r.core r.o r.o.res).blame r.core
    | .persistent => (s.release r.core r.o (resOf r.x)).fence r.core 2
    | .unresolved =>
      let s := (((s.fltCause 10 2 r.o.off r.core).irq .flt 2).reject r)
      match r.partner with
      | some p => if watchPartner then s.watch p else s
      | none => s
  s.nextResolution d

/-- RESOLUTION_OUTCOME: the resolution of a die decides, once S and, where a partner exists, X are known (R353,
R355). (DEDUCED: log entry 13) -/
def State.resolutionOutcome (s : State) (d : DieId) : State :=
  match s.resolution d with
  | none => s
  | some r =>
    match r.s with
    | none => s
    | some q =>
      if r.partner.isSome && r.x.isNone then s else s.applyOutcome d r (decideFlint r.o.res q r.x) true

/-- RESBUF_PARITY: the resolution of a die rejects (R357). -/
def State.resbufParity (s : State) (d : DieId) : State :=
  match s.resolution d with
  | none => s
  | some r => (s.fltCause 12 2 r.o.off r.core).applyOutcome d r .unresolved false

/-! ### Known-answer tests and sweeps (R359, R360) -/

/-- A failing group of a sweep or KAT: its cause, interrupt, log record, trace and fence (R359 to R364). -/
def State.groupFail (s : State) (c : CoreId) (outcome off groups : Nat) : State :=
  let s := (s.fltCause 11 2 off c).irq .flt 1
  ((s.fltLog { core := c, outcome := outcome, off := off, k := groups }).fltTrace c outcome).fence c 3

/-- KAT (R359). -/
def Desc.kat (d : Desc) (c : CoreId) (failGroups : Nat) (s : State) : Try := do
  d.check s (d.restZero [8] && decide (0 < d.byte 8 ∧ d.byte 8 < 32)) false
  need (s.kindIn [.check]) s 11
  if !(s.core c).fly.isEmpty then return none
  let s := s.modCore c Core.clearRegs
  let bad := d.byte 8 &&& failGroups
  return some (if bad = 0 then s else s.groupFail c 8 d.off bad, none)

/-- Whether a core may run sweep groups now (R360): in a slot once its list has retired its END, or with no list, and
no piece is left for it. -/
def State.maySweep (s : State) (c : CoreId) : Bool :=
  let x := s.core c
  match s.job.st with
  | .armed => false
  | .running =>
    s.inSlot && !s.tim.window && s.kindIn [.check, .eval] && x.fly.isEmpty &&
      (match if (x.run.bind (·.piece)).isSome then x.own else x.run with
      | some r => r.ended && !r.faulted
      | none => true) &&
      (match x.run with
      | some r => r.ended || (r.piece.isSome && r.faulted)
      | none => true) &&
      !s.cad.pieces.any (fun p => decide (p.st = .queued) && (s.helperOf p == x.logical))
  | _ => true

/-- SWEEP: a sweep of some groups on the chosen cores starts (R360, R363). -/
def State.startSweep (s : State) (groups : Nat) (all : Bool) (core : Nat) : State :=
  let cs := (allFin 192).filter (fun c => !s.husk c && (all || c.val == core))
  { s with flt := { s.flt with sweep := { s.flt.sweep with
    busy := true, stop := false, todo := cs.map (fun c => (c, groups)), failed := 0, cores := 0 } } }

/-- The lowest group of a mask. -/
def lowestGroup (m : Nat) : Nat := ((List.range 5).find? (fun k => m / 2 ^ k % 2 = 1)).getD 0

/-- A core's sweep entry after one group. -/
def Sweep.advance (w : Sweep) (c : CoreId) (left : Nat) : Sweep :=
  if left = 0 ∨ w.stop then
    { w with todo := w.todo.filter (fun e => !decide (e.1 = c))
             cores := if left = 0 then w.cores + 1 else w.cores }
  else { w with todo := w.todo.map (fun e => if e.1 = c then (c, left) else e) }

/-- SWEEP_GROUP: a core finishes its next group, which passes or fails (R360). -/
def State.sweepGroup (s : State) (c : CoreId) (fail : Bool) : State :=
  match s.flt.sweep.todo.find? (fun e => decide (e.1 = c)) with
  | none => s
  | some e =>
    if !s.maySweep c then s
    else
      let k := lowestGroup e.2
      let s := s.modCore c Core.clearRegs
      if fail then
        let s := { s with flt := { s.flt with sweep := { s.flt.sweep with
          failed := s.flt.sweep.failed + 1 } } }
        (s.watch c).groupFail c 7 0 (2 ^ k)
      else { s with flt := { s.flt with sweep := s.flt.sweep.advance c (e.2 - 2 ^ k) } }

/-- SWEEP_ABORT (R360, R363). -/
def State.stopSweep (s : State) : State :=
  if s.flt.sweep.busy then { s with flt := { s.flt with sweep := { s.flt.sweep with stop := true } } } else s

/-- SWEEP_DONE: a sweep that has no core left, or was stopped, ends (R360, R363, R536). -/
def State.sweepDone (s : State) : State :=
  let w := s.flt.sweep
  if w.busy && (w.todo.isEmpty || w.stop) then
    let was := w.done
    let s := { s with flt := { s.flt with sweep := { w with
      busy := false, done := true, aborted := w.stop, stop := false, todo := [] } } }
    if was then s else s.irq .flt 0
  else s

end Sys2Proof.Machine
end

