-- ==== Sys2Proof/Machine/Geode.lean ====
section
/-!
DEFINITION. Geode (R365 to R390): the area and its records, snapshots, the buddy drain, host drains and
restores.
-/

namespace Sys2Proof.Machine

open Sys2Proof

/-! ### The area (R366 to R374) -/

/-- A GEO cause (R390). -/
def State.geoCause (s : State) (bt cls addr : Nat) : State :=
  s.raise { page := .geo, bit := bt, cls := cls, halt := 0x05, addr := addr }

/-- Local offset of area offset q of die n (R371). -/
def geoOff (mode base n q : Nat) : Nat :=
  if mode = 1 then base + 0x10000 * (q / 0x4000) + 0x4000 * n + q % 0x4000 else n * 2 ^ 38 + base + q

/-- Local offset of area offset q of the device's die n. -/
def State.area (s : State) (n q : Nat) : Nat := geoOff s.interleave s.geo.base n q

/-- Area offset of the record of point k: local A, local B, IN A, IN B (R372). -/
def recordAt (k : Nat) : Nat := 0x200 * k

/-- Area offset of slot k (R372). -/
def slotAt (slotLen k : Nat) : Nat := 0x1000 + k * slotLen

/-- An access of Geode to some bytes of the area of die n takes its turns at the stack controllers (R260).
(DEDUCED: log entry 37) -/
def State.enterArea (s : State) (n q len : Nat) : State :=
  s.each (pieces 0 len) (fun s o =>
    s.takeTurn .agent (s.area n (q + o)) (blocksOf 0 (min 1024 (len - o))).length)

/-- Bytes written to the area of die n from area offset q, a block of at most 64 bytes at a time; none into a protected
image (R45). -/
def State.areaWrite (s : State) (n q : Nat) (l : List (Byte × Bool)) : State :=
  (s.enterArea n q l.length).each (chunks 64 l.length l).zipIdx (fun s e =>
    let a := s.area n (q + 64 * e.2)
    if s.hitsImage a e.1.length then s.glbRecord a 5 else s.writeP a e.1)

/-- The integrity checks of a read of some bytes of the area of die n (R254). -/
def State.areaCheck (s : State) (n q len : Nat) : State :=
  (s.enterArea n q len).each (blocksOf 0 len) (fun s o => s.checkRead (s.area n (q + o)) 1)

/-- Bytes of the area of die n, each with its poison. -/
def State.areaRead (s : State) (n q len : Nat) : List (Byte × Bool) :=
  (List.range len).map (fun i => (s.byte (s.area n (q + i)), s.poisoned (s.area n (q + i))))

/-- The blocks of an entry of the range table, in ascending local offset (R366 to R368). -/
def State.rangeBlocks (s : State) (e : Range) : List Nat :=
  match e.weight with
  | none => blocksOf e.off e.len
  | some id =>
    match s.weight? id with
    | none => []
    | some w => blocksOf (w.storage ((w.posIn .current).getD 0)) w.len

/-- The number of the die that holds a local offset. -/
def State.dieOf (s : State) (off : Nat) : Nat := (stackDie (s.stackOf off)).val

/-- The SNAP blocks of shard n (R372). -/
def State.shardBlocks (s : State) (n : Nat) : List Nat :=
  (s.geo.ranges.filter (·.snap)).flatMap (fun e => (s.rangeBlocks e).filter (fun b => s.dieOf b == n))

/-- A list padded with zero bytes to a multiple of k. -/
def padTo (k : Nat) (l : List Byte) : List Byte := l ++ List.replicate ((k - l.length % k) % k) 0

/-- The version table at the start of shard 0 (R372). -/
def State.versionTable (s : State) : List Byte :=
  padTo 64 ((s.geo.ranges.filter (·.snap)).flatMap (fun e => match e.weight with
    | none => []
    | some id => match s.weight? id with
      | none => []
      | some w => leBytes w.currentVer 2))

/-- The version table's part of shard n. -/
def State.tableOf (s : State) (n : Nat) : List Byte := if n = 0 then s.versionTable else []

/-- Length of shard n. -/
def State.shardLen (s : State) (n : Nat) : Nat := (s.tableOf n).length + 64 * (s.shardBlocks n).length

/-- The bytes of shard n as memory holds them, each with its poison. -/
def State.shardBytes (s : State) (n : Nat) : List (Byte × Bool) :=
  (s.tableOf n).map (fun b => (b, false)) ++
    (s.shardBlocks n).flatMap (fun b => (List.range 64).map (fun i => (s.byte (b + i), s.poisoned b)))

/-- JOB_DIGEST of the loaded image (R41). -/
def State.jobDigest (s : State) : List Byte := s.bytes (s.imageBase + 0x40) 32

/-- A record copy (R373). -/
def recordBytes (die step tick origin : Nat) (job map : List Byte) (lens : List Nat) (shas : List (List Byte)) :
    List Byte :=
  let b := leBytes 0x434F4547 4 ++ [1, 1] ++ leBytes die 1 ++ [0] ++ leBytes step 8 ++ leBytes tick 8 ++
    leBytes origin 4 ++ leBytes 0 4 ++ job ++ map ++ lens.flatMap (fun n => leBytes n 8) ++ shas.flatten ++
    List.replicate 252 0
  b ++ leBytes (crc32c b).toNat 4

/-- Little-endian number of n bytes at i of a record. -/
def recNum (b : List Byte) (i n : Nat) : Nat := leNat ((b.drop i).take n)

/-- Whether a record copy is valid on die n (R374). -/
def recordValid (n : Nat) (b : List Byte) : Bool :=
  recNum b 0 4 == 0x434F4547 && recNum b 4 1 == 1 && recNum b 5 1 == 1 && recNum b 6 1 == n &&
    recNum b 508 4 == (crc32c (b.take 508)).toNat

/-- The bytes of a record copy other than DIE and CRC. -/
def recordBody (b : List Byte) : List Byte := b.take 6 ++ (b.drop 7).take 501

/-- Whether four record copies make a committed point (R374). -/
def copiesCommitted (l : List (List Byte)) : Bool :=
  l.zipIdx.all (fun e => recordValid e.2 e.1) && l.all (fun b => decide (recordBody b = recordBody (l.getD 0 [])))

/-- The four copies of a point's record. -/
def State.copies (s : State) (k : Nat) : List (List Byte) :=
  (List.range 4).map (fun n => (s.areaRead n (recordAt k) 512).map (·.1))

/-- Whether any copy of a point's record reads poisoned or from a stack that does not serve. -/
def State.copiesBad (s : State) (k : Nat) : Bool :=
  (List.range 4).any (fun n => (s.firstUnserved (s.area n (recordAt k)) 512).isSome ||
    s.rangePoisoned (s.area n (recordAt k)) 512)

/-- A point as its record gives it (R373). -/
def pointOf (b : List Byte) : Point :=
  { valid := true, step := BitVec.ofNat 64 (recNum b 8 8), tick := BitVec.ofNat 64 (recNum b 16 8)
    origin := BitVec.ofNat 32 (recNum b 24 4) }

/-- Point k as the headers in memory give it (R374). -/
def State.readPoint (s : State) (k : Nat) : Point :=
  let l := s.copies k
  if !s.copiesBad k && copiesCommitted l then pointOf (l.getD 0 []) else {}

/-- The integrity checks of the reads of a point's record (R254). -/
def State.checkPoint (s : State) (k : Nat) : State :=
  s.each (List.range 4) (fun s n => s.areaCheck n (recordAt k) 512)

/-- A point of GEO. -/
def State.point (s : State) (k : Nat) : Point := s.geo.points.getD k {}

/-- The state with a point set. -/
def State.setPoint (s : State) (k : Nat) (p : Point) : State :=
  { s with geo := { s.geo with points := s.geo.points.set k p } }

/-- The order of points (R374). -/
def Point.before (a b : Point) : Bool :=
  decide (a.step < b.step) || (a.step == b.step && decide (a.tick < b.tick))

/-- Which of two points is the newest valid one (true: the second). -/
def newestSecond (a b : Point) : Bool := b.valid && (!a.valid || a.before b)

/-- The newest committed local point, as slot B or A; none (R374). -/
def State.newestLocal (s : State) : Option Bool :=
  let a := s.point 0
  let b := s.point 1
  if a.valid || b.valid then some (newestSecond a b) else none

/-- A record zeroed in all four areas (R376, R382). -/
def State.zeroRecords (s : State) (k : Nat) : State :=
  let s := s.each (List.range 4) (fun s n => s.areaWrite n (recordAt k) (List.replicate 512 (0, false)))
  s.setPoint k {}

/-! ### Snapshots (R375 to R378) -/

/-- The local slot that a drain or restore reads (R377). -/
def State.slotRead (s : State) (b : Bool) : Bool :=
  let g := s.geo
  ((decide (g.drain.st = .draining) || decide (g.drain.st = .opening)) && g.drain.slotB == b) ||
    (g.host.reading && g.host.slotB == b) || (g.restore.busy && g.restore.source == bit b)

/-- A SNAPSHOT slot begins (R376, R377). -/
def State.snapStart (s : State) (j : Nat) : State :=
  if !s.geo.enabled then s
  else
    let b := match s.newestLocal with
      | none => false
      | some b => !b
    if s.slotRead b then
      ({ s with geo := { s.geo with last := 2 } }).geoCause 9 1 0
    else
      let s := s.zeroRecords (bit b)
      let c : Copying := { slotB := b, tick := BitVec.ofNat 64 j, todo := allFin 4, sha := []
                           lens := (List.range 4).map s.shardLen }
      { s with geo := { s.geo with copying := some c } }

/-- COPY_AGENT_DONE: a die's agent has copied its shard and hashed it (R376). -/
def State.copyAgent (s : State) (d : DieId) : State :=
  match s.geo.copying with
  | none => s
  | some c =>
    if !c.todo.contains d || s.geo.writing || s.tim.window || !(s.die d).up then s
    else
      let s := s.each (s.shardBlocks d.val) (fun s b => (s.enter .agent b 64).checkRead b 64)
      let l := s.shardBytes d.val
      let bad := (s.shardBlocks d.val).find? s.poisoned
      let c := { c with todo := c.todo.filter (· != d), sha := c.sha ++ [(d, sha256 (l.map (·.1)))]
                        poison := c.poison.or bad }
      ({ s with geo := { s.geo with copying := some c } }).areaWrite d.val (slotAt s.geo.slotLen (bit c.slotB)) l

/-- A copy ends without a point. -/
def State.snapEnd (s : State) (last : Nat) : State :=
  { s with geo := { s.geo with copying := none, writing := false, last := last } }

/-- The digest of shard n of a copy. -/
def Copying.digest (c : Copying) (n : Nat) : List Byte :=
  match c.sha.find? (fun e => e.1.val == n) with
  | some e => e.2
  | none => []

/-- The commit window opens on a snapshot (R376 to R378). -/
def State.snapWindow (s : State) : State :=
  match s.geo.copying with
  | none => s
  | some c =>
    if c.dieDown then s.snapEnd 5
    else if !c.todo.isEmpty then (s.snapEnd 3).geoCause 8 2 0
    else
      match c.poison with
      | some a => ((s.snapEnd 4).poisonSeen .geo).geoCause 10 3 a
      | none =>
        let s := s.each (List.range 4) (fun s n => s.areaWrite n (recordAt (bit c.slotB))
          ((recordBytes n s.geo.step.toNat c.tick.toNat (s.reg .glb 0x9C).toNat s.jobDigest s.geo.digest c.lens
            ((List.range 4).map c.digest)).map (fun b => (b, false))))
        { s with geo := { s.geo with writing := true } }

/-- The commit deadline on a snapshot: the point is committed (R376). -/
def State.snapCommit (s : State) : State :=
  match s.geo.copying with
  | none => s
  | some c =>
    if !s.geo.writing then s
    else if c.dieDown then s.snapEnd 5
    else
      let p : Point := { valid := true, step := s.geo.step, tick := c.tick, origin := s.reg .glb 0x9C }
      ((s.snapEnd 1).setPoint (bit c.slotB) p).irq .geo 4

/-- A die lost while a snapshot copies (R377). -/
def Geo.dieDown (g : Geo) : Geo := { g with copying := g.copying.map (fun c => { c with dieDown := true }) }

/-! ### The buddy (R379 to R381) -/

/-- The buddy port (R379, R389). -/
def State.buddyPort (s : State) : PortId := ⟨s.field .geo 0x90 2 0, by
  show (s.reg .geo 0x90).toNat / 2 ^ 0 % 2 ^ (2 + 1 - 0) < 8
  exact Nat.mod_lt _ (by decide)⟩

/-- GEO_FEED_POLICY WARN (R380). -/
def State.feedWarn (s : State) : Bool := s.flag .geo 0x98 0

/-- The device's feed (R380). -/
def State.feed (s : State) : Nat := s.field .glb 0x98 7 0

/-- The GEO_HELLO of the buddy: the last one of the present buddy port (R379). -/
def State.buddyHello (s : State) : Option Buddy := s.geo.hello.filter (fun h => h.port == s.buddyPort)

/-- Whether the buddy's feed is the device's own (R389). (DEDUCED: log entry 26) -/
def State.sameFeed (s : State) : Bool :=
  match s.buddyHello with
  | none => false
  | some h => h.feed.toNat == s.feed

/-- Whether the buddy is usable (R379). -/
def State.buddyUsable (s : State) : Bool :=
  match s.buddyHello with
  | none => false
  | some h =>
    s.usable s.buddyPort && h.region && h.axis == s.buddyPort.val && !s.geo.mismatch.contains s.buddyPort &&
      (s.feedWarn || h.feed.toNat != s.feed)

/-- Whether RETAIN holds drains, restores and host fetch (R445). -/
def State.retained (s : State) : Bool := decide (s.pwr.st = .retain)

/-- A GEO_HELLO sent on a port (R381); in RETAIN its area is not valid (R445). -/
def State.sendGeoHello (s : State) (p : PortId) : State :=
  s.discovery p ([3] ++ leBytes s.buddyPort.val 1 ++ leBytes (bit (s.geo.enabled && !s.retained) + 2 * s.interleave) 1 ++
    leBytes s.feed 1 ++ leBytes (s.reg .glb 0x9C).toNat 4 ++ leBytes s.geo.base 8 ++ leBytes s.geo.len 8 ++
    leBytes s.geo.slotLen 8)

/-- GEO_HELLO_TIMER: a GEO_HELLO on both ports of the buddy axis while Geode is enabled (R379). (DESIGN CHOICE:
log entry 71) -/
def State.geoHelloTimer (s : State) : State :=
  let s := { s with geo := { s.geo with inRead := [] } }
  if s.geo.enabled then (s.sendGeoHello s.buddyPort).sendGeoHello (oppositePort s.buddyPort) else s

/-- A port whose neighbour names another buddy port, or no longer does (R379). -/
def State.noteMismatch (s : State) (p : PortId) (bad : Bool) : State :=
  let was := s.geo.mismatch.contains p
  let rest := s.geo.mismatch.filter (· != p)
  let s := { s with geo := { s.geo with mismatch := if bad then rest ++ [p] else rest } }
  if bad && !was then s.geoCause 12 2 0 else s

/-- SAME_FEED of a port of the buddy axis whose neighbour has the device's feed, or no longer has it (R380). -/
def State.noteFeed (s : State) (p : PortId) (same : Bool) : State :=
  let was := s.geo.same.contains p
  let rest := s.geo.same.filter (· != p)
  let s := { s with geo := { s.geo with same := if same then rest ++ [p] else rest } }
  if same && !was then s.geoCause 11 (if s.feedWarn then 1 else 2) 0 else s

/-- Whether no drain runs on a port of the buddy axis: its neighbour names another buddy port, or REFUSE meets the
device's own feed (R379, R380). (DEDUCED: log entry 72) -/
def State.drainBarred (s : State) (p : PortId) : Bool :=
  s.geo.mismatch.contains p || (!s.feedWarn && s.geo.same.contains p)

/-- Requests of the drain sent have no requester any more. -/
def Tracker.quitDrain (t : Tracker) : Tracker := if t.owner = .drain then { t with dead := true } else t

/-- The device's coordinate in the form messages carry it. -/
def State.coordBytes (s : State) : List Byte := leBytes (s.reg .glb 0x9C).toNat 4

/-- A drain abandoned with a message to its receiver (R381, R382). (DEDUCED: log entry 40) -/
def State.drainQuit (s : State) (reason : Nat) : State :=
  if s.geo.drain.st = .opening ∨ s.geo.drain.st = .draining then
    s.discovery s.buddyPort ([7] ++ leBytes reason 1 ++ [0, 0] ++ s.coordBytes)
  else s

/-- The drain being received given up with a message to its sender (R381, R382). -/
def State.inDrainQuit (s : State) (reason : Nat) : State :=
  match s.geo.inDrain with
  | some (_, p, _, _) => s.discovery p ([7] ++ leBytes reason 1 ++ [0, 0] ++ s.coordBytes)
  | none => s

/-- Drains that the policy stops in either direction, with DRAIN_ABORT of reason 2 (R379 to R382). (DEDUCED: log
entry 72) -/
def State.policeDrains (s : State) : State :=
  let runs := decide (s.geo.drain.st = .opening) || decide (s.geo.drain.st = .draining)
  let s := if runs && s.drainBarred s.buddyPort then
      let s := s.drainQuit 2
      { s with trackers := s.trackers.map Tracker.quitDrain
               geo := { s.geo with drain := { s.geo.drain with st := .noBuddy, tags := [], phase := 0 } } }
    else s
  if s.geo.inDrain.any (fun e => s.drainBarred e.2.1) then
    let s := s.inDrainQuit 2
    { s with geo := { s.geo with inDrain := none } }
  else s

/-- The area offset of a local offset, where it lies in an area (R371). -/
def State.areaOffset (s : State) (off : Nat) : Option Nat :=
  let d := if s.interleave = 1 then off - s.geo.base else off % 2 ^ 38 - s.geo.base
  let q := if s.interleave = 1 then d / 0x10000 * 0x4000 + d % 0x4000 else d
  if (if s.interleave = 1 then s.geo.base ≤ off else s.geo.base ≤ off % 2 ^ 38) ∧ q < s.geo.len then some q else none

/-- An IN slot that a READ_REQ reaches: a restore of its sender reads it (R382, R389). (DESIGN CHOICE: log entry
71) -/
def State.noteInRead (s : State) (off : Nat) : State :=
  let g := s.geo
  let hit := fun (k : Nat) => match s.areaOffset off with
    | none => false
    | some q => decide (recordAt k ≤ q ∧ q < recordAt k + 512) || decide (slotAt g.slotLen k ≤ q ∧ q < slotAt g.slotLen (k + 1))
  let l := [2, 3].filter (fun k => !g.inRead.contains k && hit k)
  if g.enabled && !l.isEmpty then { s with geo := { g with inRead := g.inRead ++ l } } else s

/-- GEO_HELLO received (R379, R380). (DEDUCED: log entry 26) -/
def State.takeGeoHello (s : State) (p : PortId) (f : Fu) : State :=
  if p ≠ s.buddyPort ∧ p ≠ oppositePort s.buddyPort then s
  else
    let b : Buddy := { port := p, axis := fuNum f 1 1, region := fuNum f 2 1 % 2 == 1, mode := fuNum f 2 1 / 2 % 4
                       feed := BitVec.ofNat 8 (fuNum f 3 1), coord := BitVec.ofNat 32 (fuNum f 4 4)
                       base := BitVec.ofNat 64 (fuNum f 8 8), len := BitVec.ofNat 64 (fuNum f 16 8)
                       slotLen := BitVec.ofNat 64 (fuNum f 24 8) }
    let s := s.noteMismatch p (b.axis != s.buddyPort.val)
    let s := if p = s.buddyPort then { s with geo := { s.geo with hello := some b } } else s
    (s.noteFeed p (b.feed.toNat == s.feed)).policeDrains

/-! ### The buddy drain as sender (R382) -/

/-- Job states in which drains run (R382). -/
def JobState.drains : JobState → Bool
  | .loaded | .armed | .running | .paused | .halted => true
  | _ => false

/-- The drain changed. -/
def State.modDrain (s : State) (f : Drain → Drain) : State := { s with geo := { s.geo with drain := f s.geo.drain } }

/-- SHARD_LENn of a local point, from its record (R373). -/
def State.pointLens (s : State) (k : Nat) : List Nat :=
  let b := (s.copies k).getD 0 []
  (List.range 4).map (fun n => recNum b (96 + 8 * n) 8)

/-- BUDDY_DRAIN_START: a drain of the newest undrained committed point opens (R382). -/
def State.drainStart (s : State) : State :=
  let g := s.geo
  if s.retained || !g.enabled || !s.job.st.drains || !(decide (g.drain.st = .idle) || decide (g.drain.st = .noBuddy)) then s
  else
    match s.newestLocal with
    | none => s
    | some b =>
      let p := s.point (bit b)
      let newer := match g.drain.last with
        | none => true
        | some q => q.before p
      if !newer then s
      else if !s.buddyUsable then s.modDrain (fun d => { d with st := .noBuddy })
      else
        let lens := s.pointLens (bit b)
        let s := s.modDrain (fun d => { d with
          st := .opening, slotB := b, point := p, tags := [], sent := 0, total := lens.sum, phase := 0 })
        s.discovery s.buddyPort ([4, 0, 0, 0] ++ s.coordBytes ++ leBytes p.step.toNat 8 ++ leBytes p.tick.toNat 8 ++
          lens.flatMap (fun n => leBytes n 8))

/-- A drain fails and waits to try again (R382). -/
def State.drainFail (s : State) (result : Nat) : State :=
  let s := { s with trackers := s.trackers.map Tracker.quitDrain }
  (s.modDrain (fun d => { d with st := .waiting, tags := [], phase := 0, result := result })).geoCause 13 2 0

/-- Bytes written to the buddy's area of die n from area offset q; answers the requests (R371, R382). -/
def State.buddyWrite (s : State) (h : Buddy) (n q : Nat) (l : List (Byte × Bool)) : List Nat × State :=
  let dest := destOfCoord h.coord
  (fuPieces l.length q l.length).foldl (fun (r : List Nat × State) e =>
    let a := geoOff h.mode h.base.toNat n e.1
    let v := (l.drop (e.1 - q)).take e.2
    let x := r.2.requestWrites .drain (dest * 2 ^ 40 + a) v 0x11 0 0
    (r.1 ++ x.1, x.2)) ([], s)

/-- Writes to all four of the buddy's areas, from what `src` gives for each die. -/
def State.buddyWrites (s : State) (h : Buddy) (q : Nat) (src : Nat → List (Byte × Bool)) : State :=
  let r := (List.range 4).foldl (fun (r : List Nat × State) n =>
    let x := r.2.buddyWrite h n q (src n)
    (r.1 ++ x.1, x.2)) ([], s)
  (r.2.modDrain (fun d => { d with tags := r.1 })).pump

/-- The records go out once the shards are acknowledged, DRAIN_DONE once the records are (R382). -/
def State.drainNext (s : State) : State :=
  let d := s.geo.drain
  match s.geo.hello with
  | none => s.drainFail 6
  | some h =>
    if d.st ≠ .draining ∨ !d.tags.isEmpty ∨ s.retained then s
    else if d.phase = 1 then
      let k := bit d.slotB
      let s := s.modDrain (fun d => { d with phase := 2 })
      (s.checkPoint k).buddyWrites h (recordAt (2 + bit d.inB)) (fun n => s.areaRead n (recordAt k) 512)
    else if d.phase = 2 then
      let s := s.modDrain (fun d => { d with st := .idle, phase := 0, last := some d.point })
      s.discovery s.buddyPort ([6, 0, 0, 0] ++ s.coordBytes ++ leBytes d.point.step.toNat 8 ++
        leBytes d.point.tick.toNat 8)
    else s

/-- The shards written, unless a rate of 0 holds the drain (R382, R389). -/
def State.drainPush (s : State) : State :=
  let d := s.geo.drain
  match s.geo.hello with
  | none => s
  | some h =>
    if d.st ≠ .draining ∨ d.phase ≠ 0 ∨ s.retained ∨ s.field .geo 0xA0 15 0 = 0 then s
    else
      let k := bit d.slotB
      let lens := s.pointLens k
      let down := (List.range 4).any (fun n =>
        decide (0 < lens.getD n 0) && !s.served (s.area n (slotAt s.geo.slotLen k)))
      if down then s.drainFail 6
      else
        let s := s.modDrain (fun d => { d with phase := 1 })
        let s := s.each (List.range 4) (fun s n => s.areaCheck n (slotAt s.geo.slotLen k) (lens.getD n 0))
        (s.buddyWrites h (slotAt h.slotLen.toNat (2 + bit d.inB))
          (fun n => s.areaRead n (slotAt s.geo.slotLen k) (lens.getD n 0))).drainNext

/-- DRAIN_GRANT received (R382). -/
def State.takeGrant (s : State) (p : PortId) (f : Fu) : State :=
  if p ≠ s.buddyPort ∨ s.geo.drain.st ≠ .opening then s
  else if fuNum f 1 1 ≠ 0 then s.drainFail (fuNum f 1 1 % 16)
  else
    (s.modDrain (fun d => { d with st := .draining, inB := fuNum f 2 1 == 1, result := 0 })).drainPush

/-- DRAIN_GRANT_TIMEOUT (R382). -/
def State.grantTimeout (s : State) : State := if s.geo.drain.st = .opening then s.drainFail 5 else s

/-- DRAIN_RETRY (R382). -/
def State.drainRetry (s : State) : State :=
  if s.geo.drain.st = .waiting then (s.modDrain (fun d => { d with st := .idle })).drainStart else s

/-- A WRITE_ACK for the drain (R382). -/
def State.drainAck (s : State) (id len : Nat) : State :=
  (s.modDrain (fun d => { d with
    tags := d.tags.filter (· != id), sent := if d.phase = 1 then d.sent + len else d.sent })).drainNext

/-! ### The buddy drain as receiver (R382) -/

/-- A DRAIN_GRANT sent on a port (R381). -/
def State.sendGrant (s : State) (p : PortId) (result slot : Nat) : State :=
  s.discovery p ([5] ++ leBytes result 1 ++ leBytes slot 1 ++ [0] ++ s.coordBytes)

/-- DRAIN_OPEN received (R379, R380, R382). (DEDUCED: log entry 40; DESIGN CHOICE: log entry 71) -/
def State.takeOpen (s : State) (p : PortId) (f : Fu) : State :=
  if p ≠ oppositePort s.buddyPort ∨ s.geo.mismatch.contains p then s
  else if !s.geo.enabled then s.sendGrant p 2 0
  else if (s.port p).nbFeed.toNat = s.feed ∧ !s.feedWarn then s.sendGrant p 3 0
  else if (List.range 4).any (fun n => decide (s.geo.slotLen < fuNum f (24 + 8 * n) 8)) then s.sendGrant p 4 0
  else
    let b := !(newestSecond (s.point 2) (s.point 3)) && (s.point 2).valid
    if s.geo.inRead.contains (2 + bit b) then s.sendGrant p 1 0
    else
    let s := s.zeroRecords (2 + bit b)
    let s := { s with geo := { s.geo with
      inDrain := some (b, p, BitVec.ofNat 64 (fuNum f 8 8), BitVec.ofNat 64 (fuNum f 16 8)) } }
    s.sendGrant p 0 (bit b)

/-- DRAIN_DONE received (R382). -/
def State.takeDone (s : State) (p : PortId) (f : Fu) : State :=
  match s.geo.inDrain with
  | none => s
  | some (b, q, step, tick) =>
    if q ≠ p ∨ fuNum f 8 8 ≠ step.toNat ∨ fuNum f 16 8 ≠ tick.toNat then s
    else
      let k := 2 + bit b
      let s := s.checkPoint k
      let x := s.readPoint k
      let s := { s with geo := { s.geo with inDrain := none } }
      if x.valid && x.step == step && x.tick == tick then s.setPoint k x else s

/-- DRAIN_ABORT received: from the buddy it ends the drain sent, from the sender the one received (R382).
(DEDUCED: log entry 40) -/
def State.takeAbort (s : State) (p : PortId) (_ : Fu) : State :=
  let s := if p = oppositePort s.buddyPort then { s with geo := { s.geo with inDrain := none } } else s
  if p = s.buddyPort ∧ (s.geo.drain.st = .opening ∨ s.geo.drain.st = .draining) then
    s.drainFail s.geo.drain.result
  else s

/-! ### Files (R370, R384) -/

/-- A data run in the form of a narrow role (R370). -/
def storedForm (role : Nat) (l : List Byte) : List Byte :=
  let words := (chunks 4 l.length l).map leNat
  let num := fun (w : Nat) => Fmt.fp32.read true w
  if role = 1 then words.flatMap (fun w => leBytes (Fmt.bf16.conv true .rne (num w)) 2)
  else if role = 2 then
    let blocks := (chunks 32 words.length words).map (fun b => b.map num)
    let q := blocks.map (fun b => (mxScale .e4m3 b, mxCodes .e4m3 true (mxScale .e4m3 b) (b.map (fun x => (x, .rne)))))
    q.flatMap (fun e => e.2.flatMap (fun c => leBytes c 1)) ++ q.flatMap (fun e => leBytes e.1 1)
  else if role = 3 then words.flatMap (fun w => leBytes (w / 65536) 2) ++ words.flatMap (fun w => leBytes w 2)
  else l

/-- Length of a run of n bytes in the form of a role; a part of 32 elements has a scale too (R370). (DESIGN
CHOICE: log entry 70) -/
def storedLen (role n : Nat) : Nat :=
  if role = 1 then n / 2 else if role = 2 then n / 4 + (n + 127) / 128 else n

/-- Where a 64-byte block of a run of n bytes goes in the form of a role: offsets and lengths (R370). Two blocks of
MOMENT2 share a scale. -/
def storedSpans (role n b : Nat) : List (Nat × Nat) :=
  if role = 1 then [(32 * b, 32)]
  else if role = 2 then [(32 * (b / 2), 32), (n / 4 + b / 2, 1)]
  else if role = 3 then [(32 * b, 32), (n / 2 + 32 * b, 32)]
  else [(64 * b, 64)]

/-- Bytes in memory of an entry of the range table: HBM_LEN (R384). -/
def State.rangeLen (s : State) (e : Range) : Nat :=
  match e.weight with
  | none => e.len
  | some id => match s.weight? id with
    | none => 0
    | some w => w.len

/-- Whether an entry is in a file. -/
def Range.inFile (durable : Bool) (e : Range) : Bool := e.snap || durable

/-- Length of an entry's data in a file, padded (R384). -/
def State.fileSpan (s : State) (durable : Bool) (e : Range) : Nat :=
  if e.inFile durable then (storedLen e.role (s.rangeLen e) + 63) / 64 * 64 else 0

/-- DATA_OFFSET (R384). -/
def State.dataOffset (s : State) : Nat := (4096 + 32 * s.geo.ranges.length + 4095) / 4096 * 4096

/-- FILE_LEN (R384). -/
def State.fileLen (s : State) (durable : Bool) : Nat :=
  s.dataOffset + (s.geo.ranges.map (s.fileSpan durable)).sum + 64

/-- One range entry of a file (R384). -/
def State.rangeEntry (s : State) (durable : Bool) (e : Range) (off ver : Nat) : List Byte :=
  leBytes (if e.weight.isSome then 0 else e.off) 8 ++ leBytes (s.rangeLen e) 8 ++
    leBytes (if e.inFile durable then off else 0) 8 ++ leBytes (if e.snap then 1 else 2) 1 ++ leBytes e.role 1 ++
    leBytes (e.weight.getD 0xFFFF) 2 ++ leBytes ver 2 ++ [0, 0]

/-- The range table of a file, from a file offset on. -/
def State.rangeTable (s : State) (durable : Bool) (ver : Range → Nat) : Nat → List Range → List Byte
  | _, [] => []
  | off, e :: l => s.rangeEntry durable e off (ver e) ++ s.rangeTable durable ver (off + s.fileSpan durable e) l

/-- MAP_DIGEST (R368): the table with FILE_OFFSET and VERSION zero. -/
def State.mapDigest (s : State) : List Byte :=
  sha256 (s.geo.ranges.flatMap (fun e => s.rangeEntry true e 0 0))

/-- The bytes of a SNAP entry out of the shards of a snapshot slot, with the blocks of each die read so far. -/
def State.snapEntry (s : State) (k : Nat) (cur : List Nat) (e : Range) : List (Byte × Bool) × List Nat :=
  (s.rangeBlocks e).foldl (fun r b =>
    let n := s.dieOf b
    let q := slotAt s.geo.slotLen k + (s.tableOf n).length + 64 * r.2.getD n 0
    (r.1 ++ s.areaRead n q 64, r.2.modify n (· + 1))) ([], cur)

/-- The data of every entry of a file in order: stored form, and where poisoned blocks stand in it (R370, R383). -/
def State.fileData (s : State) (durable : Bool) (k : Nat) : List Nat → List Range → List (List Byte × List (Nat × Nat))
  | _, [] => []
  | cur, e :: l =>
    let r := s.snapEntry k cur e
    let live := (s.rangeBlocks e).flatMap (fun b => (List.range 64).map (fun i => (s.byte (b + i), s.poisoned b)))
    let v := (if e.snap then r.1 else live).take (s.rangeLen e)
    let bad := (chunks 64 v.length v).zipIdx.flatMap (fun b =>
      if b.1.any (·.2) then storedSpans e.role v.length b.2 else [])
    let here := if e.inFile durable then (padTo 64 (storedForm e.role (v.map (·.1))), bad) else ([], [])
    here :: s.fileData durable k (if e.snap then r.2 else cur) l

/-- VERSION of a weight in a file of point k: of a SNAP weight the one in the point's version table, of another the
current one (R372, R384). -/
def State.fileVersion (s : State) (k : Nat) (e : Range) : Nat :=
  match e.weight with
  | none => 0
  | some id =>
    if e.snap then
      let ids := (s.geo.ranges.filter (·.snap)).filterMap (·.weight)
      leNat ((s.areaRead 0 (slotAt s.geo.slotLen k + 2 * ids.idxOf id) 2).map (·.1))
    else match s.weight? id with
      | none => 0
      | some w => w.currentVer

/-- The shard file of a point, and the file offsets and lengths that carry poison (R383, R384). -/
def State.shardFile (s : State) (durable : Bool) (k : Nat) (p : Point) : List Byte × List (Nat × Nat) :=
  let len := s.fileLen durable
  let start := s.dataOffset
  let header := ascii "LWNGSHRD" ++ [1, 0] ++ leBytes (bit durable) 1 ++ leBytes s.interleave 1 ++
    leBytes p.origin.toNat 4 ++ leBytes (s.reg .frt 0x80).toNat 4 ++ leBytes s.geo.ranges.length 4 ++
    leBytes p.step.toNat 8 ++ leBytes p.tick.toNat 8 ++ leBytes len 8 ++ leBytes start 8 ++ leBytes 0 8 ++
    s.jobDigest ++ s.geo.digest
  let data := s.fileData durable k [0, 0, 0, 0] s.geo.ranges
  let body := padTo 4096 (padTo 4096 header ++ s.rangeTable durable (s.fileVersion k) start s.geo.ranges) ++
    (data.map (·.1)).flatten
  let tail := ascii "LWNGTAIL" ++ leBytes len 8 ++ List.replicate 16 0
  let bad := (data.foldl (fun r d => (r.1 + d.1.length, r.2 ++ d.2.map (fun e => (r.1 + e.1, e.2))))
    (start, ([] : List (Nat × Nat)))).2
  (body ++ tail ++ sha256 body, bad)

/-! ### Host drains (R350, R383) -/

/-- POISON_HOST (R350). -/
def State.poisonHost (s : State) : State :=
  s.raise { page := .ras, bit := 9, cls := s.jobClass, halt := 0x05 }

/-- Whether a PCIe port can send. -/
def State.hostSends (s : State) (h : HostId) : Bool :=
  let p := s.hostPort h
  p.up && !p.d3hot && !p.inReset

/-- The host drain changed. -/
def State.modHostDrain (s : State) (f : HostDrain → HostDrain) : State :=
  { s with geo := { s.geo with host := f s.geo.host } }

/-- A host drain fails (R383). -/
def State.hostFail (s : State) (err : Nat) : State :=
  ((s.modHostDrain (fun h => { h with st := 4, err := err, reading := false })).geoCause 15 2 0).irq .geo 1

/-- Whether every port of a selection can send: bit 0 H0, bit 1 H1. -/
def State.portsSend (s : State) (ports : Nat) : Bool :=
  (ports % 2 == 0 || s.hostSends .h0) && (ports / 2 % 2 == 0 || s.hostSends .h1)

/-- A host drain begins to read the newest committed point, or fails (R383). -/
def State.hostBegin (s : State) : State :=
  let h := s.geo.host
  if s.retained then s.modHostDrain (fun h => { h with st := 2, reading := false })
  else
  match s.newestLocal with
  | none => s.hostFail 1
  | some b =>
    let k := bit b
    let b0 := (s.copies k).getD 0 []
    if (b0.drop 64).take 32 ≠ s.geo.digest then s.hostFail 2
    else if s.reg64 .geo 0xD0 < s.fileLen h.durable then s.hostFail 3
    else if !s.portsSend h.ports then s.hostFail 4
    else s.modHostDrain (fun h => { h with st := 2, slotB := b, point := s.point k, reading := true })

/-- GEO_HOST_CMD.GO accepted (R383). -/
def State.hostDrainGo (s : State) (durable : Bool) (ports : Nat) : State :=
  let s := s.modHostDrain (fun h => { h with
    st := if durable then 1 else 2, err := 0, durable := durable, ports := ports, reading := false })
  if durable then s else s.hostBegin

/-- DURABLE_COMMIT (R383). -/
def State.durableCommit (s : State) : State :=
  if !s.geo.durDue then s
  else
    let s := { s with geo := { s.geo with durDue := false } }
    if s.geo.host.st = 1 then ({ s with geo := { s.geo with durCommitted := true } }).hostBegin else s

/-- A STEP_BOUNDARY slot dispatched while a durable drain reads; one that is due at the same tick has started
(R383). -/
def State.durAbandon (s : State) : State :=
  let s := s.durableCommit
  let h := s.geo.host
  if h.durable && h.st = 2 then
    let s := { s with geo := { s.geo with durCommitted := false } }
    (s.modHostDrain (fun h => { h with st := 1, reading := false, attempts := min 255 (h.attempts + 1) })).geoCause 14 2 0
  else s

/-- GEO_HOST_CMD.ABORT (R383). -/
def State.hostAbort (s : State) : State :=
  if s.geo.host.st = 1 ∨ s.geo.host.st = 2 then s.hostFail 5 else s

/-- The 4 KiB block k of a file sent to its port (R383); `bad` the poisoned data ranges. -/
def sendBlock (ports base : Nat) (bad : List (Nat × Nat)) (s : State) (e : List Byte × Nat) : State :=
  let h := if ports = 1 then HostId.h0 else if ports = 2 then .h1 else if e.2 % 2 = 0 then .h0 else .h1
  let a := 4096 * e.2
  let ep := bad.any (fun r => decide (r.1 < a + e.1.length ∧ a < r.1 + r.2))
  (if ep then (s.poisonSeen .geo).poisonHost else s).emit (.hostWrite h (base + a) e.1 ep false)

/-- The integrity checks of what a host drain reads: the shards of the point, and the DURABLE blocks (R254, R383). -/
def State.checkFile (s : State) (durable : Bool) (k : Nat) : State :=
  let s := s.each (List.range 4) (fun s n => s.areaCheck n (slotAt s.geo.slotLen k) (s.shardLen n))
  if durable then
    s.each ((s.geo.ranges.filter (fun e => !e.snap)).flatMap s.rangeBlocks) (fun s b => (s.enter .agent b 64).checkRead b 64)
  else s

/-- HOST_DONE: the file has been sent (R383, R384). -/
def State.hostDone (s : State) : State :=
  let h := s.geo.host
  if h.st ≠ 2 ∨ !h.reading ∨ s.retained ∨ s.field .geo 0xA0 31 16 = 0 then s
  else if !s.portsSend h.ports then s.hostFail 4
  else
    let s := s.checkFile h.durable (bit h.slotB)
    let f := s.shardFile h.durable (bit h.slotB) h.point
    let s := s.each (chunks 4096 f.1.length f.1).zipIdx (sendBlock h.ports (s.reg64 .geo 0xC8) f.2)
    (s.modHostDrain (fun h => { h with st := 3, reading := false })).irq .geo 0

/-! ### Restores (R386) -/

/-- The restore changed. -/
def State.modRestore (s : State) (f : Restore → Restore) : State :=
  { s with geo := { s.geo with restore := f s.geo.restore } }

/-- A restore fails (R386, R390). -/
def State.restoreFail (s : State) (err : Nat) : State :=
  let dead := fun (t : Tracker) => if t.owner = .restore then { t with dead := true } else t
  let s := { s with trackers := s.trackers.map dead }
  ((s.modRestore (fun r => { r with busy := false, done := false, err := err, reads := [], got := [], stage := 0
    })).geoCause 16 2 0).irq .geo 3

/-- Checks 1 to 3 of R386 on four record copies: the first that fails. -/
def State.recordCheck (s : State) (l : List (List Byte)) : Option Nat :=
  let b := l.getD 0 []
  if !copiesCommitted l then some 1
  else if recNum b 24 4 ≠ (s.reg .glb 0x9C).toNat then some 2
  else if (b.drop 64).take 32 ≠ s.geo.digest then some 3
  else none

/-- The blocks of shard n written from the shard's bytes from offset `off` on, in whole or in part. -/
def State.unshard (s : State) (n off : Nat) (l : List (Byte × Bool)) : State :=
  let t := (s.tableOf n).length
  let blocks := s.shardBlocks n
  let cells := l.zipIdx.foldl (fun (m : Store (Byte × Bool)) e =>
    let o := off + e.2
    if o < t then m
    else
      match blocks[(o - t) / 64]? with
      | some b => Store.put m (b + (o - t) % 64) e.1
      | none => m) []
  (s.enterCells .agent cells).writeCells cells.length cells

/-- A local shard copied back (R386): answers whether its digest matches. -/
def State.restoreShard (s : State) (k n len : Nat) (sha : List Byte) : Bool × State :=
  let q := slotAt s.geo.slotLen k
  let s := s.areaCheck n q len
  let l := s.areaRead n q len
  let s := if l.any (·.2) then (s.poisonSeen .geo).modRestore (fun r => { r with poison := true }) else s
  (decide (sha256 (l.map (·.1)) = sha), s.unshard n 0 l)

/-- The local shards copied back in turn, up to the first whose digest fails. -/
def State.restoreShards (s : State) (k : Nat) (rec_ : List Byte) : List Nat → State
  | [] => s.modRestore (fun r => { r with stage := 3 })
  | n :: l =>
    let x := s.restoreShard k n (recNum rec_ (96 + 8 * n) 8) ((rec_.drop (128 + 32 * n)).take 32)
    if x.1 then x.2.restoreShards k rec_ l
    else x.2.modRestore (fun r => { r with stage := 3, err := 5 })

/-- Reads of a range of the buddy's area of die n requested. -/
def State.buddyRead (s : State) (h : Buddy) (n q len : Nat) : State :=
  let dest := destOfCoord h.coord
  s.each (fuPieces len q len) (fun s e =>
    let r := s.requestReads .restore (dest * 2 ^ 40 + geoOff h.mode h.base.toNat n e.1) e.2
    r.2.modRestore (fun x => { x with reads := x.reads ++ r.1.map (fun id => (id, n, e.1 - q)) }))

/-- RESTORE accepted (R386): a local source is copied at once, a buddy source begins with its records. -/
def State.restoreStart (s : State) (source : Nat) : State :=
  let s := s.modRestore (fun _ => { busy := true, source := source })
  if source < 2 then
    let s := s.checkPoint source
    let l := s.copies source
    if s.copiesBad source then s.modRestore (fun r => { r with stage := 3, err := 1 })
    else
      match s.recordCheck l with
      | some e => s.modRestore (fun r => { r with stage := 3, err := e })
      | none =>
        let t := s.versionTable
        let s := s.areaCheck 0 (slotAt s.geo.slotLen source) t.length
        if (s.areaRead 0 (slotAt s.geo.slotLen source) t.length).map (·.1) ≠ t then
          s.modRestore (fun r => { r with stage := 3, err := 4 })
        else s.restoreShards source (l.getD 0 []) (List.range 4)
  else
    match s.geo.hello with
    | none => s.modRestore (fun r => { r with stage := 3, err := 6 })
    | some h =>
      if !s.buddyUsable then s.modRestore (fun r => { r with stage := 3, err := 6 })
      else (s.each (List.range 4) (fun s n => s.buddyRead h n (recordAt source) 512)).pump

/-- The bytes received for a die, in order of offset. -/
def Restore.bytesOf (r : Restore) (n len : Nat) : List Byte :=
  let m := (r.got.filter (fun e => e.1 == n)).foldl (fun (m : Store Byte) e =>
    e.2.2.zipIdx.foldl (fun m b => Store.set (fun _ => 0) m (e.2.1 + b.2) b.1.1) m) []
  Store.getMany (fun _ => 0) m 0 len

/-- The next stage of a buddy restore once its reads are all in; a record read poisoned is invalid (R374, R386). -/
def State.restoreNext (s : State) : State :=
  let r := s.geo.restore
  if s.retained || !r.busy || decide (r.source < 2) || !r.reads.isEmpty then s
  else
    match s.geo.hello with
    | none => s.modRestore (fun r => { r with stage := 3, err := 9 })
    | some h =>
      let rec_ := r.bytesOf 0 512
      let q := slotAt h.slotLen.toNat r.source
      let t := s.versionTable
      if r.stage = 0 then
        match (if r.poison then some 1 else s.recordCheck ((List.range 4).map (fun n => r.bytesOf n 512))) with
        | some e => s.modRestore (fun r => { r with stage := 3, err := e })
        | none =>
          if t.isEmpty then
            let s := s.modRestore (fun r => { r with stage := 2, got := r.got.map (fun e => (e.1 + 4, e.2)) })
            (s.each (List.range 4) (fun s n => s.buddyRead h n q (recNum rec_ (96 + 8 * n) 8))).pump
          else
            let s := s.modRestore (fun r => { r with stage := 1, got := r.got.map (fun e => (e.1 + 4, e.2)) })
            (s.buddyRead h 0 q t.length).pump
      else if r.stage = 1 then
        if r.bytesOf 0 t.length ≠ t then s.modRestore (fun r => { r with stage := 3, err := 4 })
        else
          let rc := r.bytesOf 4 512
          let s := s.modRestore (fun r => { r with stage := 2, got := r.got.filter (fun e => decide (4 ≤ e.1)) })
          (s.each (List.range 4) (fun s n => s.buddyRead h n q (recNum rc (96 + 8 * n) 8))).pump
      else if r.stage = 2 then
        let rc := r.bytesOf 4 512
        let ok := (List.range 4).all (fun n =>
          decide (sha256 (r.bytesOf n (recNum rc (96 + 8 * n) 8)) = (rc.drop (128 + 32 * n)).take 32))
        s.modRestore (fun r => { r with stage := 3, err := if ok then 0 else 5 })
      else s

/-- A READ_RESP for the restore: shard bytes are written as they come (R386). -/
def State.restoreData (s : State) (id : Nat) (l : List (Byte × Bool)) : State :=
  match s.geo.restore.reads.find? (fun e => e.1 == id) with
  | none => s
  | some (_, n, off) =>
    let bad := l.any (·.2)
    let s := s.modRestore (fun r => { r with
      reads := r.reads.filter (fun e => e.1 != id), got := r.got ++ [(n, off, l)], poison := r.poison || bad })
    let s := if bad then s.poisonSeen .geo else s
    let s := if s.geo.restore.stage = 2 && !s.retained then s.unshard n off l else s
    s.restoreNext

/-- RESTORE_DONE: a restore whose copying is over ends (R386, R390). -/
def State.restoreDone (s : State) : State :=
  let s := s.restoreNext
  let r := s.geo.restore
  if !r.busy || r.stage != 3 || s.retained then s
  else if s.job.st ≠ .loaded then s.restoreFail 8
  else if r.err ≠ 0 then s.restoreFail r.err
  else if r.poison then s.restoreFail 7
  else
    let step := if r.source < 2 then BitVec.ofNat 64 (recNum ((s.copies r.source).getD 0 []) 8 8)
      else BitVec.ofNat 64 (recNum (r.bytesOf 4 512) 8 8)
    let s := { s with geo := { s.geo with step := step } }
    (s.modRestore (fun _ => { done := true, source := r.source })).irq .geo 2

/-! ### Return from RETAIN (R445) -/

/-- What RETAIN held goes on: the buddy drain, a host drain that has not begun, and a restore, whose bytes that came
meanwhile are written. -/
def State.resumeGeode (s : State) : State :=
  let s := if s.geo.drain.st = .draining then s.drainPush.drainNext.pump else s
  let s := if s.geo.host.st = 2 && !s.geo.host.reading then s.hostBegin else s
  let r := s.geo.restore
  let s := if r.stage = 2 then
      s.each (r.got.filter (fun e => decide (e.1 < 4))) (fun s e => s.unshard e.1 e.2.1 e.2.2)
    else s
  s.restoreNext

/-! ### Ticks and CLEAR (R375, R382, R383) -/

/-- GEO_STEP at a tick that ends a STEP_BOUNDARY slot (R375). -/
def State.stepTick (s : State) (halting : Bool) : State :=
  if halting then { s with geo := { s.geo with torn := true } }
  else { s with geo := { s.geo with step := s.geo.step + 1 } }

/-- Drains, the drain being received and a restore abandoned (R382, R383, R386). -/
def State.abandonGeode (s : State) : State :=
  let s := (s.drainQuit 1).inDrainQuit 1
  let s := if s.geo.host.st = 1 ∨ s.geo.host.st = 2 then s.hostFail 5 else s
  if s.geo.restore.busy then s.restoreFail 8 else s

/-- CLEAR abandons drains and resets Geode's state (R375, R382, R383). -/
def State.clearGeode (s : State) : State :=
  let s := s.abandonGeode
  { s with
    trackers := s.trackers.map Tracker.quitDrain
    geo := { hello := s.geo.hello, mismatch := s.geo.mismatch, same := s.geo.same, host := { s.geo.host with reading := false }
             restore := s.geo.restore, drain := { result := s.geo.drain.result } } }

end Sys2Proof.Machine
end

