-- ==== Sys2Proof/Machine/HostIo.lean ====
section
/-!
DEFINITION. The host side (R391 to R418): the BAR2 window, host DMA, port resets, heartbeats and ownership.
-/

namespace Sys2Proof.Machine

open Sys2Proof

/-- ERR_SRC.KIND of a host's access (R399). -/
def hostKind (h : HostId) : Nat := h.num

/-! ### Ranges of device memory that a host reaches -/

/-- How many of `len` bytes from a local offset on may be read, or written, before the first that may not (R45, R259).
-/
def State.okPrefix (s : State) (off len : Nat) (write : Bool) : Nat :=
  let ok := fun (g : Nat) => s.served g && !(write && s.hitsImage (max g off) (min (g + 4096) (off + len) - max g off))
  match (granules off len).find? (fun g => !ok g) with
  | none => len
  | some g => g - off

/-- A refused write recorded: in the GLB page where it meets the image (R45). -/
def State.imageRecord (s : State) (off len kind : Nat) : State :=
  if s.hitsImage off len then s.glbRecord off kind else s

/-! ### The BAR2 window (R396 to R399) -/

/-- The global address that a window offset of a port names (R396). -/
def State.bar2Global (s : State) (h : HostId) (w : Nat) : Nat := (s.reg (.hif h) 0x8C).toNat * 2 ^ 32 + w

/-- A BAR2 access refused (R398, R399): recorded with G; a read gets a Completer Abort, a write is discarded.
(DEDUCED: log entry 30) -/
def State.bar2Refuse (s : State) (h : HostId) (g : Nat) (read : Bool) : State :=
  let s := s.raise { page := .hif h, bit := 0, cls := 2, addr := g, kind := hostKind h }
  if read then s.completerAborts h else s.countSat (.hif h) 0x94 1

/-- Whether a port takes memory requests: its link is up and it is configured, in D0 and not in reset (R400, R412,
R455). (DEDUCED: log entry 35) -/
def State.portTakes (s : State) (h : HostId) : Bool :=
  let p := s.hostPort h
  p.up && p.ready && !p.d3hot && !p.inReset

/-- A memory request that a port does not take: in D3hot the function answers Unsupported Request, and AER records
it; otherwise nothing reaches it (R400). (PRESUMED: log entry 32) -/
def State.pciRejects (s : State) (h : HostId) (read : Bool) : State :=
  let p := s.hostPort h
  if !p.up || !p.ready || p.inReset then s
  else if read then (s.advisory h 20).emit (.unsupported h)
  else s.modHost h (fun p => { p with cfg := { p.cfg with uncorr := p.cfg.uncorr ||| 0x100000 } })

/-- POISON_RX: a TLP received with EP set (R415). -/
def State.poisonRx (s : State) (h : HostId) (a : Nat) : State :=
  (s.poisonSeen (.hif h)).raise { page := .hif h, bit := 9, cls := 2, addr := a, kind := hostKind h }

/-- A BAR2 read's completion (R350, R397). (DEDUCED: log entries 35, 60) -/
def State.bar2Answer (s : State) (h : HostId) (w : Nat) (l : List (Byte × Bool)) : State :=
  let ep := l.any (·.2)
  (if ep then (s.poisonSeen (.hif h)).poisonHost else s).emit (.bar2Data h w (l.map (·.1)) ep)

/-- BAR2_READ (R396 to R398). (DESIGN CHOICE: log entry 56) -/
def State.bar2Read (s : State) (h : HostId) (w len : Nat) : State :=
  if !s.portTakes h then s.pciRejects h true
  else
    let g := s.bar2Global h w
    let off := globalOff g
    if s.pwr.warm || !s.flag (.hif h) 0x88 0 || !s.coordOk (globalDest g) then s.bar2Refuse h g true
    else if len = 0 then s.bar2Answer h w []
    else if globalDest g = s.own then
      if s.okPrefix off len false < len then s.bar2Refuse h g true
      else
        let s := (s.enter .system off len).checkRead off len
        s.bar2Answer h w ((List.range len).map (fun i => (s.byte (off + i), s.poisoned (off + i))))
    else
      let r := s.requestReads (.bar2 h s.nextTag) g len
      let b : Bar2Read := { key := s.nextTag, w := w, g := g, len := len, tags := r.1 }
      (r.2.modHost h (fun p => { p with reads := p.reads ++ [b] })).pump

/-- BAR2_WRITE (R396 to R398). -/
def State.bar2Write (s : State) (h : HostId) (w : Nat) (data : List Byte) (ep : Bool) : State :=
  if !s.portTakes h then s.pciRejects h false
  else
    let g := s.bar2Global h w
    let off := globalOff g
    let s := if ep then s.poisonRx h g else s
    if globalDest g = s.own && s.hitsImage off data.length then (s.glbRecord off (hostKind h)).bar2Refuse h g false
    else if s.pwr.warm || !s.flag (.hif h) 0x88 0 || !s.coordOk (globalDest g) || s.owner.host != some h then
      s.bar2Refuse h g false
    else if globalDest g = s.own then
      if s.okPrefix off data.length true < data.length then s.bar2Refuse h g false
      else (s.enter .system off data.length).write off data ep
    else
      let post : Bar2Post := { key := s.nextTag, g := g }
      ((s.requestWrites (.bar2Write h s.nextTag) g (data.map (fun b => (b, ep))) 0x11 0 0).2.modHost h
        (fun p => { p with posts := p.posts ++ [post] })).pump

/-- Bytes that arrived for a BAR2 read. -/
def Bar2Read.take (id off : Nat) (l : List (Byte × Bool)) (b : Bar2Read) : Bar2Read :=
  { b with tags := b.tags.filter (· != id), got := l.zipIdx.foldl (fun m e => Store.put m (off + e.2) e.1) b.got }

/-- A READ_RESP for a BAR2 read: the read completes with its last response (R397). -/
def State.bar2Resp (s : State) (h : HostId) (key id g : Nat) (l : List (Byte × Bool)) : State :=
  match (s.hostPort h).reads.find? (fun b => b.key == key) with
  | none => s
  | some b =>
    let b := b.take id (globalOff g) l
    if b.tags.isEmpty then
      let s := s.modHost h (fun p => { p with reads := p.reads.filter (fun c => c.key != key) })
      s.bar2Answer h b.w (b.got.map (·.2))
    else s.modHost h (fun p => { p with reads := p.reads.map (fun c => if c.key = key then b else c) })

/-- An error response, or none in time, for a BAR2 read (R398): the read ends in an abort. -/
def State.bar2Error (s : State) (h : HostId) (key : Nat) (late : Bool) : State :=
  match (s.hostPort h).reads.find? (fun b => b.key == key) with
  | none => s
  | some b =>
    let s := s.modHost h (fun p => { p with reads := p.reads.filter (fun c => c.key != key) })
    let s := if late then s.raise { page := .hif h, bit := 8, cls := 2, addr := b.g, kind := hostKind h } else s
    s.bar2Refuse h b.g true

/-- An error response, or none in time, for a BAR2 write: it counts once, and not after a reset of its port (R398,
R399, R412). -/
def State.bar2WriteError (s : State) (h : HostId) (key : Nat) (late : Bool) : State :=
  match (s.hostPort h).posts.find? (fun b => b.key == key) with
  | none => s
  | some b =>
    let s := s.modHost h (fun p => { p with posts := p.posts.filter (fun c => c.key != key) })
    let s := if late then s.raise { page := .hif h, bit := 8, cls := 2, addr := b.g, kind := hostKind h } else s
    s.bar2Refuse h b.g false

/-- A BAR2 write forgotten once none of its requests is outstanding. -/
def State.bar2Wrote (s : State) (h : HostId) (key : Nat) : State :=
  if s.trackers.any (fun t => t.owner = .bar2Write h key) then s
  else s.modHost h (fun p => { p with posts := p.posts.filter (fun c => c.key != key) })

/-! ### Host DMA (R404 to R410, R416, R417) -/

/-- Offset of a channel's registers (R416). -/
def chanAt (c : ChanId) : Nat := 0x100 + 0x20 * c.val

/-- Ring entries of a channel: 2^RING_LOG2 (R407). -/
def State.ringSize (s : State) (c : ChanId) : Nat := 2 ^ s.field .dma (chanAt c) 19 16

/-- Whether EN of a channel is set. -/
def State.chanOn (s : State) (c : ChanId) : Bool := s.flag .dma (chanAt c) 0

/-- A completion record (R406). -/
def State.dmaRecord (s : State) (c : ChanId) (tag : Word) (moved status : Nat) : State :=
  let x := s.chan c
  let b := leBytes tag.toNat 4 ++ leBytes moved 4 ++ leBytes x.head 2 ++ leBytes status 1 ++ leBytes (bit x.phase) 1 ++
    leBytes 0 4
  s.emit (.hostWrite (s.chanHost c) (s.reg64 .dma (chanAt c + 0x10) + 16 * x.head) b false false)

/-- The ERR_STAT bit of a stopping status (R408, R417). -/
def dmaBit (status : Nat) : Nat := if status = 4 then 8 else if status = 1 then 9 else 10

/-- A descriptor completes with a status (R406 to R408, R411, R520). -/
def State.dmaComplete (s : State) (c : ChanId) (tag : Word) (moved status : Nat) (irq : Bool) : State :=
  let x := s.chan c
  let s := s.dmaRecord c tag moved status
  let n := s.ringSize c
  let s := s.modChan c (fun y => { y with
    head := (x.head + 1) % n, phase := if x.head + 1 = n then !x.phase else x.phase, job := none })
  let s := s.tel 12 c.val moved
  if status = 1 ∨ status = 2 ∨ status = 4 then
    let s := s.modChan c (fun y => { y with st := .error })
    let s := s.setReg .dma (chanAt c + 0x18) (BitVec.ofNat 32 (status * 65536 + x.head))
    (s.raise { page := .dma, bit := dmaBit status, cls := 2, addr := c.val * 65536 + x.head
               kind := hostKind (s.chanHost c) }).irq .dma c.val
  else if irq then s.irq .dma c.val
  else s

/-- A descriptor's fields: none where a field lies outside R405. -/
def dmaFields (d : List Byte) : Option DmaJob :=
  let len := recNum d 16 4
  let dir := recNum d 24 1
  let flags := recNum d 25 1
  if len = 0 ∨ 2 ^ 30 < len ∨ 1 < dir ∨ 7 < flags ∨ recNum d 26 6 ≠ 0 then none
  else some
    { tag := BitVec.ofNat 32 (recNum d 20 4), host := recNum d 0 8, dev := recNum d 8 8, len := len
      toHost := dir == 1, irq := flags % 2 == 1, ro := flags / 4 % 2 == 1 }

/-- The status of a transfer that is over (R406). -/
def DmaJob.status (j : DmaJob) : Nat := if j.hostErr then 1 else if j.err then 2 else if j.poison then 3 else 0

/-- The data that a device-to-host transfer received sent to the host, each byte to the address its place in the
transfer gives it (R349, R350, R405, R407). -/
def State.dmaToHost (s : State) (c : ChanId) (j : DmaJob) : State :=
  s.each (runsOf j.got) (fun s e =>
    let ep := e.2.any (·.2)
    let s := if ep then (s.poisonSeen .dma).poisonHost else s
    s.emit (.hostWrite (s.chanHost c) (j.host + (e.1 - globalOff j.dev)) (e.2.map (·.1)) ep j.ro))

/-- A transfer's end: what it read goes to the host, and its record is written. -/
def State.dmaFinish (s : State) (c : ChanId) (j : DmaJob) : State :=
  if j.toHost then
    let j := { j with poison := j.poison || j.got.any (·.2.2) }
    (s.dmaToHost c j).dmaComplete c j.tag j.got.length j.status j.irq
  else s.dmaComplete c j.tag j.moved j.status j.irq

/-- A descriptor whose device side is local memory. Channels have no order among themselves (R268), so each transfer is
done as a whole. (DESIGN CHOICE: log entry 41) -/
def State.dmaLocal (s : State) (c : ChanId) (j : DmaJob) (data : List Byte) : State :=
  let off := globalOff j.dev
  if j.toHost then
    let n := s.okPrefix off j.len false
    let s := (s.enter .system off n).checkRead off n
    let got := (List.range n).map (fun i => (off + i, (s.byte (off + i), s.poisoned (off + i))))
    s.dmaFinish c { j with got := got, err := decide (n < j.len) }
  else
    let data := data.take j.len
    let n := s.okPrefix off data.length true
    let s := if n < data.length then s.imageRecord (off + n) (data.length - n) (hostKind (s.chanHost c)) else s
    ((s.enter .system off n).write off (data.take n) j.poison).dmaFinish c { j with moved := n, err := decide (n < data.length) }

/-- A descriptor whose device side is another device: its requests go out. -/
def State.dmaRemote (s : State) (c : ChanId) (j : DmaJob) (data : List Byte) : State :=
  let r := if j.toHost then s.requestReads (.dma c) j.dev j.len
    else s.requestWrites (.dma c) j.dev ((data.take j.len).map (fun b => (b, j.poison))) 0x11 0 0
  (r.2.modChan c (fun x => { x with job := some { j with tags := r.1 } })).pump

/-- DMA_COMPLETION (R405 to R408): the next descriptor of a channel with its host data runs, or the one that
waited for fabric responses completes. The reads of host memory are recorded as their completions come. (DESIGN
CHOICE: log entry 41) -/
def State.dmaStep (s : State) (c : ChanId) (i : DmaInput) : State :=
  let x := s.chan c
  if x.st ≠ .running then s
  else
    match x.job with
    | some j => if j.tags.isEmpty then s.dmaFinish c j else s
    | none =>
      let h := s.chanHost c
      if x.head = x.tail ∨ !s.hostSends h then s
      else
        let at_ := s.reg64 .dma (chanAt c + 8) + 32 * x.head
        let s := s.emit (.hostRead h at_ 32)
        if i.descErr then
          let r := s.takeFreeBytes 4
          r.2.dmaComplete c (BitVec.ofNat 32 (leNat r.1)) 0 1 false
        else
        let s := if i.descEp then s.poisonRx h at_ else s
        match dmaFields i.desc with
        | none => s.dmaComplete c (BitVec.ofNat 32 (recNum i.desc 20 4)) 0 4 (recNum i.desc 25 1 % 2 == 1)
        | some j =>
          let ep := i.poisoned && !j.toHost
          let j := { j with poison := ep, hostErr := i.hostErr && !j.toHost }
          let s := if j.toHost then s else s.emit (.hostRead h j.host j.len)
          let s := if ep then s.poisonRx h j.dev else s
          if !s.coordOk (globalDest j.dev) then s.dmaComplete c j.tag 0 2 j.irq
          else if globalDest j.dev = s.own then s.dmaLocal c j i.data
          else s.dmaRemote c j i.data

/-- A stopping channel whose transfers are over is idle: what they read goes to the host, without a record (R408). -/
def State.dmaSettle (s : State) (c : ChanId) : State :=
  let x := s.chan c
  let idle := fun (s : State) => s.modChan c (fun x => { x with st := .idle, job := none })
  if x.st ≠ .stopping then s
  else
    match x.job with
    | none => idle s
    | some j =>
      if !j.tags.isEmpty then s
      else idle (if j.toHost && s.hostSends (s.chanHost c) then s.dmaToHost c j else s)

/-- A response for a DMA transfer: bytes read, or bytes written, or an error (R406). (DESIGN CHOICE: log entry 41) -/
def State.dmaResp (s : State) (c : ChanId) (id g len : Nat) (got : List (Byte × Bool)) (err : Bool) : State :=
  let upd := fun (j : DmaJob) => { j with
    tags := j.tags.filter (· != id), err := j.err || err
    moved := if err || j.toHost then j.moved else j.moved + len
    got := got.zipIdx.foldl (fun m e => Store.put m (globalOff g + e.2) e.1) j.got }
  (s.modChan c (fun x => { x with job := x.job.map upd })).dmaSettle c

/-- A channel stopped under R408 by EN = 0, a reset of its port or OFF. (DESIGN CHOICE: log entry 41) -/
def State.chanStop (s : State) (c : ChanId) : State :=
  let s := s.setFlag .dma (chanAt c) 0 false
  let x := s.chan c
  if x.st = .idle then s else (s.modChan c (fun x => { x with st := .stopping })).dmaSettle c

/-- CHANNEL_ENABLE (R408). (DESIGN CHOICE: log entry 41) -/
def State.chanStart (s : State) (c : ChanId) : State :=
  (s.setFlag .dma (chanAt c) 0 true).modChan c (fun _ => { st := .running })

/-- Whether a doorbell value is allowed (R409). (DEDUCED: log entry 35) -/
def State.doorbellOk (s : State) (h : HostId) (c : ChanId) (v : Nat) : Bool :=
  let x := s.chan c
  let n := s.ringSize c
  !s.pwr.warm && s.chanOn c && decide (s.chanHost c = h) && decide (v < n) &&
    decide ((v + n - x.tail) % n ≤ (x.head + n - 1 + n - x.tail) % n)

/-- DMA_DB (R395, R399, R409). -/
def State.doorbell (s : State) (h : HostId) (c : ChanId) (v : Nat) : State :=
  if !s.portTakes h then s.pciRejects h false
  else if s.doorbellOk h c v then
    (s.modChan c (fun x => { x with tail := v })).setReg .dma (chanAt c + 0x1C) (BitVec.ofNat 32 v)
  else (s.violation (.hif h) (0x1000 * c.val) (.mmio h)).countSat (.hif h) 0x94 1

/-! ### Ownership (R401 to R403) -/

/-- The other host. -/
def otherHost : HostId → HostId
  | .h0 => .h1
  | .h1 => .h0

/-- OWNER changed to a host or NONE (R403). -/
def State.setOwner (s : State) (o : Option HostId) : State :=
  if s.owner.host = o then s else ({ s with owner := { s.owner with host := o } }).irq .glb 1

/-- TIMEOUT_MS (R418). -/
def State.timeoutMs (s : State) : Nat := s.field .glb 0x8C 15 0

/-- Whether a host is alive: it has written its heartbeat within the last TIMEOUT_MS (R401). -/
def State.alive (s : State) (h : HostId) : Bool :=
  (s.hostPort h).beat && decide ((s.hostPort h).ageMs < s.timeoutMs)

/-- The owner that R402 gives when the present one is not alive. -/
def State.lapse (s : State) : State :=
  match s.owner.host with
  | none => s
  | some h =>
    if s.alive h then s
    else if s.alive (otherHost h) then s.setOwner (some (otherHost h))
    else s.setOwner none

/-- One more millisecond since a host's heartbeat (R401). -/
def HostPort.ageOne (p : HostPort) : HostPort := { p with ageMs := p.ageMs + 1 }

/-- OWNERSHIP_CHECK, every 1 ms (R402). -/
def State.ownershipCheck (s : State) : State :=
  ((s.modHost .h0 HostPort.ageOne).modHost .h1 HostPort.ageOne).lapse

/-- A host ceases to be alive at once (R401). -/
def State.hostGone (s : State) (h : HostId) : State := (s.modHost h (fun p => { p with beat := false })).lapse

/-! ### Port resets (R412, R413, R415) -/

/-- The channels bound to a port. -/
def State.chansOf (s : State) (h : HostId) : List ChanId := (allFin 16).filter (fun c => decide (s.chanHost c = h))

/-- A page's registers at their reset values. -/
def State.resetPage (s : State) (b : Blk) (keep : Nat → Bool) : State :=
  { s with regs := Store.keep (fun a => a / 4096 * 4096 != b.base || keep (a % 4096)) s.regs }

/-- What a conventional reset or FLR of a port resets (R412): its configuration space, MSI-X, AER and the HIF page
registers, the counters since cold reset apart; channels stop, and pending responses are discarded. (PRESUMED: log
entry 32) -/
def State.portReset (s : State) (h : HostId) : State :=
  let s := s.each (s.chansOf h) State.chanStop
  let s := s.resetPage (.hif h) (fun o => o == 0x90 || o == 0x94)
  let s := { s with cls := Store.keep (fun a => a / 4096 * 4096 != (Blk.hif h).base) s.cls }
  let s := s.modHost h (fun p => { p with d3hot := false, msix := [], pba := [], cfg := {}, reads := [], posts := [] })
  s.hostGone h

/-- A port's data link lost (R401, R415). -/
def State.pcieDown (s : State) (h : HostId) : State :=
  if (s.hostPort h).up then
    let s := s.modHost h (fun p => { p with up := false, flit := false, width := 0, speed := 0, ready := false })
    (s.raise { page := .hif h, bit := 10, cls := 2, kind := hostKind h }).hostGone h
  else s

end Sys2Proof.Machine
end

