-- ==== Sys2Proof/Machine/Service.lean ====
section
/-!
DEFINITION. Fabric requests and responses (R311 to R316, R322, R323): the owner's service of a request, what a
response does for its requester, and an FU's way from a port to what handles it.
-/

namespace Sys2Proof.Machine

open Sys2Proof

/-! ### Descriptors that wait for remote bytes (R57) -/

/-- The descriptor of an entry in flight run with the bytes that have arrived. -/
def InFlight.again (e : InFlight) (c : CoreId) (logical : Nat) (s : State) : Run? (State × InFlight) :=
  let d := e.toDesc
  if d.op = 0x60 then d.copyStart c logical e.got s
  else if d.op = 0x61 then d.fillStart c logical s
  else if d.op = 0x73 then d.qcopyStart c logical e.got s
  else if d.op = 0x81 then d.gatherStart c logical e.got (decide (e.phase = .queued)) s
  else if 0x90 ≤ d.op then d.remoteStart c logical e.got s
  else d.vecStart c logical e.got s

/-- A descriptor whose fetched bytes are all in runs on. (DESIGN CHOICE: log entry 54) -/
def State.resumeFly (s : State) (c : CoreId) (u : UnitId) (pos : Nat) : State :=
  match (s.core c).flyAt u pos with
  | none => s
  | some e =>
    if e.phase = .fetch ∧ e.tags = [] then
      match e.again c (s.logicalOf c) s with
      | .error x => x.s.flyFault c e x.bit x.halt
      | .ok (s, n) => s.modCore c (fun x => x.modFly u pos (fun _ => n))
    else s

/-! ### Descriptors that wait in their unit's queue (R112) -/

/-- What a unit other than the array does with a queued descriptor that it starts. -/
def InFlight.begin (e : InFlight) (c : CoreId) (logical : Nat) (s : State) : Run? (State × Option InFlight) :=
  let d := e.toDesc
  match d.op with
  | 0x70 => d.ctxStartRun logical s
  | 0x71 => d.ctxEndRun logical s
  | 0x72 => d.qcheckRun logical s
  | 0x80 => d.vcaptureRun logical s
  | 0x82 => d.vopenRun logical s
  | 0x83 => d.vpublishRun logical s
  | 0xA0 => d.collectiveRun c s
  | 0xA1 => d.collectiveRun c s
  | 0xA2 => d.collectiveRun c s
  | 0xA4 => d.ringStartRun c logical s
  | 0xA5 => d.ringWaitRun s
  | _ => asStart (e.again c logical s)

/-- The first descriptor in the queue of a unit. -/
def Core.nextIn (x : Core) (u : UnitId) : Option InFlight := x.fly.find? (fun e => e.waitsIn u)

/-- Whether an earlier descriptor of a unit has not all the bytes that it reads. -/
def Core.fetching (x : Core) (u : UnitId) : Bool :=
  x.fly.any (fun e => decide (e.unit = u) && decide (e.phase = .fetch))

/-- The first descriptor in a unit's queue started, if it may start now (R112, R123, R332). -/
def State.startNext (s : State) (c : CoreId) (u : UnitId) : State :=
  match (s.core c).nextIn u with
  | none => s
  | some e =>
    let l := s.logicalOf c
    if u = .arr then
      match s.arrStart c e with
      | .error f => f.s.flyFault c e f.bit f.halt
      | .ok r => r.1.modCore c (fun x => x.modFly u e.pos (fun _ => r.2))
    else if (s.core c).fetching u || !s.roomFor e.toDesc.op then s
    else
      match e.begin c l s with
      | .error f => f.s.flyFault c e f.bit f.halt
      | .ok r => r.1.modCore c (fun x => x.modFly u e.pos (fun k => r.2.getD k))

/-- The descriptors in the queue of a unit started one after another; `n` bounds them. -/
def State.startUnit (c : CoreId) (u : UnitId) : Nat → State → State
  | 0, s => s
  | n + 1, s => if (s.core c).queued u = 0 then s else State.startUnit c u n (s.startNext c u)

/-- The descriptors of a core that may leave their queues now. -/
def State.startCore (s : State) (c : CoreId) : State :=
  if (s.core c).fly.any (fun e => decide (e.phase = .queued)) then
    s.each [.arr, .vec, .cdma, .fab, .ver] (fun s u => State.startUnit c u ((s.core c).queued u) s)
  else s

/-- Every core's descriptors that may leave their queues now. (DESIGN CHOICE: log entry 64) -/
def State.startWaiting (s : State) : State :=
  s.each (s.cores.map (·.1)) (fun s n => match coreOfNat n with
    | none => s
    | some c => s.startCore c)

/-! ### Responses at the requester (R315) -/

/-- A request of the slot that is no longer outstanding, on the outbound entries (R219). -/
def State.dropOutTag (s : State) (id : Nat) : State :=
  { s with mbq := { s.mbq with
    outs := s.mbq.outs.map (fun o => { o with tags := o.tags.filter (· != id) }) }
           cad := { s.cad with lost := s.cad.lost.filter (fun e => e.1 != id) } }

/-- A request no longer outstanding for an entry in flight, with the bytes it brought. -/
def InFlight.arrived (id addr : Nat) (l : List (Byte × Bool)) (e : InFlight) : InFlight :=
  { e with
    tags := e.tags.filter (· != id)
    got := l.zipIdx.foldl (fun m b => Store.put m (addr + b.2) b.1) e.got }

/-- The VER cause of status 4 or 5 on the requesting device (R315). -/
def State.statusVer (s : State) (t : Tracker) (status logical : Nat) : State :=
  let h := fuHdr t.fu
  if status = 4 then s.verCause 10 3 0x07 h.version h.weight 3 logical
  else if status = 5 then s.verCause 11 3 0x08 h.version h.weight 3 logical
  else s

/-- An error response, or none in time, for a request (R315, R323). -/
def State.ownerError (s : State) (t : Tracker) (status : Nat) (late : Bool) : State :=
  match t.owner with
  | .core c u pos =>
    let s := s.dropOutTag t.id
    match (s.core c).flyAt u pos with
    | none => s
    | some e => (s.statusVer t status (s.logicalOf c)).flyFault c e errorResponse (if status = 4 then 0x07 else 0x08)
  | .mbq _ _ => s
  | .dma c => s.dmaResp c t.id t.addr t.len [] true
  | .bar2 h key => s.bar2Error h key late
  | .bar2Write h key => s.bar2WriteError h key late
  | .drain => s.drainFail 6
  | .restore => s.restoreFail 9
  | .col _ => s
  | .ring _ => s

/-- The data of a READ_RESP for a request. -/
def State.ownerData (s : State) (t : Tracker) (l : List (Byte × Bool)) : State :=
  match t.owner with
  | .core c u pos =>
    (s.modCore c (fun x => x.modFly u pos (InFlight.arrived t.id t.addr l))).resumeFly c u pos
  | .mbq _ _ => s
  | .dma c => s.dmaResp c t.id t.addr t.len l false
  | .bar2 h key => s.bar2Resp h key t.id t.addr l
  | .bar2Write _ _ => s
  | .drain => s
  | .restore => s.restoreData t.id l
  | .col _ => s
  | .ring _ => s

/-- A WRITE_ACK for a request. -/
def State.ownerAck (s : State) (t : Tracker) : State :=
  match t.owner with
  | .core c u pos => (s.dropOutTag t.id).modCore c (fun x => x.modFly u pos (InFlight.arrived t.id t.addr []))
  | .mbq _ _ => s
  | .dma c => s.dmaResp c t.id t.addr t.len [] false
  | .bar2 _ _ => s
  | .bar2Write h key => s.bar2Wrote h key
  | .drain => s.drainAck t.id t.len
  | .restore => s
  | .col _ => s
  | .ring _ => s

/-- What follows a response: requests that waited go out, and entries whose writes are complete are stamped
(R219, R327). -/
def State.afterResponse (s : State) : State := s.pump.stampAll.pump

/-- A response FU (R315); one that names no outstanding request, or fits it not, is discarded. -/
def State.takeResponse (s : State) (f : Fu) : State :=
  match s.trackerOf f.tag.toNat with
  | none => s
  | some t =>
    let ty := f.type.toNat
    if t.dead then (s.freeTracker t.id).afterResponse
    else if ty = 0x1A then ((s.freeTracker t.id).ownerError t (fuHdr f).op false).afterResponse
    else if ty = 0x18 ∧ t.read then ((s.freeTracker t.id).ownerData t (fuData f)).afterResponse
    else if ty = 0x19 ∧ !t.read then ((s.freeTracker t.id).ownerAck t).afterResponse
    else s

/-- Own requests that found no route answered UNREACHABLE (R322); `n` bounds them. (DESIGN CHOICE: log entry 54) -/
def State.settleN (s : State) : Nat → State
  | 0 => s
  | n + 1 =>
    match s.frt.errs with
    | [] => s
    | tag :: l =>
      let s := { s with frt := { s.frt with errs := l } }
      match s.trackerOf tag with
      | none => s.settleN n
      | some t => ((s.freeTracker t.id).ownerError t 3 false).afterResponse.settleN n

/-- Requests sent and own ones that found no route answered. -/
def State.settleOnce (s : State) : State :=
  let s := s.pump
  s.settleN (2 * s.trackers.length + s.frt.errs.length + 1)

/-- Whether a descriptor waits in a queue of a core, or a collective for its acknowledgements. -/
def State.waiting (s : State) : Bool :=
  s.cores.any (fun e => e.2.fly.any (fun k => decide (k.phase = .queued))) || !s.col.ops.isEmpty

/-- What follows a command: requests go out, collectives that are done complete, and what may leave its queue
starts. (DESIGN CHOICE: log entry 54) -/
def State.settle (s : State) : State :=
  let s := s.settleOnce
  if s.waiting then s.colCheckAll.startWaiting.settleOnce else s

/-- Whether a requester is not slot work (R323). -/
def timesOut : ReqOwner → Bool
  | .dma _ | .bar2 _ _ | .bar2Write _ _ | .drain | .restore => true
  | _ => false

/-- RESP_TIMEOUT: no response in 50 µs (R323). -/
def State.respTimeout (s : State) (tag : Nat) : State :=
  match s.trackerOf tag with
  | none => s
  | some t =>
    if t.dead || !timesOut t.owner then s
    else
      let late := fun (u : Tracker) => if u.id = t.id then { u with dead := true } else u
      let s := { s with trackers := s.trackers.map late }
      let s := s.raise { page := .frt, bit := 11, cls := 2, kind := 2, addr := t.dest.toNat }
      (s.ownerError t 3 true).afterResponse

/-! ### Service of a request at its owner (R311 to R316) -/

/-- A response sent to the requester (R310, R315). -/
def State.respond (s : State) (f : Fu) (type status poison : Nat) (data : List Byte) : State :=
  let h := fuHdr f
  let r := opFu type h.src f.tag.toNat poison
    { addr := h.addr, src := s.own, op := status, dlen := data.length } data
  if h.src = s.own then s.takeResponse r else s.sendPlain r none

/-- A rejection logged by FRT, with the local offset (R316). -/
def State.rejectFu (s : State) (f : Fu) (off status : Nat) : State :=
  let h := fuHdr f
  let s := s.raise { page := .frt, bit := 9, cls := 2, kind := 2, addr := off }
  (s.setReg .frt 0x8C (BitVec.ofNat 32 h.src)).respond f 0x1A status 0 []

/-- Bytes read for a request and returned (R312, R314). -/
def State.serveRead (s : State) (f : Fu) (off n : Nat) : State :=
  match s.firstUnserved off n with
  | some _ => s.rejectFu f off 2
  | none =>
    let s := (s.enter .system off n).checkRead off n
    let l := (List.range n).map (fun i => (s.byte (off + i), s.poisoned (off + i)))
    s.respond f 0x18 0 (poisonMask l) (l.map (·.1))

/-- READ_REQ at its owner (R314). -/
def State.serveReadReq (s : State) (f : Fu) : State :=
  let h := fuHdr f
  if !hdrOk f then s.rejectFu f h.addr 6 else (s.noteInRead h.addr).serveRead f h.addr h.dlen

/-- WRITE, ADD_F32, ADD_I32 and REDUCE at their owner (R45, R312, R314 to R316). -/
def State.serveWrite (s : State) (f : Fu) : State :=
  let h := fuHdr f
  if !hdrOk f then s.rejectFu f h.addr 6
  else if s.hitsImage h.addr h.dlen then (s.glbRecord h.addr 2).respond f 0x1A 1 0 []
  else
    match s.firstUnserved h.addr h.dlen with
    | some _ => s.rejectFu f h.addr 2
    | none =>
      let l := fuData f
      let s := s.enter .system h.addr h.dlen
      let s := if f.type.toNat = 0x11 then s.writeP h.addr l else s.combine h.addr f.type.toNat h.op h.fmt l
      s.respond f 0x19 0 0 []

/-- VGATHER_REQ at its owner (R233, R234). -/
def State.serveGather (s : State) (f : Fu) : State :=
  let h := fuHdr f
  match s.weight? h.weight with
  | none => s.rejectFu f h.addr 6
  | some w =>
    if !s.job.st.holdsJob || !hdrOk f || decide (w.len < h.addr + h.dlen) then s.rejectFu f h.addr 6
    else
      match w.resolve h.version with
      | some k => s.serveRead f (w.storage k + h.addr) h.dlen
      | none =>
        let retired := precedes h.version w.currentVer
        (s.verCause (if retired then 8 else 9) 2 0 h.version w.id 2 0).respond f 0x1A (if retired then 4 else 5) 0 []

/-! ### From a port to what handles an FU (R281 to R293, R325) -/

/-- An operation FU handled here or forwarded; its buffer entry is freed. -/
def State.opArrived (s : State) (p : PortId) (f : Fu) (serve : State → Fu → State) : State :=
  let s := s.freeCredit p f.vc.toNat
  if f.dest.toNat = s.own then serve s f else s.transit p f

/-- An FU of a kind of arrival at a port: what the receiver does, then what the FU asks for, then what follows.
An FU of another kind is another command's. (DESIGN CHOICE: log entry 8) -/
def State.onFu (s : State) (p : PortId) (f : Fu) (kind : Bool) (act : State → Fu → State) : State :=
  if !kind then s
  else
    match s.arrive p f false with
    | (none, s) => s.settle.idleBack p
    | (some f, s) => (act s f).settle.idleBack p

/-- An operation FU of a type arriving at a port. -/
def State.onOp (s : State) (p : PortId) (f : Fu) (type : Nat) (serve : State → Fu → State) : State :=
  s.onFu p f (f.type.toNat == type) (fun s f => s.opArrived p f serve)

/-- A DISCOVERY message of a kind arriving at a port (R317). -/
def State.onDiscovery (s : State) (p : PortId) (f : Fu) (kind : Nat) (act : State → Fu → State) : State :=
  s.onFu p f (f.type.toNat == 5 && fuNum f 0 1 == kind) (fun s f => act (s.freeCredit p 3) f)

/-- A segment of COL or of the ring forwarder taken here: with the staging buffer full its VC2 credit is held
back (R332). -/
def State.onSegment (s : State) (p : PortId) (f : Fu) (type : Nat) (take_ : State → Fu → State) : State :=
  s.onFu p f (f.type.toNat == type) (fun s f =>
    if f.dest.toNat = s.own then
      let s := take_ s f
      if s.stageFull then { s with col := { s.col with owed := s.col.owed ++ [p] } } else s.freeCredit p 2
    else (s.freeCredit p 2).transit p f)

end Sys2Proof.Machine
end

