-- ==== Sys2Proof/Machine/FabLink.lean ====
section
/-!
DEFINITION. The life of a fabric port (R290, R297 to R303): training, retraining and going down, its timers, and
the messages that ports exchange: time stamps, delay reports, HELLOs, ring states and halt broadcasts (R107, R296,
R317 to R320).
-/

namespace Sys2Proof.Machine

open Sys2Proof

/-! ### Training (R298 to R300) -/

/-- LINK_EN (R305). -/
def State.linkEn (s : State) (p : PortId) : Bool := s.flag (.fab p) 0x80 0

/-- Whether the fabric ports run: the main domain of X and the fabric reference (R454, R551). -/
def State.fabricOn (s : State) : Bool := s.pwr.powered && s.tim.fabclk

/-- A port without its sequence state, credits and neighbour, as training from DOWN leaves it (R299, R293, R318,
R319). -/
def Port.fresh (q : Port) : Port :=
  { q with
    next := 0, buf := [], expiries := 0, afterRetrain := false, cnt := 0, exp := 0, ackSeq := 0, ackValid := false
    discard := false, credits := [{}, {}, {}, {}], vcTurn := 0, bulkTurn := false, seen := false, sentSeen := false
    gotSeen := false, peerParity := false, askParity := false, locked := false, traffic := false, trafficLast := false, nbValid := false
    nbMismatch := false, delayValid := false, samples := [], stamps := [], dueBcast := [], fails := 0
    parity := false }

/-- Whether a port will ask for lane-parity mode in its next training (R300, R303, R305). -/
def State.wantsParity (s : State) (p : PortId) : Bool := (s.port p).bistFail || s.flag (.fab p) 0x80 4

/-- A training attempt fails and leaves the port DOWN (R300). -/
def State.trainFail (s : State) (p : PortId) (cause : Nat) : State :=
  (s.setPortState p .down).modPort p (fun q => { q.fresh with cause := cause, wake := false })

/-- A training attempt on a DOWN port with signal on all its lanes, up to the INIT exchange (R276, R300). -/
def State.train (s : State) (p : PortId) (a : TrainAttempt) : State :=
  let s := s.modPort p (fun q => { q.fresh with signal := true, bistFail := !a.bistOk })
  let s := if a.bistOk then s else s.fabCause p 16 2 false
  if a.lanes ≠ 0xFFFF then s.trainFail p 3
  else
    let fec := !(s.flag (.fab p) 0x80 3 && a.peerFecOk)
    let ask := s.wantsParity p
    (s.setPortState p .training).modPort p (fun q => { q with
      locked := true, fec := fec, peerFec := a.peerFecOk, askParity := ask })

/-- TRAINING_ATTEMPT (R300): not after a failed attempt, whose next one is a retry, nor after a retrain limit or a
parity failure, unless software asked for it. -/
def State.trainAttempt (s : State) (p : PortId) (a : TrainAttempt) : State :=
  let q := s.port p
  if q.st = .down && s.linkEn p && s.fabricOn && (q.wake || decide (q.cause < 3)) then s.train p a else s

/-- TRAINING_RETRY (R300). -/
def State.trainRetry (s : State) (p : PortId) (a : TrainAttempt) : State :=
  let q := s.port p
  if q.st = .down && s.linkEn p && s.fabricOn && (q.cause == 3 || q.cause == 7) then s.train p a else s

/-- TRAINING_TIMEOUT (R300). -/
def State.trainTimeout (s : State) (p : PortId) : State :=
  if (s.port p).st = .training then s.trainFail p 7 else s

/-- A port that has sent and received SEEN = 1 is UP (R298, R303, R317). -/
def State.trainEnd (s : State) (p : PortId) : State :=
  let q := s.port p
  if q.st = .training && q.sentSeen && q.gotSeen then
    let parity := q.askParity || q.peerParity
    (((s.setPortState p .up).modPort p (fun q => { q with parity := parity, wake := false })).sendHello p).flush p
  else s

/-- INIT_TIMER (R298). -/
def State.initTimer (s : State) (p : PortId) : State :=
  let q := s.port p
  if q.st = .training && q.locked then
    let limits := [0, 1, 2, 3].flatMap (fun vc => leBytes (vcBuffer vc) 2)
    let s := s.sendOut p (ctlFu 2 (leBytes 1 1 ++ leBytes (bit q.seen + 2 * bit q.askParity) 1 ++ limits))
    (s.modPort p (fun q => { q with sentSeen := q.sentSeen || q.seen })).trainEnd p
  else s

/-- The peer's credit limits from an INIT (R292, R298). -/
def Port.limits (q : Port) (f : Fu) : Port :=
  { q with credits := q.credits.zipIdx.map (fun e => { e.1 with limit := fuNum f (2 + 2 * e.2) 2 }) }

/-- An INIT received (R298). -/
def State.takeInit (s : State) (p : PortId) (f : Fu) : State :=
  if (s.port p).st ≠ .training then s
  else if fuNum f 0 1 ≠ 1 then s.trainFail p 7
  else
    let flags := fuNum f 1 1
    (s.modPort p (fun q => { q.limits f with
      seen := true, gotSeen := q.gotSeen || flags % 2 == 1, peerParity := q.peerParity || flags / 2 % 2 == 1
      })).trainEnd p

/-! ### Retraining and going down (R290, R301, R302, R303) -/

/-- A port that carries traffic or tries to goes DOWN (R302). (DEDUCED: log entry 42) -/
def State.fall (s : State) (p : PortId) (cause : Nat) : State :=
  match (s.port p).st with
  | .up | .retrain | .training => s.linkDown p cause
  | _ => s

/-- REPLAY_TIMER_EXPIRY (R290). (DEDUCED: log entry 42) -/
def State.replayExpiry (s : State) (p : PortId) : State :=
  let q := s.port p
  if q.st = .up && !q.parity && !q.buf.isEmpty then
    let s := (s.countSat (.fab p) 0x8C 1).fabCause p 10 1 false
    if 8 ≤ q.expiries + 1 then s.wantRetrain p
    else (s.modPort p (fun q => { q with expiries := q.expiries + 1 })).replay p
  else s

/-- RETRAIN_COMPLETE: the lanes have relocked and the sender resumes, halt broadcasts that fell due first (R294, R301,
R317). -/
def State.retrainDone (s : State) (p : PortId) : State :=
  let q := s.port p
  if q.st = .retrain then
    let was := s.usable p
    let s := ((s.setPortState p .up).modPort p (fun q => { q with afterRetrain := true })).sendDue p
    (((if q.parity then s else s.replay p).sendHello p).flush p).usabilityChanged p was
  else s

/-- RELOCK_TIMEOUT (R301). -/
def State.relockTimeout (s : State) (p : PortId) : State :=
  if (s.port p).st = .retrain then s.retrainFailed p else s

/-- A retrain that the lanes, the peer or software ask for (R301). -/
def State.askRetrain (s : State) (p : PortId) : State := if (s.port p).st = .up then s.startRetrain p else s

/-- REPLAY_PARITY (R302). -/
def State.replayParity (s : State) (p : PortId) : State :=
  let q := s.port p
  if q.st = .up && !q.parity && !q.buf.isEmpty then (s.fabCause p 17 2 false).linkDown p 6 else s

/-- LANE_PARITY_ERROR (R303). -/
def State.laneParity (s : State) (p : PortId) : State :=
  let q := s.port p
  if q.st = .up && q.parity then s.linkDown p 5 else s

/-- LOSS_OF_SIGNAL (R302). -/
def State.signalLost (s : State) (p : PortId) : State := (s.modPort p (fun q => { q with signal := false })).fall p 2

/-- LINK_EN written to 0: DISABLED with DOWN_CAUSE 1 (R302). (DEDUCED: log entry 42) -/
def State.linkDisable (s : State) (p : PortId) : State :=
  let s := s.setFlag (.fab p) 0x80 0 false
  match (s.port p).st with
  | .disabled => s
  | .down => (s.setPortState p .disabled).modPort p (fun q => { q with cause := 1 })
  | _ => s.linkDown p 1

/-- LINK_EN written to 1 (R299, R300). -/
def State.linkEnable (s : State) (p : PortId) : State :=
  let was := s.linkEn p
  let s := s.setFlag (.fab p) 0x80 0 true
  if was then s
  else
    let s := s.modPort p (fun q => { q with wake := true })
    if (s.port p).st = .disabled then s.setPortState p .down else s

/-- FAB_LINK_CTL.RETRAIN written 1 (R305). -/
def State.fabRetrain (s : State) (p : PortId) : State :=
  match (s.port p).st with
  | .up => s.startRetrain p
  | .down => s.modPort p (fun q => { q with wake := true })
  | _ => s

/-! ### Time stamps and link delay (R82, R296, R319) -/

/-- A time in units of 2^-16 ns. -/
def time16 (ns frac : Nat) : Int := (ns * 65536 + frac : Nat)

/-- TIME_STAMP_TIMER: a stamp on every port that is up (R319). -/
def State.stampTimer (s : State) : State :=
  s.each (allFin 8) (fun s p =>
    if (s.port p).st = .up then
      s.sendOut p (ctlFu 3 (leBytes s.tim.now.toNat 8 ++ leBytes s.tim.frac.toNat 2 ++
        leBytes s.tim.lock.code 1 ++ [0] ++ leBytes s.tick 8))
    else s)

/-- The link delay in units of 2^-4 ns: the mean of the last 16 samples (R319, R336). -/
def Port.delay16 (q : Port) : Nat :=
  if q.samples.isEmpty then 0 else (q.samples.sum / ((2 * q.samples.length * 4096 : Nat) : Int)).toNat

/-- A TIME_STAMP received: the pair for delay measurement, and the offset to the neighbour where its clock counts
as a reference (R80, R82, R319). -/
def State.takeStamp (s : State) (p : PortId) (f : Fu) (rx : Int) : State :=
  let tx := time16 (fuNum f 0 8) (fuNum f 8 2)
  let lock := fuNum f 10 1
  let s := s.modPort p (fun q => { q with stamps := (tx, rx) :: q.stamps, peerLock := lock })
  let q := s.port p
  let rest := s.tim.portRef.filter (fun e => e.1 != p)
  let good := s.flag .tim 0x80 (8 + p.val) && (lock == 2 || lock == 3) && q.delayValid
  let off : Int := rx - tx - ((q.delay16 * 4096 : Nat) : Int)
  { s with tim := { s.tim with portRef := if good then rest ++ [(p, off)] else rest } }

/-- DELAY_REPORT_TIMER: the latest pair of a received stamp reported (R319). -/
def State.reportDelay (s : State) (p : PortId) : State :=
  match (s.port p).stamps with
  | [] => s
  | (tx, rx) :: _ =>
    let t := tx.toNat
    let r := rx.toNat
    s.discovery p ([1, 0] ++ leBytes (t % 65536) 2 ++ leBytes (t / 65536) 8 ++ leBytes (r / 65536) 8 ++
      leBytes (r % 65536) 2)

/-- The received stamp whose reception lies nearest to a time, within 2,000 ns (R319). -/
def nearestStamp (a1 : Int) (l : List (Int × Int)) : Option (Int × Int) :=
  l.foldl (fun best e =>
    if (e.2 - a1).natAbs ≤ 2000 * 65536 then
      match best with
      | none => some e
      | some b => if (e.2 - a1).natAbs < (b.2 - a1).natAbs then some e else some b
    else best) none

/-- A DELAY_REPORT received: one more sample (R319). A sample is kept as twice its value. -/
def State.takeReport (s : State) (p : PortId) (f : Fu) : State :=
  let a1 := time16 (fuNum f 4 8) (fuNum f 2 2)
  let b1 := time16 (fuNum f 12 8) (fuNum f 20 2)
  match nearestStamp a1 (s.port p).stamps with
  | none => s
  | some (b2, a2) =>
    s.modPort p (fun q => { q with
      samples := (((a2 - a1) - (b2 - b1)) :: q.samples).take 16, delayValid := true })

/-! ### Neighbours and the ring map (R317, R318, R320) -/

/-- HELLO_TIMER (R317). -/
def State.helloTimer (s : State) : State := s.each (allFin 8) State.sendHello

/-- Whether a HELLO meets R318 on a port. -/
def State.helloOk (s : State) (p : PortId) (f : Fu) : Bool :=
  let ax := p.val / 2
  let n := s.ring ax
  let x := destAxis s.own ax
  let next := if p.val % 2 = 0 then (x + 1) % n else (x + n - 1) % n
  fuNum f 8 4 == (s.reg .frt 0x80).toNat && fuNum f 12 4 == (s.reg .glb 0x80).toNat &&
    fuNum f 1 1 == (oppositePort p).val &&
    destOfCoord (BitVec.ofNat 32 (fuNum f 4 4)) == setAxis s.own ax next

/-- A HELLO received (R318). -/
def State.takeHello (s : State) (p : PortId) (f : Fu) : State :=
  let was := s.usable p
  let ok := s.helloOk p f
  let s := s.modPort p (fun q => { q with
    nbValid := q.nbValid || ok, nbMismatch := !ok, nbPort := fuNum f 1 1 % 8
    nbCoord := BitVec.ofNat 24 (destOfCoord (BitVec.ofNat 32 (fuNum f 4 4))), nbFeed := BitVec.ofNat 8 (fuNum f 2 1) })
  let s := if ok then s else s.fabCause p 18 2 true
  s.usabilityChanged p was

/-- A message forwarded round its ring, unless the other port cannot or leads back to its origin (R320). -/
def State.relayRing (s : State) (p : PortId) (f : Fu) (origin : Nat) : State :=
  let o := oppositePort p
  if s.usable o && destAxis (s.port o).nbCoord.toNat (o.val / 2) != origin then
    s.enqueue o { f with tag := 0 } false
  else s

/-- A RING_STATE received (R320): newer ones are recorded and forwarded. -/
def State.takeRingState (s : State) (p : PortId) (f : Fu) : State :=
  let ax := fuNum f 1 1
  let x := fuNum f 2 1
  let seq : Word := BitVec.ofNat 32 (fuNum f 4 4)
  let newer := match s.ringRec ax x with
    | none => true
    | some r => decide (0 < (seq - r.seq).toNat ∧ (seq - r.seq).toNat < 2 ^ 31)
  if ax ≠ p.val / 2 ∨ s.ring ax ≤ x ∨ x = destAxis s.own ax ∨ !newer then s
  else
    let flags := fuNum f 3 1
    let r : RingRec := { axis := ax, coord := x, plus := flags % 2 == 1, minus := flags / 2 % 2 == 1, seq := seq }
    let rest := s.frt.recs.filter (fun e => !(e.axis == ax && e.coord == x))
    (({ s with frt := { s.frt with recs := rest ++ [r] } }).relayRing p f x).judgeAbsent

/-- RING_STATE_TIMER (R320). -/
def State.ringTimer (s : State) : State := s.each [0, 1, 2, 3] State.sendRingState

/-- A record that shows neither side (R320). -/
def RingRec.expire (ax x : Nat) (r : RingRec) : RingRec :=
  if r.axis = ax ∧ r.coord = x then { r with plus := false, minus := false } else r

/-- RING_STATE_EXPIRY: a record older than 5 ms counts as showing neither (R320). -/
def State.ringExpiry (s : State) (ax x : Nat) : State :=
  ({ s with frt := { s.frt with recs := s.frt.recs.map (RingRec.expire ax x) } }).judgeAbsent

/-! ### Halt broadcasts (R106, R107, R297, R362) -/

/-- A HALT_BCAST received: recorded and forwarded on first receipt, and an active job halts at the next tick.
(DEDUCED: log entry 42) -/
def State.takeHaltBcast (s : State) (p : PortId) (f : Fu) : State :=
  let origin : Word := BitVec.ofNat 32 (fuNum f 0 4)
  let cause := fuNum f 4 1
  let tick := fuNum f 8 8
  if s.frt.seen.contains (origin, BitVec.ofNat 64 tick) then s
  else
    let d := destOfCoord origin
    let s := (s.setReg .ras 0x8C (BitVec.ofNat 32 (cause * 2 ^ 24 + d))).setReg64 .ras 0x90 tick
    let s := (s.countSat .ras 0x98 1).raise { page := .ras, bit := 8, cls := 1, kind := 2, req := p.val }
    let s := s.bcast origin cause tick (some p)
    if s.job.st.active then
      s.requestHalt { code := cause, remote := some (p, BitVec.ofNat 24 d), bcast := true }
    else s

end Sys2Proof.Machine
end

