-- ==== Sys2Proof/Machine/Time.lean ====
section
/-!
DEFINITION. Time (R79 to R89, R549 to R551): the references, PTP, the discipline loop and its lock states, and the
instants of ticks.
-/

namespace Sys2Proof.Machine

open Sys2Proof

/-! ### Registers of TIM (R108) -/

/-- TIM_CTL.SOURCE. -/
def State.timeSource (s : State) : Nat := s.field .tim 0x80 2 1

/-- TIM_TICK_PERIOD, TIM_COMMIT_WINDOW, TIM_SKEW_LIMIT and TIM_START_TIME. -/
def State.tickPeriod (s : State) : Nat := (s.reg .tim 0x90).toNat

/-- TIM_COMMIT_WINDOW. -/
def State.commitWindow (s : State) : Nat := (s.reg .tim 0xA8).toNat

/-- TIM_SKEW_LIMIT. -/
def State.skewLimit (s : State) : Nat := (s.reg .tim 0xBC).toNat

/-- TIM_START_TIME. -/
def State.startTime (s : State) : Nat := s.reg64 .tim 0xA0

/-- TIM_NOW. -/
def State.now (s : State) : Nat := s.tim.now.toNat

/-- Number of the next tick: the first instant after now (R87). -/
def State.nextTick (s : State) : Nat :=
  if s.now < s.startTime then 0 else (s.now - s.startTime) / s.tickPeriod + 1

/-- Time of the next tick (R87). -/
def State.nextTickAt (s : State) : Nat := s.startTime + s.nextTick * s.tickPeriod

/-- The time counter and its fraction, in units of 2^-16 ns (R79). -/
def State.fineNow (s : State) : Nat := s.now * 65536 + s.tim.frac.toNat

/-- The counter moved on to a fine time; what has passed since the last loop iteration counts (R79, R83). -/
def State.advanceFine (s : State) (t : Nat) : State :=
  if s.fineNow < t then
    { s with tim := { s.tim with
      now := BitVec.ofNat 64 (t / 65536), frac := BitVec.ofNat 16 t, elapsed := s.tim.elapsed + (t - s.fineNow) } }
  else s

/-- The time counter moved on to an instant. -/
def State.advance (s : State) (t : Nat) : State := s.advanceFine (t * 65536)

/-- The next instant of a tick that has not come yet: it comes by its own command, which no loop iteration passes
(R87). (DESIGN CHOICE: log entry 68) -/
def State.nextInstant (s : State) : Nat :=
  if !s.inSlot then s.nextTickAt
  else if !s.tim.window then s.nextTickAt - s.commitWindow
  else if !s.tim.deadline then s.nextTickAt - s.skewLimit
  else s.nextTickAt

/-- The rest of the millisecond that a loop iteration ends, slewed by the rate adjustment set at its start: 1/64 ns
are 2^10 units of the fraction (R79, R83). (DESIGN CHOICE: log entry 68) -/
def State.loopAdvance (s : State) : State :=
  let goal := s.fineNow + (65536000000 + s.tim.rate * 1024 - s.tim.elapsed).toNat
  let goal := if s.tickEn then min goal (s.nextInstant * 65536 - 1) else goal
  let s := s.advanceFine goal
  { s with tim := { s.tim with elapsed := 0 } }

/-- TIM_TICK_PHASE (R87). -/
def State.tickPhase (s : State) : Nat :=
  match s.tim.tickAt with
  | none => 0
  | some t => if s.tickEn then s.now - t.toNat else 0

/-! ### Lock states (R84, R85) -/

/-- TIM_LOCK.STATE moves; the run lengths start again, and LOCKED fires its interrupt (R510). -/
def State.setLock (s : State) (l : LockState) : State :=
  if s.tim.lock = l then s
  else
    let s := { s with tim := { s.tim with lock := l, good := 0, noRef := 0, bad := 0, heldMs := 0 } }
    if l = .locked then s.irq .tim 0 else s

/-- Lock lost (R84, R85, R510). -/
def State.lockLost (s : State) : State :=
  ((s.setLock .acquiring).raise { page := .tim, bit := 8, cls := s.jobClass, halt := 0x09 }).irq .tim 1

/-- HOLDOVER entered (R84, R85, R510). -/
def State.enterHoldover (s : State) : State :=
  ((s.setLock .holdover).raise { page := .tim, bit := 9, cls := 1 }).irq .tim 2

/-! ### References (R80 to R82) -/

/-- TIM_LOCK.PTP_OK (R81). -/
def Ptp.ok (p : Ptp) : Bool := p.announce && p.syncOk

/-- The offsets that count as references now, in units of 2^-16 ns, and the ports among them (R80, R82). -/
def State.references (s : State) : List Int × Byte :=
  let ptp := match s.tim.ptp.offset with
    | some o => if s.tim.ptp.ok then [o * 65536] else []
    | none => []
  match s.timeSource with
  | 0 => ([], 0)
  | 1 => (ptp, 0)
  | 2 =>
    let l := s.tim.portRef.filter (fun e => (s.port e.1).st = .up && s.flag .tim 0x80 (8 + e.1.val))
    (l.map (·.2) ++ (if s.flag .tim 0x80 3 then ptp else []),
      l.foldl (fun (b : Byte) e => b ||| BitVec.ofNat 8 (2 ^ e.1.val)) 0)
  | _ =>
    match s.tim.pps with
    | some o => ([o * 65536], 0)
    | none => ([], 0)

/-- The offset e in ns: the mean of the references (R82, R83). (DESIGN CHOICE: log entry 68) -/
def meanOffset (l : List Int) : Option Int := if l.isEmpty then none else some (l.sum / ((l.length * 65536 : Nat) : Int))

/-! ### The discipline loop (R83, R84) -/

/-- The lock state after an iteration with offset e. -/
def State.lockStep (s : State) (e : Option Int) : State :=
  let t := s.tim
  let lim := s.skewLimit
  match t.lock, e with
  | .free, none => s
  | .free, some _ => s.setLock .acquiring
  | .acquiring, none => { s with tim := { t with good := 0 } }
  | .acquiring, some e =>
    if 2 * e.natAbs ≤ lim then
      (if 16 ≤ t.good + 1 then s.setLock .locked else { s with tim := { t with good := t.good + 1 } })
    else { s with tim := { t with good := 0 } }
  | .locked, none =>
    if 4 ≤ t.noRef + 1 then s.enterHoldover else { s with tim := { t with noRef := t.noRef + 1, bad := 0 } }
  | .locked, some e =>
    if lim < e.natAbs then
      (if 4 ≤ t.bad + 1 then s.lockLost else { s with tim := { t with bad := t.bad + 1, noRef := 0 } })
    else { s with tim := { t with bad := 0, noRef := 0 } }
  | .holdover, none => { s with tim := { t with heldMs := t.heldMs + 1 } }
  | .holdover, some e =>
    if 2 * e.natAbs ≤ lim then s.setLock .locked
    else if e.natAbs ≤ lim then { s with tim := { t with heldMs := t.heldMs + 1 } }
    else s.lockLost

/-- The counter stepped by −e; no rate adjustment follows such an iteration (R83). -/
def State.stepTime (s : State) (e : Int) : State :=
  { s with tim := { s.tim with now := BitVec.ofInt 64 (s.tim.now.toNat - e), rate := 0 } }

/-- The rate adjustment for the next millisecond: the integral term and the rate in units of 1/64 ns per ms
(R83). (DEDUCED: log entry 62) -/
def Tim.slew (t : Tim) (e : Option Int) : Tim :=
  match e with
  | some e =>
    let c := t.corr + e
    { t with corr := c, rate := max (-640) (min 640 (-8 * e - c)) }
  | none => { t with rate := max (-640) (min 640 (-t.corr)) }

/-- An iteration's inputs noted: TIM_OFFSET, REF_PORTS, and references used up or older. (DESIGN CHOICE: log entry
68) -/
def Tim.note (t : Tim) (e : Option Int) (ports : Byte) : Tim :=
  { t with
    offset := match e with
      | some e => max (-(2 ^ 31 - 1)) (min (2 ^ 31 - 1) e)
      | none => t.offset
    refPorts := ports
    portRef := []
    pps := if 999 ≤ t.ppsAge then none else t.pps
    ppsAge := t.ppsAge + 1 }

/-- DISCIPLINE_LOOP (R83, R84); with the main domain off, the counter runs on with the last frequency correction
for as long as its reference does (R441, R551). (DESIGN CHOICE: log entry 68) -/
def State.disciplineLoop (s : State) : State :=
  if !s.pwr.powered then (if s.tim.refclk then { s with tim := s.tim.slew none }.loopAdvance else s)
  else
    let s := s.loopAdvance
    let src := s.timeSource
    let r := s.references
    let e := meanOffset r.1
    let s := { s with tim := s.tim.note e r.2 }
    if src = 0 then ({ s with tim := { s.tim with rate := 0 } }).setLock .free
    else
      let s := s.lockStep e
      match e with
      | some v =>
        if s.tim.lock = .acquiring ∧ 1000 < v.natAbs ∧ src ≠ 3 ∧ !s.job.st.active then s.stepTime v
        else { s with tim := s.tim.slew e }
      | none => { s with tim := s.tim.slew none }

/-- HOLDOVER_EXPIRY (R84): held longer than TIM_HOLDOVER_MS. -/
def State.holdoverExpiry (s : State) : State :=
  if s.tim.lock = .holdover ∧ (s.reg .tim 0xC0).toNat ≤ s.tim.heldMs then s.lockLost else s

/-! ### 1PPS (R80, R89, R550) -/

/-- The distance of a time from the nearest whole second, in ns: positive past it. -/
def fromSecond (t : Nat) : Int :=
  let r := t % 1000000000
  if r ≤ 500000000 then (r : Int) else (r : Int) - 1000000000

/-- PPS_EDGE: a rising edge of 1PPS_IN at a time of the local counter (R80, R550). -/
def State.ppsEdge (s : State) (t : BitVec 64) : State :=
  let soon := match s.tim.ppsAt with
    | some u => decide (u ≤ t ∧ (t - u).toNat < 500000000)
    | none => false
  if s.timeSource != 3 || soon || !s.pwr.powered then s
  else { s with tim := { s.tim with pps := some (fromSecond t.toNat), ppsAt := some t, ppsAge := 0 } }

/-- The first whole second after now. (DEDUCED: log entry 10) -/
def State.nextSecond (s : State) : Nat := (s.now / 1000000000 + 1) * 1000000000

/-- WHOLE_SECOND: the counter reaches a whole second, unless a tick comes first (R89). (DEDUCED: log entry 10) -/
def State.wholeSecond (s : State) : State :=
  let here := s.now % 1000000000 == 0 && s.tim.tickAt == some s.tim.now
  let t := if here then s.now else s.nextSecond
  if !s.pwr.powered || (s.tickEn && decide (s.nextTickAt ≤ t)) then s
  else
    let s := s.advance t
    if s.tickEn then s.emit .ppsPulse else s

/-! ### PTP (R81) -/

/-- domainNumber of the profile (R81). -/
def State.ptpDomain (s : State) : Nat := if s.flag .tim 0x80 4 then 24 else 0

/-- The PTP instance changed by a message of its domain; it runs while the main domain does. -/
def State.onPtp (s : State) (m : PtpMsg) (f : Ptp → Ptp) : State :=
  if s.pwr.powered && m.domain.toNat == s.ptpDomain then { s with tim := { s.tim with ptp := f s.tim.ptp } } else s

/-- The offset from the transmitter once a Sync's times are known. -/
def Ptp.measure (p : Ptp) (d : Int) : Ptp := { p with msDiff := some d, offset := some (d - p.delay) }

/-- SYNC (R81): a one-step Sync gives its time itself, a two-step one waits for its Follow_Up. -/
def State.ptpSync (s : State) (m : PtpMsg) : State :=
  s.onPtp m (fun p =>
    let p := { p with syncOk := true }
    if m.twoStep then { p with sync := some (m.seqId, m.rx) }
    else ({ p with sync := none }).measure ((m.rx.toNat : Int) - m.stamp.toNat))

/-- FOLLOW_UP (R81). -/
def State.ptpFollowUp (s : State) (m : PtpMsg) : State :=
  s.onPtp m (fun p => match p.sync with
    | some (q, rx) => if q = m.seqId then ({ p with sync := none }).measure ((rx.toNat : Int) - m.stamp.toNat) else p
    | none => p)

/-- ANNOUNCE (R81). -/
def State.ptpAnnounce (s : State) (m : PtpMsg) : State := s.onPtp m (fun p => { p with announce := true })

/-- DELAY_RESP (R81): the mean path delay of delay request-response. -/
def State.ptpDelayResp (s : State) (m : PtpMsg) : State :=
  s.onPtp m (fun p => match p.reqAt, p.msDiff with
    | some t3, some d =>
      if m.seqId = p.reqSeq then
        let delay := (d + ((m.stamp.toNat : Int) - t3.toNat)) / 2
        { p with reqAt := none, delay := delay, offset := some (d - delay) }
      else p
    | _, _ => p)

/-- DELAY_REQ_TIMER: a Delay_Req sent at a time of the local counter (R81). -/
def State.ptpDelayReq (s : State) (t : BitVec 64) : State :=
  if s.pwr.powered && s.tim.ptp.ok && s.tim.fabclk then
    let q := s.tim.ptp.reqSeq + 1
    ({ s with tim := { s.tim with ptp := { s.tim.ptp with reqSeq := q, reqAt := some t } } }).emit (.delayReq q)
  else s

/-- ANNOUNCE_RECEIPT_TIMEOUT (R81). -/
def State.ptpTimeout (s : State) : State :=
  { s with tim := { s.tim with ptp := { s.tim.ptp with announce := false, syncOk := false } } }

/-! ### References lost (R551) -/

/-- REFCLK_10M_LOSS: the counter goes on from FAB_REFCLK; with the main domain unpowered it stops. -/
def State.refclkLost (s : State) : State :=
  if s.pwr.powered then { s with tim := { s.tim with refclk := false } }
  else { s with tim := { s.tim with refclk := false, lock := .free } }

/-- REFCLK_10M_RETURN: the counter goes back to its reference without a step. -/
def State.refclkBack (s : State) : State := { s with tim := { s.tim with refclk := true } }

end Sys2Proof.Machine
end

