-- ==== Sys2Proof/Machine/Cadence.lean ====
section
/-!
DEFINITION. The cadence engine (R69 to R75, R87 to R105): the end of a slot, what is overrunning or late, the tick,
the dispatch of a slot, and the job's start, pause, resumption and halt at their tick.
-/

namespace Sys2Proof.Machine

open Sys2Proof

/-! ### What is unfinished as the commit window opens (R90, R105) -/

/-- The run of a core's own list. -/
def Core.ownRun (x : Core) : Option Run := if (x.run.bind (·.piece)).isSome then x.own else x.run

/-- Whether a queued piece is stranded at a helper whose own list has faulted (R101). -/
def State.stuck (s : State) (p : PieceRun) : Bool :=
  decide (p.st = .queued) &&
    (match (s.helperOf p).bind s.carrier with
    | some c => (match (s.core c).ownRun with
      | some r => r.faulted
      | none => false)
    | none => false)

/-- Whether a queued piece cannot run because of a descriptor fault: at its helper, or in a piece of a lower wave
(R90, R101). -/
def State.stranded (s : State) (p : PieceRun) : Bool :=
  s.stuck p || (decide (p.st = .queued) && s.cad.pieces.any (fun q =>
    q.logical == p.logical && decide (q.wave < p.wave) && (decide (q.st = .faulted) || s.stuck q)))

/-- Whether a piece is left undone and counts as overrunning (R90). -/
def State.undone (s : State) (p : PieceRun) : Bool :=
  match p.st with
  | .queued => !s.stranded p
  | .running _ => true
  | .done => false
  | .faulted => false

/-- The image offset, in 64-byte units, of the first unretired descriptor of a mapped logical core whose list has
neither ended nor faulted (R105). -/
def State.ownOpen (s : State) (l : Nat) : Option Nat :=
  match s.carrier l with
  | none => none
  | some c =>
    match (s.core c).ownRun with
    | none => none
    | some r => if r.logical = l && !r.ended && !r.faulted then some ((s.core c).unretired r) else none

/-- The first unretired descriptor of a piece that is undone (R105). -/
def State.pieceOffset (s : State) (p : PieceRun) : Nat :=
  match p.st with
  | .running c => (match (s.core c).run with
    | some r => (s.core c).unretired r
    | none => p.list)
  | _ => p.list

/-- The first unretired descriptor among the undone pieces of a logical core (R105). -/
def State.pieceOpen (s : State) (l : Nat) : Option Nat :=
  (firstPiece (s.cad.pieces.zipIdx.filter (fun e => e.1.logical == l && s.undone e.1))).map
    (fun e => s.pieceOffset e.1)

/-- Where a logical core is overrunning: in its own list, in a piece, or in a list that has none (R90, R105). -/
def State.overrunAt (s : State) (l : Nat) : Option Nat :=
  (s.ownOpen l).or ((s.pieceOpen l).or ((s.cad.unplaced.find? (fun e => e.1 == l)).map (·.2)))

/-- The logical cores that are overrunning, each with that offset (R90). -/
def State.overrunners (s : State) : List (Nat × Nat) :=
  (List.range 192).filterMap (fun l => (s.overrunAt l).map (fun o => (l, o)))

/-! ### The commit window and the deadline (R90, R91, R93) -/

/-- Whether ticks run: TICK_EN set with X's main domain powered (R87). -/
def State.ticking (s : State) : Bool := s.tickEn && s.pwr.powered

/-- COMMIT_WINDOW_OPEN (R90, R93, R376). -/
def State.windowOpen (s : State) : State :=
  if !s.ticking || s.tim.window then s
  else
    let s := s.advance (s.nextTickAt - s.commitWindow)
    if !s.inSlot then s
    else
      let s := { s with tim := { s.tim with window := true }, cad := { s.cad with overrun := s.overrunners } }
      s.snapWindow.stampAll.settle

/-- Whether an entry in flight has a write that is incomplete: waiting for its completion, not yet committed by the
array or held by Flint, or part of a collective (R91). RING_WAIT (0xA5) writes nothing. -/
def InFlight.late (e : InFlight) : Bool :=
  (e.writes && !e.tags.isEmpty) || decide (e.phase = .running) || (e.held && e.toDesc.op != 0xA5)

/-- The late writes of a core, each with its logical core and its descriptor's image offset (R105). -/
def State.lateOf (s : State) (c : CoreId) : List (Nat × Nat) :=
  ((s.core c).fly.filter InFlight.late).map (fun e => (s.logicalOf c, e.off))

/-- The late writes of descriptors that ended in a fault or with their core after sending them (R91, R100). -/
def State.lateLost (s : State) : List (Nat × Nat) :=
  (s.cad.lost.filter (fun e => s.trackers.any (fun t => t.id == e.1 && !t.read && t.sent))).map (·.2)

/-- A collective of this device that waits in a fabric unit. -/
def State.colQueued (s : State) (id : Nat) : Bool :=
  s.cores.any (fun e => e.2.fly.any (fun k =>
    let d := k.toDesc
    k.waitsIn .fab && decide (0xA0 ≤ d.op ∧ d.op ≤ 0xA2) && d.num 16 4 == id))

/-- COL_MISMATCH for the segments that no collective of this slot has claimed by the deadline, after which
segments of
this slot can come no more and those of the next not yet (R92, R330). (DEDUCED: log entry 67) -/
def State.unclaimed (s : State) : State :=
  let l := s.col.staged.filter (fun f => f.type.toNat == 0x20 && !s.colQueued (fuHdr f).opId)
  let s := { s with col := { s.col with staged := s.col.staged.filter (fun f => !l.contains f) } }
  (s.each l (fun s f => s.collMismatch (BitVec.ofNat 32 (fuHdr f).opId) (fuHdr f).src)).payOwed

/-- Whether a header write of MBQ is outstanding. -/
def Tracker.header (t : Tracker) : Bool :=
  match t.owner with
  | .mbq _ _ => true
  | _ => false

/-- Whether MBQ has a stamp or a header write to complete (R91, R219). -/
def State.headersLate (s : State) : Bool := s.mbq.outs.any (fun o => !o.stamped) || s.trackers.any Tracker.header

/-- COMMIT_DEADLINE (R91, R376). -/
def State.commitDeadline (s : State) : State :=
  if !s.ticking || s.tim.deadline then s
  else
    let s := s.windowOpen
    let s := s.advance (s.nextTickAt - s.skewLimit)
    if !s.inSlot then s
    else
      let l := (allFin 192).flatMap s.lateOf ++ s.lateLost ++ (if s.headersLate then [(0xFF, 0)] else [])
      let s := { s with tim := { s.tim with deadline := true }, cad := { s.cad with late := s.cad.late ++ l } }
      s.snapCommit.unclaimed

/-! ### The end of a slot (R105, R225, R375) -/

/-- The lowest of some late writes: by logical core, then by offset (R105). -/
def lowestLate (l : List (Nat × Nat)) : Option (Nat × Nat) :=
  l.foldl (fun b e => match b with
    | none => some e
    | some b => if e.1 < b.1 ∨ (e.1 = b.1 ∧ e.2 < b.2) then some e else some b) none

/-- The OVERRUN and COMMIT_LATE causes of the slot that ends (R105, R109, R510). -/
def State.slotCauses (s : State) : State :=
  match s.cad.overrun, lowestLate s.cad.late with
  | [], none => s
  | runs, late =>
    let first := runs.head?.map (fun e => (e.1, (s.overrunAt e.1).getD e.2))
    let s := (s.countSat .tim 0xB8 1).irq .tim 3
    let s := match first with
      | some e => s.raise { page := .tim, bit := 10, cls := 3, halt := 0x04, addr := 64 * e.2, req := e.1 }
      | none => s
    match late with
    | some e => s.raise { page := .tim, bit := 11, cls := 3, halt := 0x04, addr := 64 * e.2, req := e.1 }
    | none => s

/-- A request of slot work: of a core, of COL or of the ring forwarder. -/
def Tracker.slotWork (t : Tracker) : Bool :=
  match t.owner with
  | .core _ _ _ | .col _ | .ring _ => true
  | _ => false

/-- A request of slot work that has no requester any more. -/
def Tracker.abandon (t : Tracker) : Tracker := if t.slotWork then { t with dead := true } else t

/-- Requests of the ended slot: those not sent are dropped, those sent have no requester any more (R105). -/
def State.abandonRequests (s : State) : State :=
  { s with trackers := (s.trackers.filter (fun t => t.sent || !t.slotWork)).map Tracker.abandon }

/-- The abort of a core whose running work is abandoned at a tick (R105, R141). (DESIGN CHOICE: log entry 66) -/
def Core.cutOff (cut : Bool) (x : Core) : Core := if cut && !x.fly.isEmpty then x.abort else x

/-- A core at a tick: its working state reset, nothing in flight (R36, R105, R144, R208, R272); `ended` says that
a slot was dispatched, whose counts its registers then show, `cut` that the job halts. (DESIGN CHOICE: log entry
66) -/
def Core.atTick (ended cut : Bool) (x : Core) : Core :=
  { (x.cutOff cut).resetWork with
    fly := [], run := none, own := none, status := .idle, vecOp := 0, cdmaOp := 0, beats := 0, blocks := 0
    gated := 0, cells := 0
    lastBeats := if ended then x.beats else x.lastBeats
    lastBlocks := if ended then x.blocks else x.lastBlocks
    lastGated := if ended then 100 * x.gated / x.cells else x.lastGated }

/-- A port's traffic flag moved on at a tick. -/
def Port.atTick (p : Port) : Port := { p with trafficLast := p.traffic, traffic := false }

/-- MBQ, COL and the FAB ports at a tick: counts of the slot that ends, and its operations dropped (R239, R335,
R338). -/
def State.blocksAtTick (s : State) (ended : Bool) : State :=
  let s := { s with ports := Store.mapVals (fun _ => {}) (fun _ p => p.atTick) s.ports }
  if ended then
    let s := s.setReg .mbq 0x88 (BitVec.ofNat 32 s.mbq.stamps)
    let s := s.setReg .col 0x88 (BitVec.ofNat 32 (s.col.peak / 1024))
    { s with
      mbq := { s.mbq with outs := [], stamps := 0 }
      col := { s.col with ops := [], rings := [], peak := s.col.stagedBytes }
      flt := { s.flt with active := [] } }.abandonRequests
  else s

/-- The cadence engine with no slot dispatched; the live map stands, and so does a fatal cause of the new slot, which
MBQ stamps LATE for (R219). -/
def Cad.idle (c : Cad) : Cad := { live := c.live, fatal := c.fatal }

/-- A durable drain that waits may commit at the tick that ends a SNAPSHOT slot whose point committed (R383). -/
def State.durable (s : State) : State :=
  let g := s.geo
  if s.cad.kind = .snapshot && g.enabled && g.last == 1 && g.host.st == 1 then
    { s with geo := { g with durDue := true } }
  else s

/-- The slot that ends at a tick, with job tick `j` of the next. -/
def State.endSlot (s : State) (j : Nat) : State :=
  s.durable.versionTick j

/-- GEO_STEP at the end of a tick: whether the job halts is known once its dispatch has read the tables (R375). -/
def State.endStep (s : State) (boundary halting : Bool) : State :=
  if boundary then s.stepTick (halting || decide (s.job.due = some .halt)) else s

/-! ### Dispatch (R94 to R100) -/

/-- The remap byte of a logical core (R97). -/
def State.remapByte (s : State) (l : Nat) : Nat := s.mem ((s.sect 2).1 + l) 1

/-- The live map of a tick: preferred cores that are no husks (R97). -/
def State.liveMap (s : State) : Store Nat :=
  (List.range 192).filterMap (fun l =>
    match coreOfNat (s.remapByte l) with
    | none => none
    | some c => if s.husk c then none else some (l, c.val))

/-- The first poisoned block among some ranges. -/
def State.poisonIn (s : State) (l : List (Nat × Nat)) : Option Nat :=
  (l.flatMap (fun e => blocksOf e.1 e.2)).find? s.poisoned

/-- TABLE_POISON at a dispatch: no slot is dispatched, and the job halts at this tick (R96, R344). -/
def State.dispatchFail (s : State) (a : Nat) : State :=
  let s := s.tablePoison a
  { s with job := { s.job with due := some .halt } }

/-- A mapped core starts its list, if it has one (R46, R95). -/
def State.startList (s : State) (l : Nat) : State :=
  match s.carrier l with
  | none => s
  | some c =>
    match s.listOf l with
    | none => s.modCore c (fun x => { x with logical := some l })
    | some a => s.modCore c (fun x => { x with logical := some l, run := some { base := a, logical := l }, ptr := a })

/-- An orphan's pieces queued at the tick (R100). -/
def State.queueOrphan (s : State) (l : Nat) : State :=
  if (s.carrier l).isSome then s
  else
    match s.listOf l with
    | none => s
    | some a => s.replanList l a (fun s p => { s with cad := { s.cad with pieces := s.cad.pieces ++ [p] } })

/-- Every core without a logical number. -/
def Core.unmapped (x : Core) : Core := { x with logical := none }

/-- A slot dispatched: job tick `j` (R94 to R101). -/
def State.dispatch (s : State) (j : Nat) : State :=
  let entry := j % (s.reg .cad 0x88).toNat
  let a := s.reg64 .cad 0x80 + 16 * entry
  let lt := s.mem a 4
  let lists := if lt = 0xFFFFFFFF then [] else [(s.descAddr lt, 768)]
  match s.poisonIn ((a, 16) :: ((s.sect 2).1, 256) :: lists) with
  | some b => s.dispatchFail b
  | none =>
    let kind := (SlotKind.ofCode (s.mem (a + 8) 1)).getD .idle
    let old := s.cad
    let s := { s with cad := { live := s.liveMap, fatal := old.fatal, kind := kind, entry := entry, listTable := lt
                               repairTable := s.mem (a + 4) 4 } }
    let orphans := (List.range 192).filter (fun l => (s.carrier l).isNone && (s.listOf l).isSome)
    match orphans.findSome? s.repairPoison with
    | some b => ({ s with cad := old }).dispatchFail b
    | none =>
      let s := { s with cad := { s.cad with dispatched := true }
                        cores := Store.mapVals (fun _ => {}) (fun _ x => x.unmapped) s.cores }
      let s := (s.each (List.range 192) State.startList).each orphans State.queueOrphan
      let s := (s.tel 9 0 1).trace 1 0 (entry % 65536 * 65536 + kind.code)
      match kind with
      | .snapshot => s.snapStart j
      | .stepBoundary => s.durAbandon
      | _ => s

/-! ### The tick (R87, R225, R344) -/

/-- Whether a pending command takes effect at a tick (R70). -/
def PendingCmd.dueAt (p : PendingCmd) (tick : Nat) : Bool :=
  match p.at? with
  | none => true
  | some t => decide (t ≤ tick)

/-- The pending command that takes effect at the present tick. -/
def State.dueCmd (s : State) : Option JobCmd :=
  match s.job.pend with
  | none => none
  | some p => if p.dueAt s.tick then some p.cmd else none

/-- Whether the job halts at the present tick (R74, R341, R344). -/
def State.halting (s : State) : Bool :=
  (s.job.st.active || decide (s.job.st = .loaded)) &&
    (!s.job.halts.isEmpty || (match s.dueCmd with
      | some (.halt _) => true
      | _ => false))

/-- What is due for the job at the present tick (R69 to R75). (DESIGN CHOICE: log entry 9) -/
def State.dueNow (s : State) : Option Due :=
  if s.halting then some .halt
  else
    match s.job.armTick with
    | some t => if t ≤ s.tick then some .start else none
    | none =>
      match s.dueCmd with
      | some .pause => some .pause
      | some .resume => some .resume
      | _ => none

/-- The hall tick of job tick 0 (R69, R73). -/
def State.jobStart (s : State) : Nat := s.reg64 .glb 0xC0

/-- The tick counter and the instants of the slot moved on to the next tick (R87). -/
def State.tickOver (s : State) : State :=
  let n := s.nextTick
  let t := s.nextTickAt
  let s := s.advance t
  { s with tim := { s.tim with tick := BitVec.ofNat 64 n, tickAt := some (BitVec.ofNat 64 t)
                               window := false, deadline := false } }.emit .tickPulse

/-- TICK (R87 to R105, R225, R344): what is due for the job is found, the slot that ends is closed, and the next
slot
is dispatched if the job runs on. What VER raises at the tick halts the job at the one after it, as RAS receives it
after the tick. An instant of the slot that was not commanded has passed by then. (DESIGN CHOICE: log entry 9;
DEDUCED: log entry 63) -/
def State.tickNow (s : State) : State :=
  if !s.ticking then s
  else
    let s := s.commitDeadline
    let ended := s.inSlot
    let running := decide (s.job.st = .running)
    let s := s.tickOver.latchMap.latchRoutes
    let s := if ended then s.slotCauses else s
    let j := s.tick - s.jobStart
    let s := if running then s.setReg64 .glb 0xC8 j else s
    let halting := s.halting
    let due := s.dueNow
    let reasons := s.job.halts
    let boundary := ended && decide (s.cad.kind = .stepBoundary)
    let s := { s with cad := { s.cad with fatal := false } }
    let s := if ended then s.endSlot j else s
    let s := s.blocksAtTick ended
    let s := { s with cad := s.cad.idle, cores := Store.mapVals (fun _ => {}) (fun _ x => x.atTick ended halting) s.cores }
    let s := { s with job := { s.job with due := due, halts := if halting then reasons else s.job.halts } }
    (if running && due.isNone then s.dispatch j else s).endStep boundary halting

/-! ### The job at its tick (R69, R73 to R75, R106) -/

/-- The reasons to halt at this tick, a host HALT among them (R74, R75). -/
def State.haltReasons (s : State) : List HaltReq :=
  s.job.halts ++ (match s.dueCmd with
    | some (.halt b) => [{ code := 0x10, remote := none, bcast := b }]
    | _ => [])

/-- The reason that is recorded: local ones first, the lowest code of them (R75). (DESIGN CHOICE: log entry 73) -/
def recordedHalt (l : List HaltReq) : Option HaltReq :=
  let own := l.filter (fun h => h.remote.isNone)
  match own.foldl (fun (b : Option HaltReq) h => match b with
    | none => some h
    | some b => if h.code < b.code then some h else some b) none with
  | some h => some h
  | none => l.head?

/-- The GLB halt registers (R74, R77). -/
def State.setHalt (s : State) (h : HaltReq) : State :=
  let w := match h.remote with
    | none => 2 ^ 31 + h.code
    | some (p, _) => 2 ^ 31 + 2 ^ 30 + p.val * 2 ^ 24 + h.code
  let origin := match h.remote with
    | none => s.reg .glb 0x9C
    | some (_, d) => coordOfDest d.toNat
  ((s.setReg .glb 0xA8 (BitVec.ofNat 32 w)).setReg .glb 0xD8 origin).setReg64 .glb 0xE0 s.tick

/-- JOB_HALT (R74, R75, R106). (DESIGN CHOICE: log entry 9) -/
def State.jobHalt (s : State) : State :=
  if s.job.due ≠ some .halt then s
  else
    match recordedHalt s.haltReasons with
    | none => s
    | some h =>
      let all := s.haltReasons.any (fun h => h.bcast)
      let s := s.setHalt h
      let s := { s with job := { s.job with halts := [], pend := none, armTick := none, due := none } }
      let s := { s with col := { s.col with staged := [] } }
      let s := (s.trace 4 0 (256 * bit h.remote.isSome + h.code)).setJobState .halted
      if all then s.bcast (s.reg .glb 0x9C) h.code s.tick none else s

/-- JOB_START (R69): an armed job runs, and its first slot is dispatched. (DESIGN CHOICE: log entry 9) -/
def State.jobStarts (s : State) : State :=
  if s.job.due ≠ some .start then s
  else
    let s := { s with job := { s.job with armTick := none, due := none } }
    let s := ((s.setReg64 .glb 0xC0 s.tick).setReg64 .glb 0xC8 0).setJobState .running
    s.dispatch 0

/-- PAUSE_TAKES_EFFECT (R73). (DESIGN CHOICE: log entry 9) -/
def State.pauseNow (s : State) : State :=
  if s.job.due ≠ some .pause then s
  else { s with job := { s.job with pend := none, due := none, pauseTick := s.tick } }.setJobState .paused

/-- RESUME_TAKES_EFFECT (R73). (DESIGN CHOICE: log entry 9) -/
def State.resumeNow (s : State) : State :=
  if s.job.due ≠ some .resume then s
  else
    let s := { s with job := { s.job with pend := none, due := none } }
    let s := s.setReg64 .glb 0xC0 (s.jobStart + (s.tick - s.job.pauseTick))
    let j := s.tick - s.jobStart
    ((s.setReg64 .glb 0xC8 j).setJobState .running).dispatch j

end Sys2Proof.Machine
end

