-- ==== Sys2Proof/Machine/RegRules.lean ====
section
/-!
DEFINITION. The values that registers accept (R88, R108, R246, R264, R270, R305, R308, R362, R363, R389, R414 to
R418, R437, R439, R512, R513), and Shale: the checks of an image (R457 to R460, R466, R472), the choice of the
applied one (R458) and the application of its records (R449, R460).
-/

namespace Sys2Proof.Machine

open Sys2Proof

/-! ### Values -/

/-- Whether a number lies between two bounds. -/
def within (lo hi n : Nat) : Bool := decide (lo ≤ n ∧ n ≤ hi)

/-- Whether no coordinate of a word in GLB_COORD layout is above that of another (R308). -/
def coordWithin (c d : Word) : Bool := [24, 16, 8, 0].all (fun i => decide (fld c (i + 5) i ≤ fld d (i + 5) i))

/-- The largest UNIT of an event; none for a reserved event (R513). -/
def eventUnits : Nat → Option Nat
  | 0 => some 0
  | 1 => some 3
  | 2 => some 3
  | 3 => some 3
  | 4 => some 15
  | 5 => some 7
  | 6 => some 7
  | 7 => some 7
  | 8 => some 7
  | 9 => some 0
  | 10 => some 3
  | 11 => some 3
  | 12 => some 15
  | _ => none

/-- Whether an event selection is allowed (R512, R513). -/
def eventOk (ev unit : Nat) : Bool :=
  match eventUnits ev with
  | none => false
  | some m => decide (unit ≤ m) || (unit == 0xFF && ev != 0 && ev != 9)

/-- Whether the limits of R88 hold of a period, a commit window and a skew limit. -/
def timesOk (period window skew : Nat) : Bool :=
  within 10000 1000000000 period && within 10 10000 skew && decide (1000 ≤ window ∧ 2 * skew ≤ window) &&
    decide (window ≤ period / 2)

/-- Whether a register may take a word by its value alone; `rd` reads the registers as they stand. -/
def valueOk (rd : Nat → Word) (b : Blk) (o : Nat) (w : Word) : Bool :=
  match b with
  | .glb =>
    if o = 0x8C then within 100 60000 (fld w 15 0)
    else if o = 0x9C then coordWithin w (rd (Blk.frt.base + 0x80))
    else true
  | .pwr =>
    if o = 0x8C then within 70 100 (fld w 7 0)
    else if 0x90 ≤ o ∧ o ≤ 0x9C then within 200 1800 (fld w 10 0) && fld w 10 0 % 25 == 0
    else if o = 0xA0 then within 1000 3000 (fld w 11 0)
    else true
  | .tim =>
    let period := (rd (Blk.tim.base + 0x90)).toNat
    let window := (rd (Blk.tim.base + 0xA8)).toNat
    let skew := (rd (Blk.tim.base + 0xBC)).toNat
    if o = 0x90 then timesOk w.toNat window skew
    else if o = 0xA8 then timesOk period w.toNat skew
    else if o = 0xBC then timesOk period window w.toNat
    else if o = 0xC0 then decide (w.toNat ≤ 10000)
    else true
  | .ras => if o = 0x88 then decide (fld w 2 0 ≤ 4) else true
  | .tel => if 0x100 ≤ o ∧ o < 0x120 then eventOk (fld w 7 0) (fld w 15 8) else true
  | .hif _ => if o = 0x8C then fld w 3 0 == 0 else true
  | .dma => if 0x100 ≤ o ∧ o % 0x20 = 0 then within 4 16 (fld w 19 16) else true
  | .fab _ => if o = 0x88 then decide (500 ≤ fld w 15 0) else true
  | .frt => if o = 0x80 then coordWithin (rd (Blk.glb.base + 0x9C)) w else true
  | .d2d _ => if o = 0x88 then within 24 4000 (fld w 11 0) else true
  | .hbm s =>
    if o = 0xA0 then within 16 65535 (fld w 15 0)
    else if o = 0xA4 then within 1 (fld (rd ((Blk.hbm s).base + 0xA8)) 15 0) (fld w 15 0)
    else if o = 0xA8 then within (max 16 (fld (rd ((Blk.hbm s).base + 0xA4)) 15 0)) 65535 (fld w 15 0)
    else if o = 0xB8 then fld w 1 0 != 3
    else true
  | .geo => if o = 0xA0 then decide (fld w 31 16 ≤ 242 ∧ fld w 15 0 ≤ 192) else true
  | .flt => if o = 0x80 ∨ o = 0x84 then within 1 65536 (fld w 16 0) else true
  | _ => true

/-! ### Shale records (R460) -/

/-- The page that a record names. -/
def shalePage (r : ShaleRecord) : Option Blk :=
  if r.page.toNat % 4096 = 0 ∧ r.page.toNat < 2 ^ 26 then Blk.ofOff r.page.toNat else none

/-- A register word after a record. -/
def shaleWord (r : ShaleRecord) (w : Word) : Word := (w &&& ~~~r.mask) ||| r.value

/-- The offset of the register that a record sets: HBM_INTERLEAVE is one register on sixteen pages (R246). -/
def shaleAddr (b : Blk) (o : Nat) : Nat :=
  match b with
  | .hbm _ => if o = 0xB8 then (Blk.hbm 0).base + 0xB8 else b.base + o
  | _ => b.base + o

/-- Whether a record is valid after the records before it, whose register words are `t`. -/
def shaleRecordOk (t : Store Word) (r : ShaleRecord) : Bool :=
  match shalePage r with
  | none => false
  | some b =>
    let o := r.off.toNat
    if o < 0x80 ∨ 0x1000 ≤ o ∨ o % 4 ≠ 0 ∨ r.zero ≠ 0 then false
    else
      match b.row? o with
      | none => false
      | some row =>
        r.mask != 0 && (r.mask &&& ~~~(BitVec.ofNat 32 row.shale)) == 0 && (r.value &&& ~~~r.mask) == 0 &&
          valueOk (Store.get resetWord t) b o (shaleWord r (Store.get resetWord t (shaleAddr b o)))

/-- The register words after a record. -/
def shaleSet (t : Store Word) (r : ShaleRecord) : Store Word :=
  match shalePage r with
  | none => t
  | some b =>
    let a := shaleAddr b r.off.toNat
    Store.set resetWord t a (shaleWord r (Store.get resetWord t a))

/-- Whether every record of an image is valid, in image order. -/
def shaleRecordsOk (t : Store Word) : List ShaleRecord → Bool
  | [] => true
  | r :: l => shaleRecordOk t r && shaleRecordsOk (shaleSet t r) l

/-! ### Shale images (R458, R459, R466, R472) -/

/-- Whether the header of an image meets R459; its zero bytes count with the header. (DEDUCED: log entry 47) -/
def shaleHeaderOk (i : ShaleImage) : Bool :=
  i.magic == 0x454C4853 && i.format == 1 && i.hdrLen == 0x40 && decide (i.count.toNat ≤ 4096) &&
    i.bodyLen.toNat == 16 * i.count.toNat && i.sigLen.toNat == 7856 && i.zerosOk &&
    decide (64 + i.bodyLen.toNat + 7856 ≤ 1048576)

/-- Whether the owner key record matches OWNER_ROOT (R472). -/
def Sec.ownerKeyOk (c : Sec) : Bool :=
  match c.ownerPk with
  | none => false
  | some pk => sha256 pk == c.ownerRoot

/-- Whether the signer of an image is permitted in the lifecycle state and its signature verifies (R466, R472). -/
def shaleSigned (c : Sec) (i : ShaleImage) : Bool :=
  i.sigOk && (if c.lifecycle = 2 then i.signer == 1 && c.ownerKeyOk
    else (c.lifecycle == 1 || c.lifecycle == 3) && i.signer == 0)

/-- The status of a slot: the first check it fails (R458). (DEDUCED: log entry 47) -/
def shaleStatus (c : Sec) : Option ShaleImage → Nat
  | none => 1
  | some i =>
    if !shaleHeaderOk i then 2
    else if i.part ≠ 0x9216 ∨ i.stepping ≠ 0xB0 then 3
    else if !shaleSigned c i then 4
    else if !shaleRecordsOk [] i.records then 5
    else 0

/-- The slot that is applied, B where true: the valid one of the higher VERSION, A on a tie (R458). -/
def shaleChoice (c : Sec) : Option (Bool × ShaleImage) :=
  let a := if shaleStatus c c.flash.shaleA = 0 then c.flash.shaleA else none
  let b := if shaleStatus c c.flash.shaleB = 0 then c.flash.shaleB else none
  match a, b with
  | some x, some y => if x.version < y.version then some (true, y) else some (false, x)
  | some x, none => some (false, x)
  | none, some y => some (true, y)
  | none, none => none

/-! ### Application (R449, R458, R460) -/

/-- One record applied to the registers. -/
def State.shaleRecord (s : State) (r : ShaleRecord) : State :=
  match shalePage r with
  | none => s
  | some b =>
    let a := shaleAddr b r.off.toNat
    s.setWord a (shaleWord r (s.word a))

/-- The records of the applied image for the registers that are chosen, in image order (R460). -/
def State.applyShale (s : State) (pick : Blk → Nat → Bool) : State :=
  match s.cfg.applied with
  | none => s
  | some i =>
    s.each (i.records.filter (fun r => match shalePage r with
      | some b => pick b r.off.toNat
      | none => false)) State.shaleRecord

/-- HBM_INTERLEAVE, which is one register of the whole device (R246). -/
def isInterleave (b : Blk) (o : Nat) : Bool :=
  match b with
  | .hbm _ => o == 0xB8
  | _ => false

/-- A CFG cause (R465). -/
def State.cfgCause (s : State) (bt : Nat) : State := s.raise { page := .cfg, bit := bt, cls := 2 }

/-- Step 2 of start-up: the slots checked, one chosen and copied to standby memory (R458). -/
def State.chooseShale (s : State) : State :=
  let a := shaleStatus s.sec s.sec.flash.shaleA
  let b := shaleStatus s.sec s.sec.flash.shaleB
  let choice := shaleChoice s.sec
  let bad := choice.isNone && (decide (2 ≤ a) || decide (2 ≤ b))
  let s := { s with cfg := { s.cfg with
    aStatus := a, bStatus := b, rejected := bad, applied := choice.map (·.2)
    slotB := (choice.map (·.1)).getD false } }
  if bad then s.cfgCause 8 else s

end Sys2Proof.Machine
end

