-- ==== Sys2Proof/Machine/Bridge.lean ====
section
/-!
DEFINITION. Bridge links and compute dies (R18 to R22, R419 to R429, R439, R440): the units of a link and its
training, its loss, the isolation of a die and how a die comes back.
-/

namespace Sys2Proof.Machine

open Sys2Proof

/-! ### Ends and causes (R21, R28, R440, R532) -/

/-- The die at the near end of a link: none is X (R28, R439). -/
def linkNear (l : LinkId) : Option DieId := if 4 ≤ l.val then some (dieAt l.val) else none

/-- The die at the far end of a link (R21). -/
def linkFar (l : LinkId) : DieId := if 4 ≤ l.val then dieAt (l.val + 1) else dieAt l.val

/-- The link of a die to X. -/
def ownLink (d : DieId) : LinkId := ⟨d.val, by have := d.isLt; omega⟩

/-- The two ring links of a die (R21). -/
def ringLinks (d : DieId) : List LinkId := [ringLinkOf d.val, ringLinkOf (d.val + 3)]

/-- Whether a compute die has power (R428, R429, R443). -/
def State.diePowered (s : State) (d : DieId) : Bool := s.pwr.powered && !(s.die d).gated

/-- Whether both dies of a link have power. -/
def State.endsPowered (s : State) (l : LinkId) : Bool :=
  s.pwr.powered && s.diePowered (linkFar l) && (match linkNear l with
    | none => true
    | some d => s.diePowered d)

/-- Whether both dies of a link are up, X counting as up. -/
def State.endsUp (s : State) (l : LinkId) : Bool :=
  (s.die (linkFar l)).up && (match linkNear l with
    | none => true
    | some d => (s.die d).up)

/-- A D2D cause of a link (R440, R532); `rx` for one of the receiving side. -/
def State.d2dCause (s : State) (l : LinkId) (bt cls : Nat) (rx : Bool) : State :=
  let q := s.link l
  s.raise { page := .d2d l, bit := bt, cls := cls, halt := 0x0B, req := l.val
            addr := if rx then q.exp else q.oldest }

/-- A link enters a state; the trace entry of R517. -/
def State.setLinkState (s : State) (l : LinkId) (st : LinkState) : State :=
  if (s.link l).st = st then s
  else (s.modLink l (fun q => { q with st := st })).trace 5 (8 + l.val) st.code

/-! ### Units (R419, R420) -/

/-- The 64 bytes of a unit. -/
def unitBytes (u : D2dUnit) : List Byte := u.bytes.take 64 ++ List.replicate (64 - u.bytes.length) 0

/-- Whether a unit passes its CRC and carries a kind of R420. -/
def unitOk (u : D2dUnit) : Bool :=
  crc32c (u.kind :: unitBytes u) == u.crc && [0, 1, 2, 3, 0x10, 0x11, 0x12].contains u.kind.toNat

/-- A number in the bytes of a unit. -/
def unitNum (u : D2dUnit) (i n : Nat) : Nat := leNat (((unitBytes u).drop i).take n)

/-- A unit as it is sent. -/
def mkUnit (kind : Byte) (l : List Byte) : D2dUnit :=
  let b := l ++ List.replicate (64 - l.length) 0
  { kind := kind, bytes := b, crc := crc32c (kind :: b) }

/-! ### Loss of a link (R425) -/

/-- A link goes DOWN. Whether units of the package's own traffic were unacknowledged no requester sees: beside the
replay buffer a free value decides it of a link that carried traffic. (DEDUCED: log entry 45) -/
def State.linkFall (s : State) (l : LinkId) : State :=
  let q := s.link l
  if q.st = .down then s
  else
    let live := decide (q.st = .up ∨ q.st = .retrain)
    let loss := live && (!q.sent.isEmpty || decide (Config.freeNat s.fresh % 2 = 1))
    let s := if live then { s with fresh := s.fresh + 1 } else s
    let s := if loss then s.d2dCause l 14 s.jobClass false else s
    let s := s.d2dCause l 13 2 true
    (s.setLinkState l .down).modLink l (fun q => { q with width := .none, discard := false, fails := 0, expiries := 0
                                                          afterRetrain := false, proposal := .none, sent := [], again := [] })

/-! ### Isolation of a die (R427, R428) -/

/-- The cores of a die. -/
def coresOf (d : DieId) : List CoreId := (allFin 192).filter (fun c => decide (coreDie c = d))

/-- The stacks of a die. -/
def stacksOf (d : DieId) : List StackId := (allFin 16).filter (fun t => decide (stackDie t = d))

/-- A PWR cause (R438). -/
def State.pwrCause (s : State) (bt cls addr : Nat) : State :=
  s.raise { page := .pwr, bit := bt, cls := cls, halt := if bt = 13 then 0x0B else 0x02, addr := addr }

/-- The stacks of a die that leaves service: in self-refresh where they keep their contents, without them
otherwise (R428, R429). -/
def State.stopStacks (s : State) (d : DieId) (keep : Bool) : State :=
  s.each (stacksOf d) (fun s t =>
    let s := s.modStack t (fun x => { x with trained := false, selfRefresh := keep, retraining := false, filling := false })
    if keep then s else s.loseStack t)

/-- Whether a cause of isolation raises DIE_LOST (R428). (DEDUCED: log entry 45) -/
def State.losesDie (s : State) (code : Nat) : Bool :=
  decide (1 ≤ code ∧ code ≤ 6) || (decide (code = 7 ∨ code = 8) && s.job.st.active)

/-- A link that goes down with the power of its die: no error (R443). (DEDUCED: log entry 44) -/
def State.linkQuiet (s : State) (l : LinkId) : State :=
  (s.setLinkState l .down).modLink l (fun q => { q with width := .none, proposal := .none })

/-- A die taken out of service: its clocks, its power and what depends on them (R428, R443); `fall` is what becomes
of its links. -/
def State.dropDie (s : State) (d : DieId) (keep : Bool) (fall : State → LinkId → State) : State :=
  let s := s.modDie d (fun x => { x with
    up := false, gated := true, refresh := keep, heard := false, missed := 0, want := none, hot := false, frame := none })
  let s := { s with geo := s.geo.dieDown }
  let s := (s.each (ownLink d :: ringLinks d) fall).modLink (ownLink d) (fun q => { q with sideband := false })
  (s.setField .pwr (0x90 + 4 * d.val) 26 16 0).stopStacks d keep

/-- A die isolated with a cause; one that is isolated keeps its cause (R427, R428). (DEDUCED: log entry 45) -/
def State.isolate (s : State) (d : DieId) (code : Nat) : State :=
  let x := s.die d
  if x.isolated then s
  else
    let keep := code == 8 && (x.up || x.refresh)
    let s := s.modDie d (fun x => { x with isolated := true, cause := code })
    let s := (s.dropDie d keep State.linkFall).each (coresOf d) (fun s c => s.fence c 5)
    if s.losesDie code then s.pwrCause 8 4 d.val else s

/-- A link taken DOWN by its own failure; that of a die to X takes the die down with it (R425). -/
def State.bridgeDown (s : State) (l : LinkId) : State :=
  let was := (s.link l).st
  let s := s.linkFall l
  if l.val < 4 ∧ was ≠ .down then s.isolate (linkFar l) 1 else s

/-! ### Training and width (R423, R424) -/

/-- The next generation of a link end, 0 skipped (R424). -/
def nextGen (g : Nat) : Nat := if (g + 1) % 256 = 0 then 1 else (g + 1) % 256

/-- The candidate width of two receive bitmaps (R423). -/
def candidate (near far : BitVec 16) (half : Bool) : Width :=
  let m := (near &&& far).toNat
  if m % 256 = 255 ∧ m / 256 = 255 then (if half then .halfLo else .full)
  else if m % 256 = 255 then .halfLo
  else if m / 256 = 255 then .halfHi
  else .none

/-- HALF_ONLY of a link (R439). -/
def State.halfOnly (s : State) (l : LinkId) : Bool := s.flag (.d2d l) 0x80 1

/-- A link without its sequence and credit state (R423). -/
def Link.fresh (q : Link) : Link :=
  { q with
    fails := 0, oldest := 0, expiries := 0, afterRetrain := false, cnt := 0, exp := 0, ackSeq := 0, ackValid := false
    discard := false, credits := [0, 0], sent := [], again := [], freed := [0, 0], at64 := 0 }

/-- A training attempt up to its handshake (R423, R424). -/
def State.bridgeTrain (s : State) (l : LinkId) (near far : BitVec 16) : State :=
  let w := candidate near far (s.halfOnly l)
  let s := s.modLink l (fun q => { q with gen := nextGen q.gen, near := near, far := far, proposal := w })
  if w = .none then s.setLinkState l .down else s.setLinkState l .handshake

/-- A link that has agreed on a width (R423, R424). (DEDUCED: log entry 44) -/
def State.linkUp (s : State) (l : LinkId) (w : Width) : State :=
  let s := (s.setLinkState l .up).modLink l (fun q => { q.fresh with width := w, proposal := .none })
  if w = .full then s else s.d2dCause l 11 1 true

/-- D2D_TRAINING (R423). -/
def State.d2dTrain (s : State) (l : LinkId) (near far : BitVec 16) : State :=
  if (s.link l).st = .training then s.bridgeTrain l near far else s

/-- D2D_RETRY: a DOWN ring link whose dies are both up tries again (R425). -/
def State.d2dRetry (s : State) (l : LinkId) (near far : BitVec 16) : State :=
  if 4 ≤ l.val ∧ (s.link l).st = .down ∧ s.endsUp l then (s.setLinkState l .training).bridgeTrain l near far else s

/-- Two proposals that have a lower common width (R424). -/
def commonWidth : Width → Width → Option Width
  | .full, .halfLo => some .halfLo
  | .full, .halfHi => some .halfHi
  | .halfLo, .full => some .halfLo
  | .halfHi, .full => some .halfHi
  | _, _ => none

/-! ### Units sent (R421, R422) -/

/-- The CTRL unit of an end: the acknowledgement and credits of its receiver (R420, R421). -/
def ctrlUnit (q : Link) : D2dUnit :=
  mkUnit 1 (leBytes q.ackSeq 2 ++ leBytes (bit q.ackValid) 1 ++ [0] ++ leBytes (q.freed.getD 0 0 % 65536) 2 ++
    leBytes (q.freed.getD 1 0 % 65536) 2)

/-- A new sequenced unit, or an IDLE where none waits or 2,047 are unacknowledged (R286, R294, R421). Which unit
waits, and what it holds, is the package's own traffic, which no requester sees: free values. (DESIGN CHOICE: log
entry 43) -/
def State.sendNew (s : State) (l : LinkId) : State :=
  let q := s.link l
  let k := Config.freeNat s.fresh % 4
  let s := { s with fresh := s.fresh + 1 }
  if k = 0 ∨ 2047 ≤ q.sent.length then s.emit (.d2d l (mkUnit 0 []))
  else
    let r := s.takeFreeBytes 64
    let u := mkUnit (if k = 1 then 0x10 else if k = 2 then 0x11 else 0x12) r.1
    ((r.2.modLink l (fun q => { q with sent := q.sent ++ [u] })).emit (.d2d l u)).tel 8 l.val (if k = 1 then 0 else 1)

/-- One unit position of an end that is up: a CTRL unit in every 64, otherwise the next unit of a replay, otherwise
new traffic (R294, R422). (DESIGN CHOICE: log entry 43) -/
def State.sendTurn (s : State) (l : LinkId) : State :=
  let q := s.link l
  if q.st ≠ .up then s
  else
    let s := s.modLink l (fun q => { q with at64 := (q.at64 + 1) % 64 })
    if q.at64 = 0 then s.emit (.d2d l (ctrlUnit q))
    else
      match q.again with
      | u :: m => (s.modLink l (fun q => { q with again := m })).emit (.d2d l u)
      | [] => s.sendNew l

/-- UNIT_CRC_FAIL: counted, and the receiver of a link that is up discards until the next REPLAY_MARK (R289, R420). -/
def State.unitCrcFail (s : State) (l : LinkId) (u : D2dUnit) : State :=
  let q := s.link l
  if (q.st ≠ .up ∧ q.st ≠ .handshake) ∨ unitOk u then s
  else
    let s := (s.countSat (.d2d l) 0x90 1).d2dCause l 8 1 true
    if q.st = .up then (s.modLink l (fun q => { q with discard := true })).sendTurn l else s

/-- WIDTH (R424). (DESIGN CHOICE: log entry 43) -/
def State.takeWidth (s : State) (l : LinkId) (u : D2dUnit) : State :=
  let q := s.link l
  if !unitOk u then s.unitCrcFail l u
  else if q.st ≠ .handshake ∨ u.kind ≠ 3 ∨ 3 < unitNum u 0 1 then s
  else
    let g := unitNum u 1 1
    let s := s.modLink l (fun q => { q with gotGen := g })
    if unitNum u 2 1 ≠ q.gen then s
    else
      let p := Width.ofCode (unitNum u 0 1)
      let s := s.modLink l (fun q => { q with genPeer := g })
      if p = q.proposal ∧ p ≠ .none then s.linkUp l p
      else
        match commonWidth p q.proposal with
        | some w => (s.d2dCause l 12 2 true).modLink l (fun q => { q with proposal := w, gen := nextGen q.gen })
        | none => s.bridgeDown l

/-- WIDTH_TIMER (R424). -/
def State.widthTimer (s : State) (l : LinkId) : State :=
  let q := s.link l
  if q.st = .handshake then
    s.emit (.d2d l (mkUnit 3 (leBytes q.proposal.code 1 ++ leBytes q.gen 1 ++ leBytes q.gotGen 1 ++ [0] ++
      leBytes q.near.toNat 2)))
  else s

/-- HANDSHAKE_TIMEOUT (R424). -/
def State.handshakeTimeout (s : State) (l : LinkId) : State :=
  if (s.link l).st = .handshake then s.bridgeDown l else s

/-- FORWARDED_CLOCK_LOSS (R425); an attempt that is still training fails. -/
def State.clockLost (s : State) (l : LinkId) : State :=
  if (s.link l).st = .training then s.setLinkState l .down else s.bridgeDown l

/-! ### Retrains and replays (R421, R425) -/

/-- A retrain of a link: sequence state, credits and width are kept (R425). -/
def State.linkRetrain (s : State) (l : LinkId) : State :=
  let s := (s.setLinkState l .retrain).modLink l (fun q => { q with discard := true, expiries := 0, again := [] })
  (s.countSat (.d2d l) 0x94 1).d2dCause l 10 1 true

/-- A retrain fails; the third in a row takes the link DOWN (R425). -/
def State.linkRetrainFailed (s : State) (l : LinkId) : State :=
  let n := (s.link l).fails + 1
  let s := s.modLink l (fun q => { q with fails := n })
  if 3 ≤ n then s.bridgeDown l else s.linkRetrain l

/-- A retrain asked for; before any progress it is a failure of the one before. -/
def State.linkWantRetrain (s : State) (l : LinkId) : State :=
  if (s.link l).afterRetrain then
    (s.modLink l (fun q => { q with afterRetrain := false })).linkRetrainFailed l
  else s.linkRetrain l

/-- D2D_RETRAIN: D2D_CTL.RETRAIN written 1 (R439). -/
def State.d2dRetrain (s : State) (l : LinkId) : State :=
  match (s.link l).st with
  | .up => s.linkRetrain l
  | .down => if s.endsPowered l then s.setLinkState l .training else s
  | _ => s

/-- D2D_RELOCK_TIMEOUT (R421). -/
def State.d2dRelockTimeout (s : State) (l : LinkId) : State :=
  if (s.link l).st = .retrain then s.linkRetrainFailed l else s

/-- A replay begins: its REPLAY_MARK, then every unacknowledged unit in turn (R290, R421). -/
def State.sendMark (s : State) (l : LinkId) : State :=
  (s.emit (.d2d l (mkUnit 2 (leBytes (s.link l).oldest 2)))).modLink l (fun q => { q with again := q.sent })

/-- D2D_REPLAY_TIMER_EXPIRY (R421); the eighth without progress retrains (R290). -/
def State.d2dExpiry (s : State) (l : LinkId) : State :=
  let q := s.link l
  if q.st = .up then
    let s := (s.countSat (.d2d l) 0x8C 1).d2dCause l 9 1 false
    if 8 ≤ q.expiries + 1 then s.linkWantRetrain l
    else (s.modLink l (fun q => { q with expiries := q.expiries + 1 })).sendMark l
  else s

/-! ### Units received (R420, R421) -/

/-- A unit of a kind received on a link that is up; one that fails its CRC is a CRC failure whatever it was. Each
unit
received is one unit position of this end too. (DESIGN CHOICE: log entries 8, 43) -/
def State.onUnit (s : State) (l : LinkId) (u : D2dUnit) (kind : Byte) (act : State → State) : State :=
  if !unitOk u then s.unitCrcFail l u
  else if (s.link l).st = .up ∧ u.kind = kind then (act s).sendTurn l
  else s

/-- A link with the first units of its replay buffer acknowledged (R288, R421). -/
def Link.acked (q : Link) (d : Nat) : Link :=
  let left := q.sent.drop (d + 1)
  { q with
    oldest := (q.oldest + d + 1) % 4096, sent := left, again := q.again.drop (q.again.length - left.length)
    expiries := 0, fails := 0, afterRetrain := false }

/-- The acknowledgement of a CTRL unit, by the table of R288 (R421). (DESIGN CHOICE: log entry 43) -/
def State.takeUnitAck (s : State) (l : LinkId) (ack : Nat) : State :=
  let q := s.link l
  let d := (ack + 4096 - q.oldest) % 4096
  if d < q.sent.length then s.modLink l (fun q => q.acked d)
  else if d = 4095 then s
  else s.linkWantRetrain l

/-- D2D_CTRL: the acknowledgement and the REQ and RSP credit counts (R420, R421). -/
def State.takeCtrl (s : State) (l : LinkId) (u : D2dUnit) : State :=
  s.onUnit l u 1 (fun s =>
    let s := s.modLink l (fun q => { q with credits := [unitNum u 4 2, unitNum u 6 2] })
    if unitNum u 2 1 % 2 = 1 then s.takeUnitAck l (unitNum u 0 2 % 4096) else s)

/-- D2D_REPLAY_MARK: the receiver counts from NEXT_SEQ; the first after a retrain ends it, and this end replays too
(R289, R301, R421). (DEDUCED: log entry 44) -/
def State.takeUnitMark (s : State) (l : LinkId) (u : D2dUnit) : State :=
  let q := s.link l
  if !unitOk u then s.unitCrcFail l u
  else if (q.st ≠ .up ∧ q.st ≠ .retrain) ∨ u.kind ≠ 2 then s
  else
    let n := unitNum u 0 2 % 4096
    let bad := decide (2048 ≤ (q.exp + 4096 - n) % 4096)
    let s := if q.st = .retrain then
        ((s.setLinkState l .up).modLink l (fun q => { q with afterRetrain := true })).sendMark l
      else s
    let s := s.modLink l (fun q => { q with cnt := n, discard := false })
    if bad then s.linkWantRetrain l else s.sendTurn l

/-- The receiver of an end with one more unit accepted: its place in the buffer is freed at once, of a class that
no
requester sees (R293, R421); the first one accepted with nothing unacknowledged is progress (R301). (DESIGN
CHOICE: log entry 43) -/
def Link.accept (q : Link) (n cls : Nat) : Link :=
  let q := if q.sent.isEmpty then { q with expiries := 0, fails := 0, afterRetrain := false } else q
  { q with exp := (q.exp + 1) % 4096, ackSeq := n, ackValid := true, freed := q.freed.set cls (q.freed.getD cls 0 + 1) }

/-- A sequenced unit taken under R289: accepted, dropped as a duplicate, or a protocol error. -/
def State.takeUnit (s : State) (l : LinkId) : State :=
  let q := s.link l
  if q.discard then s
  else
    let n := q.cnt
    let d := (q.exp + 4096 - n) % 4096
    let s := s.modLink l (fun q => { q with cnt := (n + 1) % 4096 })
    if d = 0 then
      { s with fresh := s.fresh + 1 }.modLink l (fun q => q.accept n (Config.freeNat s.fresh % 2))
    else if d < 2048 then s
    else s.linkWantRetrain l

/-! ### The sideband (R426) -/

/-- SIDEBAND_PARITY, after which some number of trainings of the sideband failed in a row (R426). -/
def State.sidebandError (s : State) (l : LinkId) (failures : Nat) : State :=
  if (s.link l).sideband then
    let s := s.d2dCause l 15 2 true
    if failures < 3 then s
    else
      let s := s.modLink l (fun q => { q with sideband := false })
      if l.val < 4 then s.isolate (linkFar l) 2 else s
  else s

/-! ### How a die comes back (R18, R19, R429) -/

/-- The registers of a die's pages, with their errors, at their reset values: LOCK and the device-wide
HBM_INTERLEAVE stay (R246, R449, R499). -/
def State.resetDiePages (s : State) (d : DieId) : State :=
  let mine := fun (a : Nat) => (Blk.ofOff a).bind Blk.die == some d
  let keep := fun (a : Nat) => a % 4096 == 8 || a == (Blk.hbm 0).base + 0xB8
  let s := { s with
    regs := Store.keep (fun a => !mine a || keep a) s.regs
    cls := Store.keep (fun a => !mine a) s.cls }
  s.applyShale (fun b o => b.die == some d && !isInterleave b o)

/-- GLB DIE_ID_FAIL for an interposer site (R19, R508). -/
def State.dieIdFail (s : State) (d : DieId) : State :=
  (s.isolate d 9).modDie d (fun x => { x with cause := 9 }) |>.raise
    { page := .glb, bit := 9, cls := 4, halt := 0x02, addr := d.val }

/-- A core of a die after its self-test: a husk for another cause stays one (R346, R429, R454). -/
def Core.tested (x : Core) (fail : Bool) : Core :=
  if x.cause = 0 ∨ x.cause = 5 then { cause := if fail then 3 else 0, passed := !fail }
  else { cause := x.cause }

/-- A core tested as its die comes up; the failure of one in service is a fence with CAUSE 3 (R346, R429, R454).
(DEDUCED: log entry 45) -/
def State.testCore (s : State) (c : CoreId) (fail : Bool) : State :=
  let old := (s.core c).cause
  let s := s.modCore c (fun x => x.tested fail)
  if fail && old == 0 then
    (s.trace 2 (coreDie c).val (3 * 256 + c.val)).checkFallback c 3
  else s

/-- The frequency at which a die starts: a multiple of 25 MHz between floor and cap that the spec leaves open
(R432, R433). -/
def State.startMhz (s : State) (d : DieId) : Nat :=
  let f := 200 + 25 * (Config.freeNat s.fresh % 65)
  max (min f (s.field .pwr (0x90 + 4 * d.val) 10 0)) (s.field .pwr 0x88 10 0)

/-- A die in service again: step 7 of R429. -/
def State.dieUp (s : State) (d : DieId) : State :=
  let f := s.startMhz d
  let s := { s with fresh := s.fresh + 1 }
  let s := s.modDie d (fun x => { up := true, dieId := d.val, ringAt := x.ringAt, outAt := x.outAt })
  s.setField .pwr (0x90 + 4 * d.val) 26 16 f

/-- The stacks of a die trained: with what they keep, with zero data, or with undefined contents (R429, R456). -/
def State.startStacks (s : State) (d : DieId) (zero : Bool) : State :=
  let kept := (s.die d).refresh
  s.each (stacksOf d) (fun s t =>
    let s := if zero then s.fillStack t else if kept then s else s.loseStack t
    (s.modStack t (fun x => { lost := x.lost, upset := x.upset, trained := true })).setArb t { blocks := (s.arb t).blocks })

/-- The stacks of a die of which one fails training: the die stays out (R271, R427). -/
def State.stackFails (s : State) (d : DieId) (bad : List (Fin 4)) : State :=
  let s := s.each ((stacksOf d).filter (fun t => bad.any (fun i => i.val == t.val % 4))) (fun s t =>
    s.raise { page := .hbm t, bit := 11, cls := 4, halt := 0x02, kind := 4, addr := 0 })
  let was := (s.die d).isolated
  let s := (s.isolate d 4).modDie d (fun x => { x with cause := 4 })
  let s := s.stopStacks d false
  if was then s.pwrCause 8 4 d.val else s

/-- The training attempt of a die's link to X as the die comes out of reset (R423, R424): the receive bitmaps of
both
ends, the next generation, and the handshake, in which both ends propose the width that the bitmaps allow.
(DEDUCED: log entry 44) -/
def State.trainOwn (s : State) (d : DieId) (b : DieBringUp) : Width × State :=
  let w := candidate b.near b.far (s.halfOnly (ownLink d))
  (w, s.modLink (ownLink d) (fun q => { q with near := b.near, far := b.far, gen := nextGen q.gen, proposal := w }))

/-- Steps 3 to 7 of R429 on one die, with what they find there; `zero` where the stacks are filled with zero data
(R456). Answers whether the die is up. (DEDUCED: log entry 44) -/
def State.bringUp (s : State) (d : DieId) (b : DieBringUp) (zero : Bool) : Bool × State :=
  if b.dieId ≠ some (BitVec.ofNat 4 d.val) then (false, s.dieIdFail d)
  else
  let r := s.trainOwn d b
  let w := r.1
  let s := r.2
  if !b.linkOk ∨ w = .none then (false, s.isolate d 1)
  else
    let s := (s.resetDiePages d).modDie d (fun x => { x with dieId := d.val })
    if b.badStacks ≠ [] then (false, s.stackFails d b.badStacks)
    else
      let s := s.linkUp (ownLink d) w
      let peer := 1 + Config.freeNat s.fresh % 255
      let s := { s with fresh := s.fresh + 1 }.modLink (ownLink d) (fun q => { q with
        genPeer := peer, gotGen := peer, sideband := true })
      let s := s.startStacks d zero
      let s := s.each (coresOf d) (fun s c => s.testCore c (b.katFails.any (fun i => i.val == c.val % 48)))
      let s := s.dieUp d
      (true, s.each (ringLinks d) (fun s l =>
        if s.endsPowered l && decide ((s.link l).st = .down) then
          (s.setLinkState l .training).modLink l (fun q => { q with sideband := true })
        else s))

/-- DIE_RESET: PWR_DIE_RESET.GO written 1 for a die (R429). (DEDUCED: log entry 44) -/
def State.dieReset (s : State) (d : DieId) : State :=
  (s.isolate d 8).modDie d (fun x => { x with busy := true, failed := false, gated := false })

/-- DIE_RESET_DONE: the rest of a die reset, with what it finds (R429). -/
def State.dieResetDone (s : State) (d : DieId) (b : DieBringUp) : State :=
  if !(s.die d).busy || s.pwr.warm then s
  else
    let s := s.modDie d (fun x => { x with busy := false })
    let r := s.bringUp d b false
    if r.1 then r.2 else r.2.modDie d (fun x => { x with failed := true, gated := true })

end Sys2Proof.Machine
end

