-- ==== Sys2Proof/Machine/Job.lean ====
section
/-!
DEFINITION. Job control between LOAD and the ticks: ARM, PAUSE, RESUME and HALT as they are accepted (R69 to R71),
CLEAR (R76), and the host fetch of weights (R238).
-/

namespace Sys2Proof.Machine

open Sys2Proof

/-! ### Commands that wait for a tick (R69 to R71) -/

/-- The tick argument of GLB_JOB_CMD_TICK. -/
def State.tickArg (s : State) : Nat := s.reg64 .glb 0xD0

/-- The tick for which a command waits: none within the answer is the first tick to come. No answer: the argument
breaks R70. -/
def State.waitFor (s : State) : Option (Option Nat) :=
  if !s.tickEn then none
  else if s.tickArg = 0 then some none
  else if s.tick + 2 ≤ s.tickArg then some (some s.tickArg)
  else none

/-- Whether the periods of the registers are those of the loaded image (R41, R69). -/
def State.periodsMatch (s : State) : Bool :=
  decide (s.mem (s.imageBase + 0x20) 4 = s.tickPeriod ∧ s.mem (s.imageBase + 0x24) 4 = s.commitWindow)

/-- ARM where it is accepted: ARMED, the neighbours checked, and a restore abandoned (R69, R326, R386). No answer:
rejected. -/
def State.armJob (s : State) : Option State :=
  match s.waitFor with
  | some (some t) =>
    if s.job.st = .loaded && s.tim.lock == .locked && s.periodsMatch &&
        decide (s.husks ≤ s.field .cad 0x90 3 0) && !s.ver.fetch.busy then
      let s := { s with job := { s.job with armTick := some t } }.setJobState .armed
      let s := s.each ((allFin 8).filter s.isAbsent) State.raiseAbsent
      some (if s.geo.restore.busy then s.restoreFail 8 else s)
    else none
  | _ => none

/-- PAUSE or RESUME where it is accepted in a state (R69, R71). -/
def State.waitJob (s : State) (st : JobState) (cmd : JobCmd) : Option State :=
  match s.waitFor with
  | none => none
  | some t =>
    if s.job.st = st && s.job.pend.isNone then
      some { s with job := { s.job with pend := some { cmd := cmd, at? := t } } }
    else none

/-- HALT where it is accepted; it replaces a pending PAUSE or RESUME (R69, R71). -/
def State.haltJob (s : State) (bcast : Bool) : Option State :=
  match s.waitFor with
  | none => none
  | some t =>
    let free := match s.job.pend with
      | some { cmd := .halt _, .. } => false
      | _ => true
    if s.job.st.active && free then
      some { s with job := { s.job with pend := some { cmd := .halt bcast, at? := t } } }
    else none

/-! ### CLEAR (R76) -/

/-- A core after CLEAR: its store zero, its work gone; a husk stays one. -/
def Core.cleared (x : Core) : Core :=
  { x with
    cst := [], written := [], lpoison := [], clean := [], badLines := []
    logical := none, run := none, own := none, fly := [], held := [], status := .idle, vecOp := 0, cdmaOp := 0 }

/-- A list of registers of a page at their reset values. (DEDUCED: log entry 15) -/
def State.clearWords (s : State) (b : Blk) (l : List Nat) : State :=
  { s with regs := Store.keep (fun a => !l.any (fun o => b.base + o == a)) s.regs }

/-- A measurement register set (R477). -/
def State.setMeas (s : State) (i : Nat) (v : List Byte) : State :=
  { s with sec := { s.sec with meas := s.sec.meas.set i v } }

/-- Requests of a lost job: their answers are discarded. -/
def Tracker.forget (t : Tracker) : Tracker :=
  match t.owner with
  | .core _ _ _ | .mbq _ _ | .col _ | .ring _ => { t with dead := true }
  | _ => t

/-- What CLEAR resets (R76, R110, R239, R241, R362): the job's state in every block, the core stores, and with
`zero` all of local memory. The protected range stays protected until CLEAR completes (R45). (DEDUCED: log entry
15) -/
def State.clearEffects (s : State) (zero : Bool) : State :=
  let s := s.clearGeode
  let s := { s with
    cad := {}
    cores := Store.mapVals (fun _ => {}) (fun _ x => x.cleared) s.cores
    mbq := {}
    ver := {}
    col := {}
    flt := { s.flt with active := [] }
    trackers := s.trackers.map Tracker.forget
    job := { st := s.job.st, zeroHbm := zero, prot := s.job.prot } }
  let s := s.clearWords .cad [0x80, 0x84, 0x88, 0x90, 0x98, 0x9C, 0xA0]
  let s := s.clearWords .glb [0xA8, 0xC0, 0xC4, 0xC8, 0xCC, 0xD8, 0xE0, 0xE4]
  let s := s.clearWords .ver [0x98, 0x9C]
  let s := s.clearWords .ras [0x84, 0xA0, 0xA4]
  let s := (s.clearWords .pwr [0x88]).setMeas 3 (List.replicate 32 0)
  if zero then s.zeroHbm else s

/-- CLEAR accepted: CLEARING (R69, R76). (DESIGN CHOICE: log entry 16) -/
def State.clearJob (s : State) (zero : Bool) : State := (s.setJobState .clearing).clearEffects zero

/-- CLEAR_DONE: the image range is writable again and the state EMPTY (R45, R76). (DESIGN CHOICE: log entry 16) -/
def State.clearDone (s : State) : State :=
  if s.job.st = .clearing && !s.sec.zBusy then
    { s with job := { s.job with prot := none, zeroHbm := false } }.setJobState .empty
  else s

/-! ### Host fetch (R238) -/

/-- VER_FETCH_CTL.PORTS. -/
def State.fetchPorts (s : State) : Nat := s.field .ver 0x84 2 1

/-- The ranges that a fetch reads: storage offset, host address and length of each weight. -/
def State.fetchList (s : State) : List (Nat × Nat × Nat) :=
  let base := s.reg64 .ver 0x90
  let d := destAxis s.own 3
  s.ver.weights.map (fun w =>
    let k := (w.posIn .current).getD 0
    let full := ((s.shardsOf w).find? (fun x => x.d == d)).elim 0 (fun x => x.full)
    (w.storage k, base + w.hostOff + full, w.len))

/-- The 4 KiB blocks of a range: offset within it and length. -/
def fetchBlocks (len : Nat) : List (Nat × Nat) :=
  (List.range ((len + 4095) / 4096)).map (fun i => (4096 * i, min 4096 (len - 4096 * i)))

/-- The port that reads block `i` of a fetch: with both, they alternate from H0 on. -/
def fetchPort (ports i : Nat) : HostId :=
  if ports = 1 then .h0 else if ports = 2 then .h1 else if i % 2 = 0 then .h0 else .h1

/-- The blocks of a list of ranges to fetch: host address, local offset and length (R238). -/
def fetchReads (l : List (Nat × Nat × Nat)) : List (Nat × Nat × Nat) :=
  l.flatMap (fun e => (fetchBlocks e.2.2).map (fun b => (e.2.1 + b.1, e.1 + b.1, b.2)))

/-- HOST_FETCH where it is accepted: the reads go out, block by block. -/
def State.startFetch (s : State) : Option State :=
  if s.job.st = .loaded && !s.ver.fetch.busy && s.fetchPorts != 0 then
    let f : Fetch := { busy := true, todo := s.fetchList, err := s.ver.fetch.err, done := s.ver.fetch.done }
    let out := (fetchReads s.fetchList).zipIdx.map (fun e => Output.hostRead (fetchPort s.fetchPorts e.2) e.1.1 e.1.2.2)
    some ({ s with ver := { s.ver with fetch := f } }.each out State.emit)
  else none

/-- FETCH_ERR (R238, R242). -/
def State.fetchErr (s : State) (a : Nat) : State :=
  let s := s.raise { page := .ver, bit := 17, cls := 2, addr := a }
  let was := s.ver.fetch.err
  let s := { s with ver := { s.ver with fetch := { s.ver.fetch with err := true } } }
  if was then s else s.irq .ver 1

/-- One block written as the host's completions returned it; bytes that did not come are open, and the block is
poisoned. -/
def State.fetchBlock (data : List HostBlock) (h : HostId) (src dst len : Nat) (s : State) : State :=
  let b := data.find? (fun b => b.addr.toNat == src)
  let got := (b.elim [] (fun b => b.bytes)).take len
  let ep := b.elim false (fun b => b.ep)
  let bad := ep || b.elim true (fun b => b.bad) || decide (got.length < len)
  let s := if ep then s.poisonRx h src else s
  let r := s.takeFreeBytes (len - got.length)
  let s := if bad then r.2.fetchErr src else r.2
  if s.served dst then (s.enter .system dst len).write dst (got ++ r.1) bad else s

/-- FETCH_DONE: the blocks of a fetch land, and it ends (R238); RETAIN holds it (R445). (DESIGN CHOICE: log entry
8) -/
def State.fetchDone (s : State) (data : List HostBlock) : State :=
  if !s.ver.fetch.busy || s.retained then s
  else
    let l := s.ver.fetch.todo
    let s := s.each (fetchReads l).zipIdx (fun s e =>
      State.fetchBlock data (fetchPort s.fetchPorts e.2) e.1.1 e.1.2.1 e.1.2.2 s)
    let f := { s.ver.fetch with busy := false, done := true, todo := [], count := s.ver.weights.length }
    let s := { s with ver := { s.ver with fetch := f } }
    s.irq .ver 0

end Sys2Proof.Machine
end

