-- ==== Sys2Proof/Machine/Security.lean ====
section
/-!
DEFINITION. The security processor (R466 to R494): the firmware slots and the boot, the measurement registers, debug
levels, zeroisation, the attestation messages and tokens on their three carriers, and the updates of firmware and
Shale (R461, R476).
-/

namespace Sys2Proof.Machine

open Sys2Proof

/-- A SEC cause (R494). -/
def State.secCause (s : State) (bt cls : Nat) : State :=
  s.raise { page := .sec, bit := bt, cls := cls, halt := if bt = 11 then 0x0B else 0 }

/-- SP_FAULT (R494). -/
def State.spFault (s : State) : State := s.secCause 11 4

/-- The security processor changed. -/
def State.modSec (s : State) (f : Sec → Sec) : State := { s with sec := f s.sec }

/-! ### Measurement registers (R477) -/

/-- A measurement register extended with data. -/
def State.measure (s : State) (i : Nat) (d : List Byte) : State :=
  s.setMeas i (sha256 (s.sec.meas.getD i [] ++ d))

/-- Register 4 extended: the lifecycle state, then OWNER_ROOT. -/
def State.measureLife (s : State) : State := s.measure 4 (BitVec.ofNat 8 s.sec.lifecycle :: s.sec.ownerRoot)

/-- Register 5 extended: the level, then the digest of the token that caused it. -/
def State.measureLevel (s : State) (digest : List Byte) : State := s.measure 5 (BitVec.ofNat 8 s.sec.level :: digest)

/-- 32 zero bytes. -/
def zero32 : List Byte := List.replicate 32 0

/-! ### Firmware slots and boot (R473 to R475) -/

/-- The longest firmware image, 15 MiB. -/
def fwLimit : Nat := 15 * 2 ^ 20

/-- The length that a firmware header gives its image (R473). -/
def fwLength (i : FwImage) : Nat := 128 + i.romextLen.toNat + i.fwLen.toNat + 7856

/-- Whether a firmware header meets R473, PART, STEPPING and the bound of SVN apart. -/
def fwHeaderOk (i : FwImage) : Bool :=
  i.magic == 0x49574653 && i.format == 1 && i.hdrLen == 0x80 && decide (i.svn.toNat ≤ 63) && i.signer == 0 &&
    decide (i.flags.toNat ≤ 1) && i.zerosOk && i.romextLen.toNat % 64 == 0 && within 65536 1048576 i.romextLen.toNat &&
    i.fwLen.toNat % 64 == 0 && i.sigLen.toNat == 7856 && decide (fwLength i ≤ fwLimit)

/-- The status of a firmware slot: the first check it fails (R474). -/
def fwStatus (minSvn : Nat) : Option FwImage → Nat
  | none => 1
  | some i =>
    if !fwHeaderOk i then 2
    else if i.part ≠ 0x9216 ∨ i.stepping ≠ 0xB0 then 3
    else if i.svn.toNat < minSvn then 4
    else if !i.rootOk || !i.sigOk then 5
    else 0

/-- VERSION of a slot's image, below every image for a blank one. -/
def fwVersionOf (i : Option FwImage) : Int := i.elim (-1) (fun i => i.version.toNat)

/-- The slot that boots, B where true: the one of the higher VERSION, A on a tie; the other where its status is not
0 (R474). -/
def Sec.bootSlot (c : Sec) : Option (Bool × FwImage) :=
  let a := if fwStatus c.minSvn c.flash.fwA = 0 then c.flash.fwA.map (fun i => (false, i)) else none
  let b := if fwStatus c.minSvn c.flash.fwB = 0 then c.flash.fwB.map (fun i => (true, i)) else none
  if fwVersionOf c.flash.fwA < fwVersionOf c.flash.fwB then b.or a else a.or b

/-- Step 1 of R454: the slots checked and the chosen one measured (R474). Answers whether a slot booted. (DEDUCED:
log entry 51) -/
def State.bootFirmware (s : State) : Bool × State :=
  let s := s.modSec (fun c => { c with
    bootA := fwStatus c.minSvn c.flash.fwA, bootB := fwStatus c.minSvn c.flash.fwB })
  match s.sec.bootSlot with
  | none => (false, s)
  | some (b, i) =>
    let s := s.modSec (fun c => { c with slotB := b, fwSvn := i.svn.toNat, fwVersion := i.version, booted := true })
    let s := ((s.measure 0 i.romextSha).measure 1 i.fwSha).measureLife.measureLevel zero32
    let raised := decide (i.flags.toNat % 2 = 1) && decide (s.sec.minSvn < i.svn.toNat)
    (true, if raised then s.modSec (fun c => { c with minSvn := i.svn.toNat }) else s)

/-- The identities derived, unless the part is SCRAPPED (R471). -/
def State.deriveIdentity (s : State) : State := s.modSec (fun c => { c with identity := decide (c.lifecycle ≠ 4) })

/-! ### Debug levels (R484, R487, R488) -/

/-- The cores that a fall out of CONTROL releases (R488). -/
def State.releaseCores (s : State) : State :=
  { s with cores := Store.mapVals (fun _ => {}) (fun _ x => { x with halt := false }) s.cores }

/-- LEVEL changed, with the digest of the token that caused it: no change is no event (R477, R488). -/
def State.setLevel (s : State) (n : Nat) (digest : List Byte) : State :=
  if s.sec.level = n then s
  else
    let was := s.sec.level
    let s := (s.modSec (fun c => { c with level := n })).measureLevel digest
    if was = 2 then s.releaseCores else s

/-- RELOCK (R488). -/
def State.relock (s : State) : State := s.setLevel 0 zero32

/-! ### Zeroisation (R490) -/

/-- The states in which zeroisation, and a CONTROL or lifecycle token, may start (R486, R490). -/
def State.controlOk (s : State) : Bool :=
  decide (s.pwr.st = .run ∧ s.pwr.target = .run) &&
    (match s.job.st with
    | .empty | .loaded | .loadFailed | .halted => true
    | _ => false)

/-- A core with its registers and its store zero. -/
def Core.zeroed (x : Core) : Core := x.cleared.clearRegs

/-- Zeroisation starts (R490): as CLEAR with ZERO_HBM where a job is loaded, and otherwise without a change of
state. (DEDUCED: log entry 49) -/
def State.startZero (s : State) (cause : Nat) : State :=
  let s := s.each (allFin 16) State.chanStop
  let s := if s.job.st = .empty then s.clearGeode else s.setJobState .clearing
  let s := s.clearEffects true
  let s := { s with cores := Store.mapVals (fun _ => {}) (fun _ x => x.zeroed) s.cores }
  s.modSec (fun c => { c with zBusy := true, zCause := cause })

/-! ### Attestation messages (R478 to R483) -/

/-- The header of a response (R478). -/
def replyHead (code status detail len : Nat) : List Byte :=
  [1, BitVec.ofNat 8 (code + 0x80), BitVec.ofNat 8 status, BitVec.ofNat 8 detail] ++ leBytes len 4

/-- An error response, or one without bytes: the header alone. -/
def bareReply (code status detail : Nat) : Reply := { head := replyHead code status detail 8 }

/-- DEVICE_ID. -/
def deviceId : List Byte := (List.range 16).map Config.deviceId

/-- The HKDF pseudorandom key of R471. -/
def identityPrk : List Byte := hmac (ascii "Sahush LWN-9216 v1") ((List.range 32).map Config.uds)

/-- The seeds of the normal or the debug-marked identity (R471). -/
def identitySeed (marked : Bool) : List Byte :=
  hkdf48 identityPrk (ascii (if marked then "identity-debug" else "identity") ++ deviceId)

/-- The public key of an identity. -/
def identityPk (marked : Bool) : List Byte := (List.range 32).map (Config.slhPublic (identitySeed marked))

/-- The bytes of a response: its first bytes and the endorsement, or the signature over bytes 8 to 383. -/
def Reply.bytes (r : Reply) : List Byte :=
  r.head ++ (match r.tail with
    | .none => []
    | .endorsement => (List.range 7952).map Config.endorsement
    | .signature m k => (List.range 17088).map (Config.slhSignature (identitySeed m) (r.head.drop 8) k))

/-- The mailbox of a carrier. -/
def Sec.mail (c : Sec) : Carrier → Mail
  | .doe .h0 => c.doe0
  | .doe .h1 => c.doe1
  | .i3c => c.mailI3c

/-- The mailbox of a carrier changed. -/
def State.setMail (s : State) (k : Carrier) (m : Mail) : State :=
  match k with
  | .doe .h0 => s.modSec (fun c => { c with doe0 := m })
  | .doe .h1 => s.modSec (fun c => { c with doe1 := m })
  | .i3c => s.modSec (fun c => { c with mailI3c := m })

/-- Whether START_UP has begun: outside cold reset (R441, R454). -/
def State.started (s : State) : Bool := decide (s.pwr.st ≠ .starting ∨ s.pwr.phase ≠ 0)

/-- Whether private transfers reach the I3C target: outside cold reset, once it has a dynamic address (R481,
R556). (DEDUCED: log entry 33) -/
def State.i3cOpen (s : State) : Bool := s.started && s.i3c.addr.isSome

/-- Whether a carrier is there: DOE while its port is in D0 and the main domain runs, I3C while its target is reached
(R481). -/
def State.carrierUp (s : State) : Carrier → Bool
  | .doe h => s.pwr.powered && s.portTakes h
  | .i3c => s.i3cOpen

/-- Whether start-up stopped without a firmware slot (R475). -/
def State.bootFail (s : State) : Bool := decide (s.pwr.phase = 0xF)

/-- The response that is being made on a carrier; the one before it is discarded (R483). -/
def State.answer (s : State) (k : Carrier) (r : Reply) : State := s.setMail k { work := some r }

/-- A request served where its carrier is there; in BOOT_FAIL every request receives NO_IDENTITY (R475). -/
def State.onCarrier (s : State) (k : Carrier) (code : Nat) (f : State → State) : State :=
  if !s.carrierUp k then s
  else if s.bootFail then s.answer k (bareReply code 3 0)
  else f s

/-- A request that asks for an identity: NO_IDENTITY in SCRAPPED and before the derivation (R478, R479). -/
def State.withIdentity (s : State) (k : Carrier) (code : Nat) (f : State → State) : State :=
  s.onCarrier k code (fun s =>
    if s.sec.identity && decide (s.sec.lifecycle ≠ 4) then f s else s.answer k (bareReply code 3 0))

/-- GET_IDENTITY (R479). -/
def State.getIdentity (s : State) (k : Carrier) : State :=
  s.withIdentity k 1 (fun s => s.answer k {
    head := replyHead 1 0 0 8048 ++ deviceId ++ identityPk false ++ identityPk true ++
      [BitVec.ofNat 8 (bit s.sec.marked)] ++ List.replicate 7 0
    tail := .endorsement })

/-- TRANSPORT of a carrier (R480). -/
def Carrier.code : Carrier → Nat
  | .doe h => h.num
  | .i3c => 2

/-- Whether the device is in OFF, where the registers of the main domain read 0 in a report (R480). -/
def State.isOff (s : State) : Bool := decide (s.pwr.st = .off)

/-- The signed body of a report, bytes 8 to 383 (R480). -/
def State.reportBody (s : State) (transport : Nat) (nonce : List Byte) : List Byte :=
  let tick := if s.tickEn && !s.isOff then s.tick else 0
  [0x53, 0x41, 0x54, 0x52, 1, BitVec.ofNat 8 s.sec.lifecycle, BitVec.ofNat 8 s.sec.level,
    BitVec.ofNat 8 (bit s.sec.marked), BitVec.ofNat 8 s.pwr.st.code,
    BitVec.ofNat 8 (if s.isOff then 0 else s.job.st.code), BitVec.ofNat 8 transport, 0] ++
  deviceId ++ leBytes (s.reg .glb 0x9C).toNat 4 ++ leBytes tick 8 ++ nonce ++ s.sec.meas.flatten ++
  s.sec.ownerRoot ++ leBytes s.sec.fwVersion.toNat 4 ++
  leBytes (s.cfg.applied.elim 0 (fun i => i.version.toNat)) 4 ++ List.replicate 8 0

/-- GET_REPORT (R480), signed in hedged mode with random bytes that the spec leaves open (R472). -/
def State.getReport (s : State) (k : Carrier) (nonce : List Byte) : State :=
  s.withIdentity k 2 (fun s =>
    if nonce.length ≠ 32 then s.answer k (bareReply 2 1 0)
    else
      let r : Reply := { head := replyHead 2 0 0 17472 ++ s.reportBody (Carrier.code k) nonce
                         tail := .signature s.sec.marked s.fresh }
      { s with fresh := s.fresh + 1 }.answer k r)

/-- EXTEND (R479): from the owner's DOE mailbox only. -/
def State.extend (s : State) (k : Carrier) (index : Nat) (digest : List Byte) : State :=
  s.onCarrier k 3 (fun s =>
    if digest.length ≠ 32 ∨ ¬(index = 6 ∨ index = 7) then s.answer k (bareReply 3 1 0)
    else if s.owner.host.map Carrier.doe ≠ some k then s.answer k (bareReply 3 2 0)
    else (s.measure index digest).answer k (bareReply 3 0 0))

/-- GET_CHALLENGE (R485): a nonce drawn from the random generator. -/
def State.getChallenge (s : State) (k : Carrier) : State :=
  s.onCarrier k 4 (fun s =>
    let r := s.takeFreeBytes 32
    (r.2.modSec (fun c => { c with nonce := some r.1 })).answer k { head := replyHead 4 0 0 40 ++ r.1 })

/-- NONCE_EXPIRY (R485). -/
def State.nonceExpiry (s : State) : State := s.modSec (fun c => { c with nonce := none })

/-! ### Tokens (R467, R468, R485 to R487) -/

/-- The header of a token as bytes (R485). -/
def tokenHeader (t : Token) : List Byte :=
  leBytes t.magic.toNat 4 ++ [t.format, t.kind, t.target, t.signer] ++ t.deviceId ++ t.nonce ++ t.signerPk ++
    t.newOwnerPk ++ List.replicate 8 0

/-- SHA-256 of a token. -/
def tokenDigest (t : Token) : List Byte := sha256 (tokenHeader t ++ t.sig)

/-- Check 2: the format of a token (R485). -/
def tokenFormatOk (t : Token) : Bool :=
  t.magic == 0x54424453 && t.format == 1 && t.zerosOk && t.length == 7984 &&
    ((t.kind == 1 && (t.target == 1 || t.target == 2)) ||
     (t.kind == 2 && (t.target == 2 || t.target == 3 || t.target == 4))) &&
    ((t.kind == 2 && t.target == 2) || t.newOwnerPk == zero32)

/-- The signer that a lifecycle state requires of a token: 0 vendor, 1 owner (R466, R467). -/
def Sec.tokenSigner (c : Sec) : Nat := if c.lifecycle = 2 then 1 else 0

/-- Check 5: the signer is permitted, and its key is that of its root (R472, R486). -/
def Sec.signerOk (c : Sec) (t : Token) : Bool :=
  decide (t.signer.toNat = c.tokenSigner) &&
    sha256 t.signerPk == (if c.tokenSigner = 1 then c.ownerRoot else (List.range 32).map Config.vendorRoot)

/-- Check 7: whether the state of the device permits a token (R486). -/
def State.tokenState (s : State) (t : Token) : Bool :=
  if t.kind = 1 ∧ t.target = 1 then
    decide (s.pwr.target = s.pwr.st) && (match s.pwr.st with
      | .run | .idle | .retain => true
      | _ => false)
  else s.controlOk

/-- The lifecycle pairs of R467 and what they ask of the token. -/
def Sec.pairOk (c : Sec) (t : Token) : Bool :=
  match c.lifecycle, t.target.toNat with
  | 1, 2 => t.newOwnerPk != zero32
  | 1, 4 => true
  | 2, 3 => true
  | 2, 4 => true
  | 3, 4 => true
  | _, _ => false

/-- Check 8 (R486). -/
def Sec.targetOk (c : Sec) (t : Token) : Bool :=
  if t.kind = 1 then decide (c.level < t.target.toNat) else c.pairOk t

/-- The code of the first check, 1 to 8, that a token fails; 0 for none (R486). -/
def State.tokenCode (s : State) (t : Token) : Nat :=
  if 8 ≤ s.sec.fails then 8
  else if !tokenFormatOk t then 1
  else if t.deviceId ≠ deviceId then 2
  else if s.sec.nonce ≠ some t.nonce then 3
  else if !s.sec.signerOk t then 4
  else if !t.sigOk then 5
  else if !s.tokenState t then 6
  else if !s.sec.targetOk t then 7
  else 0

/-- The result of a submission: LAST_RESULT, and the response where the carrier still wants it (R486). -/
def State.tokenResult (s : State) (k : Option Carrier) (code : Nat) : State :=
  let s := s.modSec (fun c => { c with result := code })
  let s := if code = 0 then s else s.secCause 8 2
  match k with
  | none => s
  | some k => s.answer k (if code = 0 then bareReply 5 0 0 else bareReply 5 4 code)

/-- An accepted token: FAILS 0, and the owner key record repaired by an owner's token (R472, R486). -/
def State.tokenAccepted (s : State) (k : Option Carrier) (t : Token) : State :=
  let fix := t.signer == 1 && !s.sec.ownerKeyOk
  (s.modSec (fun c => { c with fails := 0, ownerPk := if fix then some t.signerPk else c.ownerPk })).tokenResult k 0

/-- CONTROL entered (R487). -/
def State.enterControl (s : State) (t : Token) : State :=
  (s.setLevel 2 (tokenDigest t)).modSec (fun c => { c with marked := true })

/-- SUBMIT_TOKEN (R485 to R487): the checks in order, and the effects of an accepted token. Where zeroisation comes
first, the rest follows when it completes. (DEDUCED: log entry 52) -/
def State.submitToken (s : State) (k : Carrier) (t : Token) (fuseOk : Bool) : State :=
  s.onCarrier k 5 (fun s =>
    let code := s.tokenCode t
    let reached := code == 0 || decide (3 ≤ code ∧ code ≤ 7)
    let s := if reached then s.nonceExpiry else s
    if code ≠ 0 then
      let counts := decide (2 ≤ code ∧ code ≤ 5)
      (s.modSec (fun c => { c with fails := if counts then min 8 (c.fails + 1) else c.fails })).tokenResult (some k) code
    else if t.kind = 1 ∧ t.target = 1 then (s.setLevel 1 (tokenDigest t)).tokenAccepted (some k) t
    else if t.kind = 1 ∧ s.sec.lifecycle ≠ 2 then (s.enterControl t).tokenAccepted (some k) t
    else
      let s := (s.setMail k {}).startZero (if t.kind = 1 then 2 else 3)
      s.modSec (fun c => { c with zToks := c.zToks ++ [(some k, t, fuseOk)] }))

/-- Steps 2 and 3 of R468: the fuses, and the new lifecycle state. -/
def State.enterLife (s : State) (t : Token) : State :=
  let s := s.modSec (fun c => { c with
    lifecycle := t.target.toNat
    ownerRoot := if t.target = 2 then sha256 t.newOwnerPk else c.ownerRoot
    ownerPk := if t.target = 2 then some t.newOwnerPk else c.ownerPk
    udsBlown := c.udsBlown || t.target == 4 })
  (s.setLevel 0 (tokenDigest t)).measureLife

/-- What follows zeroisation for a CONTROL or lifecycle token that asked for it (R468, R487): it is applied now,
and
checks 7 and 8 are those of this moment (R486, R492). (DEDUCED: log entry 48) -/
def State.finishToken (s : State) (z : Option Carrier × Token × Bool) : State :=
  let k := z.1
  let t := z.2.1
  if !s.controlOk then s.tokenResult k 6
  else if !s.sec.targetOk t then s.tokenResult k 7
  else if t.kind = 1 then (s.enterControl t).tokenAccepted k t
  else if z.2.2 then (s.tokenAccepted k t).enterLife t
  else (s.secCause 10 2).tokenResult k 9

/-- ZEROISATION_DONE (R468, R487, R490). (DEDUCED: log entries 48, 49) -/
def State.zeroDone (s : State) : State :=
  if !s.sec.zBusy then s
  else
    let toks := s.sec.zToks
    let s := (s.modSec (fun c => { c with zBusy := false, zDone := true, zToks := [] })).clearDone
    s.each toks State.finishToken

/-! ### The carriers (R481 to R483) -/

/-- DOE_ABORT: the request and its response are discarded (R481). -/
def State.doeAbort (s : State) (h : HostId) : State :=
  let s := s.setMail (.doe h) {}
  s.modSec (fun c => { c with zToks := c.zToks.map (fun z => if z.1 = some (.doe h) then (none, z.2) else z) })

/-- RESPONSE_READY (R481 to R483). -/
def State.responseReady (s : State) (k : Carrier) : State :=
  match (s.sec.mail k).work with
  | none => s
  | some r =>
    let s := s.setMail k { ready := some r }
    match k with
    | .i3c => s.ibi 0x03
    | .doe h => if s.carrierUp k then s.emit (.doeData h r.bytes) else s

/-- The bytes that the next private read returns (R442, R482). -/
def State.setNext (s : State) (l : List Byte) : State := { s with i3c := { s.i3c with next := l } }

/-- MSG_WRITE: bytes into the 8 KiB request buffer (R482). -/
def State.msgWrite (s : State) (off : Nat) (data : List Byte) : State :=
  if !s.i3cOpen then s
  else
    let fit := data.take (8192 - off)
    let s := { s with i3c := { s.i3c with buffer := Store.setMany (fun _ => 0) s.i3c.buffer off fit } }
    if 8192 < off + data.length then s.setNext [1] else s

/-- Bytes of the request buffer. -/
def State.msgBytes (s : State) (off n : Nat) : List Byte := Store.getMany (fun _ => 0) s.i3c.buffer off n

/-- The token in the request buffer (R485). (DEDUCED: log entry 52) -/
def State.msgToken (s : State) : Token :=
  let b := fun (i n : Nat) => s.msgBytes (8 + i) n
  let one := fun (i : Nat) => (b i 1).headD 0
  { magic := BitVec.ofNat 32 (leNat (b 0 4)), format := one 4, kind := one 5, target := one 6, signer := one 7
    deviceId := b 8 16, nonce := b 24 32, signerPk := b 56 32, newOwnerPk := b 88 32
    zerosOk := b 120 8 == List.replicate 8 0, length := 7984, sig := b 128 7856
    sigOk := Config.slhVerify (b 56 32) (b 0 128) (b 128 7856) }

/-- The length that a request of a CODE has; none for an unknown CODE (R479). -/
def requestLen : Nat → Option Nat
  | 1 => some 8
  | 2 => some 40
  | 3 => some 48
  | 4 => some 8
  | 5 => some 7992
  | _ => none

/-- Whether the request buffer holds a well-formed message (R478, R479). -/
def State.msgOk (s : State) : Bool :=
  let h := s.msgBytes 0 4
  h.getD 0 0 == 1 && h.getD 2 0 == 0 && h.getD 3 0 == 0 &&
    requestLen (h.getD 1 0).toNat == some (leNat (s.msgBytes 4 4)) &&
    (h.getD 1 0 != 3 || s.msgBytes 9 7 == List.replicate 7 0)

/-- MSG_SUBMIT: the buffer as one request; whether the fuses program is open (R468, R482). (DEDUCED: log entry 52) -/
def State.msgSubmit (s : State) : State :=
  if !s.i3cOpen then s
  else
    let code := (s.msgBytes 1 1).headD 0
    if !s.msgOk then s.answer .i3c (bareReply (code.toNat % 128) (if s.bootFail then 3 else 1) 0)
    else if code = 1 then s.getIdentity .i3c
    else if code = 2 then s.getReport .i3c (s.msgBytes 8 32)
    else if code = 3 then s.extend .i3c ((s.msgBytes 8 1).headD 0).toNat (s.msgBytes 16 32)
    else if code = 4 then s.getChallenge .i3c
    else
      let f := Config.freeNat s.fresh % 2 == 0
      { s with fresh := s.fresh + 1 }.submitToken .i3c s.msgToken f

/-- MSG_READ: the response bytes that a private read returns, at most 256 (R482). -/
def State.msgRead (s : State) (off : Nat) : State :=
  if !s.i3cOpen then s
  else
    match s.sec.mailI3c.ready with
    | none => s.setNext []
    | some r => s.setNext ((r.bytes.drop off).take 256)

/-- MSG_STATE: idle, busy or response ready (R482). -/
def State.msgState (s : State) : State :=
  let m := s.sec.mailI3c
  let busy := m.work.isSome || s.sec.zToks.any (fun z => z.1 == some .i3c)
  if !s.i3cOpen then s
  else s.setNext [if busy then 1 else if m.ready.isSome then 2 else 0]

/-! ### Updates of firmware and Shale (R461, R476) -/

/-- SEC_FW_UPDATE.GO where it is accepted (R476). (DEDUCED: log entry 51) -/
def State.startFw (s : State) : Option State :=
  if s.sec.fwBusy || s.cfg.busy || s.isOff then none
  else some (s.modSec (fun c => { c with fwBusy := true, fwErr := 0, fwDone := false }))

/-- SEC_FW_UPDATE.ERR of an image; 0 where it passes (R476, R493). (DEDUCED: log entry 51) -/
def State.fwUpdateErr (s : State) (img : Option FwImage) (flashOk : Bool) : Nat :=
  match img with
  | none => 1
  | some i =>
    let len := (s.reg .sec 0xA0).toNat
    let st := fwStatus s.sec.minSvn img
    if fwLimit < len then 7
    else if st = 2 ∨ st = 3 then 2
    else if len ≠ fwLength i ∨ i.length ≠ fwLength i then 7
    else if st = 4 then 3
    else if st = 5 then 4
    else if i.version ≤ s.sec.fwVersion then 5
    else if !flashOk then 6
    else 0

/-- FW_UPDATE_DONE (R476). Programming that fails leaves the slot blank or with an image that does not verify.
(DEDUCED: log entry 50) -/
def State.fwUpdateDone (s : State) (img : Option FwImage) (flashOk : Bool) : State :=
  if !s.sec.fwBusy then s
  else
    let e := s.fwUpdateErr img flashOk
    let bad := if Config.freeNat s.fresh % 2 = 0 then none else img.map (fun i => { i with sigOk := false })
    let slot := if e = 0 then img else bad
    let put := fun (f : FlashSlots) => if s.sec.slotB then { f with fwA := slot } else { f with fwB := slot }
    let fresh := if e = 6 then s.fresh + 1 else s.fresh
    let s := { s with fresh := fresh }.modSec (fun c => { c with
      fwBusy := false, fwErr := e, fwDone := e == 0
      flash := if e = 0 ∨ e = 6 then put c.flash else c.flash })
    if e = 0 then s else s.secCause 9 2

/-- CFG_IMG_UPDATE.GO where it is accepted (R461). (DEDUCED: log entry 51) -/
def State.startShale (s : State) : Option State :=
  if s.cfg.busy || s.isOff then none
  else some { s with cfg := { s.cfg with busy := true, err := 0, done := false } }

/-- CFG_IMG_STAT.UPDATE_ERR of an image; 0 where it passes (R461, R464). (DEDUCED: log entry 51) -/
def State.shaleErr (s : State) (img : Option ShaleImage) (flashOk : Bool) : Nat :=
  match img with
  | none => 1
  | some i =>
    let len := (s.reg .cfg 0x98).toNat
    let st := shaleStatus s.sec img
    if 2 ^ 20 < len then 7
    else if st = 2 ∨ st = 3 then 2
    else if len ≠ 64 + i.bodyLen.toNat + 7856 then 7
    else if st = 4 then 3
    else if st = 5 then 4
    else if i.version.toNat ≤ s.cfg.applied.elim 0 (fun a => a.version.toNat) then 5
    else if !flashOk then 6
    else 0

/-- SHALE_UPDATE_DONE (R461): the slot that is not applied, or slot A, takes the image. -/
def State.shaleUpdateDone (s : State) (img : Option ShaleImage) (flashOk : Bool) : State :=
  if !s.cfg.busy then s
  else
    let e := s.shaleErr img flashOk
    let toB := s.cfg.applied.isSome && !s.cfg.slotB
    let bad := if Config.freeNat s.fresh % 2 = 0 then none else img.map (fun i => { i with sigOk := false })
    let slot := if e = 0 then img else bad
    let put := fun (f : FlashSlots) => if toB then { f with shaleB := slot } else { f with shaleA := slot }
    let fresh := if e = 6 then s.fresh + 1 else s.fresh
    let s := { s with fresh := fresh, cfg := { s.cfg with busy := false, err := e, done := e == 0 } }
    let s := if e = 0 ∨ e = 6 then s.modSec (fun c => { c with flash := put c.flash }) else s
    if e = 0 then s else s.cfgCause 9

end Sys2Proof.Machine
end

