-- ==== Sys2Proof/Machine/Power.lean ====
section
/-!
DEFINITION. The power manager (R430 to R438), the power states (R443 to R448), the resets (R449 to R452), start-up
(R453 to R456), the port resets of the hosts (R412, R455) and the pins that go with them (R547, R551, R558).
-/

namespace Sys2Proof.Machine

open Sys2Proof

/-- The power manager's part changed. -/
def State.modPwr (s : State) (f : Pwr → Pwr) : State := { s with pwr := f s.pwr }

/-! ### Telemetry and control steps (R431 to R435, R512) -/

/-- Temperature `i` of a list, in units of 0.125 degrees C. -/
def tempAt (l : List (BitVec 12)) (i : Nat) : BitVec 12 := l.getD i 0

/-- TELEMETRY: a die's frame over its sideband (R431). -/
def State.telemetry (s : State) (d : DieId) (t : DieTelemetry) : State :=
  if !(s.die d).up || !(s.link (ownLink d)).sideband then s
  else
    let s := s.modDie d (fun x => { x with frame := some t, heard := true })
    let s := s.each (coresOf d) (fun s c =>
      if s.husk c then s
      else s.setReg (.core c) 0x90 (BitVec.ofNat 32 (2 ^ 31 + (tempAt t.coreTemps (c.val % 48)).toNat)))
    s.each (stacksOf d) (fun s k => s.setReg (.hbm k) 0xB4 (BitVec.ofNat 32 (2 ^ 31 + (tempAt t.stackTemps (k.val % 4)).toNat)))

/-- A die without telemetry at a control step (R427, R431, R514). -/
def State.missed (s : State) (d : DieId) : State :=
  let s := s.raise { page := .tel, bit := 8, cls := 1, addr := d.val }
  let s := s.modDie d (fun x => { x with missed := x.missed + 1 })
  if 2 ≤ (s.die d).missed then s.isolate d 3 else s

/-- The dies heard from at a control step, and those that were not. -/
def State.hearDie (s : State) (d : DieId) : State :=
  let x := s.die d
  if !x.up then s
  else if x.heard then s.modDie d (fun x => { x with heard := false, missed := 0 })
  else s.missed d

/-- Power of the five rails in W, rounded down as one sum. -/
def railWatts (t : PowerReadings) : Nat :=
  ((List.range 5).map (fun k => (t.railMv.getD k 0).toNat * (t.railDa.getD k 0).toNat)).foldl (· + ·) 0 / 10000

/-- The sensors of a step in the order that breaks ties: cores, stacks, X (R437): source, index and temperature. -/
def State.sensors (s : State) (t : PowerReadings) : List (Nat × Nat × Int) :=
  let cores := (allFin 192).filterMap (fun c => match (s.die (coreDie c)).frame with
    | some f => if s.husk c then none else some (0, c.val, (tempAt f.coreTemps (c.val % 48)).toInt)
    | none => none)
  let stackT := (allFin 16).filterMap (fun k => match (s.die (stackDie k)).frame with
    | some f => some (1, k.val, (tempAt f.stackTemps (k.val % 4)).toInt)
    | none => none)
  cores ++ stackT ++ [(2, 0, t.xTemp.toInt)]

/-- The first hottest of some sensors. -/
def hottest : List (Nat × Nat × Int) → Option (Nat × Nat × Int)
  | [] => none
  | e :: l => match hottest l with
    | none => some e
    | some f => if e.2.2 < f.2.2 then some f else some e

/-- The readings of a control step in their registers (R431, R437, R512). -/
def State.putReadings (s : State) (t : PowerReadings) : State :=
  let up := fun (k : Nat) => decide (4 ≤ k) || (s.die (dieAt k)).up
  let w := fun (n : Nat) => BitVec.ofNat 32 (min n 4095)
  let s := s.setReg64 .tel 0x88 (if s.tickEn then s.tick else 0)
  let s := s.each (List.range 5) (fun s k =>
    let mv := if up k then (t.railMv.getD k 0).toNat else 0
    let da := if up k then (t.railDa.getD k 0).toNat else 0
    let s := (s.setReg .tel (0x90 + 4 * k) (BitVec.ofNat 32 mv)).setReg .tel (0xB0 + 4 * k) (BitVec.ofNat 32 da)
    s.setReg .tel (if k = 4 then 0xE4 else 0xD0 + 4 * k) (w (mv * da / 10000)))
  let s := s.setReg .tel 0xE0 (w t.hbmWatts)
  let s := s.setField .pwr 0xA4 11 0 (min 4095 (railWatts t + t.hbmWatts))
  match hottest (s.sensors t) with
  | none => s
  | some (src, i, v) =>
    s.setReg .pwr 0xA8 (BitVec.ofNat 32 (i * 2 ^ 24 + src * 2 ^ 20 + (BitVec.ofInt 12 v).toNat))

/-- HBM_STAT.TEMP_WARN: the stack's temperature is above the threshold of its page (R270). -/
def State.tempWarn (s : State) (k : StackId) : Bool :=
  decide (8 * (s.field (.hbm k) 0x80 15 8 : Int) < (BitVec.ofNat 12 (s.field (.hbm k) 0xB4 11 0)).toInt)

/-- PWR_TEMP_LIMIT.THROTTLE_C in units of 0.125 degrees C. -/
def State.throttle (s : State) : Int := 8 * (s.field .pwr 0x8C 7 0 : Int)

/-- hot(n) of R433. -/
def State.hotDie (s : State) (d : DieId) : Bool :=
  (stacksOf d).any s.tempWarn ||
    (match (s.die d).frame with
    | none => false
    | some f => f.coreTemps.any (fun v => decide (s.throttle ≤ v.toInt)))

/-- Whether every core of a die is at least 3 degrees below THROTTLE_C and no stack warns (R433). -/
def State.coolDie (s : State) (d : DieId) : Bool :=
  !(stacksOf d).any s.tempWarn &&
    (match (s.die d).frame with
    | none => false
    | some f => f.coreTemps.all (fun v => decide (v.toInt + 24 ≤ s.throttle)))

/-- PWR_FLOOR_MHZ. -/
def State.floorMhz (s : State) : Nat := s.field .pwr 0x88 10 0

/-- PWR_DIE_FREQn.NOW_MHZ. -/
def State.nowMhz (s : State) (d : DieId) : Nat := s.field .pwr (0x90 + 4 * d.val) 26 16

/-- The frequency of a die changed; the trace entry of R517. -/
def State.setMhz (s : State) (d : DieId) (f : Nat) : State :=
  if s.nowMhz d = f then s else (s.setField .pwr (0x90 + 4 * d.val) 26 16 f).trace 6 d.val f

/-- The frequency that a step asks for before the limits, and whether it would go below the floor (R433, R435). -/
def State.wantedMhz (s : State) (d : DieId) (f : Nat) (hot hiPow low : Bool) : Nat × Bool :=
  if s.pwr.force then (s.floorMhz, false)
  else if hot || hiPow then (f - 100, decide (f < s.floorMhz + 100))
  else if low && s.coolDie d then (f + 25, false)
  else (f, false)

/-- One die at a control step: f limited to the cap and then to the floor; a higher one waits for the regulator
(R432, R433, R435). Answers whether the die is held at the floor. -/
def State.stepDie (s : State) (d : DieId) (hiPow low : Bool) : Bool × State :=
  if !(s.die d).up then (false, s)
  else
    let hot := s.hotDie d
    let f := s.nowMhz d
    let r := s.wantedMhz d f hot hiPow low
    let g := max (min r.1 (s.field .pwr (0x90 + 4 * d.val) 10 0)) s.floorMhz
    let s := s.modDie d (fun x => { x with hot := hot, want := if f < g then some g else none })
    let s := if g < f then s.setMhz d g else s
    (r.2, if r.2 then s.pwrCause 10 2 d.val else s)

/-- The dies of a control step, one after another; whether any is held at the floor. -/
def State.stepDies (hiPow low : Bool) : List DieId → Bool × State → Bool × State
  | [], r => r
  | d :: l, r =>
    let q := r.2.stepDie d hiPow low
    State.stepDies hiPow low l (r.1 || q.1, q.2)

/-- AVS_ERR for each rail whose transaction with its regulator failed and was retried: the die that it supplies, or
0xF for X (R438, R558). -/
def State.avsRetry (s : State) (l : List (Fin 5)) : State :=
  s.each l (fun s r => s.pwrCause 11 1 (if r.val < 4 then r.val else 0xF))

/-- CONTROL_STEP (R430 to R435). -/
def State.controlStep (s : State) (t : PowerReadings) : State :=
  if !s.pwr.powered then s
  else
    let s := (s.each (allFin 4) State.hearDie).putReadings t
    let s := s.avsRetry t.avsErr
    let now := s.field .pwr 0xA4 11 0
    let limit := s.field .pwr 0xA0 11 0
    let hiPow := decide (limit < now)
    let s := s.modPwr (fun p => { p with hiPow := hiPow })
    let r := State.stepDies hiPow (decide (100 * now ≤ 97 * limit)) (allFin 4) (false, s)
    if r.1 then r.2.setField .pwr 0xB8 31 16 (min 0xFFFF (r.2.field .pwr 0xB8 31 16 + 1)) else r.2

/-- VOLTAGE_ACKNOWLEDGE: the higher frequency that waited (R432). -/
def State.voltageAck (s : State) (d : DieId) : State :=
  match (s.die d).want with
  | none => s
  | some f => (s.modDie d (fun x => { x with want := none })).setMhz d f

/-- FORCE_THROTTLE (R434): every die at the floor. -/
def State.forceThrottle (s : State) : State :=
  if s.pwr.force then s
  else
    let s := s.modPwr (fun p => { p with force := true })
    if !s.pwr.powered then s
    else
      let s := s.each (allFin 4) (fun s d =>
        if (s.die d).up then (s.modDie d (fun x => { x with want := none })).setMhz d s.floorMhz else s)
      s.pwrCause 12 1 0xF

/-- FORCE_THROTTLE_RELEASE (R433). -/
def State.forceRelease (s : State) : State := s.modPwr (fun p => { p with force := false })

/-- THERMAL_TRIP (R436). (DEDUCED: log entry 45) -/
def State.thermalTrip (s : State) : State :=
  if !s.pwr.powered then s
  else
    let s := s.modPwr (fun p => { p with tripped := true })
    (s.each (allFin 4) (fun s d => s.isolate d 6)).pwrCause 9 4 0xF

/-- REGULATOR_FAULT (R427, R558). -/
def State.regulatorFault (s : State) (rail : Nat) : State :=
  if !s.pwr.powered then s
  else if h : rail < 4 then s.isolate ⟨rail, h⟩ 5
  else s.pwrCause 13 4 0xF

/-- STACK_TRAIN_FAIL (R271, R427): of a stack in service. -/
def State.stackTrainFail (s : State) (t : StackId) : State :=
  if !(s.die (stackDie t)).up then s
  else (s.raise { page := .hbm t, bit := 11, cls := 4, halt := 0x02, kind := 4 }).isolate (stackDie t) 4

/-! ### State, target and phase (R442, R463) -/

/-- PWR_STATE.STATE changed: the trace entry and the in-band interrupt (R442, R517). -/
def State.setPower (s : State) (p : PowerState) : State :=
  let was := s.pwr.st
  let s := s.modPwr (fun x => { x with st := p, target := p })
  if was = p then s else (s.trace 7 0 p.code).ibi 0x01

/-- PWR_STATE.PHASE changed (R442). -/
def State.setPhase (s : State) (n : Nat) : State :=
  if s.pwr.phase = n then s else (s.modPwr (fun x => { x with phase := n })).ibi 0x01

/-! ### Main start-up (R454 to R456) -/

/-- What is found on a die; nothing where the board data says nothing. -/
def dieFinds (l : List DieBringUp) (d : DieId) : DieBringUp :=
  l.getD d.val { dieId := none, linkOk := false, badStacks := [], katFails := [] }

/-- A fabric port as the main domain leaves reset: DISABLED where LINK_EN is 0 (R299). -/
def State.startPort (s : State) (p : PortId) : State :=
  if s.linkEn p then s else (s.setPortState p .disabled).modPort p (fun q => { q with cause := 1 })

/-- A die at start-up, its link to X trained with the bitmaps found (R18, R19, R423, R454, R456). -/
def State.startDie (b : BoardStart) (s : State) (d : DieId) : State :=
  let m := b.links.getD d.val (0, 0)
  let f := dieFinds b.dies d
  (s.bringUp d { f with linkOk := f.linkOk && s.tim.fabclk, near := m.1, far := m.2 } true).2

/-- A ring link at start-up: trained between two dies that are powered, its peer's generation open (R423, R454).
(DEDUCED: log entry 44) -/
def State.startRing (b : BoardStart) (s : State) (l : LinkId) : State :=
  if (s.link l).st ≠ .training then s
  else
    let m := b.links.getD l.val (0, 0)
    let s := s.bridgeTrain l m.1 m.2
    if (s.link l).st ≠ .handshake then s
    else
      let peer := 1 + Config.freeNat s.fresh % 255
      ({ s with fresh := s.fresh + 1 }.linkUp l (s.link l).proposal).modLink l (fun q => { q with
        genPeer := peer, gotGen := peer })

/-- READY (R454, R456). (DEDUCED: log entry 39) -/
def State.reachReady (s : State) : State :=
  ((s.modPwr (fun x => { x with ready := true })).setPower .run).irq .glb 0

/-- Steps 3 to 7 of R454: the main domain leaves reset, and its dies, stacks and cores come up. -/
def State.mainStart (s : State) (b : BoardStart) : State :=
  let s := (s.modPwr (fun x => { x with powered := true })).setPhase 2
  let s := (s.applyShale (fun _ _ => true)).each (allFin 8) State.startPort
  let s := (s.setPhase 3).each (allFin 4) (State.startDie b)
  let s := (s.each [(4 : LinkId), 5, 6, 7] (State.startRing b)).latchRoutes
  (((s.setPhase 4).setPhase 5).setPhase 6).reachReady

/-- START_UP (R453, R454, R474, R475). From HELD it goes on once PWR_GOOD is high. (DEDUCED: log entry 7) -/
def State.startUp (s : State) (b : BoardStart) : State :=
  if s.pwr.phase = 0xE then (if b.pwrGood then s.mainStart b else s)
  else if s.started then s
  else
    let s := s.modSec (fun c => { c with flash := b.program.getD c.flash })
    let r := (s.setReg .glb 0x98 (BitVec.ofNat 32 b.feedId.toNat)).bootFirmware
    if !r.1 then r.2.setPhase 0xF
    else
      let s := (r.2.setPhase 1).chooseShale
      let s := (s.measure 2 (s.cfg.applied.elim zero32 (fun i => i.digest))).deriveIdentity
      if b.pwrGood then s.mainStart b else s.setPhase 0xE

/-! ### Cold reset and OFF (R441, R446 to R450, R547) -/

/-- Whether a BAR0 offset lies on a page of the standby domain (R441, R511). -/
def standbyPage (a : Nat) : Bool := a / 4096 == 3 || a / 4096 == 4

/-- The state with the whole main domain at reset: what R441 keeps stays. -/
def State.mainReset (s : State) : State :=
  { State.reset with
    regs := Store.keep (fun a => standbyPage a || a == 0x98) s.regs
    cls := Store.keep standbyPage s.cls
    tim := { now := s.tim.now, frac := s.tim.frac, corr := s.tim.corr, rate := s.tim.rate
             refclk := s.tim.refclk, fabclk := s.tim.fabclk }
    pwr := { s.pwr with hiPow := false, powered := false, ready := false, warm := false }
    sec := s.sec, cfg := s.cfg, i3c := s.i3c, out := s.out, fresh := s.fresh, pending := s.pending }

/-- What the security state loses at entry into OFF (R488, R489, R492): a token whose zeroisation runs meets a state
that does not permit it. -/
def State.secOff (s : State) : State :=
  let s := s.each s.sec.zToks (fun s z => s.tokenResult z.1 6)
  let s := if s.sec.level = 0 then s.measureLevel zero32 else s.setLevel 0 zero32
  s.modSec (fun c => { c with marked := false, nonce := none, zToks := [], zBusy := false })

/-- Updates that read their image through a host end as failed reads where the main domain goes (R461, R476).
(DEDUCED: log entry 50) -/
def State.updatesFail (s : State) : State := (s.fwUpdateDone none true).shaleUpdateDone none true

/-- Entry into OFF with its cause (R446, R447). (DEDUCED: log entries 48, 50) -/
def State.enterOff (s : State) (cause : Nat) : State :=
  let s := (s.each (allFin 16) State.chanStop).updatesFail.secOff
  let s := { s.mainReset with sec := { s.sec with doe0 := {}, doe1 := {} } }
  ((s.modPwr (fun x => { x with lastOff := cause })).setPower .off).setPhase 7

/-- LOSS_OF_MAIN_POWER (R447). -/
def State.mainPowerLost (s : State) : State :=
  if !s.pwr.powered then s
  else
    let s := if s.job.st.active then s.bcast (s.reg .glb 0x9C) 0x0B s.tick none else s
    s.enterOff 2

/-- EXIT_FROM_OFF (R446, R454); no nonce outlives it (R492). (DEDUCED: log entry 48) -/
def State.exitOff (s : State) (b : BoardStart) : State :=
  if s.isOff && b.pwrGood then (s.modSec (fun c => { c with nonce := none })).mainStart b else s

/-- COLD_RESET, and VSTBY below its limit (R449, R450, R547): fuses and flash keep, levels at pins stay. -/
def State.coldReset (s : State) : State :=
  { State.reset with
    sec := { fusedSec with
      lifecycle := s.sec.lifecycle, minSvn := s.sec.minSvn, ownerRoot := s.sec.ownerRoot
      udsBlown := s.sec.udsBlown, ownerPk := s.sec.ownerPk, flash := s.sec.flash }
    pwr := { force := s.pwr.force }
    tim := { refclk := s.tim.refclk, fabclk := s.tim.fabclk }
    out := s.out, fresh := s.fresh, pending := s.pending }

/-! ### Requests for a power state (R444, R445, R488) -/

/-- The states of the job in which a power state may be requested from another (R444). (DEDUCED: log entry 53) -/
def requestOk (p q : PowerState) (j : JobState) : Bool :=
  let rest := match j with
    | .empty | .loaded | .loadFailed | .halted => true
    | _ => false
  match p, q with
  | .run, .idle => rest || j == .paused
  | .run, .retain | .idle, .retain => rest
  | .idle, .run | .retain, .run => true
  | .run, .off | .idle, .off | .retain, .off => j == .empty || j == .loadFailed
  | _, _ => false

/-- The power state of a request code (R463). -/
def requestState : Nat → Option PowerState
  | 1 => some .run
  | 2 => some .idle
  | 3 => some .retain
  | 4 => some .off
  | _ => none

/-- A request where it is accepted (R444); the way into RETAIN lowers CONTROL to OBSERVE (R488). (DEDUCED: log
entry 53) -/
def State.requestPower (s : State) (code : Nat) : Option State :=
  if code = 0 then some s
  else
    match requestState code with
    | none => none
    | some p =>
      if s.pwr.target ≠ s.pwr.st ∨ s.pwr.warm then none
      else if p = s.pwr.st then some s
      else if requestOk s.pwr.st p s.job.st then
        let s := s.modPwr (fun x => { x with target := p })
        some (if p = .retain && decide (s.sec.level = 2) then s.setLevel 1 zero32 else s)
      else none

/-- Every die brought up as RETAIN ends, its contents kept (R429, R445). -/
def State.wakeDie (l : List DieBringUp) (s : State) (d : DieId) : State :=
  (s.bringUp d (dieFinds l d) false).2

/-- POWER_STATE_REACHED (R443 to R446). -/
def State.powerReached (s : State) (l : List DieBringUp) : State :=
  if s.pwr.target = s.pwr.st ∨ s.pwr.warm then s
  else
    match s.pwr.target with
    | .retain =>
      (s.each ((allFin 4).filter (fun d => (s.die d).up)) (fun s d => s.dropDie d true State.linkQuiet)).setPower .retain
    | .off => s.enterOff 1
    | .run =>
      if s.pwr.st = .retain then ((s.each (allFin 4) (State.wakeDie l)).setPower .run).resumeGeode else s.setPower .run
    | p => s.setPower p

/-! ### Warm reset (R449, R451) -/

/-- The pages of X that a warm reset resets (R451). -/
def warmPages : List Blk := [.glb, .ras, .tel, .dbg, .dma, .col, .ver, .mbq, .cad, .geo, .flt, .d2d 0, .d2d 1, .d2d 2,
  .d2d 3]

/-- Every die in its reset (R429, R451). -/
def State.resetDies (s : State) : State := s.each (allFin 4) State.dieReset

/-- PWR_STATE_REQ.WARM_RESET where it is accepted (R451). -/
def State.startWarm (s : State) : Option State :=
  if s.pwr.tripped || s.isOff || !s.pwr.powered then none
  else if s.pwr.warm then some s
  else
    let active := s.job.st.active
    let s := s.modPwr (fun x => { x with warm := true, ready := false, target := .run })
    let s := if active then s.requestHalt { code := 0x10, remote := none, bcast := true } else s
    let s := (s.each (allFin 16) State.chanStop).abandonGeode
    let s := { s with flt := { s.flt with sweep := {} }
                      ver := { s.ver with fetch := { s.ver.fetch with busy := false, todo := [] } } }
    some (if active then s else s.resetDies)

/-- What a halt lets go on: the dies of a warm reset that waited for it (R451). -/
def State.afterHalt (s : State) : State := if s.pwr.warm && !s.job.st.active then s.resetDies else s

/-- Error registers of a page cleared: ERR_STAT and the record (R449, R500 to R504). -/
def clearErr (a : Nat) : Bool :=
  !standbyPage a && [0x10, 0x20, 0x24, 0x28, 0x2C].contains (a % 4096)

/-- The X blocks of R451 at reset, their Shale records applied: LOCK, GLB_FEED_ID and FLT_WATCH stay (R441, R449,
R499); HBM_INTERLEAVE, the whole device's, resets with them (R246). -/
def State.resetX (s : State) : State :=
  let here := fun (a : Nat) => warmPages.any (fun b => b.base == a / 4096 * 4096)
  let keep := fun (a : Nat) => a % 4096 == 8 || a == 0x98 || (Blk.flt.base + 0xA0 ≤ a && a ≤ Blk.flt.base + 0xB4)
  let inter := (Blk.hbm 0).base + 0xB8
  let s := { s with
    regs := Store.keep (fun a => (!here a || keep a) && !clearErr a && a != inter) s.regs
    cls := Store.keep standbyPage s.cls
    arbs := Store.mapVals (fun _ => {}) (fun _ a => { a with blocks := 0 }) s.arbs
    chans := [], owner := {}, dbg := {}, geo := {}, flt := {}
    hosts := Store.mapVals (fun _ => {}) (fun _ p => { p with beat := false }) s.hosts }
  (s.applyShale (fun b o => warmPages.contains b || isInterleave b o)).releaseCores

/-- One die as a warm reset ends (R429, R451). -/
def State.warmDie (l : List DieBringUp) (s : State) (d : DieId) : State :=
  let s := s.modDie d (fun x => { x with busy := false })
  let r := s.bringUp d (dieFinds l d) false
  if r.1 then r.2 else r.2.modDie d (fun x => { x with failed := true, gated := true })

/-- WARM_RESET_DONE (R449, R451). -/
def State.warmDone (s : State) (l : List DieBringUp) : State :=
  if !s.pwr.warm || s.job.st.active then s
  else
    let j := s.job.st
    let s := ((s.clearEffects false).resetX).each (allFin 4) (State.warmDie l)
    let s := { s with job := { st := j } }.setJobState .empty
    (s.modPwr (fun x => { x with warm := false })).reachReady

/-- DIE_RESET_DONE (R429). -/
def State.resetDone (s : State) (d : DieId) (b : DieBringUp) : State := s.dieResetDone d b

/-! ### The hosts' ports (R400, R401, R412, R413, R455, R551) -/

/-- A port's function reset, with its DOE mailbox (R412, R481). -/
def State.functionReset (s : State) (h : HostId) : State := (s.portReset h).doeAbort h

/-- CONVENTIONAL_RESET: PERSTn_N, or the link's own reset (R412). -/
def State.conventionalReset (s : State) (h : HostId) : State :=
  if !s.pwr.powered then s
  else
    let down := fun (p : HostPort) => { p with
      up := false, flit := false, width := 0, speed := 0, ready := false, inReset := true }
    (s.functionReset h).modHost h down

/-- Pending vectors sent where they are not masked (R411). -/
def State.firePending (s : State) (h : HostId) : State :=
  s.each (List.range 32) (fun s v =>
    let p := s.hostPort h
    if Store.get (fun _ => false) p.pba v && p.signals v then
      (s.modHost h (fun p => { p with pba := Store.set (fun _ => false) p.pba v false })).emit (.vector h v)
    else s)

/-- PORT_LINK_TRAINING: the port trains and becomes configuration-ready (R391, R455). -/
def State.portTrains (s : State) (h : HostId) (speed width : Nat) : State :=
  if !s.pwr.powered then s
  else (s.modHost h (fun p => { p with
    up := true, ready := true, inReset := false, speed := speed, width := width, flit := decide (speed = 6) })).firePending h

/-- FLR (R412, R415). -/
def State.functionLevelReset (s : State) (h : HostId) : State :=
  if !s.portTakes h && !(s.hostPort h).d3hot then s
  else
    let s := (s.functionReset h).modHost h (fun p => { p with inReset := true })
    s.raise { page := .hif h, bit := 11, cls := 1, kind := hostKind h }

/-- FLR_COMPLETE (R412): not of a port whose link is down. -/
def State.flrDone (s : State) (h : HostId) : State :=
  if (s.hostPort h).up then s.modHost h (fun p => { p with inReset := false }) else s

/-- D3HOT (R413): the way back to D0 sends what waited. -/
def State.setD3 (s : State) (h : HostId) (enter : Bool) : State :=
  if !(s.hostPort h).up then s
  else
    let s := s.modHost h (fun p => { p with d3hot := enter })
    if enter then s else s.firePending h

/-- PCIE_REFCLK_LOSS (R401, R412, R551). -/
def State.pcieRefclkLost (s : State) (h : HostId) : State :=
  if !(s.hostPort h).up then s
  else
    let s := (s.pcieDown h).functionReset h
    s.modHost h (fun p => { p with inReset := true })

/-- FAB_REFCLK_LOSS (R551): the dies lose their clocks, and every fabric port goes DOWN. -/
def State.fabRefclkLost (s : State) : State :=
  let s := { s with tim := { s.tim with fabclk := false } }
  if !s.pwr.powered then s
  else (s.each (allFin 4) (fun s d => s.isolate d 1)).each (allFin 8) State.signalLost

end Sys2Proof.Machine
end

