-- ==== Sys2Proof/Machine/ClockRows.lean ====
section
/-!
DEFINITION. Commands of time, ticks and the power manager's control steps: each is one event of the block.
-/

namespace Sys2Proof.Machine

open Sys2Proof

/-- TICK (R87). -/
def execTick (s : State) : Host.Outcome State Fault Refusal := .next s.tickNow.settle

/-- COPY_AGENT_DONE (R376). -/
def execCopyAgentDone (die : DieId) (s : State) : Host.Outcome State Fault Refusal := .next (s.copyAgent die)

/-- COMMIT_WINDOW_OPEN (R90). -/
def execCommitWindowOpen (s : State) : Host.Outcome State Fault Refusal := .next s.windowOpen

/-- COMMIT_DEADLINE (R91). -/
def execCommitDeadline (s : State) : Host.Outcome State Fault Refusal := .next s.commitDeadline

/-- DISCIPLINE_LOOP (R83). -/
def execDisciplineLoop (s : State) : Host.Outcome State Fault Refusal := .next s.disciplineLoop

/-- HOLDOVER_EXPIRY (R84). -/
def execHoldoverExpiry (s : State) : Host.Outcome State Fault Refusal := .next s.holdoverExpiry

/-- CONTROL_STEP (R433). -/
def execControlStep (t : PowerReadings) (s : State) : Host.Outcome State Fault Refusal := .next (s.controlStep t)

/-- TELEMETRY (R431). -/
def execTelemetry (die : DieId) (t : DieTelemetry) (s : State) : Host.Outcome State Fault Refusal :=
  .next (s.telemetry die t)

/-- VOLTAGE_ACKNOWLEDGE (R432). -/
def execVoltageAcknowledge (die : DieId) (s : State) : Host.Outcome State Fault Refusal := .next (s.voltageAck die)

/-- OWNERSHIP_CHECK (R402). -/
def execOwnershipCheck (s : State) : Host.Outcome State Fault Refusal := .next s.ownershipCheck

/-- PPS_EDGE (R80). -/
def execPpsEdge (t : BitVec 64) (s : State) : Host.Outcome State Fault Refusal := .next (s.ppsEdge t)

/-- REFCLK_10M_LOSS (R551). -/
def execRefclk10mLoss (s : State) : Host.Outcome State Fault Refusal := .next s.refclkLost

/-- REFCLK_10M_RETURN (R551). -/
def execRefclk10mReturn (s : State) : Host.Outcome State Fault Refusal := .next s.refclkBack

/-- FAB_REFCLK_LOSS (R551). -/
def execFabRefclkLoss (s : State) : Host.Outcome State Fault Refusal := .next s.fabRefclkLost

/-- PCIE_REFCLK_LOSS (R551). -/
def execPcieRefclkLoss (h : HostId) (s : State) : Host.Outcome State Fault Refusal := .next (s.pcieRefclkLost h)

/-- SYNC (R81). -/
def execSync (m : PtpMsg) (s : State) : Host.Outcome State Fault Refusal := .next (s.ptpSync m)

/-- ANNOUNCE (R81). -/
def execAnnounce (m : PtpMsg) (s : State) : Host.Outcome State Fault Refusal := .next (s.ptpAnnounce m)

/-- DELAY_RESP (R81). -/
def execDelayResp (m : PtpMsg) (s : State) : Host.Outcome State Fault Refusal := .next (s.ptpDelayResp m)

/-- ANNOUNCE_RECEIPT_TIMEOUT (R81). -/
def execAnnounceReceiptTimeout (s : State) : Host.Outcome State Fault Refusal := .next s.ptpTimeout

/-- FOLLOW_UP (R81). -/
def execFollowUp (m : PtpMsg) (s : State) : Host.Outcome State Fault Refusal := .next (s.ptpFollowUp m)

/-- DELAY_REQ_TIMER (R81). -/
def execDelayReqTimer (t : BitVec 64) (s : State) : Host.Outcome State Fault Refusal := .next (s.ptpDelayReq t)

/-- WHOLE_SECOND (R89). -/
def execWholeSecond (s : State) : Host.Outcome State Fault Refusal := .next s.wholeSecond

/-- FORCE_THROTTLE (R434). -/
def execForceThrottle (s : State) : Host.Outcome State Fault Refusal := .next s.forceThrottle

/-- FORCE_THROTTLE_RELEASE (R433). -/
def execForceThrottleRelease (s : State) : Host.Outcome State Fault Refusal := .next s.forceRelease

/-- THERMAL_TRIP (R436). -/
def execThermalTrip (s : State) : Host.Outcome State Fault Refusal := .next s.thermalTrip

/-- REGULATOR_FAULT (R558). -/
def execRegulatorFault (rail : Fin 5) (s : State) : Host.Outcome State Fault Refusal :=
  .next (s.regulatorFault rail.val)

end Sys2Proof.Machine
end

