-- ==== Sys2Proof/Machine/RegRead.lean ====
section
/-!
DEFINITION. What registers read: the fields that are computed from the state of the blocks (R20, R63, R77, R108,
R110, R144, R208, R239, R241, R270, R272, R305, R336 to R338, R362, R363, R389, R414, R416, R418, R437, R439, R463,
R464, R493, R496, R500 to R502, R516, R524). Every other register reads as stored.
-/

namespace Sys2Proof.Machine

open Sys2Proof

/-! ### System blocks -/

/-- A flag as a field at a bit position. -/
def at_ (b : Bool) (lo : Nat) : Nat := bit b * 2 ^ lo

/-- The mask whose bit n is a flag of die n, n from 0 to 3. -/
def State.dieMask (s : State) (f : Die → Bool) : Nat := ((allFin 4).map (fun d => at_ (f (s.die d)) d.val)).sum

/-- The owner's code (R418). -/
def ownerCode : Option HostId → Nat
  | some .h0 => 0
  | some .h1 => 1
  | none => 3

/-- PENDING of GLB_JOB_STATE: 0 while ARM waits in ARMED (R71, R77). (DEDUCED: log entry 59) -/
def Job.pendingCode (j : Job) : Nat := j.pend.elim 0 (fun p => p.cmd.code)

/-- GLB (R20, R77, R418). (DEDUCED: log entry 59) -/
def State.glbLive (s : State) (o : Nat) : Nat :=
  let w := (s.reg .glb o).toNat
  if o = 0x88 then ((allFin 4).map (fun d =>
    let x := s.die d
    (x.dieId + at_ x.isolated 6 + at_ x.up 7) * 2 ^ (8 * d.val))).sum
  else if o = 0x8C then w % 2 ^ 16 + ownerCode s.owner.host * 2 ^ 16 + at_ (s.alive .h0) 24 +
    at_ (s.alive .h1) 25
  else if o = 0xA0 then s.job.st.code + s.job.pendingCode * 2 ^ 4 + s.job.loadErr * 2 ^ 8
  else w

/-- PWR (R437, R463). -/
def State.pwrLive (s : State) (o : Nat) : Nat :=
  let w := (s.reg .pwr o).toNat
  if o = 0x84 then s.pwr.st.code + s.pwr.target.code * 2 ^ 4 + s.pwr.phase * 2 ^ 8 + s.pwr.lastOff * 2 ^ 16 +
    at_ s.pwr.ready 31
  else if o = 0xB0 then s.dieMask (fun x => x.busy) * 2 ^ 8 + s.dieMask (fun x => x.failed) * 2 ^ 16
  else if o = 0xB4 then s.dieMask (fun x => x.isolated) +
    ((allFin 4).map (fun d => (s.die d).cause * 2 ^ (4 * d.val + 16))).sum
  else if o = 0xB8 then
    let floor := ((allFin 4).map (fun d => at_ ((s.die d).up && s.nowMhz d == s.floorMhz) (8 + d.val))).sum
    w / 2 ^ 16 * 2 ^ 16 + at_ s.pwr.tripped 15 + at_ s.pwr.force 14 + at_ s.pwr.hiPow 13 + floor +
      s.dieMask (fun x => x.hot)
  else w

/-- TIM (R87, R108). -/
def State.timLive (s : State) (o : Nat) : Nat :=
  if o = 0x84 then s.tim.frac.toNat
  else if o = 0x88 then s.now
  else if o = 0x8C then s.now / 2 ^ 32
  else if o = 0x94 then s.tickPhase
  else if o = 0x98 then s.tick
  else if o = 0x9C then s.tick / 2 ^ 32
  else if o = 0xB0 then (BitVec.ofInt 32 s.tim.offset).toNat
  else if o = 0xB4 then s.tim.lock.code + at_ s.tim.ptp.ok 4 + (if s.timeSource = 2 then s.tim.refPorts.toNat else 0) * 2 ^ 8
  else (s.reg .tim o).toNat

/-- Whether a page holds a cause that counts in RAS: an unmasked one, or bits 5 and 6 of ERR_STAT (R362, R503). -/
def State.pageHasError (s : State) (base : Nat) (w : Word) : Bool :=
  (w &&& 0x60) != 0 || decide (0 < classSet s.cls base / 256)

/-- RAS (R362). -/
def State.rasLive (s : State) (o : Nat) : Nat :=
  let w := (s.reg .ras o).toNat
  if o = 0x80 then
    let pages := (s.regs.filter (fun e => e.1 % 4096 == 0x10 && s.pageHasError (e.1 - 0x10) e.2)).length
    w / 2 ^ 31 * 2 ^ 31 + s.highest * 2 ^ 16 + pages
  else w

/-- Words of a list of bytes, little-endian. -/
def wordAt (l : List Byte) (i : Nat) : Nat := leNat ((l.drop (4 * i)).take 4)

/-- SEC (R493). -/
def State.secLive (s : State) (o : Nat) : Nat :=
  let c := s.sec
  if o = 0x80 then c.lifecycle + at_ (c.ownerRoot != zero32) 3 + c.minSvn * 2 ^ 8
  else if o = 0x84 then c.level + at_ c.marked 8
  else if o = 0x88 then bit c.nonce.isSome + c.result * 2 ^ 8 + c.fails * 2 ^ 16
  else if o = 0x8C then c.fwSvn * 2 ^ 8 + at_ c.slotB 16 + c.bootB * 2 ^ 20 + c.bootA * 2 ^ 24 + at_ c.identity 31
  else if o = 0x90 then c.zCause * 2 ^ 24 + at_ c.zDone 29 + at_ c.zBusy 30
  else if o = 0x94 then at_ c.fwDone 8 + c.fwErr * 2 ^ 12 + at_ c.fwBusy 16
  else if o = 0xA4 then c.fwVersion.toNat
  else if 0xC0 ≤ o ∧ o < 0xD0 then wordAt deviceId ((o - 0xC0) / 4)
  else if 0x100 ≤ o ∧ o < 0x200 then wordAt (c.meas.getD ((o - 0x100) / 32) []) (o % 32 / 4)
  else (s.reg .sec o).toNat

/-- CFG (R464). -/
def State.cfgLive (s : State) (o : Nat) : Nat :=
  let c := s.cfg
  if o = 0x80 then at_ c.done 8 + c.err * 2 ^ 12 + at_ c.busy 16 + c.bStatus * 2 ^ 20 + c.aStatus * 2 ^ 24 +
    at_ (c.applied.isSome && c.slotB) 29 + at_ c.applied.isSome 30 + at_ c.rejected 31
  else if o = 0x84 then c.applied.elim 0 (fun i => i.version.toNat)
  else if o = 0x8C then c.applied.elim 0 (fun i => i.count.toNat)
  else (s.reg .cfg o).toNat

/-- TEL: readings for a die that is down read 0 (R512). -/
def State.telLive (s : State) (o : Nat) : Nat :=
  let down := fun (base : Nat) => decide (base ≤ o ∧ o < base + 0x10) && !(s.die (dieAt ((o - base) / 4))).up
  if down 0x90 || down 0xB0 || down 0xD0 then 0
  else if 0x140 ≤ o ∧ o < 0x180 then
    let n := s.telCount ((o - 0x140) / 8)
    if o % 8 = 0 then n else n / 2 ^ 32
  else (s.reg .tel o).toNat

/-- DBG (R516). -/
def State.dbgLive (s : State) (o : Nat) : Nat :=
  if o = 0x80 then s.sec.level + at_ s.sec.marked 8 + (s.cores.filter (fun e => e.2.halt && e.2.cause == 0)).length * 2 ^ 16
  else if 0x90 ≤ o ∧ o < 0xA0 then
    (Store.get (fun _ => (0 : Word)) s.dbg.ring (4 * s.field .dbg 0x8C 9 0 + (o - 0x90) / 4)).toNat
  else if 0xA0 ≤ o ∧ o < 0xB8 then
    ((allFin 192).map (fun c =>
      if c.val / 32 = (o - 0xA0) / 4 then at_ ((s.core c).halt && !s.husk c) (c.val % 32) else 0)).sum
  else (s.reg .dbg o).toNat

/-- HIF (R414). -/
def State.hifLive (s : State) (h : HostId) (o : Nat) : Nat :=
  let p := s.hostPort h
  if o = 0x80 then p.speed + p.width * 2 ^ 4 + at_ p.flit 9 + at_ p.up 10 + (if p.d3hot then 3 * 2 ^ 12 else 0)
  else (s.reg (.hif h) o).toNat

/-- DMA (R416). -/
def State.dmaLive (s : State) (o : Nat) : Nat :=
  let w := (s.reg .dma o).toNat
  if o = 0x80 then ((allFin 16).map (fun c => at_ (s.chanOn c) c.val)).sum
  else if h : 0x100 ≤ o ∧ o < 0x300 then
    let x := s.chan ⟨(o - 0x100) / 0x20, by omega⟩
    if o % 0x20 = 4 then x.st.code + at_ x.phase 2 + x.head * 2 ^ 16
    else if o % 0x20 = 0x1C then x.tail
    else w
  else w

/-! ### Fabric and bridge links -/

/-- FAB (R305, R336). -/
def State.fabLive (s : State) (p : PortId) (o : Nat) : Nat :=
  let q := s.port p
  if o = 0x84 then q.st.code + at_ q.fec 4 + at_ q.parity 5 + at_ q.signal 6 + at_ q.bistFail 7 + q.fails * 2 ^ 8 +
    q.buf.length * 2 ^ 16 + q.cause * 2 ^ 28
  else if 0xA0 ≤ o ∧ o < 0xB0 then
    let c := q.credits.getD ((o - 0xA0) / 4) {}
    c.available + c.limit * 2 ^ 16
  else if o = 0xB0 then q.exp + q.oldest * 2 ^ 16 + at_ q.ackValid 29 + at_ q.discard 31
  else if o = 0xB8 then q.nbCoord.toNat + q.nbPort * 2 ^ 24 + at_ q.nbMismatch 30 + at_ q.nbValid 31
  else if o = 0xBC then q.delay16 % 2 ^ 20 + at_ q.delayValid 31
  else (s.reg (.fab p) o).toNat

/-- Bits of a ring map, from a link on. -/
def State.mapBits (s : State) (ax from_ : Nat) : Nat :=
  ((List.range 32).map (fun i => at_ (Store.get (fun _ => false) s.frt.mapAt (64 * ax + from_ + i)) i)).sum

/-- FRT (R320, R337). -/
def State.frtLive (s : State) (o : Nat) : Nat :=
  if o = 0x84 then
    ((allFin 8).map (fun p => at_ (s.usable p) p.val + at_ (s.frt.absent.contains p) (8 + p.val))).sum
  else if 0x90 ≤ o ∧ o < 0xB0 then s.mapBits ((o - 0x90) / 8) (o % 8 * 8)
  else (s.reg .frt o).toNat

/-- COL (R338). -/
def State.colLive (s : State) (o : Nat) : Nat :=
  if o = 0x80 then s.col.ops.length + s.col.ringCount * 2 ^ 8 + at_ s.stageFull 12 else (s.reg .col o).toNat

/-- D2D (R439). -/
def State.d2dLive (s : State) (l : LinkId) (o : Nat) : Nat :=
  let q := s.link l
  if o = 0x84 then q.st.code + q.width.code * 2 ^ 4 + at_ q.sideband 8 + q.gen * 2 ^ 16 + q.genPeer * 2 ^ 24
  else if o = 0x98 then q.near.toNat + q.far.toNat * 2 ^ 16
  else if o = 0x9C then q.exp + q.oldest * 2 ^ 16 + at_ q.ackValid 29 + at_ (!q.again.isEmpty) 30 + at_ q.discard 31
  else (s.reg (.d2d l) o).toNat

/-! ### Memory and the pipeline machinery -/

/-- HBM (R246, R270). -/
def State.hbmLive (s : State) (t : StackId) (o : Nat) : Nat :=
  let x := s.stack t
  if o = 0x84 then bit x.trained + at_ x.selfRefresh 1 + at_ (s.tempWarn t) 2
  else if o = 0xAC then ((List.range 5).map (fun k => nth (s.arb t).n k * 2 ^ (4 * k))).sum
  else if o = 0xB0 then
    ((s.present t).zipIdx.map (fun e => at_ e.1 e.2)).sum + at_ (decide ((s.arb t).quota ≤ (s.arb t).pri)) 8
  else if o = 0xB8 then s.interleave
  else (s.reg (.hbm t) o).toNat

/-- The ring position that a query register shows (R241, R533). (DEDUCED: log entry 61) -/
def State.queried (s : State) (k : Nat) : Option Pos :=
  (s.ver.shown.find? (fun w => w.id == s.field .ver 0xA0 15 0)).bind (fun w => w.ring[k]?)

/-- The retire tick that a query register shows (R241). -/
def Pos.shownRetire (p : Pos) : Nat :=
  match p.st with
  | .superseded | .retired => p.retire
  | _ => 0

/-- VER (R241). -/
def State.verLive (s : State) (o : Nat) : Nat :=
  let f := s.ver.fetch
  if o = 0x80 then
    let pending := (s.ver.weights.map (fun w => (w.ring.filter (fun p => p.st == .pending)).length)).sum
    s.ver.weights.length + pending * 2 ^ 16
  else if o = 0x88 then f.count + at_ f.err 29 + at_ f.done 30 + at_ f.busy 31
  else if 0xB0 ≤ o ∧ o < 0xC0 then
    (s.queried ((o - 0xB0) / 4)).elim 0 (fun p => p.ver + p.leases * 2 ^ 16 + p.st.code * 2 ^ 24)
  else if 0xC0 ≤ o ∧ o < 0xE0 then
    (s.queried ((o - 0xC0) / 8)).elim 0 (fun p => p.shownRetire / (if o % 8 = 0 then 1 else 2 ^ 32))
  else (s.reg .ver o).toNat

/-- A register of a context (R239). -/
def Ctx.live (x : Ctx) (o : Nat) : Nat :=
  if o = 0 then x.st.code + x.vstage * 2 ^ 4 + at_ x.captured 30 + at_ x.endPending 31
  else if o = 4 then x.mb.toNat
  else if o = 8 then x.stashBase / 4096
  else x.stashLen / 4096

/-- MBQ (R239). (DEDUCED: log entry 28) -/
def State.mbqLive (s : State) (o : Nat) : Nat :=
  if o = 0x80 then (s.mbq.ctxs.filter (fun e => e.2.st != .free)).length + s.mbq.queues.length * 2 ^ 16
  else if o = 0x90 then (s.sect 9).1
  else if o = 0x94 then (s.sect 9).1 / 2 ^ 32
  else if 0x200 ≤ o ∧ o < 0x500 then (s.ctx ((o - 0x200) / 16)).live (o % 16)
  else (s.reg .mbq o).toNat

/-- ORPHANS: logical cores without a physical core in the current slot (R97, R110). -/
def State.orphans (s : State) : Nat :=
  if s.cad.live.isEmpty && !s.cad.dispatched then 0 else 192 - s.cad.live.length

/-- CAD (R97, R104, R110). -/
def State.cadLive (s : State) (o : Nat) : Nat :=
  if o = 0x8C then s.cad.kind.code + at_ s.cad.dispatched 7 +
    at_ (s.cad.dispatched && s.tim.window && !s.cad.overrun.isEmpty) 8 + s.cad.entry * 2 ^ 16
  else if o = 0x94 then s.husks + s.orphans * 2 ^ 16
  else if 0x100 ≤ o ∧ o < 0x1C0 then
    ((List.range 4).map (fun i => Store.get (fun _ => 0xFF) s.cad.live (o - 0x100 + i) * 2 ^ (8 * i))).sum
  else (s.reg .cad o).toNat

/-! ### Checkpoints and checking -/

/-- Per cent of the buddy drain done (R389). -/
def Drain.pct (d : Drain) : Nat := if d.total = 0 then 0 else 100 * d.sent / d.total

/-- Whether a point is being written or read (R389). (DESIGN CHOICE: log entry 71) -/
def State.pointBusy (s : State) (k : Nat) : Bool :=
  let g := s.geo
  let inbound := fun (b : Bool) => g.inDrain.any (fun e => e.1 == b) || g.inRead.contains (2 + bit b)
  if k < 2 then g.copying.any (fun c => bit c.slotB == k) || s.slotRead (k == 1) else inbound (k == 3)

/-- INFO of a point (R389). -/
def State.pointInfo (s : State) (k : Nat) : Nat :=
  let p := s.point k
  let a := s.point (k / 2 * 2)
  let b := s.point (k / 2 * 2 + 1)
  let newest := p.valid && (newestSecond a b == (k % 2 == 1))
  (if p.valid then destOfCoord p.origin else 0) + at_ (s.pointBusy k) 29 + at_ newest 30 + at_ p.valid 31

/-- GEO (R371, R374, R389). -/
def State.geoLive (s : State) (o : Nat) : Nat :=
  let g := s.geo
  let half := fun (v : Nat) => if o % 8 = 0 then v else v / 2 ^ 32
  if o = 0x80 ∨ o = 0x84 then half g.base
  else if o = 0x88 ∨ o = 0x8C then half g.len
  else if o = 0x94 then
    (match s.buddyHello with
    | none => 0
    | some h => h.feed.toNat + at_ s.buddyUsable 29 + at_ s.sameFeed 30 + 2 ^ 31)
  else if o = 0x9C then bit (s.newestLocal.getD false) + at_ g.copying.isSome 1 + g.last * 2 ^ 16 +
    at_ g.durCommitted 29 + at_ g.torn 30 + at_ g.enabled 31
  else if o = 0xA4 then g.drain.st.code + at_ g.drain.slotB 4 + g.drain.result * 2 ^ 16 + g.drain.pct * 2 ^ 24
  else if o = 0xA8 then g.slotLen / 2 ^ 16
  else if o = 0xB0 then g.step.toNat
  else if o = 0xB4 then g.step.toNat / 2 ^ 32
  else if o = 0xC4 then g.host.st + at_ g.host.durable 3 + g.host.err * 2 ^ 16 + g.host.attempts * 2 ^ 24
  else if o = 0xDC then g.restore.err + at_ g.restore.done 30 + at_ g.restore.busy 31
  else if o = 0xE0 ∨ o = 0xE4 then (if g.enabled then half (s.fileLen false) else 0)
  else if o = 0xE8 ∨ o = 0xEC then (if g.enabled then half (s.fileLen true) else 0)
  else if 0x100 ≤ o ∧ o < 0x140 then
    let k := (o - 0x100) / 16
    let p := s.point k
    if o % 16 = 0 then p.step.toNat
    else if o % 16 = 4 then p.step.toNat / 2 ^ 32
    else if o % 16 = 8 then p.tick.toNat
    else s.pointInfo k
  else (s.reg .geo o).toNat

/-- FLT (R363). -/
def State.fltLive (s : State) (o : Nat) : Nat :=
  let w := s.flt.sweep
  if o = 0x9C then w.cores + w.failed * 2 ^ 16 + at_ w.aborted 29 + at_ w.done 30 + at_ w.busy 31
  else if o = 0xC0 then
    ((allFin 4).map (fun d => at_ (s.flt.active.any (fun e => decide (e.1 = d))) d.val)).sum + s.flt.last * 2 ^ 8
  else (s.reg .flt o).toNat

/-! ### Cores -/

/-- Whether a core's sequencer runs a list (R63). -/
def Core.running? (x : Core) : Bool :=
  match x.run with
  | some r => !r.ended && !r.faulted
  | none => false

/-- CORE (R63, R146). (DEDUCED: log entry 28) -/
def State.coreLive (s : State) (c : CoreId) (o : Nat) : Nat :=
  let x := s.core c
  let w := (s.reg (.core c) o).toNat
  if o = 0x80 then x.logical.elim 0xFF (fun l => l + 2 ^ 31)
  else if o = 0x84 then x.cause * 2 ^ 8 + at_ (s.husk c) 31
  else if o = 0x88 then x.ptr % 2 ^ 26 + at_ x.running? 31
  else if o = 0x90 then (if s.husk c then w % 2 ^ 31 else w)
  else w

/-- ARR (R123, R138, R144): PAUSED while a halted core has nothing running. (DEDUCED: log entries 14, 28) -/
def State.arrLive (s : State) (c : CoreId) (o : Nat) : Nat :=
  let x := s.core c
  if o = 0x84 then x.status.code + at_ x.abortLate 8 + at_ (x.halt && x.held.isEmpty) 9 +
    at_ x.shadow.isSome 10 + x.d * 2 ^ 16
  else if o = 0x90 then x.lastGated
  else (s.reg (.arr c) o).toNat

/-- VEC (R208). -/
def State.vecLive (s : State) (c : CoreId) (o : Nat) : Nat :=
  let x := s.core c
  if o = 0x80 then x.queued .vec + x.vecOp * 2 ^ 8
  else if o = 0x88 then min 0xFFFFFFFF x.lastBeats
  else (s.reg (.vec c) o).toNat

/-- CDMA (R272). -/
def State.cdmaLive (s : State) (c : CoreId) (o : Nat) : Nat :=
  let x := s.core c
  if o = 0x80 then x.queued .cdma + x.cdmaOp * 2 ^ 8 else if o = 0x84 then min 0xFFFFFFFF x.lastBlocks else (s.reg (.cdma c) o).toNat

/-- CST (R272). -/
def State.cstLive (s : State) (c : CoreId) (o : Nat) : Nat :=
  if o = 0x80 then (s.core c).written.length else (s.reg (.cst c) o).toNat

/-! ### The header (R496 to R502, R524) -/

/-- Whether the die that serves a page is up, X counting as up. -/
def State.pageUp (s : State) (b : Blk) : Bool :=
  match b.die with
  | none => true
  | some d => (s.die d).up

/-- Whether a page is one of those that a warm reset leaves answering (R451). (DEDUCED: log entry 29) -/
def Blk.inWarm : Blk → Bool
  | .glb | .pwr | .sec | .cfg => true
  | _ => false

/-- Whether a page answers for itself (R29, R451). (DEDUCED: log entry 29) -/
def State.answers (s : State) (b : Blk) : Bool := s.pageUp b && (!s.pwr.warm || b.inWarm)

/-- READY of a page (R501, R524). -/
def State.ready (s : State) (b : Blk) : Bool :=
  match b with
  | .glb => s.pwr.ready
  | .sec => s.sec.booted
  | .cfg => s.sec.booted
  | .hif h => (s.hostPort h).ready
  | .core c | .arr c | .vec c | .cdma c | .cst c => (s.die (coreDie c)).up && (s.core c).passed && !s.husk c
  | .hbm t => (s.stack t).trained
  | .d2d l => decide ((s.link l).st = .up)
  | _ => s.pwr.powered

/-- Whether a link of a bridge is on its way up. -/
def LinkState.moving : LinkState → Bool
  | .training | .handshake | .retrain => true
  | _ => false

/-- BUSY of a page (R501, R524). -/
def State.busy (s : State) (b : Blk) : Bool :=
  match b with
  | .glb => decide (s.job.st = .loading ∨ s.job.st = .clearing)
  | .pwr => decide (s.pwr.target ≠ s.pwr.st) || decide (0 < s.dieMask (fun x => x.busy))
  | .tim => decide (s.tim.lock = .acquiring)
  | .sec => s.sec.zBusy || s.sec.fwBusy || s.sec.doe0.work.isSome || s.sec.doe1.work.isSome ||
      s.sec.mailI3c.work.isSome
  | .cfg => s.cfg.busy
  | .hif h => (s.hostPort h).inReset
  | .dma => (allFin 16).any (fun c => decide ((s.chan c).st = .running ∨ (s.chan c).st = .stopping))
  | .fab p => decide ((s.port p).st = .training ∨ (s.port p).st = .retrain)
  | .col => !s.col.ops.isEmpty || decide (0 < s.col.ringCount)
  | .d2d l => (s.link l).st.moving
  | .hbm t => (s.stack t).filling || (s.stack t).retraining
  | .ver => s.ver.fetch.busy
  | .cad => decide (s.job.st = .loading)
  | .geo => s.geo.copying.isSome || decide (s.geo.drain.st ≠ .idle) || s.geo.host.st == 1 || s.geo.host.st == 2 ||
      s.geo.restore.busy
  | .flt => s.flt.sweep.busy || !s.flt.active.isEmpty
  | .core c => (s.core c).running?
  | .arr c => decide ((s.core c).status = .running ∨ (s.core c).status = .held)
  | .vec c => decide (0 < (s.core c).inUnit .vec)
  | .cdma c => decide (0 < (s.core c).inUnit .cdma)
  | .ras | .tel | .dbg | .frt | .mbq | .cst _ => false

/-- POWER_STATE of BLK_STAT (R500). -/
def PowerState.pageCode : PowerState → Nat
  | .run => 1
  | .idle => 2
  | .retain => 3
  | .starting | .off => 0

/-- Whether the domain that holds a page is powered (R441, R500). -/
def State.pagePowered (s : State) (b : Blk) : Bool :=
  match b with
  | .sec | .cfg => true
  | _ => (match b.die with
    | none => s.pwr.powered
    | some d => s.diePowered d)

/-- Whether a page is one of the five of a husk. -/
def State.pageHusk (s : State) (b : Blk) : Bool :=
  match b.coreOf with
  | none => false
  | some c => s.husk c

/-- A header register of a page that answers for itself (R496, R498 to R502). (DEDUCED: log entry 29) -/
def State.headerLive (s : State) (b : Blk) (o : Nat) : Nat :=
  if o = 0 then b.typeCode * 2 ^ 24 + b.inst * 2 ^ 16 + 0x0200
  else if o = 4 then b.cap
  else if o = 8 then (if b = .flt then bit s.flt.enable else 1) + at_ (s.flag b 8 3) 3
  else if o = 0xC then bit (s.ready b) + at_ (s.busy b) 1 + at_ (s.pageHusk b) 2 + at_ (s.pagePowered b) 3 +
    s.pwr.st.pageCode * 2 ^ 4
  else if o = 0x10 then (s.errStat b).toNat
  else (s.reg b o).toNat

/-- A register of a page that answers for itself. -/
def State.live (s : State) (b : Blk) (o : Nat) : Word :=
  BitVec.ofNat 32 (if o < 0x80 then s.headerLive b o
    else match b with
    | .glb => s.glbLive o
    | .pwr => s.pwrLive o
    | .tim => s.timLive o
    | .sec => s.secLive o
    | .cfg => s.cfgLive o
    | .ras => s.rasLive o
    | .tel => s.telLive o
    | .dbg => s.dbgLive o
    | .hif h => s.hifLive h o
    | .dma => s.dmaLive o
    | .fab p => s.fabLive p o
    | .frt => s.frtLive o
    | .col => s.colLive o
    | .d2d l => s.d2dLive l o
    | .hbm t => s.hbmLive t o
    | .ver => s.verLive o
    | .mbq => s.mbqLive o
    | .cad => s.cadLive o
    | .geo => s.geoLive o
    | .flt => s.fltLive o
    | .core c => s.coreLive c o
    | .arr c => s.arrLive c o
    | .vec c => s.vecLive c o
    | .cdma c => s.cdmaLive c o
    | .cst c => s.cstLive c o)

end Sys2Proof.Machine
end

