-- ==== Sys2Proof/Machine/RegWrite.lean ====
section
/-!
DEFINITION. What a write does to a register of a page that answers (R12, R343, R402, R418, R499, R564, R566 and the
register rules of each block), and SOFT_RESET (R452, R525). A write answers whether it was a violation, with the
state after it; GLB_JOB_CMD and DBG_MEM_DATA have their own modules.
-/

namespace Sys2Proof.Machine

open Sys2Proof

/-- What became of a write: whether it was a violation, and the state after it. -/
abbrev Wrote := Bool × State

/-- Who writes: a requester, and whether its writes count as the owner's. LOAD writes PRESET records as the owner
(R44). -/
structure Writer where
  who    : Requester
  own    : Bool
  preset : Bool := false
  deriving DecidableEq, Repr

/-- The host port of a writer; LOAD and JTAG have none. (DEDUCED: log entry 22) -/
def Writer.port (x : Writer) : Option HostId :=
  match x.who with
  | .mmio h => if x.preset then none else some h
  | _ => none

/-! ### The access codes (R12, R564) -/

/-- A mask as a word. -/
def maskW (n : Nat) : Word := BitVec.ofNat 32 n

/-- Bits that a non-owner's write would change or start (R564). (DEDUCED: log entry 21) -/
def RegRow.refuses (r : RegRow) (x : Writer) (old w : Word) : Bool :=
  !x.own && (((old ^^^ w) &&& maskW r.rwo) != 0 || (w &&& maskW r.act) != 0)

/-- The word that a write leaves: RW fields, RWO fields of the owner, RWL fields while they are not frozen, and
RW1C
bits cleared. (DEDUCED: log entry 21) -/
def RegRow.after (r : RegRow) (x : Writer) (lock : Bool) (old w : Word) : Word :=
  let m := maskW r.rw ||| (if x.own then maskW r.rwo else 0) ||| (if lock then 0 else maskW r.rwl)
  ((old &&& ~~~m) ||| (w &&& m)) &&& ~~~(w &&& maskW r.w1c)

/-- A write taken field by field, of a register whose fields are stored; a value that is not allowed leaves it
unchanged. -/
def State.plain (s : State) (x : Writer) (b : Blk) (r : RegRow) (w : Word) : Wrote :=
  let lock := s.flag b 8 3
  let old := s.reg b r.off
  let new := r.after x lock old w
  if valueOk s.word b r.off new then (r.refuses x old w || (lock && r.rwl != 0), s.setReg b r.off new)
  else (true, s)

/-- A write that is a violation outside a condition. (DEDUCED: log entry 21) -/
def State.plainIf (s : State) (ok : Bool) (x : Writer) (b : Blk) (r : RegRow) (w : Word) : Wrote :=
  if ok then s.plain x b r w else (true, s)

/-- What follows a write, whether or not a part of it was refused. -/
def Wrote.then (r : Wrote) (f : State → State) : Wrote := (r.1, f r.2)

/-- Job states EMPTY and LOAD_FAILED, in which LOAD is accepted: LOAD's own writes count as made there. (DEDUCED:
log entry 36) -/
def State.jobIdle (s : State) (x : Writer) : Bool :=
  x.preset || decide (s.job.st = .empty) || decide (s.job.st = .loadFailed)

/-! ### The header: errors, masks and interrupts (R342, R343, R502, R503, R506, R520) -/

/-- The highest class that a cause can take in any job state, without its ERR_SEV bit; 0 for no cause (R109, R145,
R209, R240, R242, R271, R273, R306, R339, R364, R390, R415, R417, R438, R440, R465, R494, R508, R514, R52). -/
def State.maxClass (s : State) (b : Blk) (bt : Nat) : Nat :=
  let pick := fun (l : List (Nat × Nat)) => ((l.find? (fun e => e.1 == bt)).map (·.2)).getD 0
  match b with
  | .glb => pick [(8, 2), (9, 4)]
  | .pwr => pick [(8, 4), (9, 4), (10, 2), (11, 1), (12, 1), (13, 4)]
  | .tim => pick [(8, 3), (9, 1), (10, 3), (11, 3)]
  | .sec => pick [(8, 2), (9, 2), (10, 2), (11, 4)]
  | .cfg => pick [(8, 2), (9, 2)]
  | .ras => pick [(8, 1), (9, 3)]
  | .tel => pick [(8, 1)]
  | .dbg => 0
  | .hif _ => pick [(8, 2), (9, 2), (10, 2), (11, 1)]
  | .dma => pick [(8, 2), (9, 2), (10, 2)]
  | .fab _ => if within 8 11 bt then 1 else if bt = 15 then 3 else if within 12 18 bt then 2 else 0
  | .frt => pick [(8, 2), (9, 2), (10, 3), (11, 2)]
  | .col => pick [(8, 3), (9, 3)]
  | .d2d _ => if within 8 11 bt then 1 else if bt = 14 then 3 else if within 12 15 bt then 2 else 0
  | .hbm _ => pick [(8, 1), (9, 2), (10, 1), (11, 4)]
  | .ver => if bt = 18 then 4 else if within 10 15 bt || bt == 19 || bt == 20 then 3 else if within 8 17 bt then 2 else 0
  | .mbq => if within 8 10 bt then 3 else 0
  | .cad => pick [(8, 3), (9, 3), (10, 4)]
  | .geo => if bt = 9 then 1 else if bt = 10 then 3 else if bt = 11 then (if s.feedWarn then 1 else 2)
    else if within 8 16 bt then 2 else 0
  | .flt => pick [(8, 1), (9, 1), (10, 2), (11, 2), (12, 2), (13, 1)]
  | .core _ => if bt = 15 then 4 else if within 8 14 bt then 3 else 0
  | .arr _ | .vec _ => if within 8 10 bt then 2 else 0
  | .cdma _ => pick [(8, 2)]
  | .cst _ => pick [(8, 1), (9, 2), (10, 2)]

/-- The causes of a page that cannot be masked (R343). -/
def State.fatalMask (s : State) (b : Blk) : Nat :=
  ((List.range 32).map (fun k => at_ (decide (8 ≤ k ∧ 3 ≤ s.maxClass b k + bit (s.flag b 0x18 k))) k)).sum

/-- ERR_MASK without the bits of causes that cannot be masked (R343). -/
def State.cleanMask (s : State) (b : Blk) : State := s.setReg b 0x14 (s.reg b 0x14 &&& ~~~maskW (s.fatalMask b))

/-- ERR_STAT bits cleared: the class bits follow, and with them RAS (R502, R503). -/
def State.clearErrors (s : State) (b : Blk) (w : Word) : State :=
  let gone := fun (a : Nat) => decide (b.base ≤ a ∧ a < b.base + 32) && wbit w (a - b.base)
  s.settleAlert
    { s.setReg b 0x10 (s.reg b 0x10 &&& ~~~(w &&& maskW 0xFFFFFF61)) with cls := Store.keep (fun a => !gone a) s.cls }

/-- The channels bound to a writer's port, as a mask. -/
def State.boundMask (s : State) (x : Writer) : Word :=
  maskW ((allFin 16).map (fun c => at_ (x.port == some (s.chanHost c)) c.val)).sum

/-- IRQ_EN and IRQ_STAT of the DMA page: each bit from the port of its channel only (R520). -/
def State.writeDmaIrq (s : State) (x : Writer) (o : Nat) (w : Word) : Wrote :=
  let w := w &&& 0xFFFF
  let m := s.boundMask x
  let old := s.reg .dma o
  let new := if o = 0x34 then (old &&& ~~~m) ||| (w &&& m) else old &&& ~~~(w &&& m)
  ((w &&& ~~~m) != 0, s.setReg .dma o new)

/-! ### SOFT_RESET (R452, R525) -/

/-- The registers of a page that a SOFT_RESET keeps: the header, counters and what R525 names. TIM's tick and time
counters count as counters. (DESIGN CHOICE: log entry 25) -/
def Blk.softKeeps (b : Blk) (o : Nat) : Bool :=
  decide (o < 0x80) || (match b with
    | .tim => o == 0xB8
    | .tel => decide (0x140 ≤ o)
    | .dbg => o == 0x88
    | .hif _ => o == 0x90 || o == 0x94
    | .fab _ => within 0x8C 0x98 o || o == 0xB4
    | .frt => o == 0x88
    | .col => o == 0x84
    | .d2d _ => within 0x8C 0x94 o
    | .hbm _ => within 0x88 0x98 o || o == 0xB4 || o == 0xB8
    | .mbq => o == 0x84 || o == 0x88
    | .flt => o == 0x8C || within 0xA0 0xB4 o || o == 0xC4 || o == 0xC8
    | .core _ => true
    | .arr _ => o == 0x80 || o == 0x8C
    | .vec _ => o == 0x84
    | .cst _ => o == 0x84 || o == 0x88
    | _ => false)

/-- A core's working state and status at reset: the fence and the counters stay (R36, R452). (DESIGN CHOICE: log
entry 25) -/
def Core.softReset (x : Core) : Core :=
  { x.resetWork with
    logical := none, run := none, own := none, ptr := 0, fly := [], status := .idle, d := 0, abortLate := false
    vecOp := 0, cdmaOp := 0, gated := 0, cells := 0, lastGated := 0 }

/-- A core reset (R452, R525). -/
def State.coreReset (s : State) (c : CoreId) : State :=
  let s := (s.modCore c Core.softReset).leaveFlint c
  s.each [Blk.arr c, .vec c, .cdma c, .cst c] (fun s b => s.resetPage b b.softKeeps)

/-- Requests of an owner abandoned: their answers are discarded. -/
def Tracker.quit (p : ReqOwner → Bool) (t : Tracker) : Tracker := if p t.owner then { t with dead := true } else t

/-- What SOFT_RESET does to the state behind a page (R452, R525). (DESIGN CHOICE: log entry 25) -/
def State.softState (s : State) (b : Blk) : State :=
  match b with
  | .tim => { s with tim := { now := s.tim.now, frac := s.tim.frac, tick := s.tim.tick, refclk := s.tim.refclk
                              fabclk := s.tim.fabclk } }
  | .dbg => { s.releaseCores with dbg := {} }
  | .hif h => s.modHost h (fun p => { p with reads := [], posts := [] })
  | .dma =>
    let isDma := fun (q : ReqOwner) => match q with
      | .dma _ => true
      | _ => false
    { s with chans := [], trackers := s.trackers.map (Tracker.quit isDma) }
  | .fab p =>
    let s := s.fall p 0
    let s := s.modPort p (fun q => { q.fresh with wake := true, cause := 0 })
    s.setPortState p (if s.linkEn p then .down else .disabled)
  | .frt => { s with frt := { s.frt with recs := [] } }
  | .col => (s.each s.col.owed (fun s p => s.freeCredit p 2)) |> fun s =>
      { s with col := { s.col with staged := [], owed := [] } }
  | .d2d l => s.d2dRetrain l
  | .hbm t => s.setArb t { blocks := (s.arb t).blocks }
  | .ver => { s with ver := {} }
  | .mbq => { s with mbq := {} }
  | .cad => { s with cad := {} }
  | .geo => s.clearGeode |> fun s => { s with geo := { hello := s.geo.hello, mismatch := s.geo.mismatch, same := s.geo.same } }
  | .flt => { s with flt := {} }
  | _ => s

/-- Whether a SOFT_RESET of a page is accepted (R452, R525). -/
def State.softOk (s : State) (b : Blk) : Bool :=
  let idle := decide (s.job.st = .empty) || decide (s.job.st = .loadFailed)
  !s.job.st.active && (match b with
    | .glb | .pwr | .sec | .cfg | .ras => false
    | .core c | .arr c | .vec c | .cdma c | .cst c => !s.flt.sweep.busy && !(s.core c).halt
    | .d2d l => s.endsPowered l
    | .frt | .ver | .mbq | .cad | .geo => idle
    | .flt => !s.flt.sweep.busy && s.flt.active.isEmpty
    | _ => true)

/-- SOFT_RESET of a page: its fields and internal state at reset, then its Shale records (R452, R525). (DESIGN
CHOICE: log entry 25) -/
def State.softReset (s : State) (b : Blk) : State :=
  match b.coreOf with
  | some c => (s.coreReset c).applyShale (fun q o =>
      (decide (q = .vec c) || decide (q = .cdma c) || decide (q = .cst c) || decide (q = .arr c)) && !q.softKeeps o)
  | none =>
    let s := if b = .tel then s.foldGrants else s
    let s := (s.resetPage b b.softKeeps).applyShale (fun q o => decide (q = b) && !b.softKeeps o)
    s.softState b

/-! ### BLK_CTL and the rest of the header (R499, R523) -/

/-- BLK_CTL (R499, R523, R525). -/
def State.writeBlkCtl (s : State) (x : Writer) (b : Blk) (w : Word) : Wrote :=
  let lock := wbit w 3 && !s.flag b 8 3
  let fence := wbit w 2 && b.coreOf.isSome
  let soft := wbit w 1
  let enable := decide (b = .flt) && wbit w 0 != s.flt.enable
  if !x.own then (lock || fence || soft || enable, s)
  else if (soft && !s.softOk b) || (enable && s.job.st.active) then (true, s)
  else
    let s := if lock then s.setFlag b 8 3 true else s
    let s := if enable then { s with flt := { s.flt with enable := wbit w 0 } } else s
    let s := match b.coreOf with
      | some c => if fence then s.fence c 4 else s
      | none => s
    (false, if soft then s.softReset b else s)

/-- A header register (R495). -/
def State.writeHead (s : State) (x : Writer) (b : Blk) (r : RegRow) (w : Word) : Wrote :=
  if r.off = 8 then s.writeBlkCtl x b w
  else if r.off = 0x10 then (false, s.clearErrors b w)
  else if r.off = 0x14 then s.plain x b r (w &&& ~~~maskW (s.fatalMask b))
  else if r.off = 0x18 then (s.plain x b r w).then (fun s => s.cleanMask b)
  else if b = .dma ∧ (r.off = 0x34 ∨ r.off = 0x38) then s.writeDmaIrq x r.off w
  else s.plain x b r w

/-! ### GLB and PWR (R77, R308, R401, R402, R418, R429, R437, R463) -/

/-- A change of ownership asked for by REQ; no answer: not accepted (R402). (DEDUCED: log entry 22) -/
def State.requestOwner (s : State) (x : Writer) (req : Nat) : Option State :=
  let own := x.own && s.owner.host.isSome
  match x.port with
  | some h =>
    if req = 1 then
      if s.owner.host = some h then some s
      else if s.alive h && (s.owner.host.elim true (fun o => !s.alive o)) then
        some (s.setOwner (some h))
      else none
    else if s.owner.host ≠ some h then none
    else if req = 2 then some (s.setOwner none)
    else if s.alive (otherHost h) then some (s.setOwner (some (otherHost h)))
    else none
  | none =>
    match s.owner.host with
    | none => none
    | some h =>
      if !own then none
      else if req = 1 then some s
      else if req = 2 then some (s.setOwner none)
      else if s.alive (otherHost h) then some (s.setOwner (some (otherHost h)))
      else none

/-- A heartbeat: from its own port only (R401, R418). -/
def State.writeHeartbeat (s : State) (x : Writer) (h : HostId) (r : RegRow) (w : Word) : Wrote :=
  if x.port = some h then
    (false, (s.setReg .glb r.off w).modHost h (fun p => { p with beat := true, ageMs := 0 }))
  else (true, s)

/-- GLB, the job command apart. -/
def State.writeGlb (s : State) (x : Writer) (r : RegRow) (w : Word) : Wrote :=
  if r.off = 0x8C then
    if fld w 21 20 = 0 then s.plainIf x.own x .glb r w
    else
      match s.requestOwner x (fld w 21 20) with
      | some s => (false, s)
      | none => (true, s)
  else if r.off = 0x90 then s.writeHeartbeat x .h0 r w
  else if r.off = 0x94 then s.writeHeartbeat x .h1 r w
  else if r.off = 0x9C ∨ (0xB0 ≤ r.off ∧ r.off ≤ 0xB8) then s.plainIf (s.jobIdle x) x .glb r w
  else s.plain x .glb r w

/-- PWR_STATE_REQ (R444, R451, R463): both requests are accepted, or the write is a violation. -/
def State.writePowerReq (s : State) (x : Writer) (w : Word) : Wrote :=
  if !x.own then ((w &&& 0x107) != 0, s)
  else
    match s.requestPower (fld w 2 0) with
    | none => (true, s)
    | some t =>
      if wbit w 8 then
        match t.startWarm with
        | none => (true, s)
        | some t => (false, t)
      else (false, t)

/-- The dies whose bit is set in a word. -/
def dieBits (w : Word) : List DieId := (allFin 4).filter (fun d => wbit w d.val)

/-- PWR (R427, R429, R437). -/
def State.writePwr (s : State) (x : Writer) (r : RegRow) (w : Word) : Wrote :=
  if r.off = 0x80 then s.writePowerReq x w
  else if r.off = 0xB0 then
    if !x.own then ((w &&& 0xF) != 0, s)
    else if (dieBits w).any (fun d => (s.die d).busy) then (true, s)
    else (false, s.each (dieBits w) State.dieReset)
  else if r.off = 0xB4 then
    if !x.own then ((dieBits w).any (fun d => !(s.die d).isolated), s)
    else (false, s.each (dieBits w) (fun s d => s.isolate d 7))
  else s.plain x .pwr r w

/-! ### TIM (R80, R87, R88, R108, R566) -/

/-- The value held per requester (R535, R566). -/
def heldOf (l : List (Requester × Word)) (q : Requester) : Option Word := (l.find? (fun e => e.1 == q)).map (·.2)

/-- The held values without those of a requester. -/
def dropHeld (l : List (Requester × Word)) (q : Requester) : List (Requester × Word) := l.filter (fun e => e.1 != q)

/-- The values held for TIM_NOW changed. -/
def State.setHeld (s : State) (l : List (Requester × Word)) : State := { s with tim := { s.tim with held := l } }

/-- TIM_NOW_LO and TIM_NOW_HI: set as a pair (R108, R566). -/
def State.writeNow (s : State) (x : Writer) (o : Nat) (w : Word) : Wrote :=
  if !x.own then (decide (w ≠ BitVec.ofNat 32 (s.timLive o)), s)
  else if s.tickEn || !(s.timeSource == 0 || s.timeSource == 3) then (true, s)
  else if o = 0x88 then (false, s.setHeld (dropHeld s.tim.held x.who ++ [(x.who, w)]))
  else
    match heldOf s.tim.held x.who with
    | none => (true, s)
    | some lo =>
      let v := BitVec.ofNat 64 (w.toNat * 2 ^ 32 + lo.toNat)
      (false, { s.setHeld (dropHeld s.tim.held x.who) with
        tim := { s.tim with now := v, frac := 0, held := dropHeld s.tim.held x.who } })

/-- What follows a change of TIM_CTL (R80, R84, R87, R566). -/
def State.timCtlChanged (was : State) (s : State) : State :=
  let moved := was.tickEn != s.tickEn || was.timeSource != s.timeSource
  let s := if moved then s.setHeld [] else s
  let s := if s.tickEn && !was.tickEn then
      { s with tim := { s.tim with tickAt := none, window := false, deadline := false } }
    else s
  if was.timeSource ≠ s.timeSource ∧ s.timeSource = 0 then s.setLock .free else s

/-- TIM (R80, R88, R108). -/
def State.writeTim (s : State) (x : Writer) (r : RegRow) (w : Word) : Wrote :=
  let fixed := [0x90, 0xA0, 0xA4, 0xA8, 0xBC].contains r.off
  if r.off = 0x88 ∨ r.off = 0x8C then s.writeNow x r.off w
  else if r.off = 0x80 then
    let changes := (s.tickEn && !wbit w 0) || fld w 2 1 != s.timeSource
    if x.own && s.job.st.active && changes then (true, s) else (s.plain x .tim r w).then s.timCtlChanged
  else s.plainIf (!(fixed && s.tickEn)) x .tim r w

/-! ### SEC, CFG, RAS, TEL and DBG (R362, R461, R464, R476, R488, R490, R493, R512, R515, R516) -/

/-- The read of an update image through the port that wrote GO (R461, R476). -/
def State.readImage (s : State) (x : Writer) (b : Blk) (src len : Nat) : State :=
  match x.port with
  | none => s
  | some h => s.emit (.hostRead h (s.reg64 b src) (s.reg b len).toNat)

/-- A write of 1 to a GO bit that only the owner may start: what it starts, where it is accepted. (DEDUCED: log
entry 20) -/
def State.startBy (s : State) (x : Writer) (go : Bool) (f : State → Option State) : Wrote :=
  if !go then (false, s)
  else if !x.own then (true, s)
  else
    match f s with
    | some s => (false, s)
    | none => (true, s)

/-- SEC (R476, R488, R490, R493). (DEDUCED: log entry 49) -/
def State.writeSec (s : State) (x : Writer) (r : RegRow) (w : Word) : Wrote :=
  if r.off = 0x88 then s.startBy x (wbit w 31) (fun s => some s.relock)
  else if r.off = 0x90 then
    let t := if wbit w 29 then s.modSec (fun c => { c with zDone := false }) else s
    let r := t.startBy x (wbit w 31) (fun s => if s.controlOk then some (s.startZero 1) else none)
    (r.1, if r.1 && x.own then s else r.2)
  else if r.off = 0x94 then
    let t := if wbit w 8 then s.modSec (fun c => { c with fwDone := false }) else s
    let r := t.startBy x (wbit w 31) (fun s => s.startFw.map (fun s => s.readImage x .sec 0x98 0xA0))
    (r.1, if r.1 && x.own then s else r.2)
  else s.plain x .sec r w

/-- CFG (R461, R464). -/
def State.writeCfg (s : State) (x : Writer) (r : RegRow) (w : Word) : Wrote :=
  if r.off = 0x80 then (false, if wbit w 8 then { s with cfg := { s.cfg with done := false } } else s)
  else if r.off = 0x88 then
    s.startBy x (wbit w 31) (fun s => s.startShale.map (fun s => s.readImage x .cfg 0x90 0x98))
  else s.plain x .cfg r w

/-- RAS (R362). -/
def State.writeRas (s : State) (x : Writer) (r : RegRow) (w : Word) : Wrote :=
  (s.plain x .ras r w).then s.settleAlert

/-- TEL (R512, R513): CLEAR and a new selection zero counters, which take in the blocks granted first. -/
def State.writeTel (s : State) (x : Writer) (r : RegRow) (w : Word) : Wrote :=
  let sel := decide (0x100 ≤ r.off ∧ r.off < 0x120)
  let u := if sel || r.off == 0x80 then s.foldGrants else s
  let q := u.plain x .tel r w
  let zero := fun (s : State) (k : Nat) => s.setReg64 .tel (0x140 + 8 * k) 0
  if q.1 then (true, s)
  else if r.off = 0x80 then
    let t := q.2.setFlag .tel 0x80 1 false
    (false, if wbit w 1 then t.each (List.range 8) zero else t)
  else if sel then (false, zero q.2 ((r.off - 0x100) / 4))
  else q

/-- Whether a requester may reach a DBG register at the present level (R515). (DEDUCED: log entry 34) -/
def State.dbgOk (s : State) (o : Nat) : Bool :=
  if o ≤ 0x80 then true
  else if o < 0xA0 then decide (1 ≤ s.sec.level)
  else s.sec.level == 2

/-- DBG_HALT: cores halted and released, in power state RUN (R491); a husk's bit has no effect (R138, R516).
(DEDUCED: log entry 34) -/
def State.writeHalts (s : State) (x : Writer) (o : Nat) (w : Word) : Wrote :=
  if !x.own then (decide (w ≠ BitVec.ofNat 32 (s.dbgLive o)), s)
  else if s.pwr.st ≠ .run then (true, s)
  else
    let cs := (allFin 192).filter (fun c => decide (c.val / 32 = (o - 0xA0) / 4) && !s.husk c)
    (false, s.each cs (fun s c => s.modCore c (fun x => { x with halt := wbit w (c.val % 32) })))

/-- DBG, DBG_MEM_DATA apart (R515 to R517). -/
def State.writeDbg (s : State) (x : Writer) (r : RegRow) (w : Word) : Wrote :=
  if !s.dbgOk r.off then (true, s)
  else if r.off = 0x84 then
    let was := s.flag .dbg 0x84 0
    (s.plain x .dbg r w).then (fun s => if s.flag .dbg 0x84 0 && !was then s.setReg .dbg 0x88 0 else s)
  else if 0xA0 ≤ r.off ∧ r.off < 0xB8 then s.writeHalts x r.off w
  else s.plain x .dbg r w

/-! ### DMA (R404, R408, R416) -/

/-- DMA_CH_CTL, field by field: PORT from the owner, the others from the bound port; PORT and RING_LOG2 only while
EN = 0 (R404, R416). -/
def State.writeChanCtl (s : State) (x : Writer) (c : ChanId) (w : Word) : Wrote :=
  let o := chanAt c
  let old := s.reg .dma o
  let bound := x.port == some (s.chanHost c)
  let en := s.chanOn c
  let port := wbit w 1 != wbit old 1
  let ring := fld w 19 16 != fld old 19 16
  let onOff := wbit w 0 != en
  if bound && ring && !within 4 16 (fld w 19 16) then (true, s)
  else
    let bad := (!bound && !x.own) || (port && (!x.own || en)) || (ring && (!bound || en)) || (onOff && !bound)
    let s := if x.own && !en then s.setFlag .dma o 1 (wbit w 1) else s
    let s := if bound && !en then s.setField .dma o 19 16 (fld w 19 16) else s
    (bad, if bound && onOff then (if en then s.chanStop c else s.chanStart c) else s)

/-- DMA (R404, R416). -/
def State.writeDma (s : State) (x : Writer) (r : RegRow) (w : Word) : Wrote :=
  if h : 0x100 ≤ r.off ∧ r.off < 0x300 then
    let c : ChanId := ⟨(r.off - 0x100) / 0x20, by omega⟩
    if r.off % 0x20 = 0 then s.writeChanCtl x c w
    else if r.rw = 0 then (false, s)
    else s.plainIf (x.port == some (s.chanHost c) && !s.chanOn c) x .dma r w
  else s.plain x .dma r w

/-! ### Fabric, bridge links and stacks (R246, R264, R270, R305, R308, R439) -/

/-- FAB (R300, R302, R305). -/
def State.writeFab (s : State) (x : Writer) (p : PortId) (r : RegRow) (w : Word) : Wrote :=
  if r.off = 0x80 then
    let bad := r.refuses x (s.reg (.fab p) 0x80) w
    if !x.own then (bad, s)
    else
      let s := (s.setFlag (.fab p) 0x80 3 (wbit w 3)).setFlag (.fab p) 0x80 4 (wbit w 4)
      let s := if wbit w 0 then s.linkEnable p else s.linkDisable p
      (false, if wbit w 1 then s.fabRetrain p else s)
  else s.plain x (.fab p) r w

/-- D2D (R439). -/
def State.writeD2d (s : State) (x : Writer) (l : LinkId) (r : RegRow) (w : Word) : Wrote :=
  (s.plain x (.d2d l) r w).then (fun s => if r.off = 0x80 ∧ x.own ∧ wbit w 0 then s.d2dRetrain l else s)

/-- HBM_CTL.RETRAIN: the stack in self-refresh while its interface trains (R270). -/
def State.hbmRetrain (s : State) (t : StackId) : State :=
  s.modStack t (fun x => { x with trained := false, selfRefresh := true, retraining := true })

/-- HBM_RETRAIN_DONE: the stack serves again, or it fails training (R270, R271, R524). -/
def State.hbmRetrainDone (s : State) (t : StackId) (ok : Bool) : State :=
  if !(s.stack t).retraining then s
  else if ok then s.modStack t (fun x => { x with trained := true, selfRefresh := false, retraining := false })
  else (s.modStack t (fun x => { x with retraining := false })).stackTrainFail t

/-- Job states in which a stack may be retrained (R270). -/
def JobState.retrains : JobState → Bool
  | .empty | .loadFailed | .halted => true
  | _ => false

/-- HBM (R246, R264, R270). RETRAIN is WO: any requester starts it. (DEDUCED: log entry 28) -/
def State.writeHbm (s : State) (x : Writer) (t : StackId) (r : RegRow) (w : Word) : Wrote :=
  if r.off = 0x80 then
    let go := wbit w 0
    let r := { r with act := 0 }
    if go && !s.job.st.retrains then (true, s)
    else (s.plain x (.hbm t) r w).then (fun s => if go then s.hbmRetrain t else s)
  else if r.off = 0xB8 then s.plainIf (s.jobIdle x) x (.hbm 0) r w
  else s.plain x (.hbm t) r w

/-- FRT (R308). (DEDUCED: log entry 46) -/
def State.writeFrt (s : State) (x : Writer) (r : RegRow) (w : Word) : Wrote :=
  if r.off = 0x80 then s.plainIf (s.jobIdle x) x .frt r w else s.plain x .frt r w

/-! ### VER, GEO and FLT (R238, R241, R360, R361, R363, R382, R383, R386, R389, R535) -/

/-- A register with a GO bit beside settings: a GO that is not accepted leaves all of it. (DEDUCED: log entry 20) -/
def State.withGo (s : State) (x : Writer) (b : Blk) (r : RegRow) (w : Word) (go : Bool)
    (f : State → Option State) : Wrote :=
  let q := s.plain x b r w
  if q.1 || !go || !x.own then q
  else
    match f q.2 with
    | some t => (false, t)
    | none => (true, s)

/-- VER (R238, R241). -/
def State.writeVer (s : State) (x : Writer) (r : RegRow) (w : Word) : Wrote :=
  if r.off = 0x84 then s.withGo x .ver r w (wbit w 0) State.startFetch
  else if r.off = 0x88 then
    let f := s.ver.fetch
    (false, { s with ver := { s.ver with
      fetch := { f with done := f.done && !wbit w 30, err := f.err && !wbit w 29 } } })
  else s.plain x .ver r w

/-- The values held for GEO_STEP changed. -/
def State.setStepHeld (s : State) (l : List (Requester × Word)) : State := { s with geo := { s.geo with loHeld := l } }

/-- GEO_STEP_LO and GEO_STEP_HI: applied as a pair in LOADED (R535). (DESIGN CHOICE: log entry 24) -/
def State.writeStep (s : State) (x : Writer) (o : Nat) (w : Word) : Wrote :=
  if s.job.st ≠ .loaded then (true, s)
  else if !x.own then (decide (w ≠ BitVec.ofNat 32 (s.geoLive o)), s)
  else if o = 0xB0 then (false, s.setStepHeld (dropHeld s.geo.loHeld x.who ++ [(x.who, w)]))
  else
    match heldOf s.geo.loHeld x.who with
    | none => (false, s)
    | some lo =>
      let v := BitVec.ofNat 64 (w.toNat * 2 ^ 32 + lo.toNat)
      (false, { s with geo := { s.geo with step := v, loHeld := dropHeld s.geo.loHeld x.who } })

/-- GEO_HOST_CMD.GO where it is accepted (R383, R389). (DESIGN CHOICE: log entry 23) -/
def State.hostCmd (s : State) (w : Word) : Option State :=
  let durable := wbit w 8
  let ok := match s.job.st with
    | .armed | .running | .paused => true
    | .loaded | .halted => !durable
    | _ => false
  if ok && fld w 1 0 != 0 && s.geo.host.st != 1 && s.geo.host.st != 2 then
    some (s.hostDrainGo durable (fld w 1 0))
  else none

/-- GEO_RESTORE_CMD.GO where it is accepted (R386). -/
def State.restoreCmd (s : State) (w : Word) : Option State :=
  if s.job.st = .loaded && !s.geo.restore.busy then some (s.restoreStart (fld w 1 0)) else none

/-- GEO (R375, R379, R382, R383, R386, R389). (DEDUCED: log entries 26, 40) -/
def State.writeGeo (s : State) (x : Writer) (r : RegRow) (w : Word) : Wrote :=
  if r.off = 0x90 then s.plainIf (s.jobIdle x) x .geo r w
  else if r.off = 0x98 then (s.plain x .geo r w).then (fun s => (s.cleanMask .geo).policeDrains.settle)
  else if r.off = 0xA0 then
    let held := s.field .geo 0xA0 15 0 == 0
    (s.plain x .geo r w).then (fun s => if held then s.drainPush.pump.settle else s)
  else if r.off = 0xB0 ∨ r.off = 0xB4 then s.writeStep x r.off w
  else if r.off = 0xC0 then
    (s.withGo x .geo r w (wbit w 31) (fun s => s.hostCmd w)).then
      (fun s => if x.own && wbit w 30 then s.hostAbort else s)
  else if r.off = 0xD8 then s.withGo x .geo r w (wbit w 31) (fun s => s.restoreCmd w)
  else if r.off = 0xDC then
    (false, if wbit w 30 then s.modRestore (fun q => { q with done := false }) else s)
  else s.plain x .geo r w

/-- FLT_SWEEP_CMD.GO where it is accepted (R360, R363, R445). (DESIGN CHOICE: log entry 23) -/
def State.sweepCmd (s : State) (w : Word) : Option State :=
  if s.flt.sweep.busy || fld w 20 16 == 0 || s.pwr.st != .run then none
  else some (s.startSweep (fld w 20 16) (wbit w 8) (fld w 7 0))

/-- FLT (R358, R360, R361, R363). -/
def State.writeFlt (s : State) (x : Writer) (r : RegRow) (w : Word) : Wrote :=
  if r.off = 0x90 then
    let was := s.flag .flt 0x90 0
    (s.plain x .flt r w).then (fun s => if s.flag .flt 0x90 0 && !was then s.setReg .flt 0xC8 0 else s)
  else if r.off = 0x98 then
    (s.withGo x .flt r w (wbit w 31) (fun s => s.sweepCmd w)).then
      (fun s => if x.own && wbit w 30 then s.stopSweep else s)
  else if r.off = 0x9C then
    let q := s.flt.sweep
    (false, { s with flt := { s.flt with
      sweep := { q with done := q.done && !wbit w 30, aborted := q.aborted && !wbit w 29 } } })
  else s.plain x .flt r w

/-! ### Cores (R143, R144, R146, R526) -/

/-- CORE_FENCE.UNFENCE accepted: a husk resets and tests itself (R146). -/
def State.unfence (s : State) (c : CoreId) : State :=
  if s.husk c then (s.coreReset c).modCore c (fun x => { x with testing := true }) else s

/-- UNFENCE_DONE: the test's groups that failed decide (R146). -/
def State.unfenceDone (s : State) (c : CoreId) (failGroups : Nat) : State :=
  let x := s.core c
  if !x.testing || !s.husk c then s
  else if failGroups % 32 = 0 then s.modCore c (fun x => { x with cause := 0, passed := true, testing := false })
  else s.modCore c (fun x => { x with cause := 3, passed := false, testing := false })

/-- CORE_FENCE (R146, R526). -/
def State.writeFence (s : State) (x : Writer) (c : CoreId) (w : Word) : Wrote :=
  if !x.own then ((w &&& 3) != 0, s)
  else if wbit w 0 then (false, s.fence c 4)
  else if wbit w 1 then (if s.job.st.active then (true, s) else (false, s.unfence c))
  else (false, s)

/-- ARR (R143, R144): a PRESET record must not touch ARR_MODE (R44). -/
def State.writeArr (s : State) (x : Writer) (c : CoreId) (r : RegRow) (w : Word) : Wrote :=
  if r.off = 0x80 then s.plainIf (s.jobIdle x && !x.preset) x (.arr c) r w
  else if r.off = 0x84 then
    (false, if wbit w 8 then s.modCore c (fun q => { q with abortLate := false }) else s)
  else if r.off = 0x88 then
    s.startBy x (wbit w 0) (fun s => if s.job.st.active then none else some (s.arrAbort c))
  else s.plain x (.arr c) r w

/-- A write to a block-specific register of a husk's ARR, VEC, CDMA or CST page is a violation (R526). -/
def State.huskPage (s : State) (b : Blk) : Bool :=
  match b with
  | .arr c | .vec c | .cdma c | .cst c => s.husk c
  | _ => false

/-! ### Any register of a page -/

/-- A write to a register of a page that answers. -/
def State.writeReg (s : State) (x : Writer) (b : Blk) (r : RegRow) (w : Word) : Wrote :=
  if r.off < 0x80 then s.writeHead x b r w
  else if s.huskPage b then (true, s)
  else
    match b with
    | .glb => s.writeGlb x r w
    | .pwr => s.writePwr x r w
    | .tim => s.writeTim x r w
    | .sec => s.writeSec x r w
    | .cfg => s.writeCfg x r w
    | .ras => s.writeRas x r w
    | .tel => s.writeTel x r w
    | .dbg => s.writeDbg x r w
    | .dma => s.writeDma x r w
    | .fab p => s.writeFab x p r w
    | .frt => s.writeFrt x r w
    | .d2d l => s.writeD2d x l r w
    | .hbm t => s.writeHbm x t r w
    | .ver => s.writeVer x r w
    | .geo => s.writeGeo x r w
    | .flt => s.writeFlt x r w
    | .core c => if r.off = 0x84 then s.writeFence x c w else s.plain x b r w
    | .arr c => s.writeArr x c r w
    | .hif _ | .col | .mbq | .cad | .vec _ | .cdma _ | .cst _ => s.plain x b r w

end Sys2Proof.Machine
end

