-- ==== Sys2Proof/Machine/HostConfig.lean ====
section
/-!
DEFINITION. The configuration space of a port's function (R391, R392, R394, R411, R412, R455), laid out as PCIe lays out
the header of an endpoint; where the capabilities stand behind it the spec does not say. (PRESUMED: log entry 32)
-/

namespace Sys2Proof.Machine

open Sys2Proof

/-- A base register of a 64-bit BAR: the low or high word, with the type bits of the low one (R394). -/
def barWord (base size flags : Nat) (high : Bool) : Nat :=
  let b := base / size * size
  if high then b / 2 ^ 32 % 2 ^ 32 else b % 2 ^ 32 + flags

/-- A base register with one of its words written; the bits below the BAR's size stay 0 (R394). -/
def barPut (base size w : Nat) (high : Bool) : Nat :=
  let b := if high then base % 2 ^ 32 + w * 2 ^ 32 else base / 2 ^ 32 * 2 ^ 32 + w
  b / size * size

/-- Sizes of BAR0, BAR2 and BAR4 (R394). -/
def barSizes : List Nat := [2 ^ 26, 2 ^ 36, 2 ^ 20]

/-- Subsystem ID and Subsystem Vendor ID: their reset values, or what the applied Shale image sets (R392). -/
def State.subsystem (s : State) : Nat :=
  match s.cfg.applied with
  | none => 0x00001F5A
  | some i => (Config.subsystemIds i.digest).toNat

/-- The word of a port's configuration space at an offset; what is not there reads 0. (PRESUMED: log entry 32) -/
def State.configWord (s : State) (h : HostId) (a : Nat) : Nat :=
  let p := s.hostPort h
  let c := p.cfg
  if a = 0x00 then 0x92161F5A
  else if a = 0x04 then 0x00100000 + c.command
  else if a = 0x08 then 0x120000B0
  else if a = 0x10 ∨ a = 0x14 then barWord c.bar0 (2 ^ 26) 0x4 (a = 0x14)
  else if a = 0x18 ∨ a = 0x1C then barWord c.bar2 (2 ^ 36) 0xC (a = 0x1C)
  else if a = 0x20 ∨ a = 0x24 then barWord c.bar4 (2 ^ 20) 0x4 (a = 0x24)
  else if a = 0x2C then s.subsystem
  else if a = 0x34 then 0x40
  else if a = 0x40 then 0x00035001
  else if a = 0x44 then (if p.d3hot then 3 else 0)
  else if a = 0x50 then bit c.msixOn * 2 ^ 31 + bit c.msixOff * 2 ^ 30 + 0x00FF7011
  else if a = 0x54 then 0x00080004
  else if a = 0x58 then 0x00090004
  else if a = 0x70 then 0x00020010
  else if a = 0x74 then 0x10008002
  else if a = 0x78 then c.mps * 2 ^ 5 + c.mrrs * 2 ^ 12
  else if a = 0x100 then 0x14820001
  else if a = 0x104 then c.uncorr.toNat
  else if a = 0x110 then c.corr.toNat
  else if a = 0x148 then 0x00010003
  else if a = 0x14C then Config.serialNumber.toNat % 2 ^ 32
  else if a = 0x150 then Config.serialNumber.toNat / 2 ^ 32
  else 0

/-- A configuration read: answered once the port is configuration-ready, with retry status before (R412, R455).
(PRESUMED: log entry 32) -/
def State.readConfig (s : State) (h : HostId) (a : Nat) : State :=
  let p := s.hostPort h
  if !p.up then s
  else if !p.ready || p.inReset then s.emit (.retry h)
  else s.emit (.configData h a (BitVec.ofNat 32 (s.configWord h a)))

/-- A function's configuration changed. -/
def State.modConfig (s : State) (h : HostId) (f : PciConfig → PciConfig) : State :=
  s.modHost h (fun p => { p with cfg := f p.cfg })

/-- A word written to a configuration space; read-only bits keep their value (R391, R394, R411, R413). (PRESUMED: log
entry 32) -/
def State.putConfig (s : State) (h : HostId) (a : Nat) (w : Word) : State :=
  let n := w.toNat
  if a = 0x04 then s.modConfig h (fun c => { c with command := n % 2 ^ 16 &&& 0x0546 })
  else if a = 0x10 ∨ a = 0x14 then s.modConfig h (fun c => { c with bar0 := barPut c.bar0 (2 ^ 26) n (a = 0x14) })
  else if a = 0x18 ∨ a = 0x1C then s.modConfig h (fun c => { c with bar2 := barPut c.bar2 (2 ^ 36) n (a = 0x1C) })
  else if a = 0x20 ∨ a = 0x24 then s.modConfig h (fun c => { c with bar4 := barPut c.bar4 (2 ^ 20) n (a = 0x24) })
  else if a = 0x44 then (if n % 4 = 0 then s.setD3 h false else if n % 4 = 3 then s.setD3 h true else s)
  else if a = 0x50 then
    (s.modConfig h (fun c => { c with msixOn := wbit w 31, msixOff := wbit w 30 })).firePending h
  else if a = 0x78 then
    let s := s.modConfig h (fun c => { c with
      mps := if fld w 7 5 ≤ 2 then fld w 7 5 else c.mps, mrrs := if fld w 14 12 ≤ 5 then fld w 14 12 else c.mrrs })
    if wbit w 15 then s.functionLevelReset h else s
  else if a = 0x104 then s.modConfig h (fun c => { c with uncorr := c.uncorr &&& ~~~w })
  else if a = 0x110 then s.modConfig h (fun c => { c with corr := c.corr &&& ~~~w })
  else s

/-- A configuration write, as a configuration read is taken (R412, R455). (PRESUMED: log entry 32) -/
def State.writeConfig (s : State) (h : HostId) (a : Nat) (w : Word) : State :=
  let p := s.hostPort h
  if !p.up then s
  else if !p.ready || p.inReset then s.emit (.retry h)
  else s.putConfig h a w

end Sys2Proof.Machine
end

