-- ==== Sys2Proof/Machine/Load.lean ====
section
/-!
DEFINITION. LOAD (R72): the checks of a stage image in order (R40 to R45, R53 to R61, R94 to R98), the tables that it
loads (R97, R214, R215, R222, R224, R236), the Geode range table (R366 to R371) and the PRESET records (R44).
-/

namespace Sys2Proof.Machine

open Sys2Proof

/-! ### Ranges and records -/

/-- Whether a range lies within local HBM (R40). -/
def inHbm (b n : Nat) : Bool := decide (b + n ≤ 2 ^ 40)

/-- Whether two ranges, each as start and length, share a byte. -/
def meets (e f : Nat × Nat) : Bool := decide (0 < e.2 ∧ 0 < f.2 ∧ e.1 < f.1 + f.2 ∧ f.1 < e.1 + e.2)

/-- Whether no two ranges of a list share a byte. -/
def apart : List (Nat × Nat) → Bool
  | [] => true
  | e :: l => !l.any (meets e) && apart l

/-- Whether bytes i to i+n−1 of a record are zero. -/
def zeroAt (l : List Byte) (i n : Nat) : Bool := ((l.drop i).take n).all (· == 0)

/-- The bytes of a section. -/
def State.sectBytes (s : State) (type : Nat) : List Byte := s.bytes (s.sect type).1 (s.sect type).2

/-- The records of n bytes that a section holds. -/
def State.records (s : State) (type n : Nat) : List (List Byte) :=
  chunks n (s.sect type).2 (s.sectBytes type)

/-- Whether the image has a section. -/
def State.hasSect (s : State) (type : Nat) : Bool := (s.section? type).isSome

/-- GLB_IMAGE_LEN. -/
def State.imageLen (s : State) : Nat := (s.reg .glb 0xB8).toNat

/-- A number in the image header. -/
def State.header (s : State) (o n : Nat) : Nat := s.mem (s.imageBase + o) n

/-! ### Steps 1 to 8 -/

/-- Step 1 (R40). -/
def State.rangeOk (s : State) : Bool :=
  decide (s.imageLen % 4096 = 0) && within 4096 (2 ^ 31) s.imageLen && inHbm s.imageBase s.imageLen

/-- Step 2 (R41). -/
def State.headerOk (s : State) : Bool :=
  decide (s.header 0 4 = 0x49534E46 ∧ s.header 4 2 = 2 ∧ s.header 6 2 = 0x80 ∧ s.header 0x10 4 = s.imageLen) &&
    zeroAt (s.bytes s.imageBase 128) 0x30 16 && zeroAt (s.bytes s.imageBase 128) 0x60 32

/-- Step 3 (R2). -/
def State.partOk (s : State) : Bool :=
  decide (s.header 8 4 = (s.reg .glb 0x80).toNat ∧ s.header 0xC 4 = (s.reg .glb 0x84).toNat)

/-- Step 4 (R308). -/
def State.placeOk (s : State) : Bool :=
  decide (s.header 0x18 4 = (s.reg .glb 0x9C).toNat ∧ s.header 0x1C 4 = (s.reg .frt 0x80).toNat)

/-- One entry of the section table (R42). -/
def sectionOf (l : List Byte) : Section := { type := numAt l 0 2, off := numAt l 8 8, len := numAt l 4 4 }

/-- SECTION_COUNT. -/
def State.sectionCount (s : State) : Nat := s.header 0x14 2

/-- The entries of the section table. -/
def State.sectionRows (s : State) : List (List Byte) :=
  chunks 16 s.sectionCount (s.bytes (s.imageBase + 0x80) (16 * s.sectionCount))

/-- Whether a TYPE is one of R43. -/
def knownType (t : Nat) : Bool := within 1 12 t

/-- One entry by itself (R42, R43). -/
def State.sectionRowOk (s : State) (l : List Byte) : Bool :=
  let e := sectionOf l
  decide (numAt l 2 2 < 2 ∧ e.off % 64 = 0 ∧ e.off + e.len ≤ s.imageLen) && (knownType e.type || numAt l 2 2 == 0)

/-- Step 6 (R42, R43). -/
def State.sectionsOk (s : State) : Bool :=
  let tab := s.sectionRows.map sectionOf
  within 1 64 s.sectionCount && decide (0x80 + 16 * s.sectionCount ≤ s.imageLen) &&
    s.sectionRows.all s.sectionRowOk && decide ((tab.map (·.type)).Nodup) &&
    apart ((0, 0x80 + 16 * s.sectionCount) :: tab.map (fun e => (e.off, e.len))) &&
    [1, 2, 3, 4, 5, 6].all (fun t => tab.any (fun e => e.type == t))

/-- The known sections noted. -/
def State.noteSections (s : State) : State :=
  { s with job := { s.job with secs := (s.sectionRows.map sectionOf).filter (fun e => knownType e.type) } }

/-- CAD_TABLE_LEN of the header. -/
def State.cadLen (s : State) : Nat := s.header 0x28 4

/-- Step 7 (R41). -/
def State.limitsOk (s : State) : Bool :=
  let modes := s.header 0x2F 1
  within 200 1800 (s.header 0x16 2) && within 1 65536 s.cadLen && decide (s.header 0x2C 2 ≤ 500) &&
    decide (s.header 0x2E 1 ≤ 8) && decide (modes < 8 ∧ modes / 2 = s.interleave)

/-! ### Step 9: tensor descriptors (R54 to R58, R60) -/

/-- Whether BASE or SCALE_BASE has the zero bits of its space (R57). -/
def Tens.baseOk (t : Tens) (v : Nat) : Bool :=
  (t.space != 1 || decide (v < 2 ^ 25)) && (t.space != 2 || decide (v / 2 ^ 32 % 2 ^ 16 = 0))

/-- SCALE_BASE (R54, R60). -/
def Tens.scaleOk (t : Tens) : Bool :=
  if !t.mx then t.scaleBase == 0
  else t.baseOk t.scaleBase && (t.space != 0 || t.scaleBase / 2 ^ 40 == t.base / 2 ^ 40) &&
    (t.space != 2 || t.scaleBase / 2 ^ 48 == t.base / 2 ^ 48)

/-- FORMAT and MX (R56). -/
def Tens.formatOk (t : Tens) : Bool :=
  let even := decide (t.base % 2 = 0 ∧ t.sizes.i0 % 2 = 0) && [t.st1, t.st2, t.st3, t.st4].all (fun x => decide (x % 2 = 0))
  decide (t.fmtCode ≤ 8) && (!t.mx || within 3 5 t.fmtCode) && (t.fmtCode != 5 || (t.mx && even))

/-- VSEL (R58, R222). -/
def Tens.vselOk (t : Tens) (ids : List Nat) : Bool :=
  t.vsel == 0 || (t.space == 0 && decide (t.base < 2 ^ 40) && ids.contains t.weight)

/-- A tensor descriptor (R54 to R58, R60); its reserved bits are zero. -/
def Tens.ok (t : Tens) (ids : List Nat) : Bool :=
  within 1 5 t.dims && t.prot != 3 && t.formatOk && t.baseOk t.base && t.scaleOk && t.vselOk ids &&
    decide (t.attr / 2 ^ 25 = 0 ∧ bits t.attr 15 13 = 0 ∧ bits t.attr 5 5 = 0 ∧ t.vselWord < 4)

/-- The tensor table. -/
def State.tensors (s : State) : List Tens := (s.records 5 64).map Tens.ofBytes

/-- The WEIGHT_IDs of the records. -/
def State.weightIds (s : State) : List Nat := (s.records 7 48).map (fun l => numAt l 0 2)

/-- Step 9 (R53). (DEDUCED: log entry 19) -/
def State.tensorsOk (s : State) : Bool :=
  decide ((s.sect 5).2 % 64 = 0 ∧ (s.sect 5).2 ≤ 65536 * 64) && s.tensors.all (fun t => t.ok s.weightIds)

/-! ### Step 11: the cadence table, list and repair tables (R32, R94 to R98) -/

/-- Whether n bytes from an image offset in 64-byte units lie within a section. -/
def State.inside (s : State) (type unit n : Nat) : Bool :=
  let x := s.sect type
  let a := s.imageBase + 64 * unit
  decide (x.1 ≤ a ∧ a + n ≤ x.1 + x.2)

/-- The bytes from an image offset in 64-byte units. -/
def State.unitBytes (s : State) (unit n : Nat) : List Byte := s.bytes (s.imageBase + 64 * unit) n

/-- A list table (R95). -/
def State.listTableOk (s : State) (unit : Nat) : Bool :=
  s.inside 4 unit 768 && (chunks 4 192 (s.unitBytes unit 768)).all (fun l =>
    let w := numAt l 0 4
    decide (w / 2 ^ 26 % 32 = 0) && (decide (w < 2 ^ 31) || s.inside 4 (w % 2 ^ 26) 64))

/-- A piece entry (R98). -/
def State.pieceOk (s : State) (l : List Byte) : Bool :=
  decide (numAt l 6 1 < 192 ∧ numAt l 7 1 < 2) && zeroAt l 8 8 && s.inside 4 (numAt l 0 4) 64

/-- One header of a repair table with its piece entries (R98). -/
def State.repairHeadOk (s : State) (l : List Byte) : Bool :=
  let n := numAt l 0 2
  zeroAt l 2 2 && (n == 0 || (s.inside 3 (numAt l 4 4) (16 * n) &&
    (chunks 16 n (s.unitBytes (numAt l 4 4) (16 * n))).all s.pieceOk))

/-- A repair table (R98). -/
def State.repairTableOk (s : State) (unit : Nat) : Bool :=
  s.inside 3 unit 1536 && (chunks 8 192 (s.unitBytes unit 1536)).all s.repairHeadOk

/-- One cadence entry (R32, R94). -/
def State.cadenceEntryOk (s : State) (l : List Byte) : Bool :=
  let list := numAt l 0 4
  let repair := numAt l 4 4
  zeroAt l 9 7 && (match SlotKind.ofCode (numAt l 8 1) with
    | none => false
    | some k =>
      if k.descWork then decide (list ≠ 0xFFFFFFFF) && s.listTableOk list &&
        (repair == 0xFFFFFFFF || s.repairTableOk repair)
      else decide (list = 0xFFFFFFFF ∧ repair = 0xFFFFFFFF))

/-- The CADENCE section (R94). -/
def State.cadenceOk (s : State) : Bool :=
  decide (16 * s.cadLen ≤ (s.sect 1).2) &&
    (chunks 16 s.cadLen (s.bytes (s.sect 1).1 (16 * s.cadLen))).all s.cadenceEntryOk

/-- The REMAP section (R97). -/
def State.remapOk (s : State) : Bool :=
  let l := s.sectBytes 2
  l.length == 256 && decide ((l.take 192).Nodup) && (l.take 192).all (fun b => decide (b.toNat < 192)) && zeroAt l 192 64

/-! ### Step 11: queues, contexts, weights and shards (R214, R215, R222, R236) -/

/-- A queue record (R215). -/
def queueOf (l : List Byte) : Queue :=
  { kind := numAt l 0 1, vstage := numAt l 1 1, count := numAt l 2 2, size := numAt l 4 4, base := numAt l 8 8
    peer := BitVec.ofNat 32 (numAt l 16 4), peerQ := numAt l 20 2 }

/-- Whether a queue record meets R215. -/
def State.queueOk (s : State) (l : List Byte) : Bool :=
  let q := queueOf l
  let common := decide (q.kind ≤ 3 ∧ q.vstage ≤ 7 ∧ 4096 ≤ q.size ∧ q.size % 4096 = 0) && within 1 256 q.count &&
    zeroAt l 22 10
  let sameBcd := (q.peer &&& 0x00FFFFFF) == (s.reg .glb 0x9C &&& 0x00FFFFFF)
  common && (if q.kind < 2 then
    q.peer == 0 && q.peerQ == 0 && inHbm q.base (q.count * q.size) && !s.hitsImage q.base (q.count * q.size)
  else sameBcd && decide (q.base < 2 ^ 40) && decide (fld q.peer 31 24 ≤ fld (s.reg .frt 0x80) 29 24 ∧ q.peerQ < 64))

/-- The QUEUE section. -/
def State.queuesOk (s : State) : Bool :=
  decide ((s.sect 9).2 % 32 = 0 ∧ (s.sect 9).2 ≤ 64 * 32) && (s.records 9 32).all s.queueOk

/-- STASH_BASE and STASH_LEN of a record (R214). -/
def stashOf (l : List Byte) : Nat × Nat := (numAt l 0 8, numAt l 8 8)

/-- The CONTEXT section (R214). -/
def State.contextsOk (s : State) : Bool :=
  let l := (s.records 10 16).map stashOf
  !s.hasSect 10 || (decide ((s.sect 10).2 = 48 * 16) && apart l && l.all (fun e =>
    decide (e.1 % 4096 = 0 ∧ e.2 % 4096 = 0) && inHbm e.1 e.2 && !s.hitsImage e.1 e.2))

/-- A weight record with position 0 CURRENT (R222, R224). -/
def weightOf (l : List Byte) : Weight :=
  let first : Pos := { st := .current, ver := numAt l 4 2 }
  { id := numAt l 0 2, vstage := numAt l 3 1, base := numAt l 8 8, stride := numAt l 16 8, len := numAt l 24 8
    hostOff := numAt l 32 8, ring := first :: List.replicate (numAt l 2 1 - 1) {} }

/-- The weights of the image. -/
def State.imageWeights (s : State) : List Weight := (s.records 7 48).map weightOf

/-- The ranges of a weight's ring positions. -/
def Weight.spans (w : Weight) : List (Nat × Nat) := (List.range w.ring.length).map (fun k => (w.storage k, w.len))

/-- Whether a weight record by itself meets R222. (DEDUCED: log entry 19) -/
def State.weightOk (s : State) (l : List Byte) : Bool :=
  let w := weightOf l
  within 1 4 (numAt l 2 1) && decide (w.id < 4096 ∧ w.vstage ≤ 7 ∧ w.base % 4096 = 0 ∧ w.stride % 4096 = 0) &&
    decide (w.len ≤ w.stride) && zeroAt l 6 2 && zeroAt l 40 8 &&
    w.spans.all (fun e => inHbm e.1 e.2 && !s.hitsImage e.1 e.2)

/-- Whether numbers strictly rise. -/
def rising : List Nat → Bool
  | a :: b :: l => decide (a < b) && rising (b :: l)
  | _ => true

/-- The WEIGHT section (R222). -/
def State.weightsOk (s : State) : Bool :=
  decide ((s.sect 7).2 % 48 = 0 ∧ (s.sect 7).2 ≤ 4096 * 48) && rising s.weightIds &&
    (s.records 7 48).all s.weightOk && apart (s.imageWeights.flatMap Weight.spans)

/-- A shard record (R236). -/
def shardOf (l : List Byte) : Shard :=
  { weight := numAt l 0 2, d := numAt l 2 1, full := numAt l 8 8, len := numAt l 16 8 }

/-- HALL_DIMS.D plus one. -/
def State.hallD (s : State) : Nat := s.header 0x1C 1 % 64 + 1

/-- The shard records of one weight (R236). -/
def State.weightShardsOk (s : State) (w : Weight) (l : List Shard) : Bool :=
  decide (l.map (·.weight) = List.replicate s.hallD w.id ∧ l.map (·.d) = List.range s.hallD) &&
    apart (l.map (fun x => (x.full, x.len))) && l.all (fun x => x.d != destAxis s.own 3 || x.len == w.len)

/-- The SHARD section (R236). -/
def State.shardsOk (s : State) : Bool :=
  let rows := s.records 8 24
  !s.hasSect 8 || (decide ((s.sect 8).2 = 24 * s.hallD * s.imageWeights.length) && rows.all (fun l => zeroAt l 3 5) &&
    (s.imageWeights.zip (chunks s.hallD rows.length (rows.map shardOf))).all (fun e => s.weightShardsOk e.1 e.2))

/-! ### Step 11: regions and the Geode range table (R366 to R371) -/

/-- A REGION record (R369). -/
structure Region where
  kind : Nat
  role : Nat
  base : Nat
  len  : Nat
  aux  : Nat
  deriving DecidableEq, Repr

/-- A REGION record from its bytes. -/
def regionOf (l : List Byte) : Region :=
  { kind := numAt l 0 1, role := numAt l 1 1, base := numAt l 8 8, len := numAt l 16 8, aux := numAt l 24 8 }

/-- The region map. -/
def State.regions (s : State) : List Region := (s.records 6 32).map regionOf

/-- The records of one kind. -/
def State.regionsOf (s : State) (kind : Nat) : List Region := s.regions.filter (fun r => r.kind == kind)

/-- The ranges of the Geode area: four, or all dies' together under ALL16 (R371). -/
def State.areas (s : State) (base len : Nat) : List (Nat × Nat) :=
  if s.interleave = 1 then [(base, 4 * len)] else (List.range 4).map (fun n => (n * 2 ^ 38 + base, len))

/-- Whether a record meets its rules (R369, R371). -/
def State.regionOk (s : State) (l : List Byte) : Bool :=
  let r := regionOf l
  let unit := fun (n : Nat) => decide (n % 0x10000 = 0)
  zeroAt l 2 6 && (r.role == 0 || r.kind == 2) &&
    (if r.kind = 0 then unit r.base && unit r.len && unit r.aux && decide (4096 + 4 * r.aux ≤ r.len) &&
      (if s.interleave = 1 then inHbm r.base (4 * r.len) else decide (r.base + r.len ≤ 2 ^ 38))
    else if r.kind = 1 then inHbm r.base r.len && decide (384 * 1024 ≤ r.len)
    else if r.kind = 2 then inHbm r.base r.len && within 1 3 r.role && decide (r.base % 128 = 0 ∧ r.len % 128 = 0)
    else r.kind == 3)

/-- The REGION section (R369). (DEDUCED: log entry 19) -/
def State.regionsOk (s : State) : Bool :=
  decide ((s.sect 6).2 % 32 = 0 ∧ (s.sect 6).2 ≤ 256 * 32) && (s.records 6 32).all s.regionOk &&
    decide ((s.regionsOf 0).length ≤ 1) && (!s.hasSect 7 || (s.regionsOf 1).length == 1)

/-- The order NONE, DURABLE, SNAP of protection classes (R61). -/
def rank (prot : Nat) : Nat := if prot = 1 then 2 else if prot = 2 then 1 else 0

/-- Lowest and highest element of a tensor, in nibbles from its own base (R366). -/
def Tens.reach (t : Tens) : Int × Int :=
  let n := t.size
  let far := [(t.st1, n.i1), (t.st2, n.i2), (t.st3, n.i3), (t.st4, n.i4)].map (fun e => e.1 * ((e.2 : Int) - 1))
  let lo := (far.filter (· < 0)).sum
  let hi := (far.filter (0 < ·)).sum + (n.i0 : Int) - 1
  ((t.fmt.nibbles : Int) * lo, (t.fmt.nibbles : Int) * (hi + 1) - 1)

/-- The local blocks, first and one past the last, of a span of bytes; none where it lies outside local HBM. -/
def blockSpan (lo hi : Int) : Nat × Nat := ((max lo 0).toNat / 64, ((min hi (2 ^ 40 - 1)) / 64 + 1).toNat)

/-- The blocks that a protected plain tensor covers, its scales among them (R366). -/
def State.coverOf (s : State) (t : Tens) : List (Nat × Nat) :=
  if t.space != 0 || t.vsel != 0 || rank t.prot == 0 || globalDest t.base != s.own || t.size.empty then []
  else
    let b : Int := globalOff t.base
    let r := t.reach
    let data := blockSpan (b + r.1 / 2) (b + r.2 / 2)
    let c := globalOff t.scaleBase
    let scales := (t.size.i0 + 31) / 32 * t.size.rows
    data :: (if t.mx then [blockSpan c (c + scales - 1)] else [])

/-- Every covered span with its rank. -/
def State.covers (s : State) : List (Nat × Nat × Nat) :=
  s.tensors.flatMap (fun t => (s.coverOf t).map (fun e => (e.1, e.2, rank t.prot)))

/-- A number put in its place in a strictly rising list. -/
def placeNat (n : Nat) : List Nat → List Nat
  | [] => [n]
  | a :: l => if n < a then n :: a :: l else if n = a then a :: l else a :: placeNat n l

/-- Rank and role of a block (R61, R366, R370). -/
def blockClass (cov : List (Nat × Nat × Nat)) (nar : List Region) (b : Nat) : Nat × Nat :=
  let k := cov.foldl (fun m e => if e.1 ≤ b ∧ b < e.2.1 then max m e.2.2 else m) 0
  let role := ((nar.find? (fun r => decide (r.base ≤ 64 * b ∧ 64 * b < r.base + r.len))).map (·.role)).getD 0
  (k, if k = 1 then role else 0)

/-- One run appended to the range table, joined to the last entry where it goes on in the same class and role. -/
def joinRun (l : List Range) (e : Range) : List Range :=
  match l.getLast? with
  | some p =>
    if p.off + p.len = e.off ∧ p.snap = e.snap ∧ p.role = e.role then l.dropLast ++ [{ p with len := p.len + e.len }]
    else l ++ [e]
  | none => [e]

/-- The plain entries: maximal runs of one class and one narrow role, in ascending local offset (R368). -/
def State.plainRanges (s : State) : List Range :=
  let cov := s.covers
  let nar := s.regionsOf 2
  let covEnds := cov.flatMap (fun e => [e.1, e.2.1])
  let narEnds := nar.flatMap (fun r => [r.base / 64, (r.base + r.len) / 64])
  let ends := (covEnds ++ narEnds).foldl (fun l n => placeNat n l) []
  let runs := (ends.zip ends.tail).filterMap (fun e =>
    let c := blockClass cov nar e.1
    if c.1 = 0 then none
    else some ({ off := 64 * e.1, len := 64 * (e.2 - e.1), snap := c.1 == 2, role := c.2, weight := none } : Range))
  runs.foldl joinRun []

/-- The narrow role of a protected DURABLE weight: that of the NARROW record that holds all its ring positions; one
entry has one role, so RAW where the blocks do not agree (R367, R368, R370). (DESIGN CHOICE: log entry 70) -/
def State.weightRole (s : State) (w : Weight) : Nat :=
  let holds := fun (r : Region) => w.spans.all (fun e =>
    decide (r.base ≤ e.1 ∧ e.1 + (e.2 + 63) / 64 * 64 ≤ r.base + r.len))
  (((s.regionsOf 2).find? holds).map (·.role)).getD 0

/-- The entries of protected weights, in ascending WEIGHT_ID (R367, R368, R370). -/
def State.weightRanges (s : State) : List Range :=
  s.imageWeights.filterMap (fun w =>
    let k := (s.tensors.filter (fun t => t.vsel != 0 && t.weight == w.id)).foldl (fun m t => max m (rank t.prot)) 0
    if k = 0 then none
    else some ({ off := 0, len := w.len, snap := k == 2, role := if k = 1 then s.weightRole w else 0
                 weight := some w.id } : Range))

/-- Whether each byte of a protected weight lies on one die in every ring position (R367). -/
def State.sameDie (s : State) (w : Weight) : Bool :=
  (List.range ((w.len + 4095) / 4096)).all (fun g =>
    (List.range w.ring.length).all (fun k => s.dieOf (w.storage k + 4096 * g) == s.dieOf (w.storage 0 + 4096 * g)))

/-- Protected ranges in whole blocks: plain entries, and every ring position of a protected weight. -/
def State.protectedSpans (s : State) (plain wts : List Range) : List (Nat × Nat) :=
  plain.map (fun e => (e.off, e.len)) ++
    (s.imageWeights.filter (fun w => wts.any (fun e => e.weight == some w.id))).flatMap (fun w =>
      w.spans.map (fun e => (e.1, (e.2 + 63) / 64 * 64)))

/-- What of R368 can fail before the shards are laid out. (DEDUCED: log entry 19) -/
def State.rangesOk (s : State) : Bool :=
  let plain := s.plainRanges
  let wts := s.weightRanges
  let held := (s.imageBase, s.imageLen) :: (s.regionsOf 1).map (fun r => (r.base, r.len)) ++
    (s.regionsOf 0).flatMap (fun r => s.areas r.base r.len)
  decide (plain.length + wts.length ≤ 16384) && (!(s.regionsOf 0).isEmpty || s.tensors.all (fun t => t.prot == 0)) &&
    (s.protectedSpans plain wts).all (fun e => !held.any (meets e)) &&
    (s.imageWeights.filter (fun w => wts.any (fun e => e.weight == some w.id))).all s.sameDie

/-! ### The writes of step 11 -/

/-- Every table of step 11 but for the lengths of the Geode shards. -/
def State.tablesOk (s : State) : Bool :=
  s.cadenceOk && s.remapOk && s.queuesOk && s.contextsOk && s.weightsOk && s.shardsOk && s.regionsOk && s.rangesOk

/-- The base of the capture records (R369). (DEDUCED: log entry 19) -/
def State.captureBase (s : State) : Nat := ((s.regionsOf 1).map (·.base)).headD 0

/-- The registers that LOAD writes (R41, R72, R110, R224, R369). -/
def State.loadRegs (s : State) : State :=
  let s := s.setReg .pwr 0x88 (BitVec.ofNat 32 (s.header 0x16 2))
  let s := (s.setReg64 .cad 0x80 (s.sect 1).1).setReg .cad 0x88 (BitVec.ofNat 32 s.cadLen)
  let s := s.setReg .cad 0x90 (BitVec.ofNat 32 (s.header 0x2E 1))
  let s := (s.setReg64 .cad 0x98 (s.sect 2).1).setReg .cad 0xA0 (BitVec.ofNat 32 (s.header 0x2C 2))
  let s := s.each (allFin 192) (fun s c => s.setFlag (.arr c) 0x80 0 (s.header 0x2F 1 % 2 == 1))
  s.setReg64 .ver 0x98 s.captureBase

/-- The header of every entry of an inbound queue written EMPTY (R215). -/
def State.clearQueue (s : State) (q : Queue) : State :=
  if 2 ≤ q.kind then s
  else s.each (List.range q.count) (fun s e =>
    let a := q.entryOff e
    if s.served a then (s.enter .system a 64).write a (headerBytes stampEmpty 0 0 0 0 0) false else s.glbRecord a 5)

/-- Contexts FREE with their stashes, the queues and the version store (R214, R215, R224, R236). -/
def State.loadTables (s : State) : State :=
  let ctxs := ((s.records 10 16).map stashOf).map (fun e => ({ stashBase := e.1, stashLen := e.2 } : Ctx))
  let qs := (s.records 9 32).map queueOf
  let ws := s.imageWeights
  let s := { s with
    cad := {}
    mbq := { ctxs := Store.setMany (fun _ => {}) [] 0 ctxs, queues := qs }
    ver := { weights := ws, shards := (s.records 8 24).map shardOf, hasShards := s.hasSect 8, shown := ws
             captureBase := s.captureBase, fetch := s.ver.fetch } }
  s.each qs State.clearQueue

/-- Geode enabled by a GEODE record: the area, the range table with its digest, and the points that the headers in
memory give (R368, R369, R374). -/
def State.loadGeode (s : State) : State :=
  match s.regionsOf 0 with
  | [] => { s with geo := { s.geo with
      enabled := false, ranges := [], digest := [], base := 0, len := 0, slotLen := 0, points := [{}, {}, {}, {}] } }
  | r :: _ =>
    let s := { s with geo := { s.geo with
      enabled := true, base := r.base, len := r.len, slotLen := r.aux, ranges := s.plainRanges ++ s.weightRanges } }
    let s := { s with geo := { s.geo with digest := s.mapDigest } }
    let s := s.each (List.range 4) State.checkPoint
    { s with geo := { s.geo with points := (List.range 4).map s.readPoint } }

/-- Step 11 with every table well formed; no answer: a Geode shard would exceed SLOT_LEN (R372). (DESIGN CHOICE:
log entry 17) -/
def State.loadAll (s : State) : Option State :=
  let s := s.loadRegs.loadTables.loadGeode
  if (List.range 4).all (fun n => !s.geo.enabled || decide (s.shardLen n ≤ s.geo.slotLen)) then some s else none

/-! ### Step 12: PRESET records (R44) -/

/-- Whether a record may target a register: any of these pages, their headers among them (R44). -/
def presetPage (b : Blk) (o : Nat) : Bool :=
  match b with
  | .arr _ | .vec _ | .cdma _ | .cst _ | .ver | .mbq | .geo | .flt | .col => true
  | .hbm _ => [0xA0, 0xA4, 0xA8].contains o
  | _ => false

/-- One record: a write of the masked bits; no answer: it fails the LOAD. (DEDUCED: log entries 19, 36) -/
def State.preset (s : State) (who : Requester) (l : List Byte) : Option State :=
  let a := numAt l 0 4
  let v := BitVec.ofNat 32 (numAt l 4 4)
  let m := BitVec.ofNat 32 (numAt l 8 4)
  match Blk.ofOff a with
  | none => none
  | some b =>
    match b.row? (a % 4096) with
    | none => none
    | some row =>
      if !presetPage b row.off || !s.answers b || !zeroAt l 12 4 then none
      else
        let old := s.live b row.off &&& ~~~maskW row.w1c
        let r := s.writeReg { who := who, own := true, preset := true } b row ((old &&& ~~~m) ||| (v &&& m))
        if r.1 then none else some r.2

/-- The records in table order; with the first that fails the step ends, and those before it stay applied. -/
def State.presets (who : Requester) : State → List (List Byte) → Bool × State
  | s, [] => (true, s)
  | s, l :: ls =>
    match s.preset who l with
    | none => (false, s)
    | some s => State.presets who s ls

/-- Step 12. -/
def State.presetStep (s : State) (who : Requester) : Bool × State :=
  if (s.sect 11).2 % 16 = 0 then State.presets who s (s.records 11 16) else (false, s)

/-! ### The whole of LOAD (R72) -/

/-- A step of LOAD: the LOAD_ERR of its failure, the ranges of local memory that it reads, its check, and what it does.
-/
structure LoadStep where
  code : Nat
  reads : State → List (Nat × Nat)
  ok   : State → Bool
  act  : State → State

/-- Step 10 (R477). (DEDUCED: log entry 19) -/
def State.measureImage (s : State) : State :=
  (s.setMeas 3 zero32).measure 3 (sha256 (s.bytes s.imageBase s.imageLen))

/-- Steps 2 to 11, the writes of step 11 apart. -/
def loadSteps : List LoadStep :=
  [{ code := 0x01, reads := fun s => [(s.imageBase, 128)], ok := State.headerOk, act := id },
   { code := 0x02, reads := fun _ => [], ok := State.partOk, act := id },
   { code := 0x03, reads := fun _ => [], ok := State.placeOk, act := id },
   { code := 0x04, reads := fun _ => [], ok := State.periodsMatch, act := id },
   { code := 0x05, reads := fun s => [(s.imageBase + 0x80, 16 * min 64 s.sectionCount)], ok := State.sectionsOk,
     act := State.noteSections },
   { code := 0x08, reads := fun _ => [], ok := State.limitsOk, act := id },
   { code := 0x09, reads := fun _ => [], ok := fun s => decide (s.husks ≤ s.header 0x2E 1), act := id },
   { code := 0x07, reads := fun s => [s.sect 5, s.sect 7], ok := State.tensorsOk, act := id },
   { code := 0, reads := fun s => [(s.imageBase, s.imageLen)], ok := fun _ => true, act := State.measureImage },
   { code := 0x06, reads := fun _ => [], ok := State.tablesOk, act := id }]

/-- Image poison that LOAD reads: device-fatal (R45, R345). (DESIGN CHOICE: log entry 18) -/
def State.imagePoison (s : State) : State := (s.poisonSeen .glb).setFlag .ras 0x80 31 true

/-- The steps in order: the LOAD_ERR of the first that fails, 0 where none does. A range that no stack serves ends
it
as poison does, and is recorded in the GLB page (R259). (DESIGN CHOICE: log entry 17) -/
def State.runLoad : State → List LoadStep → Nat × State
  | s, [] => (0, s)
  | s, p :: ps =>
    let l := p.reads s
    match l.findSome? (fun e => s.firstUnserved e.1 e.2) with
    | some a => (0x0B, s.glbRecord a 5)
    | none =>
      let s := s.each l (fun s e => (s.enter .system e.1 e.2).checkRead e.1 e.2)
      if l.any (fun e => s.rangePoisoned e.1 e.2) then (0x0B, s.imagePoison)
      else if p.ok s then (p.act s).runLoad ps
      else (p.code, s)

/-- Steps 1 to 12. (DESIGN CHOICE: log entry 18) -/
def State.loadImage (s : State) (who : Requester) : Nat × State :=
  let s := { s with job := { s.job with prot := none, secs := [] } }
  if !s.rangeOk then (0x0A, s)
  else
    let r := { s with job := { s.job with prot := some (s.imageBase, s.imageLen) } }.runLoad loadSteps
    if r.1 ≠ 0 then r
    else
      match r.2.loadAll with
      | none => (0x06, r.2)
      | some s =>
        let q := s.presetStep who
        (if q.1 then 0 else 0x0C, q.2)

/-- LOAD where it is accepted: LOADING, with what the procedure finds (R69, R72, R345). (DESIGN CHOICE: log entry
17) -/
def State.startLoad (s : State) (who : Requester) : Option State :=
  if (s.job.st = .empty ∨ s.job.st = .loadFailed) && !s.flag .ras 0x80 31 then
    let s := { s with job := { s.job with loadErr := 0, result := 0 } }.setJobState .loading
    let r := s.loadImage who
    some { r.2 with job := { r.2.job with result := r.1 } }
  else none

/-- LOAD_DONE: LOADED, or LOAD_FAILED with the code of the first step that failed (R72). (DESIGN CHOICE: log entry
17) -/
def State.loadDone (s : State) : State :=
  if s.job.st ≠ .loading then s
  else if s.job.result = 0 then s.setJobState .loaded
  else { s with job := { s.job with loadErr := s.job.result } }.setJobState .loadFailed

end Sys2Proof.Machine
end

