-- ==== Sys2Proof/Machine/Mmio.lean ====
section
/-!
DEFINITION. Accesses to registers from outside: reads and writes of BAR0 by a host port, by JTAG and by the I3C target
(R10, R11, R15, R29, R399, R442, R484, R515), the job command register (R69, R70), the debug memory window (R518), and
BAR4 (R395, R409, R411).
-/

namespace Sys2Proof.Machine

open Sys2Proof

/-! ### Register pairs and captures (R10, R11, R79) -/

/-- The block-specific offsets of a page whose registers are named _LO, the _HI register following. -/
def Blk.pairs : Blk → List Nat
  | .glb => [0xB0, 0xC0, 0xC8, 0xD0, 0xE0]
  | .tim => [0x88, 0x98, 0xA0]
  | .sec => [0x98]
  | .cfg => [0x90]
  | .ras => [0x90, 0xA0]
  | .tel => 0x88 :: (List.range 8).map (fun k => 0x140 + 8 * k)
  | .dbg => [0xC4]
  | .hif _ => [0x88]
  | .dma => (List.range 16).flatMap (fun c => [0x108 + 0x20 * c, 0x110 + 0x20 * c])
  | .frt => [0x90, 0x98, 0xA0, 0xA8]
  | .ver => [0x90, 0x98, 0xC0, 0xC8, 0xD0, 0xD8]
  | .mbq => [0x90]
  | .cad => [0x80, 0x98]
  | .geo => [0x80, 0x88, 0xB0, 0xC8, 0xD0, 0xE0, 0xE8, 0x100, 0x110, 0x120, 0x130]
  | .flt => [0x90]
  | _ => []

/-- Whether the register at an offset of a page is named _LO. -/
def Blk.isLo (b : Blk) (o : Nat) : Bool := o == 0x20 || b.pairs.contains o

/-- The value captured for a requester at a BAR0 offset. -/
def State.capture? (s : State) (r : Requester) (a : Nat) : Option Word :=
  (s.caps.find? (fun e => e.1 == r && e.2.1 == a)).map (·.2.2)

/-- The captures without one. -/
def State.dropCapture (s : State) (r : Requester) (a : Nat) : State :=
  { s with caps := s.caps.filter (fun e => !(e.1 == r && e.2.1 == a)) }

/-- A value captured for a requester, in place of an earlier one. -/
def State.capture (s : State) (r : Requester) (a : Nat) (w : Word) : State :=
  { s.dropCapture r a with caps := (s.dropCapture r a).caps ++ [(r, a, w)] }

/-- What a read captures: of a _LO register the _HI value, of TIM_NOW_LO also TIM_NOW_FRAC. -/
def State.captureFor (s : State) (r : Requester) (b : Blk) (o : Nat) : State :=
  if b.isLo o then
    let t := s.capture r (b.base + o + 4) (s.live b (o + 4))
    if b = .tim ∧ o = 0x88 then t.capture r (b.base + 0x84) (s.live .tim 0x84) else t
  else s

/-- A read of a register of a page that answers: a captured value where the requester holds one. -/
def State.readReg (s : State) (r : Requester) (b : Blk) (o : Nat) : Word × State :=
  match s.capture? r (b.base + o) with
  | some w => (w, s.dropCapture r (b.base + o))
  | none => (s.live b o, s.captureFor r b o)

/-! ### Error responses (R15, R399) -/

/-- A read that gets an error response; a host's read is completed with Completer Abort. (DEDUCED: log entry 30) -/
def State.readFails (s : State) (r : Requester) (b : Blk) (a : Nat) : State :=
  let s := s.violation b a r
  match r with
  | .mmio h => s.completerAborts h
  | .jtag | .i3c => s.emit (.completerAbort r)

/-- A write that is a violation; a host's write counts as discarded. (DEDUCED: log entry 30) -/
def State.writeFails (s : State) (r : Requester) (b : Blk) (a : Nat) : State :=
  let s := s.violation b a r
  match r with
  | .mmio h => s.countSat (.hif h) 0x94 1
  | .jtag | .i3c => s

/-! ### The debug memory window (R518) -/

/-- DBG_MEM_ADDR. -/
def State.dbgAddr (s : State) : Nat := s.reg64 .dbg 0xC4

/-- DBG_MEM_CTL.SPACE. -/
def State.dbgSpace (s : State) : Nat := s.field .dbg 0xC0 1 0

/-- The core that DBG_MEM_CTL names, where it is neither a husk nor on a die that is down. -/
def State.dbgCore (s : State) : Option CoreId :=
  match coreOfNat (s.field .dbg 0xC0 15 8) with
  | none => none
  | some c => if s.husk c || !(s.die (coreDie c)).up then none else some c

/-- Bytes of a space: local HBM, core store, V registers, T registers. -/
def dbgLimit (space : Nat) : Nat :=
  if space = 0 then 2 ^ 40 else if space = 1 then 0x1800000 else if space = 2 then 32 * 512 else 4 * 65536

/-- Whether the address lies within its space. (DEDUCED: log entry 27) -/
def State.dbgInside (s : State) : Bool := decide (s.dbgAddr % 4 = 0 ∧ s.dbgAddr < dbgLimit s.dbgSpace)

/-- The address moved on where INC is set. -/
def State.dbgNext (s : State) : State :=
  if s.flag .dbg 0xC0 16 then s.setReg64 .dbg 0xC4 (s.dbgAddr + 4) else s

/-- The four bytes of the core store at a word, and their poison. -/
def Core.storeWord (x : Core) (a : Nat) : Nat × Bool :=
  (leNat (Store.getMany (fun _ => 0) x.cst a 4), Store.get (fun _ => false) x.lpoison (lineOf a))

/-- What the window reads, with its poison; no answer: an access violation. -/
def State.dbgGet (s : State) : Option ((Nat × Bool) × State) :=
  let a := s.dbgAddr
  if !s.dbgInside then none
  else if s.dbgSpace = 0 then
    if s.served a then
      let s := (s.enter .system a 4).checkRead a 4
      some ((s.mem a 4, s.poisoned a), s)
    else none
  else
    match s.dbgCore with
    | none => none
    | some c =>
      if s.dbgSpace = 1 then
        let s := s.checkLine c (lineOf a)
        some ((s.core c).storeWord a, s)
      else
        let x := s.core c
        let i := a / 4
        if s.dbgSpace = 2 then
          some (((Store.get (fun _ => 0) x.v i).toNat, Store.get (fun _ => false) x.vp i), s)
        else some (((Store.get (fun _ => 0) x.t i).toNat, Store.get (fun _ => false) x.tp i), s)

/-- A word of a register file written, with clean poison. -/
def Core.putReg (x : Core) (tile : Bool) (i : Nat) (w : Word) : Core :=
  if tile then { x with t := Store.set (fun _ => 0) x.t i w, tp := Store.set (fun _ => false) x.tp i false }
  else { x with v := Store.set (fun _ => 0) x.v i w, vp := Store.set (fun _ => false) x.vp i false }

/-- What the window writes; no answer: an access violation. A write into the image is also recorded in GLB (R45). -/
def State.dbgPut (s : State) (w : Word) : Option State :=
  let a := s.dbgAddr
  if !s.dbgInside then none
  else if s.dbgSpace = 0 then
    if s.served a && !s.hitsImage a 4 then some ((s.enter .system a 4).write a (leBytes w.toNat 4) false) else none
  else
    match s.dbgCore with
    | none => none
    | some c =>
      if s.dbgSpace = 1 then
        some (s.modCore c (fun x => x.writeLine (cellsOf a false (leBytes w.toNat 4)) (lineOf a)))
      else some (s.modCore c (fun x => x.putReg (s.dbgSpace == 3) (a / 4) w))

/-- Poison handed to whoever reads through the window (R256, R349, R350). -/
def State.dbgPoison (s : State) (r : Requester) (p : Bool) : State :=
  if !p then s
  else
    match r with
    | .mmio _ => (s.poisonSeen .dbg).poisonHost
    | .jtag | .i3c => s.poisonSeen .dbg

/-- DBG_MEM_DATA read. (DEDUCED: log entry 27) -/
def State.dbgRead (s : State) (r : Requester) : State :=
  match s.dbgGet with
  | none => s.readFails r .dbg (Blk.dbg.base + 0xCC)
  | some (v, t) => ((t.dbgPoison r v.2).emit (.regData r (Blk.dbg.base + 0xCC) (BitVec.ofNat 32 v.1) v.2)).dbgNext

/-- DBG_MEM_DATA written, by the owner or through JTAG (R515). (DEDUCED: log entry 27) -/
def State.dbgWrite (s : State) (r : Requester) (w : Word) : State :=
  let bad := s.writeFails r .dbg (Blk.dbg.base + 0xCC)
  if !s.isOwner r then bad
  else
    match s.dbgPut w with
    | some t => t.dbgNext
    | none => if s.dbgSpace = 0 then bad.imageRecord s.dbgAddr 4 (requesterKind r) else bad

/-! ### GLB_JOB_CMD (R69 to R71, R77, R445) -/

/-- A job command, where it is accepted. (DEDUCED: log entry 31) -/
def State.jobCommand (s : State) (who : Requester) (w : Word) : Option State :=
  let runs := decide (s.pwr.st = .run)
  let code := fld w 3 0
  if code = 1 then (if runs then s.startLoad who else none)
  else if code = 2 then (if runs then s.armJob else none)
  else if code = 3 then s.waitJob .running .pause
  else if code = 4 then (if runs then s.waitJob .paused .resume else none)
  else if code = 5 then s.haltJob (wbit w 8)
  else if code = 6 then
    if runs && (s.job.st == .loaded || s.job.st == .loadFailed || s.job.st == .halted) then some (s.clearJob (wbit w 9))
    else none
  else none

/-- GLB_JOB_CMD written: a command that is not accepted is a violation and JOB_CMD_REJECTED (R70). (DEDUCED: log
entry 31) -/
def State.writeJobCmd (s : State) (r : Requester) (w : Word) : State :=
  let a := Blk.glb.base + 0xA4
  if !s.isOwner r then s.writeFails r .glb a
  else
    match s.jobCommand r w with
    | some t => t.setReg .glb 0xA4 (w &&& 0x30F)
    | none => (s.writeFails r .glb a).raise { page := .glb, bit := 8, cls := 2, addr := a, kind := requesterKind r }

/-! ### BAR0 -/

/-- A read of 4 bytes at an aligned BAR0 offset; X answers for a page that does not (R29). -/
def State.read32 (s : State) (r : Requester) (a : Nat) : State :=
  match Blk.ofOff a with
  | none => s.readFails r .glb a
  | some b =>
    let o := a % 0x1000
    if !s.answers b then
      if o = 0 then s.emit (.regData r a (BitVec.ofNat 32 (b.typeCode * 2 ^ 24 + b.inst * 2 ^ 16)) false)
      else if o = 0xC then s.emit (.regData r a (BitVec.ofNat 32 (at_ b.coreOf.isSome 2)) false)
      else s.readFails r .glb a
    else
      match b.row? o with
      | none => s.readFails r b a
      | some _ =>
        if b = .dbg ∧ !s.dbgOk o then s.readFails r b a
        else if b = .dbg ∧ o = 0xCC then s.dbgRead r
        else
          let q := s.readReg r b o
          q.2.emit (.regData r a q.1 false)

/-- A write of 4 bytes at an aligned BAR0 offset. -/
def State.write32 (s : State) (r : Requester) (a : Nat) (w : Word) : State :=
  match Blk.ofOff a with
  | none => s.writeFails r .glb a
  | some b =>
    let o := a % 0x1000
    if !s.answers b then s.writeFails r .glb a
    else
      match b.row? o with
      | none => s.writeFails r b a
      | some row =>
        if b = .glb ∧ o = 0xA4 then s.writeJobCmd r w
        else if b = .dbg ∧ o = 0xCC then (if s.dbgOk o then s.dbgWrite r w else s.writeFails r b a)
        else
          let q := s.writeReg { who := r, own := s.isOwner r } b row w
          if q.1 then q.2.writeFails r b a else q.2

/-- The page that records an access of a wrong size or alignment (R10, R15). (DEDUCED: log entry 29) -/
def State.recordPage (s : State) (a : Nat) : Blk :=
  match Blk.ofOff a with
  | none => .glb
  | some b => if s.answers b then b else .glb

/-- Whether an 8-byte access at an offset is one to a register pair. -/
def isPair (a : Nat) : Bool :=
  decide (a % 8 = 0) && (match Blk.ofOff a with
    | none => false
    | some b => b.isLo (a % 0x1000))

/-- A read of BAR0 (R10). -/
def State.readBar0 (s : State) (r : Requester) (a size : Nat) : State :=
  if size = 4 ∧ a % 4 = 0 then s.read32 r a
  else if size = 8 ∧ isPair a then (s.read32 r a).read32 r (a + 4)
  else s.readFails r (s.recordPage a) a

/-- A write of BAR0 (R10). -/
def State.writeBar0 (s : State) (r : Requester) (a size : Nat) (v : BitVec 64) : State :=
  if size = 4 ∧ a % 4 = 0 then s.write32 r a (v.setWidth 32)
  else if size = 8 ∧ isPair a then (s.write32 r a (v.setWidth 32)).write32 r (a + 4) ((v >>> 32).setWidth 32)
  else s.writeFails r (s.recordPage a) a

/-! ### BAR4 (R395, R409, R411) -/

/-- A dword of the MSI-X table as it reads. -/
def HostPort.msixWord (p : HostPort) (i : Nat) : Word := Store.get (fun k => if k % 4 = 3 then 1 else 0) p.msix i

/-- A dword of the MSI-X table written; a vector that is unmasked is sent if it waits (R411). (PRESUMED: log entry
32) -/
def State.writeMsix (s : State) (h : HostId) (i : Nat) (w : Word) : State :=
  let w := if i % 4 = 3 then w &&& 1 else if i % 4 = 0 then w &&& 0xFFFFFFFC else w
  (s.modHost h (fun p => { p with
    msix := Store.set (fun k => if k % 4 = 3 then 1 else 0) p.msix i w })).firePending h

/-- A dword of the Pending Bit Array. -/
def HostPort.pbaWord (p : HostPort) (i : Nat) : Word :=
  BitVec.ofNat 32 ((List.range 32).map (fun k => at_ (Store.get (fun _ => false) p.pba (32 * i + k)) k)).sum

/-- A dword read through BAR4; none where nothing can be read. -/
def State.bar4Word (s : State) (h : HostId) (a : Nat) : Option Word :=
  if a % 0x1000 = 0 ∧ a < 0x10000 then some 0
  else if 0x80000 ≤ a ∧ a < 0x81000 then some ((s.hostPort h).msixWord ((a - 0x80000) / 4))
  else if 0x90000 ≤ a ∧ a < 0x90020 then some ((s.hostPort h).pbaWord ((a - 0x90000) / 4))
  else none

/-- Whether an access to BAR4 has a size and alignment of its structure: 4 bytes, and 8 in the MSI-X structures. -/
def bar4Size (a size : Nat) : Bool :=
  (size == 4 && decide (a % 4 = 0)) || (size == 8 && decide (a % 8 = 0 ∧ 0x80000 ≤ a))

/-- A read of BAR4. (PRESUMED: log entry 32) -/
def State.readBar4 (s : State) (h : HostId) (a size : Nat) : State :=
  let l := (List.range (size / 4)).map (fun i => (a + 4 * i, s.bar4Word h (a + 4 * i)))
  if !bar4Size a size || l.any (fun e => e.2.isNone) then s.readFails (.mmio h) (.hif h) a
  else s.each l (fun s e => s.emit (.regData (.mmio h) e.1 (e.2.getD 0) false))

/-- A dword written through BAR4. (PRESUMED: log entry 32) -/
def State.write4 (s : State) (h : HostId) (a : Nat) (w : Word) : State :=
  if hc : a % 0x1000 = 0 ∧ a < 0x10000 then
    s.doorbell h ⟨a / 0x1000, by omega⟩ (w.toNat % 2 ^ 16)
  else if 0x80000 ≤ a ∧ a < 0x81000 then s.writeMsix h ((a - 0x80000) / 4) w
  else if 0x90000 ≤ a ∧ a < 0x90020 then s
  else s.writeFails (.mmio h) (.hif h) a

/-- A write of BAR4. -/
def State.writeBar4 (s : State) (h : HostId) (a size : Nat) (v : BitVec 64) : State :=
  if !bar4Size a size then s.writeFails (.mmio h) (.hif h) a
  else
    let s := s.write4 h a (v.setWidth 32)
    if size = 8 then s.write4 h (a + 4) ((v >>> 32).setWidth 32) else s

/-! ### The I3C target (R441, R442) -/

/-- Registers of the standby domain, which READ reaches in every state (R441). -/
def standbyReg (b : Blk) (o : Nat) : Bool :=
  match b with
  | .sec | .cfg => true
  | .glb => [0x80, 0x84, 0x98].contains o
  | .pwr => o == 0x84
  | .tim => [0x84, 0x88, 0x8C].contains o
  | _ => false

/-- Registers that READ reaches while the main domain is powered (R442). -/
def mainReg (b : Blk) (o : Nat) : Bool :=
  match b with
  | .glb | .pwr | .tim | .ras | .cfg => true
  | .core _ => o == 0x90
  | .hbm _ => o == 0xB4
  | _ => false

/-- I3C READ: the next private read returns the value and STATUS; the value of a refused read is open. (DEDUCED:
log entry 33) -/
def State.i3cRead (s : State) (a : Nat) : State :=
  let refuse := fun (status : Byte) => (s.takeFreeBytes 4).2.setNext ((s.takeFreeBytes 4).1 ++ [status])
  if s.i3c.addr.isNone then s
  else
    match Blk.ofOff a with
    | none => refuse 1
    | some b =>
      let o := a % 0x1000
      let there := (b.row? o).isSome && decide (a % 4 = 0)
      if there && standbyReg b o || (there && mainReg b o && s.pwr.powered && s.answers b) then
        let q := s.readReg .i3c b o
        q.2.setNext (leBytes q.1.toNat 4 ++ [0])
      else if there && mainReg b o && !s.pwr.powered then refuse 2
      else refuse 1

/-- I3C WRITE: PWR_STATE_REQ only, as the owner; the next private read returns STATUS. (DEDUCED: log entry 33) -/
def State.i3cWrite (s : State) (a : Nat) (w : Word) : State :=
  if s.i3c.addr.isNone then s
  else if a ≠ Blk.pwr.base + 0x80 then s.setNext [1]
  else if !s.pwr.powered then s.setNext [2]
  else
    match Blk.pwr.row? 0x80 with
    | none => s.setNext [1]
    | some row =>
      let q := s.writeReg { who := .i3c, own := true } .pwr row w
      if q.1 then s.setNext [1] else q.2.setNext [0]

/-! ### Any access -/

/-- Whether the debug path through JTAG is open: the TAP is there and the level permits it (R484). -/
def State.jtagOpen (s : State) (write : Bool) : Bool := s.pwr.powered && decide ((if write then 2 else 1) ≤ s.sec.level)

/-- REGISTER_READ and every other read of a register. (PRESUMED: log entry 32) -/
def State.regRead (s : State) (r : Requester) (x : RegAccess) : State :=
  match r with
  | .mmio h =>
    match x.bar with
    | .config => s.readConfig h x.off.toNat
    | .bar0 => if s.portTakes h then s.readBar0 r x.off.toNat x.size else s.pciRejects h true
    | .bar4 => if s.portTakes h then s.readBar4 h x.off.toNat x.size else s.pciRejects h true
  | .jtag => if s.jtagOpen false then s.readBar0 r x.off.toNat x.size else s
  | .i3c => s.i3cRead x.off.toNat

/-- REGISTER_WRITE and every other write of a register; one received with EP writes nothing. (PRESUMED: log entry
32) -/
def State.regWrite (s : State) (r : Requester) (x : RegAccess) (v : BitVec 64) : State :=
  match r with
  | .mmio h =>
    match x.bar with
    | .config => s.writeConfig h x.off.toNat (v.setWidth 32)
    | .bar0 => if s.portTakes h then (if x.ep then s.poisonRx h x.off.toNat else s.writeBar0 r x.off.toNat x.size v)
      else s.pciRejects h false
    | .bar4 => if s.portTakes h then (if x.ep then s.poisonRx h x.off.toNat else s.writeBar4 h x.off.toNat x.size v)
      else s.pciRejects h false
  | .jtag => if s.jtagOpen true then s.writeBar0 r x.off.toNat x.size v else s
  | .i3c => s.i3cWrite x.off.toNat (v.setWidth 32)

/-- A write of 4 bytes to the register of a page. -/
def State.poke (s : State) (r : Requester) (b : Blk) (o : Nat) (w : Word) : State :=
  s.regWrite r { bar := .bar0, off := BitVec.ofNat 26 (b.base + o), size := 4 } (w.setWidth 64)

/-- A read of 4 bytes of the register of a page. -/
def State.peek (s : State) (r : Requester) (b : Blk) (o : Nat) : State :=
  s.regRead r { bar := .bar0, off := BitVec.ofNat 26 (b.base + o), size := 4 }

/-! ### The test port (R491, R559) -/

/-- Whether boundary scan is permitted (R491): in every lifecycle state but OWNED, and there at CONTROL. -/
def Sec.scanOk (c : Sec) : Bool := c.lifecycle != 2 || c.level == 2

/-- The instruction that a code acts as. -/
def State.tapActs (s : State) (ir : Byte) : Byte :=
  if ir = 1 then 1
  else if (ir = 2 ∨ ir = 3) && s.sec.scanOk then ir
  else if 0x80 ≤ ir.toNat && ir.toNat < 0xC0 && decide (1 ≤ s.sec.level) then ir
  else 0xFF

/-- TAP_INSTRUCTION: the TAP does not respond in OFF and in cold reset; IDCODE shifts out its register. -/
def State.tap (s : State) (ir : Byte) : State :=
  if !s.pwr.powered then s
  else
    let s := { s with jtag := { ir := s.tapActs ir } }
    if s.jtag.ir = 1 then s.emit (.jtagData 0x19216A6B) else s

end Sys2Proof.Machine
end

