-- ==== Sys2Proof/Machine/CoreRows.lean ====
section
/-!
DEFINITION. Commands of core faults, repair, Flint and sweeps (R101, R145, R351 to R364).
-/

namespace Sys2Proof.Machine

open Sys2Proof

/-- FATAL_CORE_ERROR (R145). -/
def execFatalCoreError (c : CoreId) (cause : CoreCause) (s : State) : Host.Outcome State Fault Refusal :=
  .next (s.fatalCore c cause)

/-- REPAIR_PIECE (R101). -/
def execRepairPiece (c : CoreId) (s : State) : Host.Outcome State Fault Refusal := .next (s.startPiece c)

/-- RESBUF_PARITY (R357). -/
def execResbufParity (die : DieId) (s : State) : Host.Outcome State Fault Refusal := .next (s.resbufParity die)

/-- VERDICT (R353). -/
def execVerdict (c : CoreId) (spoilt : Option (BitVec 7)) (s : State) : Host.Outcome State Fault Refusal :=
  .next (s.verdict c spoilt)

/-- RERUN_S (R354). -/
def execRerunS (die : DieId) (upsets : List Upset) (spoilt : Option (BitVec 7)) (s : State) :
    Host.Outcome State Fault Refusal :=
  .next (s.rerunS die upsets spoilt)

/-- RERUN_X (R354). -/
def execRerunX (die : DieId) (upsets : List Upset) (spoilt : Option (BitVec 7)) (s : State) :
    Host.Outcome State Fault Refusal :=
  .next (s.rerunX die upsets spoilt)

/-- RESOLUTION_OUTCOME (R355). -/
def execResolutionOutcome (die : DieId) (s : State) : Host.Outcome State Fault Refusal :=
  .next (s.resolutionOutcome die)

/-- SWEEP (R360). -/
def execSweep (r : Requester) (groups : BitVec 5) (all : Bool) (core : BitVec 8)
    (s : State) : Host.Outcome State Fault Refusal :=
  .next (s.poke r .flt 0x98 (BitVec.ofNat 32 (2 ^ 31 + groups.toNat * 2 ^ 16 + at_ all 8 + core.toNat)))

/-- SWEEP_ABORT (R360). (DESIGN CHOICE: log entry 23) -/
def execSweepAbort (r : Requester) (s : State) : Host.Outcome State Fault Refusal :=
  .next (s.poke r .flt 0x98 ((s.live .flt 0x98 &&& 0x7FFFFFFF) ||| 0x40000000))

/-- SWEEP_GROUP (R360). -/
def execSweepGroup (c : CoreId) (fail : Bool) (s : State) : Host.Outcome State Fault Refusal :=
  .next (s.sweepGroup c fail)

/-- SWEEP_DONE (R536). -/
def execSweepDone (s : State) : Host.Outcome State Fault Refusal := .next s.sweepDone

/-- DESC_COMPLETE (R49). -/
def execDescComplete (c : CoreId) (u : UnitId) (s : State) : Host.Outcome State Fault Refusal :=
  .next ((s.descComplete c u).settle)

end Sys2Proof.Machine
end

