-- ==== Sys2Proof/Machine/DescRows.lean ====
section
/-!
DEFINITION. Commands that issue the core's next descriptor, which must hold the opcode: sequencer, array, core DMA, queues, versions, remote operations and collectives (R46 to R52).
-/

namespace Sys2Proof.Machine

open Sys2Proof

/-- END (R51). -/
def execEndOp (c : CoreId) (s : State) : Host.Outcome State Fault Refusal :=
  .next ((s.issue c 0x00 (fun d _ s => d.endList c s)).settle)

/-- NOP (R48). -/
def execNop (c : CoreId) (s : State) : Host.Outcome State Fault Refusal :=
  .next ((s.issue c 0x01 (fun d _ s => d.nop s)).settle)

/-- FENCE (R50). -/
def execFence (c : CoreId) (s : State) : Host.Outcome State Fault Refusal :=
  .next ((s.issue c 0x02 (fun d _ s => d.fence c s)).settle)

/-- KAT (R359). -/
def execKat (c : CoreId) (failGroups : BitVec 5) (s : State) : Host.Outcome State Fault Refusal :=
  .next ((s.issue c 0xB8 (fun d _ s => d.kat c failGroups.toNat s)).settle)

/-- MMA (R121). -/
def execMma (c : CoreId) (upsets : List Upset) (badLines : List (BitVec 19))
    (s : State) : Host.Outcome State Fault Refusal :=
  .next (((s.upsetLines c badLines).issue c 0x10 (fun d _ s => d.runMma c upsets s)).settle)

/-- DMA_COPY (R249). -/
def execDmaCopy (c : CoreId) (badLines : List (BitVec 19)) (s : State) : Host.Outcome State Fault Refusal :=
  .next (((s.upsetLines c badLines).issue c 0x60 (fun d l s => d.dmaCopy c l s)).settle)

/-- DMA_FILL (R250). -/
def execDmaFill (c : CoreId) (s : State) : Host.Outcome State Fault Refusal :=
  .next ((s.issue c 0x61 (fun d l s => d.dmaFill c l s)).settle)

/-- CTX_START (R211). -/
def execCtxStart (c : CoreId) (s : State) : Host.Outcome State Fault Refusal :=
  .next ((s.issue c 0x70 (fun d l s => d.ctxStart c l s)).settle)

/-- CTX_END (R211). -/
def execCtxEnd (c : CoreId) (s : State) : Host.Outcome State Fault Refusal :=
  .next ((s.issue c 0x71 (fun d l s => d.ctxEnd c l s)).settle)

/-- QCHECK (R220). -/
def execQcheck (c : CoreId) (s : State) : Host.Outcome State Fault Refusal :=
  .next ((s.issue c 0x72 (fun d l s => d.qcheck c l s)).settle)

/-- QCOPY (R213). -/
def execQcopy (c : CoreId) (s : State) : Host.Outcome State Fault Refusal :=
  .next ((s.issue c 0x73 (fun d l s => d.qcopy c l s)).settle)

/-- VCAPTURE (R227). -/
def execVcapture (c : CoreId) (s : State) : Host.Outcome State Fault Refusal :=
  .next ((s.issue c 0x80 (fun d l s => d.vcapture c l s)).settle)

/-- VGATHER (R237). -/
def execVgather (c : CoreId) (s : State) : Host.Outcome State Fault Refusal :=
  .next ((s.issue c 0x81 (fun d l s => d.vgather c l s)).settle)

/-- VOPEN (R230). -/
def execVopen (c : CoreId) (s : State) : Host.Outcome State Fault Refusal :=
  .next ((s.issue c 0x82 (fun d l s => d.vopen c l s)).settle)

/-- VPUBLISH (R231). -/
def execVpublish (c : CoreId) (s : State) : Host.Outcome State Fault Refusal :=
  .next ((s.issue c 0x83 (fun d l s => d.vpublish c l s)).settle)

/-- RREAD (R313). -/
def execRread (c : CoreId) (s : State) : Host.Outcome State Fault Refusal :=
  .next ((s.issue c 0x90 (fun d l s => d.remote c l s)).settle)

/-- RWRITE (R313). -/
def execRwrite (c : CoreId) (s : State) : Host.Outcome State Fault Refusal :=
  .next ((s.issue c 0x91 (fun d l s => d.remote c l s)).settle)

/-- RADD (R313). -/
def execRadd (c : CoreId) (s : State) : Host.Outcome State Fault Refusal :=
  .next ((s.issue c 0x92 (fun d l s => d.remote c l s)).settle)

/-- REDUCE_WRITE (R313). -/
def execReduceWrite (c : CoreId) (s : State) : Host.Outcome State Fault Refusal :=
  .next ((s.issue c 0x93 (fun d l s => d.remote c l s)).settle)

/-- REDUCE_SCATTER (R331). -/
def execReduceScatter (c : CoreId) (s : State) : Host.Outcome State Fault Refusal :=
  .next ((s.issue c 0xA0 (fun d _ s => d.collective c s)).settle)

/-- ALL_GATHER (R331). -/
def execAllGather (c : CoreId) (s : State) : Host.Outcome State Fault Refusal :=
  .next ((s.issue c 0xA1 (fun d _ s => d.collective c s)).settle)

/-- ALL_REDUCE (R331). -/
def execAllReduce (c : CoreId) (s : State) : Host.Outcome State Fault Refusal :=
  .next ((s.issue c 0xA2 (fun d _ s => d.collective c s)).settle)

/-- RING_START (R334). -/
def execRingStart (c : CoreId) (s : State) : Host.Outcome State Fault Refusal :=
  .next ((s.issue c 0xA4 (fun d l s => d.ringStart c l s)).settle)

/-- RING_WAIT (R334). -/
def execRingWait (c : CoreId) (s : State) : Host.Outcome State Fault Refusal :=
  .next ((s.issue c 0xA5 (fun d _ s => d.ringWait c s)).settle)

end Sys2Proof.Machine
end

