-- ==== Sys2Proof/Machine/FabricRows.lean ====
section
/-!
DEFINITION. Commands that are flow units of operations arriving at a port, and their timeout (R314, R315, R323, R331, R334).
-/

namespace Sys2Proof.Machine

open Sys2Proof

/-- READ_REQ (R314). -/
def execReadReq (p : PortId) (f : Fu) (s : State) : Host.Outcome State Fault Refusal :=
  .next (s.onOp p f 0x10 State.serveReadReq)

/-- WRITE (R314). -/
def execWrite (p : PortId) (f : Fu) (s : State) : Host.Outcome State Fault Refusal :=
  .next (s.onOp p f 0x11 State.serveWrite)

/-- ADD_F32 (R314). -/
def execAddF32 (p : PortId) (f : Fu) (s : State) : Host.Outcome State Fault Refusal :=
  .next (s.onOp p f 0x12 State.serveWrite)

/-- ADD_I32 (R314). -/
def execAddI32 (p : PortId) (f : Fu) (s : State) : Host.Outcome State Fault Refusal :=
  .next (s.onOp p f 0x13 State.serveWrite)

/-- REDUCE (R314). -/
def execReduce (p : PortId) (f : Fu) (s : State) : Host.Outcome State Fault Refusal :=
  .next (s.onOp p f 0x14 State.serveWrite)

/-- VGATHER_REQ (R233). -/
def execVgatherReq (p : PortId) (f : Fu) (s : State) : Host.Outcome State Fault Refusal :=
  .next (s.onOp p f 0x15 State.serveGather)

/-- READ_RESP (R315). -/
def execReadResp (p : PortId) (f : Fu) (s : State) : Host.Outcome State Fault Refusal :=
  .next (s.onOp p f 0x18 State.takeResponse)

/-- WRITE_ACK (R315). -/
def execWriteAck (p : PortId) (f : Fu) (s : State) : Host.Outcome State Fault Refusal :=
  .next (s.onOp p f 0x19 State.takeResponse)

/-- ERROR (R315). -/
def execError (p : PortId) (f : Fu) (s : State) : Host.Outcome State Fault Refusal :=
  .next (s.onOp p f 0x1A State.takeResponse)

/-- RESP_TIMEOUT (R323). -/
def execRespTimeout (tag : BitVec 14) (s : State) : Host.Outcome State Fault Refusal :=
  .next ((s.respTimeout tag.toNat).settle)

/-- COL_DATA (R331). -/
def execColData (p : PortId) (f : Fu) (s : State) : Host.Outcome State Fault Refusal :=
  .next (s.onSegment p f 0x20 State.takeColData)

/-- RING_BLOCK (R334). -/
def execRingBlock (p : PortId) (f : Fu) (s : State) : Host.Outcome State Fault Refusal :=
  .next (s.onSegment p f 0x21 State.takeRingBlock)

end Sys2Proof.Machine
end

