-- ==== Sys2Proof/Machine/GeodeRows.lean ====
section
/-!
DEFINITION. Commands of Geode and of the version store's host fetch (R238, R365 to R390, R535).
-/

namespace Sys2Proof.Machine

open Sys2Proof

/-- META_POISON: a parity error in the version store's own metadata (R232, R242). -/
def State.metaPoison (s : State) : State :=
  (s.poisonSeen .ver).raise { page := .ver, bit := 18, cls := 4, halt := 0x01 }

/-- GEO_HELLO_EXPIRY: none has arrived for 5 ms (R379). -/
def State.geoHelloExpiry (s : State) : State := { s with geo := { s.geo with hello := none } }

/-- HOST_FETCH (R238). -/
def execHostFetch (r : Requester) (s : State) : Host.Outcome State Fault Refusal :=
  .next (s.poke r .ver 0x84 (s.live .ver 0x84 ||| 1))

/-- FETCH_DONE (R238). -/
def execFetchDone (data : List HostBlock) (s : State) : Host.Outcome State Fault Refusal := .next (s.fetchDone data)

/-- META_POISON (R232). -/
def execMetaPoison (s : State) : Host.Outcome State Fault Refusal := .next s.metaPoison

/-- HOST_DRAIN (R383). -/
def execHostDrain (r : Requester) (port : BitVec 2) (s : State) : Host.Outcome State Fault Refusal :=
  .next (s.poke r .geo 0xC0 (BitVec.ofNat 32 (2 ^ 31 + port.toNat)))

/-- DURABLE_DRAIN (R383). -/
def execDurableDrain (r : Requester) (port : BitVec 2) (s : State) : Host.Outcome State Fault Refusal :=
  .next (s.poke r .geo 0xC0 (BitVec.ofNat 32 (2 ^ 31 + 2 ^ 8 + port.toNat)))

/-- DURABLE_COMMIT (R383). -/
def execDurableCommit (s : State) : Host.Outcome State Fault Refusal := .next s.durableCommit.settle

/-- HOST_DRAIN_ABORT (R383). (DESIGN CHOICE: log entry 23) -/
def execHostDrainAbort (r : Requester) (s : State) : Host.Outcome State Fault Refusal :=
  .next (s.poke r .geo 0xC0 ((s.live .geo 0xC0 &&& 0x103) ||| 0x40000000))

/-- HOST_DONE (R390). -/
def execHostDone (s : State) : Host.Outcome State Fault Refusal := .next s.hostDone

/-- RESTORE (R386). -/
def execRestore (r : Requester) (source : BitVec 2) (s : State) : Host.Outcome State Fault Refusal :=
  .next (s.poke r .geo 0xD8 (BitVec.ofNat 32 (2 ^ 31 + source.toNat)))

/-- RESTORE_DONE (R386). -/
def execRestoreDone (s : State) : Host.Outcome State Fault Refusal := .next s.restoreDone.settle

/-- GEO_STEP_LO_WRITE (R535). -/
def execGeoStepLoWrite (r : Requester) (v : Word) (s : State) : Host.Outcome State Fault Refusal :=
  .next (s.poke r .geo 0xB0 v)

/-- GEO_STEP_HI_WRITE (R535). -/
def execGeoStepHiWrite (r : Requester) (v : Word) (s : State) : Host.Outcome State Fault Refusal :=
  .next (s.poke r .geo 0xB4 v)

/-- GEO_HELLO (R379). -/
def execGeoHello (p : PortId) (f : Fu) (s : State) : Host.Outcome State Fault Refusal :=
  .next (s.onDiscovery p f 3 (fun s f => s.takeGeoHello p f))

/-- GEO_HELLO_TIMER (R379). -/
def execGeoHelloTimer (s : State) : Host.Outcome State Fault Refusal := .next s.geoHelloTimer

/-- GEO_HELLO_EXPIRY (R379). -/
def execGeoHelloExpiry (s : State) : Host.Outcome State Fault Refusal := .next s.geoHelloExpiry

/-- BUDDY_DRAIN_START (R382). -/
def execBuddyDrainStart (s : State) : Host.Outcome State Fault Refusal := .next s.drainStart.settle

/-- DRAIN_OPEN (R382). -/
def execDrainOpen (p : PortId) (f : Fu) (s : State) : Host.Outcome State Fault Refusal :=
  .next (s.onDiscovery p f 4 (fun s f => s.takeOpen p f))

/-- DRAIN_GRANT (R382). -/
def execDrainGrant (p : PortId) (f : Fu) (s : State) : Host.Outcome State Fault Refusal :=
  .next (s.onDiscovery p f 5 (fun s f => s.takeGrant p f))

/-- DRAIN_DONE (R382). -/
def execDrainDone (p : PortId) (f : Fu) (s : State) : Host.Outcome State Fault Refusal :=
  .next (s.onDiscovery p f 6 (fun s f => s.takeDone p f))

/-- DRAIN_ABORT (R382). -/
def execDrainAbort (p : PortId) (f : Fu) (s : State) : Host.Outcome State Fault Refusal :=
  .next (s.onDiscovery p f 7 (fun s f => s.takeAbort p f))

/-- DRAIN_GRANT_TIMEOUT (R382). -/
def execDrainGrantTimeout (s : State) : Host.Outcome State Fault Refusal := .next s.grantTimeout

/-- DRAIN_RETRY (R382). -/
def execDrainRetry (s : State) : Host.Outcome State Fault Refusal := .next s.drainRetry.settle

end Sys2Proof.Machine
end

