-- ==== Sys2Proof/Machine/HostRows.lean ====
section
/-!
DEFINITION. Commands of the hosts: BAR2, DMA, port resets and power (R391 to R418, R455).
-/

namespace Sys2Proof.Machine

open Sys2Proof

/-- DMA_DB (R409). -/
def execDmaDb (h : HostId) (ch : ChanId) (v : Word) (s : State) : Host.Outcome State Fault Refusal :=
  .next (s.regWrite (.mmio h) { bar := .bar4, off := BitVec.ofNat 26 (0x1000 * ch.val), size := 4 } (v.setWidth 64))

/-- CHANNEL_ENABLE (R408). -/
def execChannelEnable (r : Requester) (ch : ChanId) (s : State) : Host.Outcome State Fault Refusal :=
  .next (s.poke r .dma (chanAt ch) (s.live .dma (chanAt ch) ||| 1))

/-- CHANNEL_DISABLE (R408). -/
def execChannelDisable (r : Requester) (ch : ChanId) (s : State) : Host.Outcome State Fault Refusal :=
  .next (s.poke r .dma (chanAt ch) (setFld (s.live .dma (chanAt ch)) 0 0 0))

/-- DMA_COMPLETION (R407). -/
def execDmaCompletion (ch : ChanId) (job : DmaInput) (s : State) : Host.Outcome State Fault Refusal :=
  .next ((s.dmaStep ch job).settle)

/-- BAR2_READ (R397). -/
def execBar2Read (h : HostId) (w : BitVec 36) (len : Nat) (s : State) : Host.Outcome State Fault Refusal :=
  .next ((s.bar2Read h w.toNat len).settle)

/-- BAR2_WRITE (R397). -/
def execBar2Write (h : HostId) (w : BitVec 36) (data : List Byte) (ep : Bool)
    (s : State) : Host.Outcome State Fault Refusal :=
  .next ((s.bar2Write h w.toNat data ep).settle)

/-- CONVENTIONAL_RESET (R412). -/
def execConventionalReset (h : HostId) (s : State) : Host.Outcome State Fault Refusal := .next (s.conventionalReset h)

/-- PORT_LINK_TRAINING (R455). -/
def execPortLinkTraining (h : HostId) (speed : BitVec 3) (width : BitVec 5)
    (s : State) : Host.Outcome State Fault Refusal :=
  .next (s.portTrains h speed.toNat width.toNat)

/-- FLR (R412). -/
def execFlr (h : HostId) (s : State) : Host.Outcome State Fault Refusal := .next (s.functionLevelReset h)

/-- FLR_COMPLETE (R412). -/
def execFlrComplete (h : HostId) (s : State) : Host.Outcome State Fault Refusal := .next (s.flrDone h)

/-- PCIE_LINK_DOWN (R401). -/
def execPcieLinkDown (h : HostId) (s : State) : Host.Outcome State Fault Refusal := .next (s.pcieDown h)

/-- D3HOT (R413). -/
def execD3hot (h : HostId) (enter : Bool) (s : State) : Host.Outcome State Fault Refusal := .next (s.setD3 h enter)

end Sys2Proof.Machine
end

