-- ==== Sys2Proof/Machine/JobRows.lean ====
section
/-!
DEFINITION. Commands of the job and of control ownership (R68 to R78, R401, R402).
-/

namespace Sys2Proof.Machine

open Sys2Proof

/-- LOAD (R72). -/
def execLoad (r : Requester) (s : State) : Host.Outcome State Fault Refusal := .next (s.poke r .glb 0xA4 1)

/-- LOAD_DONE (R72). -/
def execLoadDone (s : State) : Host.Outcome State Fault Refusal := .next s.loadDone

/-- ARM (R69). -/
def execArm (r : Requester) (s : State) : Host.Outcome State Fault Refusal := .next (s.poke r .glb 0xA4 2)

/-- JOB_START (R69). -/
def execJobStart (s : State) : Host.Outcome State Fault Refusal := .next s.jobStarts

/-- PAUSE (R69). -/
def execPause (r : Requester) (s : State) : Host.Outcome State Fault Refusal := .next (s.poke r .glb 0xA4 3)

/-- PAUSE_TAKES_EFFECT (R73). -/
def execPauseTakesEffect (s : State) : Host.Outcome State Fault Refusal := .next s.pauseNow

/-- RESUME (R69). -/
def execResume (r : Requester) (s : State) : Host.Outcome State Fault Refusal := .next (s.poke r .glb 0xA4 4)

/-- RESUME_TAKES_EFFECT (R73). -/
def execResumeTakesEffect (s : State) : Host.Outcome State Fault Refusal := .next s.resumeNow

/-- HALT (R69). -/
def execHalt (r : Requester) (bcast : Bool) (s : State) : Host.Outcome State Fault Refusal :=
  .next (s.poke r .glb 0xA4 (BitVec.ofNat 32 (5 + at_ bcast 8)))

/-- JOB_HALT (R74). -/
def execJobHalt (s : State) : Host.Outcome State Fault Refusal := .next s.jobHalt.afterHalt

/-- BCAST_COPY_TIMER (R297). -/
def execBcastCopyTimer (p : PortId) (s : State) : Host.Outcome State Fault Refusal := .next (s.bcastTimer p)

/-- CLEAR (R76). -/
def execClear (r : Requester) (zeroHbm : Bool) (s : State) : Host.Outcome State Fault Refusal :=
  .next (s.poke r .glb 0xA4 (BitVec.ofNat 32 (6 + at_ zeroHbm 9)))

/-- CLEAR_DONE (R76). -/
def execClearDone (s : State) : Host.Outcome State Fault Refusal := .next s.clearDone

/-- CLAIM (R402). -/
def execClaim (h : HostId) (s : State) : Host.Outcome State Fault Refusal :=
  .next (s.poke (.mmio h) .glb 0x8C 0x100000)

/-- RELEASE (R402). -/
def execRelease (h : HostId) (s : State) : Host.Outcome State Fault Refusal :=
  .next (s.poke (.mmio h) .glb 0x8C 0x200000)

/-- HANDOVER (R402). -/
def execHandover (h : HostId) (s : State) : Host.Outcome State Fault Refusal :=
  .next (s.poke (.mmio h) .glb 0x8C 0x300000)

/-- SET_TIMEOUT (R402). -/
def execSetTimeout (h : HostId) (ms : BitVec 16) (s : State) : Host.Outcome State Fault Refusal :=
  .next (s.poke (.mmio h) .glb 0x8C (ms.setWidth 32))

/-- HEARTBEAT (R401). -/
def execHeartbeat (h : HostId) (v : Word) (s : State) : Host.Outcome State Fault Refusal :=
  .next (s.poke (.mmio h) .glb (0x90 + 4 * h.num) v)

end Sys2Proof.Machine
end

