-- ==== Sys2Proof/Machine/LinkRows.lean ====
section
/-!
DEFINITION. Commands of the fabric links: training, retraining and what arrives on them (R274 to R306, R317 to R320).
-/

namespace Sys2Proof.Machine

open Sys2Proof

/-- FAB_RETRAIN (R305). -/
def execFabRetrain (r : Requester) (p : PortId) (s : State) : Host.Outcome State Fault Refusal :=
  .next (s.poke r (.fab p) 0x80 (s.live (.fab p) 0x80 ||| 2))

/-- LINK_DISABLE (R302). -/
def execLinkDisable (r : Requester) (p : PortId) (s : State) : Host.Outcome State Fault Refusal :=
  .next (s.poke r (.fab p) 0x80 (setFld (s.live (.fab p) 0x80) 0 0 0))

/-- LINK_ENABLE (R300). -/
def execLinkEnable (r : Requester) (p : PortId) (s : State) : Host.Outcome State Fault Refusal :=
  .next (s.poke r (.fab p) 0x80 (s.live (.fab p) 0x80 ||| 1))

/-- LOSS_OF_SIGNAL (R302). -/
def execLossOfSignal (p : PortId) (s : State) : Host.Outcome State Fault Refusal := .next (s.signalLost p)

/-- LANE_LOCK_LOSS (R301). -/
def execLaneLockLoss (p : PortId) (s : State) : Host.Outcome State Fault Refusal := .next (s.askRetrain p)

/-- PEER_RETRAIN_PATTERN (R301). -/
def execPeerRetrainPattern (p : PortId) (s : State) : Host.Outcome State Fault Refusal := .next (s.askRetrain p)

/-- TRAINING_ATTEMPT (R300). -/
def execTrainingAttempt (p : PortId) (a : TrainAttempt) (s : State) : Host.Outcome State Fault Refusal :=
  .next (s.trainAttempt p a)

/-- TRAINING_TIMEOUT (R300). -/
def execTrainingTimeout (p : PortId) (s : State) : Host.Outcome State Fault Refusal := .next (s.trainTimeout p)

/-- TRAINING_RETRY (R300). -/
def execTrainingRetry (p : PortId) (a : TrainAttempt) (s : State) : Host.Outcome State Fault Refusal :=
  .next (s.trainRetry p a)

/-- INIT_TIMER (R298). -/
def execInitTimer (p : PortId) (s : State) : Host.Outcome State Fault Refusal := .next (s.initTimer p)

/-- REPLAY_TIMER_EXPIRY (R290). -/
def execReplayTimerExpiry (p : PortId) (s : State) : Host.Outcome State Fault Refusal := .next (s.replayExpiry p)

/-- RETRAIN_COMPLETE (R301). -/
def execRetrainComplete (p : PortId) (s : State) : Host.Outcome State Fault Refusal := .next (s.retrainDone p)

/-- RELOCK_TIMEOUT (R301). -/
def execRelockTimeout (p : PortId) (s : State) : Host.Outcome State Fault Refusal := .next (s.relockTimeout p)

/-- REPLAY_PARITY (R302). -/
def execReplayParity (p : PortId) (s : State) : Host.Outcome State Fault Refusal := .next (s.replayParity p)

/-- LANE_PARITY_ERROR (R303). -/
def execLaneParityError (p : PortId) (s : State) : Host.Outcome State Fault Refusal := .next (s.laneParity p)

/-- CRC_FAILED_FU (R277, R281). -/
def execCrcFailedFu (p : PortId) (f : Fu) (fec : FecReport) (s : State) : Host.Outcome State Fault Refusal :=
  let s := s.fecSeen p fec.corrected.toNat fec.failed.toNat
  .next (if fuCrcOk f && !fec.uncorrectable then s else (s.arrive p f fec.uncorrectable).2)

/-- MALFORMED_FU (R283). -/
def execMalformedFu (p : PortId) (f : Fu) (s : State) : Host.Outcome State Fault Refusal :=
  .next (s.onFu p f (fuMalformed f && fuCrcOk f) (fun s _ => s))

/-- IDLE (R287). -/
def execIdle (p : PortId) (f : Fu) (s : State) : Host.Outcome State Fault Refusal :=
  .next (s.onFu p f (f.type.toNat == 0) (fun s _ => s))

/-- REPLAY_MARK (R289). -/
def execReplayMark (p : PortId) (f : Fu) (s : State) : Host.Outcome State Fault Refusal :=
  .next (s.onFu p f (f.type.toNat == 1) (fun s _ => s))

/-- INIT (R298). -/
def execInit (p : PortId) (f : Fu) (s : State) : Host.Outcome State Fault Refusal :=
  .next (s.onFu p f (f.type.toNat == 2) (fun s f => s.takeInit p f))

/-- TIME_STAMP (R296). -/
def execTimeStamp (p : PortId) (f : Fu) (rxNs : BitVec 64) (rxFrac : BitVec 16)
    (s : State) : Host.Outcome State Fault Refusal :=
  .next (s.onFu p f (f.type.toNat == 3) (fun s f => s.takeStamp p f (time16 rxNs.toNat rxFrac.toNat)))

/-- TIME_STAMP_TIMER (R319). -/
def execTimeStampTimer (s : State) : Host.Outcome State Fault Refusal := .next s.stampTimer

/-- HALT_BCAST (R107). -/
def execHaltBcast (p : PortId) (f : Fu) (s : State) : Host.Outcome State Fault Refusal :=
  .next (s.onFu p f (f.type.toNat == 4) (fun s f => s.takeHaltBcast p f))

/-- HELLO (R318). -/
def execHello (p : PortId) (f : Fu) (s : State) : Host.Outcome State Fault Refusal :=
  .next (s.onDiscovery p f 0 (fun s f => s.takeHello p f))

/-- HELLO_TIMER (R317). -/
def execHelloTimer (s : State) : Host.Outcome State Fault Refusal := .next s.helloTimer

/-- DELAY_REPORT (R319). -/
def execDelayReport (p : PortId) (f : Fu) (s : State) : Host.Outcome State Fault Refusal :=
  .next (s.onDiscovery p f 1 (fun s f => s.takeReport p f))

/-- DELAY_REPORT_TIMER (R319). -/
def execDelayReportTimer (p : PortId) (s : State) : Host.Outcome State Fault Refusal := .next (s.reportDelay p)

/-- RING_STATE (R320). -/
def execRingState (p : PortId) (f : Fu) (s : State) : Host.Outcome State Fault Refusal :=
  .next (s.onDiscovery p f 2 (fun s f => s.takeRingState p f))

/-- RING_STATE_TIMER (R320). -/
def execRingStateTimer (s : State) : Host.Outcome State Fault Refusal := .next s.ringTimer

/-- RING_STATE_EXPIRY (R320). -/
def execRingStateExpiry (axis : AxisId) (coord : BitVec 6) (s : State) : Host.Outcome State Fault Refusal :=
  .next (s.ringExpiry axis.val coord.toNat)

end Sys2Proof.Machine
end

