-- ==== Sys2Proof/Machine/MemoryRows.lean ====
section
/-!
DEFINITION. Commands of the stacks (R246, R253, R254, R260 to R264, R270, R524).
-/

namespace Sys2Proof.Machine

open Sys2Proof

/-- Corrections that a stack's on-die ECC reports through its error-check status (R254). -/
def State.eccCorrected (s : State) (t : StackId) (off n : Nat) : State :=
  if n = 0 then s
  else (s.countSat (.hbm t) 0x98 n).raise { page := .hbm t, bit := 10, cls := 1, addr := off / 64 * 64, kind := 4 }

/-- The blocks of a stack whose stored CRC no longer agrees with their data, each with the reads in a row that will
mismatch (R254). (DESIGN CHOICE: log entry 38) -/
def State.noteUpsets (s : State) (t : StackId) (l : List (BitVec 40 × Fin 4)) : State :=
  s.each (l.filter (fun e => s.stackOf e.1.toNat == t)) (fun s e => s.setUpset (s.phys e.1.toNat / 64) e.2.val)

/-- A read of up to 16 blocks of a 1 KiB range by their stack's controller, once the arbiter grants it: the
integrity
check of each block, and the corrections the stack reports; at a die that is down an error response (R253 to R255,
R259, R261, R262). (DEDUCED: log entry 37; DESIGN CHOICE: log entry 38) -/
def State.hbmRead (s : State) (t : StackId) (off len : Nat) (upsets : List (BitVec 40 × Fin 4)) (corr : Nat)
    (entry : ArbEntry) (waiting : List ArbEntry) : State :=
  let len := max 1 (min len (1024 - off % 1024))
  if s.stackOf off ≠ t then s
  else
    let s := s.noteUpsets t upsets
    if !s.served off then s.glbRecord off 4
    else
      let r := s.requestFor t entry waiting (blocksOf off len).length
      if !r.1 then r.2
      else
        let s := r.2.checkRead off len
        if (blocksOf off len).all s.poisoned then s else s.eccCorrected t off corr

/-- A write within a 1 KiB range by its stack's controller, once the arbiter grants it; at the protected image or a
die that is down an error response (R45, R253, R255, R259, R261, R262). (DEDUCED: log entry 37) -/
def State.hbmWrite (s : State) (t : StackId) (off : Nat) (data : List Byte) (p : Bool) (entry : ArbEntry)
    (waiting : List ArbEntry) : State :=
  let data := data.take (1024 - off % 1024)
  if s.stackOf off ≠ t ∨ data.isEmpty then s
  else if s.hitsImage off data.length then s.imageRecord off data.length 4
  else if !s.served off then s.glbRecord off 4
  else
    let r := s.requestFor t entry waiting (blocksOf off data.length).length
    if r.1 then r.2.write off data p else r.2

/-- HBM_INTERLEAVE_WRITE (R246). -/
def execHbmInterleaveWrite (r : Requester) (st : StackId) (mode : BitVec 32)
    (s : State) : Host.Outcome State Fault Refusal :=
  .next (s.poke r (.hbm st) 0xB8 mode)

/-- HBM_RETRAIN (R270). -/
def execHbmRetrain (r : Requester) (st : StackId) (s : State) : Host.Outcome State Fault Refusal :=
  .next (s.poke r (.hbm st) 0x80 (s.live (.hbm st) 0x80 ||| 1))

/-- HBM_RETRAIN_DONE (R524). -/
def execHbmRetrainDone (st : StackId) (ok : Bool) (s : State) : Host.Outcome State Fault Refusal :=
  .next (s.hbmRetrainDone st ok)

/-- HBM_READ (R254). -/
def execHbmRead (st : StackId) (off : BitVec 40) (len : BitVec 11) (found : HbmUpsets)
    (entry : ArbEntry) (waiting : List ArbEntry) (s : State) : Host.Outcome State Fault Refusal :=
  .next (s.hbmRead st off.toNat len.toNat found.upsets found.corrected.toNat entry waiting)

/-- HBM_WRITE (R253). -/
def execHbmWrite (st : StackId) (off : BitVec 40) (data : List Byte) (poison : Bool) (entry : ArbEntry) (waiting : List ArbEntry)
    (s : State) : Host.Outcome State Fault Refusal :=
  .next (s.hbmWrite st off.toNat data poison entry waiting)

end Sys2Proof.Machine
end

