-- ==== Sys2Proof/Machine/RegisterRows.lean ====
section
/-!
DEFINITION. Commands that read or write registers (R10 to R15, R29, R399, R442, R516, R518): each writes the whole register with its other fields as they stand.
-/

namespace Sys2Proof.Machine

open Sys2Proof

/-- BLK_CTL of the page with a number written with one more bit set (R499, R525). -/
def State.pokeCtl (s : State) (r : Requester) (page : BitVec 14) (m : Word) : State :=
  let a := page.toNat * 4096 + 8
  let w := match Blk.ofOff a with
    | none => m
    | some b => s.live b 8 ||| m
  s.regWrite r { bar := .bar0, off := BitVec.ofNat 26 a, size := 4 } (w.setWidth 64)

/-- The DBG_HALT register of a core (R516). -/
def haltReg (c : CoreId) : Nat := 0xA0 + 4 * (c.val / 32)

/-- The bit of a core in it. -/
def haltBit (c : CoreId) : Word := BitVec.ofNat 32 (2 ^ (c.val % 32))

/-- LO_READ_CAPTURE (R11). -/
def execLoReadCapture (r : Requester) (off : BitVec 26) (s : State) : Host.Outcome State Fault Refusal :=
  .next (s.regRead r { bar := .bar0, off := off, size := 4 })

/-- TIM_NOW_LO_WRITE (R566). -/
def execTimNowLoWrite (r : Requester) (v : Word) (s : State) : Host.Outcome State Fault Refusal :=
  .next (s.poke r .tim 0x88 v)

/-- TIM_NOW_HI_WRITE (R566). -/
def execTimNowHiWrite (r : Requester) (v : Word) (s : State) : Host.Outcome State Fault Refusal :=
  .next (s.poke r .tim 0x8C v)

/-- TICK_EN (R87). -/
def execTickEn (r : Requester) (on : Bool) (s : State) : Host.Outcome State Fault Refusal :=
  .next (s.poke r .tim 0x80 (setFld (s.live .tim 0x80) 0 0 (bit on)))

/-- SOURCE (R80). -/
def execSource (r : Requester) (src : BitVec 2) (s : State) : Host.Outcome State Fault Refusal :=
  .next (s.poke r .tim 0x80 (setFld (s.live .tim 0x80) 2 1 src.toNat))

/-- REGISTER_WRITE (R12). -/
def execRegisterWrite (r : Requester) (a : RegAccess) (v : BitVec 64)
    (s : State) : Host.Outcome State Fault Refusal :=
  .next (s.regWrite r a v)

/-- REGISTER_READ (R15). -/
def execRegisterRead (r : Requester) (a : RegAccess) (s : State) : Host.Outcome State Fault Refusal :=
  .next (s.regRead r a)

/-- ARR_ABORT (R143). -/
def execArrAbort (r : Requester) (c : CoreId) (s : State) : Host.Outcome State Fault Refusal :=
  .next (s.poke r (.arr c) 0x88 1)

/-- FENCE_REQ (R146). -/
def execFenceReq (r : Requester) (c : CoreId) (viaBlkCtl : Bool) (s : State) : Host.Outcome State Fault Refusal :=
  .next (if viaBlkCtl then s.poke r (.core c) 8 (s.live (.core c) 8 ||| 4) else s.poke r (.core c) 0x84 1)

/-- UNFENCE (R146). -/
def execUnfence (r : Requester) (c : CoreId) (s : State) : Host.Outcome State Fault Refusal :=
  .next (s.poke r (.core c) 0x84 2)

/-- UNFENCE_DONE (R146). -/
def execUnfenceDone (c : CoreId) (failGroups : BitVec 5) (s : State) : Host.Outcome State Fault Refusal :=
  .next (s.unfenceDone c failGroups.toNat)

/-- SOFT_RESET (R452). -/
def execSoftReset (r : Requester) (page : BitVec 14) (s : State) : Host.Outcome State Fault Refusal :=
  .next (s.pokeCtl r page 2)

/-- BLK_LOCK (R499). -/
def execBlkLock (r : Requester) (page : BitVec 14) (s : State) : Host.Outcome State Fault Refusal :=
  .next (s.pokeCtl r page 8)

/-- TEL_CLEAR (R512). -/
def execTelClear (r : Requester) (s : State) : Host.Outcome State Fault Refusal :=
  .next (s.poke r .tel 0x80 (s.live .tel 0x80 ||| 2))

/-- TEL_CNT_SEL (R512). -/
def execTelCntSel (r : Requester) (k : Fin 8) (v : Word) (s : State) : Host.Outcome State Fault Refusal :=
  .next (s.poke r .tel (0x100 + 4 * k.val) v)

/-- TRACE_ENABLE (R516). -/
def execTraceEnable (r : Requester) (mask : BitVec 8) (s : State) : Host.Outcome State Fault Refusal :=
  .next (s.poke r .dbg 0x84 (BitVec.ofNat 32 (1 + 256 * mask.toNat)))

/-- CORE_HALT (R138). -/
def execCoreHalt (r : Requester) (c : CoreId) (s : State) : Host.Outcome State Fault Refusal :=
  .next (s.poke r .dbg (haltReg c) (s.live .dbg (haltReg c) ||| haltBit c))

/-- CORE_RELEASE (R516). -/
def execCoreRelease (r : Requester) (c : CoreId) (s : State) : Host.Outcome State Fault Refusal :=
  .next (s.poke r .dbg (haltReg c) (s.live .dbg (haltReg c) &&& ~~~haltBit c))

/-- DBG_MEM_READ (R518). -/
def execDbgMemRead (r : Requester) (s : State) : Host.Outcome State Fault Refusal := .next (s.peek r .dbg 0xCC)

/-- DBG_MEM_WRITE (R518). -/
def execDbgMemWrite (r : Requester) (v : Word) (s : State) : Host.Outcome State Fault Refusal :=
  .next (s.poke r .dbg 0xCC v)

/-- I3C_READ (R442). -/
def execI3cRead (off : BitVec 24) (s : State) : Host.Outcome State Fault Refusal := .next (s.i3cRead off.toNat)

/-- I3C_WRITE (R442). -/
def execI3cWrite (off : BitVec 24) (v : Word) (s : State) : Host.Outcome State Fault Refusal :=
  .next (s.i3cWrite off.toNat v)

/-- TAP_INSTRUCTION (R559). -/
def execTapInstruction (ir : BitVec 8) (s : State) : Host.Outcome State Fault Refusal := .next (s.tap ir)

end Sys2Proof.Machine
end

