-- ==== Sys2Proof/Machine/SecurityRows.lean ====
section
/-!
DEFINITION. Commands of the security processor, of Shale and of the I3C target's messages (R461, R466 to R494, R556).
-/

namespace Sys2Proof.Machine

open Sys2Proof

/-- ENTDAA: a target without a dynamic address takes the one assigned (R556). (DEDUCED: log entry 33) -/
def State.entdaa (s : State) (a : BitVec 7) : State :=
  if s.started && s.i3c.addr.isNone then { s with i3c := { s.i3c with addr := some a } } else s

/-- RSTDAA: the dynamic address is given up (R556). -/
def State.rstdaa (s : State) : State := { s with i3c := { s.i3c with addr := none } }

/-- ENEC and DISEC: in-band interrupts on or off (R556). (DEDUCED: log entry 33) -/
def State.setIbi (s : State) (on : Bool) : State :=
  if s.i3c.addr.isSome then { s with i3c := { s.i3c with ibi := on } } else s

/-- SHALE_UPDATE (R461). -/
def execShaleUpdate (r : Requester) (s : State) : Host.Outcome State Fault Refusal :=
  .next (s.poke r .cfg 0x88 0x80000000)

/-- SHALE_UPDATE_DONE (R461). -/
def execShaleUpdateDone (img : Option ShaleImage) (flashOk : Bool) (s : State) : Host.Outcome State Fault Refusal :=
  .next (s.shaleUpdateDone img flashOk)

/-- FW_UPDATE (R476). -/
def execFwUpdate (r : Requester) (s : State) : Host.Outcome State Fault Refusal :=
  .next (s.poke r .sec 0x94 0x80000000)

/-- FW_UPDATE_DONE (R476). -/
def execFwUpdateDone (img : Option FwImage) (flashOk : Bool) (s : State) : Host.Outcome State Fault Refusal :=
  .next (s.fwUpdateDone img flashOk)

/-- ZEROIZE (R490). -/
def execZeroize (r : Requester) (s : State) : Host.Outcome State Fault Refusal :=
  .next (s.poke r .sec 0x90 0x80000000)

/-- ZEROISATION_DONE (R490). -/
def execZeroisationDone (s : State) : Host.Outcome State Fault Refusal := .next s.zeroDone

/-- RELOCK (R488). -/
def execRelock (r : Requester) (s : State) : Host.Outcome State Fault Refusal := .next (s.poke r .sec 0x88 0x80000000)

/-- MSG_WRITE (R482). -/
def execMsgWrite (off : BitVec 16) (data : List Byte) (s : State) : Host.Outcome State Fault Refusal :=
  .next (s.msgWrite off.toNat data)

/-- MSG_SUBMIT (R482). -/
def execMsgSubmit (s : State) : Host.Outcome State Fault Refusal := .next s.msgSubmit

/-- MSG_READ (R482). -/
def execMsgRead (off : BitVec 24) (s : State) : Host.Outcome State Fault Refusal := .next (s.msgRead off.toNat)

/-- MSG_STATE (R482). -/
def execMsgState (s : State) : Host.Outcome State Fault Refusal := .next s.msgState

/-- ENTDAA (R556). -/
def execEntdaa (addr : BitVec 7) (s : State) : Host.Outcome State Fault Refusal := .next (s.entdaa addr)

/-- RSTDAA (R556). -/
def execRstdaa (s : State) : Host.Outcome State Fault Refusal := .next s.rstdaa

/-- ENEC (R556). -/
def execEnec (s : State) : Host.Outcome State Fault Refusal := .next (s.setIbi true)

/-- DISEC (R556). -/
def execDisec (s : State) : Host.Outcome State Fault Refusal := .next (s.setIbi false)

/-- GET_IDENTITY (R479). -/
def execGetIdentity (c : Carrier) (s : State) : Host.Outcome State Fault Refusal := .next (s.getIdentity c)

/-- GET_REPORT (R480). -/
def execGetReport (c : Carrier) (nonce : List Byte) (s : State) : Host.Outcome State Fault Refusal :=
  .next (s.getReport c nonce)

/-- EXTEND (R479). -/
def execExtend (c : Carrier) (index : Byte) (digest : List Byte) (s : State) : Host.Outcome State Fault Refusal :=
  .next (s.extend c index.toNat digest)

/-- GET_CHALLENGE (R485). -/
def execGetChallenge (c : Carrier) (s : State) : Host.Outcome State Fault Refusal := .next (s.getChallenge c)

/-- SUBMIT_TOKEN (R486). -/
def execSubmitToken (c : Carrier) (token : Token) (fuseOk : Bool) (s : State) : Host.Outcome State Fault Refusal :=
  .next (s.submitToken c token fuseOk)

/-- DOE_ABORT (R481). -/
def execDoeAbort (h : HostId) (s : State) : Host.Outcome State Fault Refusal := .next (s.doeAbort h)

/-- NONCE_EXPIRY (R485). -/
def execNonceExpiry (s : State) : Host.Outcome State Fault Refusal := .next s.nonceExpiry

/-- RESPONSE_READY (R483). -/
def execResponseReady (c : Carrier) (s : State) : Host.Outcome State Fault Refusal := .next (s.responseReady c)

/-- SP_FAULT (R494). -/
def execSpFault (s : State) : Host.Outcome State Fault Refusal := .next s.spFault

end Sys2Proof.Machine
end

