-- ==== Sys2Proof/Machine/SupplyRows.lean ====
section
/-!
DEFINITION. Commands of resets, power states, dies and bridge links (R271, R419 to R463).
-/

namespace Sys2Proof.Machine

open Sys2Proof

/-- DIE_RESET (R429). -/
def execDieReset (r : Requester) (die : DieId) (s : State) : Host.Outcome State Fault Refusal :=
  .next (s.poke r .pwr 0xB0 (BitVec.ofNat 32 (2 ^ die.val)))

/-- DIE_RESET_DONE (R429). -/
def execDieResetDone (die : DieId) (b : DieBringUp) (s : State) : Host.Outcome State Fault Refusal :=
  .next (s.resetDone die b)

/-- ISOLATE (R427). -/
def execIsolate (r : Requester) (die : DieId) (s : State) : Host.Outcome State Fault Refusal :=
  .next (s.poke r .pwr 0xB4 (BitVec.ofNat 32 (2 ^ die.val)))

/-- REQUEST_RUN (R444). -/
def execRequestRun (r : Requester) (s : State) : Host.Outcome State Fault Refusal := .next (s.poke r .pwr 0x80 1)

/-- REQUEST_IDLE (R444). -/
def execRequestIdle (r : Requester) (s : State) : Host.Outcome State Fault Refusal := .next (s.poke r .pwr 0x80 2)

/-- REQUEST_RETAIN (R445). -/
def execRequestRetain (r : Requester) (s : State) : Host.Outcome State Fault Refusal := .next (s.poke r .pwr 0x80 3)

/-- REQUEST_OFF (R446). -/
def execRequestOff (r : Requester) (s : State) : Host.Outcome State Fault Refusal := .next (s.poke r .pwr 0x80 4)

/-- POWER_STATE_REACHED (R444). -/
def execPowerStateReached (dies : List DieBringUp) (s : State) : Host.Outcome State Fault Refusal :=
  .next (s.powerReached dies)

/-- WARM_RESET (R451). -/
def execWarmReset (r : Requester) (s : State) : Host.Outcome State Fault Refusal := .next (s.poke r .pwr 0x80 0x100)

/-- WARM_RESET_DONE (R451). -/
def execWarmResetDone (dies : List DieBringUp) (s : State) : Host.Outcome State Fault Refusal :=
  .next (s.warmDone dies)

/-- COLD_RESET (R450). -/
def execColdReset (s : State) : Host.Outcome State Fault Refusal := .next s.coldReset

/-- START_UP (R454). -/
def execStartUp (b : BoardStart) (s : State) : Host.Outcome State Fault Refusal := .next (s.startUp b)

/-- LOSS_OF_MAIN_POWER (R447). -/
def execLossOfMainPower (s : State) : Host.Outcome State Fault Refusal := .next s.mainPowerLost

/-- EXIT_FROM_OFF (R446). -/
def execExitFromOff (b : BoardStart) (s : State) : Host.Outcome State Fault Refusal := .next (s.exitOff b)

/-- VSTBY_DROP (R547). -/
def execVstbyDrop (s : State) : Host.Outcome State Fault Refusal := .next s.coldReset

/-- STACK_TRAIN_FAIL (R271). -/
def execStackTrainFail (st : StackId) (s : State) : Host.Outcome State Fault Refusal := .next (s.stackTrainFail st)

/-- D2D_RETRAIN (R439). -/
def execD2dRetrain (r : Requester) (l : LinkId) (s : State) : Host.Outcome State Fault Refusal :=
  .next (s.poke r (.d2d l) 0x80 (s.live (.d2d l) 0x80 ||| 1))

/-- D2D_CTRL (R421). -/
def execD2dCtrl (l : LinkId) (u : D2dUnit) (s : State) : Host.Outcome State Fault Refusal := .next (s.takeCtrl l u)

/-- D2D_REPLAY_MARK (R421). -/
def execD2dReplayMark (l : LinkId) (u : D2dUnit) (s : State) : Host.Outcome State Fault Refusal :=
  .next (s.takeUnitMark l u)

/-- D2D_IDLE (R420). -/
def execD2dIdle (l : LinkId) (u : D2dUnit) (s : State) : Host.Outcome State Fault Refusal := .next (s.onUnit l u 0 id)

/-- HDR (R420). -/
def execHdr (l : LinkId) (u : D2dUnit) (s : State) : Host.Outcome State Fault Refusal :=
  .next (s.onUnit l u 0x10 (fun s => s.takeUnit l))

/-- DATA (R420). -/
def execData (l : LinkId) (u : D2dUnit) (s : State) : Host.Outcome State Fault Refusal :=
  .next (s.onUnit l u 0x11 (fun s => s.takeUnit l))

/-- DATA_POISONED (R420). -/
def execDataPoisoned (l : LinkId) (u : D2dUnit) (s : State) : Host.Outcome State Fault Refusal :=
  .next (s.onUnit l u 0x12 (fun s => s.takeUnit l))

/-- WIDTH (R424). -/
def execWidth (l : LinkId) (u : D2dUnit) (s : State) : Host.Outcome State Fault Refusal := .next (s.takeWidth l u)

/-- WIDTH_TIMER (R424). -/
def execWidthTimer (l : LinkId) (s : State) : Host.Outcome State Fault Refusal := .next (s.widthTimer l)

/-- HANDSHAKE_TIMEOUT (R424). -/
def execHandshakeTimeout (l : LinkId) (s : State) : Host.Outcome State Fault Refusal := .next (s.handshakeTimeout l)

/-- D2D_TRAINING (R423). -/
def execD2dTraining (l : LinkId) (near : BitVec 16) (far : BitVec 16)
    (s : State) : Host.Outcome State Fault Refusal :=
  .next (s.d2dTrain l near far)

/-- D2D_REPLAY_TIMER_EXPIRY (R421). -/
def execD2dReplayTimerExpiry (l : LinkId) (s : State) : Host.Outcome State Fault Refusal := .next (s.d2dExpiry l)

/-- D2D_RELOCK_TIMEOUT (R421). -/
def execD2dRelockTimeout (l : LinkId) (s : State) : Host.Outcome State Fault Refusal := .next (s.d2dRelockTimeout l)

/-- D2D_RETRY (R425). -/
def execD2dRetry (l : LinkId) (near : BitVec 16) (far : BitVec 16) (s : State) : Host.Outcome State Fault Refusal :=
  .next (s.d2dRetry l near far)

/-- FORWARDED_CLOCK_LOSS (R425). -/
def execForwardedClockLoss (l : LinkId) (s : State) : Host.Outcome State Fault Refusal := .next (s.clockLost l)

/-- SIDEBAND_PARITY (R426). -/
def execSidebandParity (l : LinkId) (failures : Nat) (s : State) : Host.Outcome State Fault Refusal :=
  .next (s.sidebandError l failures)

/-- UNIT_CRC_FAIL (R420). -/
def execUnitCrcFail (l : LinkId) (u : D2dUnit) (s : State) : Host.Outcome State Fault Refusal :=
  .next (s.unitCrcFail l u)

end Sys2Proof.Machine
end

