-- ==== Sys2Proof/Machine/VectorRows.lean ====
section
/-!
DEFINITION. Commands that issue a vector descriptor (R173 to R207): the core's next descriptor, which must hold the opcode.
-/

namespace Sys2Proof.Machine

open Sys2Proof

/-- The next descriptor of a core issued as a vector opcode. -/
def State.vectorRow (s : State) (c : CoreId) (op : Nat) : State :=
  (s.issue c op (fun d l s => d.vector c l s)).settle

/-- COPY (R185). -/
def execCopy (c : CoreId) (badLines : List (BitVec 19)) (s : State) : Host.Outcome State Fault Refusal :=
  .next (((s.upsetLines c badLines).issue c 0x20 (fun d l s => d.vector c l s)).settle)

/-- ADD (R185). -/
def execAdd (c : CoreId) (s : State) : Host.Outcome State Fault Refusal := .next (s.vectorRow c 0x21)

/-- SUB (R185). -/
def execSub (c : CoreId) (s : State) : Host.Outcome State Fault Refusal := .next (s.vectorRow c 0x22)

/-- MUL (R185). -/
def execMul (c : CoreId) (s : State) : Host.Outcome State Fault Refusal := .next (s.vectorRow c 0x23)

/-- FMA (R185). -/
def execFma (c : CoreId) (s : State) : Host.Outcome State Fault Refusal := .next (s.vectorRow c 0x24)

/-- MIN (R186). -/
def execMin (c : CoreId) (s : State) : Host.Outcome State Fault Refusal := .next (s.vectorRow c 0x25)

/-- MAX (R186). -/
def execMax (c : CoreId) (s : State) : Host.Outcome State Fault Refusal := .next (s.vectorRow c 0x26)

/-- ABS (R185). -/
def execAbs (c : CoreId) (s : State) : Host.Outcome State Fault Refusal := .next (s.vectorRow c 0x27)

/-- NEG (R185). -/
def execNeg (c : CoreId) (s : State) : Host.Outcome State Fault Refusal := .next (s.vectorRow c 0x28)

/-- SELECT (R185). -/
def execSelect (c : CoreId) (s : State) : Host.Outcome State Fault Refusal := .next (s.vectorRow c 0x29)

/-- CMP (R185). -/
def execCmp (c : CoreId) (s : State) : Host.Outcome State Fault Refusal := .next (s.vectorRow c 0x2A)

/-- EXP2 (R187). -/
def execExp2 (c : CoreId) (s : State) : Host.Outcome State Fault Refusal := .next (s.vectorRow c 0x30)

/-- LOG2 (R187). -/
def execLog2 (c : CoreId) (s : State) : Host.Outcome State Fault Refusal := .next (s.vectorRow c 0x31)

/-- RECIP (R187). -/
def execRecip (c : CoreId) (s : State) : Host.Outcome State Fault Refusal := .next (s.vectorRow c 0x32)

/-- RSQRT (R187). -/
def execRsqrt (c : CoreId) (s : State) : Host.Outcome State Fault Refusal := .next (s.vectorRow c 0x33)

/-- IADD (R188). -/
def execIadd (c : CoreId) (s : State) : Host.Outcome State Fault Refusal := .next (s.vectorRow c 0x38)

/-- ISUB (R188). -/
def execIsub (c : CoreId) (s : State) : Host.Outcome State Fault Refusal := .next (s.vectorRow c 0x39)

/-- IMUL (R188). -/
def execImul (c : CoreId) (s : State) : Host.Outcome State Fault Refusal := .next (s.vectorRow c 0x3A)

/-- IMIN (R188). -/
def execImin (c : CoreId) (s : State) : Host.Outcome State Fault Refusal := .next (s.vectorRow c 0x3B)

/-- IMAX (R188). -/
def execImax (c : CoreId) (s : State) : Host.Outcome State Fault Refusal := .next (s.vectorRow c 0x3C)

/-- IAND (R188). -/
def execIand (c : CoreId) (s : State) : Host.Outcome State Fault Refusal := .next (s.vectorRow c 0x3D)

/-- IOR (R188). -/
def execIor (c : CoreId) (s : State) : Host.Outcome State Fault Refusal := .next (s.vectorRow c 0x3E)

/-- IXOR (R188). -/
def execIxor (c : CoreId) (s : State) : Host.Outcome State Fault Refusal := .next (s.vectorRow c 0x3F)

/-- ISHIFT (R188). -/
def execIshift (c : CoreId) (s : State) : Host.Outcome State Fault Refusal := .next (s.vectorRow c 0x40)

/-- PERM (R189). -/
def execPerm (c : CoreId) (s : State) : Host.Outcome State Fault Refusal := .next (s.vectorRow c 0x44)

/-- SHUFFLE (R190). -/
def execShuffle (c : CoreId) (s : State) : Host.Outcome State Fault Refusal := .next (s.vectorRow c 0x45)

/-- PACK (R191). -/
def execPack (c : CoreId) (s : State) : Host.Outcome State Fault Refusal := .next (s.vectorRow c 0x46)

/-- UNPACK (R191). -/
def execUnpack (c : CoreId) (s : State) : Host.Outcome State Fault Refusal := .next (s.vectorRow c 0x47)

/-- CLASS (R192). -/
def execClassOp (c : CoreId) (s : State) : Host.Outcome State Fault Refusal := .next (s.vectorRow c 0x48)

/-- COUNT (R192). -/
def execCount (c : CoreId) (s : State) : Host.Outcome State Fault Refusal := .next (s.vectorRow c 0x49)

/-- RED_SUM (R194). -/
def execRedSum (c : CoreId) (s : State) : Host.Outcome State Fault Refusal := .next (s.vectorRow c 0x4C)

/-- RED_MAX (R194). -/
def execRedMax (c : CoreId) (s : State) : Host.Outcome State Fault Refusal := .next (s.vectorRow c 0x4D)

/-- RED_MIN (R194). -/
def execRedMin (c : CoreId) (s : State) : Host.Outcome State Fault Refusal := .next (s.vectorRow c 0x4E)

/-- RED_SUMSQ (R194). -/
def execRedSumsq (c : CoreId) (s : State) : Host.Outcome State Fault Refusal := .next (s.vectorRow c 0x4F)

/-- TRED (R196). -/
def execTred (c : CoreId) (s : State) : Host.Outcome State Fault Refusal := .next (s.vectorRow c 0x50)

/-- SMX_UPDATE (R198). -/
def execSmxUpdate (c : CoreId) (s : State) : Host.Outcome State Fault Refusal := .next (s.vectorRow c 0x54)

/-- SMX_FINAL (R199). -/
def execSmxFinal (c : CoreId) (s : State) : Host.Outcome State Fault Refusal := .next (s.vectorRow c 0x55)

/-- ROWSTATS (R201). -/
def execRowstats (c : CoreId) (s : State) : Host.Outcome State Fault Refusal := .next (s.vectorRow c 0x56)

/-- NORM_FIN (R202). -/
def execNormFin (c : CoreId) (s : State) : Host.Outcome State Fault Refusal := .next (s.vectorRow c 0x57)

/-- NORM_APPLY (R203). -/
def execNormApply (c : CoreId) (s : State) : Host.Outcome State Fault Refusal := .next (s.vectorRow c 0x58)

/-- NACC_STORE (R206). -/
def execNaccStore (c : CoreId) (s : State) : Host.Outcome State Fault Refusal := .next (s.vectorRow c 0x5C)

/-- CLIP_SCALE (R207). -/
def execClipScale (c : CoreId) (s : State) : Host.Outcome State Fault Refusal := .next (s.vectorRow c 0x5D)

end Sys2Proof.Machine
end

