-- ==== Sys2Proof/Machine/Dispatch.lean ====
section
/-!
DEFINITION. One arm per command: what the command does to everything but the queue.
-/

namespace Sys2Proof.Machine

open Sys2Proof

def exec (i : Instr) (s : State) : Host.Outcome State Fault Refusal :=
  match i with
  | .tick => Sys2Proof.Machine.execTick s
  | .copyAgentDone die => Sys2Proof.Machine.execCopyAgentDone die s
  | .commitWindowOpen => Sys2Proof.Machine.execCommitWindowOpen s
  | .commitDeadline => Sys2Proof.Machine.execCommitDeadline s
  | .disciplineLoop => Sys2Proof.Machine.execDisciplineLoop s
  | .holdoverExpiry => Sys2Proof.Machine.execHoldoverExpiry s
  | .controlStep t => Sys2Proof.Machine.execControlStep t s
  | .telemetry die t => Sys2Proof.Machine.execTelemetry die t s
  | .voltageAcknowledge die => Sys2Proof.Machine.execVoltageAcknowledge die s
  | .ownershipCheck => Sys2Proof.Machine.execOwnershipCheck s
  | .load r => Sys2Proof.Machine.execLoad r s
  | .loadDone => Sys2Proof.Machine.execLoadDone s
  | .arm r => Sys2Proof.Machine.execArm r s
  | .jobStart => Sys2Proof.Machine.execJobStart s
  | .pause r => Sys2Proof.Machine.execPause r s
  | .pauseTakesEffect => Sys2Proof.Machine.execPauseTakesEffect s
  | .resume r => Sys2Proof.Machine.execResume r s
  | .resumeTakesEffect => Sys2Proof.Machine.execResumeTakesEffect s
  | .halt r bcast => Sys2Proof.Machine.execHalt r bcast s
  | .jobHalt => Sys2Proof.Machine.execJobHalt s
  | .bcastCopyTimer p => Sys2Proof.Machine.execBcastCopyTimer p s
  | .clear r zeroHbm => Sys2Proof.Machine.execClear r zeroHbm s
  | .clearDone => Sys2Proof.Machine.execClearDone s
  | .claim h => Sys2Proof.Machine.execClaim h s
  | .release h => Sys2Proof.Machine.execRelease h s
  | .handover h => Sys2Proof.Machine.execHandover h s
  | .setTimeout h ms => Sys2Proof.Machine.execSetTimeout h ms s
  | .heartbeat h v => Sys2Proof.Machine.execHeartbeat h v s
  | .loReadCapture r off => Sys2Proof.Machine.execLoReadCapture r off s
  | .timNowLoWrite r v => Sys2Proof.Machine.execTimNowLoWrite r v s
  | .timNowHiWrite r v => Sys2Proof.Machine.execTimNowHiWrite r v s
  | .tickEn r on => Sys2Proof.Machine.execTickEn r on s
  | .source r src => Sys2Proof.Machine.execSource r src s
  | .registerWrite r a v => Sys2Proof.Machine.execRegisterWrite r a v s
  | .arrAbort r c => Sys2Proof.Machine.execArrAbort r c s
  | .fenceReq r c viaBlkCtl => Sys2Proof.Machine.execFenceReq r c viaBlkCtl s
  | .unfence r c => Sys2Proof.Machine.execUnfence r c s
  | .unfenceDone c failGroups => Sys2Proof.Machine.execUnfenceDone c failGroups s
  | .softReset r page => Sys2Proof.Machine.execSoftReset r page s
  | .blkLock r page => Sys2Proof.Machine.execBlkLock r page s
  | .hostFetch r => Sys2Proof.Machine.execHostFetch r s
  | .fetchDone data => Sys2Proof.Machine.execFetchDone data s
  | .hbmInterleaveWrite r st mode => Sys2Proof.Machine.execHbmInterleaveWrite r st mode s
  | .hbmRetrain r st => Sys2Proof.Machine.execHbmRetrain r st s
  | .fabRetrain r p => Sys2Proof.Machine.execFabRetrain r p s
  | .linkDisable r p => Sys2Proof.Machine.execLinkDisable r p s
  | .linkEnable r p => Sys2Proof.Machine.execLinkEnable r p s
  | .d2dRetrain r l => Sys2Proof.Machine.execD2dRetrain r l s
  | .dieReset r die => Sys2Proof.Machine.execDieReset r die s
  | .dieResetDone die b => Sys2Proof.Machine.execDieResetDone die b s
  | .isolate r die => Sys2Proof.Machine.execIsolate r die s
  | .requestRun r => Sys2Proof.Machine.execRequestRun r s
  | .requestIdle r => Sys2Proof.Machine.execRequestIdle r s
  | .requestRetain r => Sys2Proof.Machine.execRequestRetain r s
  | .requestOff r => Sys2Proof.Machine.execRequestOff r s
  | .powerStateReached dies => Sys2Proof.Machine.execPowerStateReached dies s
  | .warmReset r => Sys2Proof.Machine.execWarmReset r s
  | .warmResetDone dies => Sys2Proof.Machine.execWarmResetDone dies s
  | .sweep r groups all core => Sys2Proof.Machine.execSweep r groups all core s
  | .sweepAbort r => Sys2Proof.Machine.execSweepAbort r s
  | .sweepGroup c fail => Sys2Proof.Machine.execSweepGroup c fail s
  | .sweepDone => Sys2Proof.Machine.execSweepDone s
  | .hostDrain r port => Sys2Proof.Machine.execHostDrain r port s
  | .durableDrain r port => Sys2Proof.Machine.execDurableDrain r port s
  | .durableCommit => Sys2Proof.Machine.execDurableCommit s
  | .hostDrainAbort r => Sys2Proof.Machine.execHostDrainAbort r s
  | .hostDone => Sys2Proof.Machine.execHostDone s
  | .restore r source => Sys2Proof.Machine.execRestore r source s
  | .restoreDone => Sys2Proof.Machine.execRestoreDone s
  | .geoStepLoWrite r v => Sys2Proof.Machine.execGeoStepLoWrite r v s
  | .geoStepHiWrite r v => Sys2Proof.Machine.execGeoStepHiWrite r v s
  | .dmaDb h ch v => Sys2Proof.Machine.execDmaDb h ch v s
  | .channelEnable r ch => Sys2Proof.Machine.execChannelEnable r ch s
  | .channelDisable r ch => Sys2Proof.Machine.execChannelDisable r ch s
  | .dmaCompletion ch job => Sys2Proof.Machine.execDmaCompletion ch job s
  | .bar2Read h w len => Sys2Proof.Machine.execBar2Read h w len s
  | .bar2Write h w data ep => Sys2Proof.Machine.execBar2Write h w data ep s
  | .shaleUpdate r => Sys2Proof.Machine.execShaleUpdate r s
  | .shaleUpdateDone img flashOk => Sys2Proof.Machine.execShaleUpdateDone img flashOk s
  | .fwUpdate r => Sys2Proof.Machine.execFwUpdate r s
  | .fwUpdateDone img flashOk => Sys2Proof.Machine.execFwUpdateDone img flashOk s
  | .zeroize r => Sys2Proof.Machine.execZeroize r s
  | .zeroisationDone => Sys2Proof.Machine.execZeroisationDone s
  | .relock r => Sys2Proof.Machine.execRelock r s
  | .telClear r => Sys2Proof.Machine.execTelClear r s
  | .telCntSel r k v => Sys2Proof.Machine.execTelCntSel r k v s
  | .traceEnable r mask => Sys2Proof.Machine.execTraceEnable r mask s
  | .coreHalt r c => Sys2Proof.Machine.execCoreHalt r c s
  | .coreRelease r c => Sys2Proof.Machine.execCoreRelease r c s
  | .dbgMemRead r => Sys2Proof.Machine.execDbgMemRead r s
  | .dbgMemWrite r v => Sys2Proof.Machine.execDbgMemWrite r v s
  | .i3cRead off => Sys2Proof.Machine.execI3cRead off s
  | .i3cWrite off v => Sys2Proof.Machine.execI3cWrite off v s
  | .msgWrite off data => Sys2Proof.Machine.execMsgWrite off data s
  | .msgSubmit => Sys2Proof.Machine.execMsgSubmit s
  | .msgRead off => Sys2Proof.Machine.execMsgRead off s
  | .msgState => Sys2Proof.Machine.execMsgState s
  | .entdaa addr => Sys2Proof.Machine.execEntdaa addr s
  | .rstdaa => Sys2Proof.Machine.execRstdaa s
  | .getIdentity c => Sys2Proof.Machine.execGetIdentity c s
  | .getReport c nonce => Sys2Proof.Machine.execGetReport c nonce s
  | .extend c index digest => Sys2Proof.Machine.execExtend c index digest s
  | .getChallenge c => Sys2Proof.Machine.execGetChallenge c s
  | .submitToken c token fuseOk => Sys2Proof.Machine.execSubmitToken c token fuseOk s
  | .doeAbort h => Sys2Proof.Machine.execDoeAbort h s
  | .nonceExpiry => Sys2Proof.Machine.execNonceExpiry s
  | .coldReset => Sys2Proof.Machine.execColdReset s
  | .startUp b => Sys2Proof.Machine.execStartUp b s
  | .lossOfMainPower => Sys2Proof.Machine.execLossOfMainPower s
  | .exitFromOff b => Sys2Proof.Machine.execExitFromOff b s
  | .vstbyDrop => Sys2Proof.Machine.execVstbyDrop s
  | .conventionalReset h => Sys2Proof.Machine.execConventionalReset h s
  | .portLinkTraining h speed width => Sys2Proof.Machine.execPortLinkTraining h speed width s
  | .flr h => Sys2Proof.Machine.execFlr h s
  | .pcieLinkDown h => Sys2Proof.Machine.execPcieLinkDown h s
  | .forceThrottle => Sys2Proof.Machine.execForceThrottle s
  | .forceThrottleRelease => Sys2Proof.Machine.execForceThrottleRelease s
  | .ppsEdge t => Sys2Proof.Machine.execPpsEdge t s
  | .refclk10mLoss => Sys2Proof.Machine.execRefclk10mLoss s
  | .fabRefclkLoss => Sys2Proof.Machine.execFabRefclkLoss s
  | .pcieRefclkLoss h => Sys2Proof.Machine.execPcieRefclkLoss h s
  | .thermalTrip => Sys2Proof.Machine.execThermalTrip s
  | .lossOfSignal p => Sys2Proof.Machine.execLossOfSignal p s
  | .laneLockLoss p => Sys2Proof.Machine.execLaneLockLoss p s
  | .peerRetrainPattern p => Sys2Proof.Machine.execPeerRetrainPattern p s
  | .trainingAttempt p a => Sys2Proof.Machine.execTrainingAttempt p a s
  | .trainingTimeout p => Sys2Proof.Machine.execTrainingTimeout p s
  | .trainingRetry p a => Sys2Proof.Machine.execTrainingRetry p a s
  | .initTimer p => Sys2Proof.Machine.execInitTimer p s
  | .replayTimerExpiry p => Sys2Proof.Machine.execReplayTimerExpiry p s
  | .retrainComplete p => Sys2Proof.Machine.execRetrainComplete p s
  | .relockTimeout p => Sys2Proof.Machine.execRelockTimeout p s
  | .replayParity p => Sys2Proof.Machine.execReplayParity p s
  | .crcFailedFu p f fec => Sys2Proof.Machine.execCrcFailedFu p f fec s
  | .malformedFu p f => Sys2Proof.Machine.execMalformedFu p f s
  | .idle p f => Sys2Proof.Machine.execIdle p f s
  | .replayMark p f => Sys2Proof.Machine.execReplayMark p f s
  | .init p f => Sys2Proof.Machine.execInit p f s
  | .timeStamp p f rxNs rxFrac => Sys2Proof.Machine.execTimeStamp p f rxNs rxFrac s
  | .timeStampTimer => Sys2Proof.Machine.execTimeStampTimer s
  | .haltBcast p f => Sys2Proof.Machine.execHaltBcast p f s
  | .hello p f => Sys2Proof.Machine.execHello p f s
  | .helloTimer => Sys2Proof.Machine.execHelloTimer s
  | .delayReport p f => Sys2Proof.Machine.execDelayReport p f s
  | .delayReportTimer p => Sys2Proof.Machine.execDelayReportTimer p s
  | .ringState p f => Sys2Proof.Machine.execRingState p f s
  | .ringStateTimer => Sys2Proof.Machine.execRingStateTimer s
  | .ringStateExpiry axis coord => Sys2Proof.Machine.execRingStateExpiry axis coord s
  | .geoHello p f => Sys2Proof.Machine.execGeoHello p f s
  | .geoHelloTimer => Sys2Proof.Machine.execGeoHelloTimer s
  | .geoHelloExpiry => Sys2Proof.Machine.execGeoHelloExpiry s
  | .buddyDrainStart => Sys2Proof.Machine.execBuddyDrainStart s
  | .drainOpen p f => Sys2Proof.Machine.execDrainOpen p f s
  | .drainGrant p f => Sys2Proof.Machine.execDrainGrant p f s
  | .drainDone p f => Sys2Proof.Machine.execDrainDone p f s
  | .drainAbort p f => Sys2Proof.Machine.execDrainAbort p f s
  | .drainGrantTimeout => Sys2Proof.Machine.execDrainGrantTimeout s
  | .drainRetry => Sys2Proof.Machine.execDrainRetry s
  | .readReq p f => Sys2Proof.Machine.execReadReq p f s
  | .write p f => Sys2Proof.Machine.execWrite p f s
  | .addF32 p f => Sys2Proof.Machine.execAddF32 p f s
  | .addI32 p f => Sys2Proof.Machine.execAddI32 p f s
  | .reduce p f => Sys2Proof.Machine.execReduce p f s
  | .vgatherReq p f => Sys2Proof.Machine.execVgatherReq p f s
  | .readResp p f => Sys2Proof.Machine.execReadResp p f s
  | .writeAck p f => Sys2Proof.Machine.execWriteAck p f s
  | .error p f => Sys2Proof.Machine.execError p f s
  | .respTimeout tag => Sys2Proof.Machine.execRespTimeout tag s
  | .colData p f => Sys2Proof.Machine.execColData p f s
  | .ringBlock p f => Sys2Proof.Machine.execRingBlock p f s
  | .sync m => Sys2Proof.Machine.execSync m s
  | .announce m => Sys2Proof.Machine.execAnnounce m s
  | .delayResp m => Sys2Proof.Machine.execDelayResp m s
  | .announceReceiptTimeout => Sys2Proof.Machine.execAnnounceReceiptTimeout s
  | .d2dCtrl l u => Sys2Proof.Machine.execD2dCtrl l u s
  | .d2dReplayMark l u => Sys2Proof.Machine.execD2dReplayMark l u s
  | .d2dIdle l u => Sys2Proof.Machine.execD2dIdle l u s
  | .hdr l u => Sys2Proof.Machine.execHdr l u s
  | .data l u => Sys2Proof.Machine.execData l u s
  | .dataPoisoned l u => Sys2Proof.Machine.execDataPoisoned l u s
  | .width l u => Sys2Proof.Machine.execWidth l u s
  | .widthTimer l => Sys2Proof.Machine.execWidthTimer l s
  | .handshakeTimeout l => Sys2Proof.Machine.execHandshakeTimeout l s
  | .d2dTraining l near far => Sys2Proof.Machine.execD2dTraining l near far s
  | .d2dReplayTimerExpiry l => Sys2Proof.Machine.execD2dReplayTimerExpiry l s
  | .d2dRelockTimeout l => Sys2Proof.Machine.execD2dRelockTimeout l s
  | .d2dRetry l near far => Sys2Proof.Machine.execD2dRetry l near far s
  | .forwardedClockLoss l => Sys2Proof.Machine.execForwardedClockLoss l s
  | .sidebandParity l failures => Sys2Proof.Machine.execSidebandParity l failures s
  | .stackTrainFail st => Sys2Proof.Machine.execStackTrainFail st s
  | .regulatorFault rail => Sys2Proof.Machine.execRegulatorFault rail s
  | .spFault => Sys2Proof.Machine.execSpFault s
  | .metaPoison => Sys2Proof.Machine.execMetaPoison s
  | .hbmRead st off len found entry waiting => Sys2Proof.Machine.execHbmRead st off len found entry waiting s
  | .hbmWrite st off data poison entry waiting => Sys2Proof.Machine.execHbmWrite st off data poison entry waiting s
  | .fatalCoreError c cause => Sys2Proof.Machine.execFatalCoreError c cause s
  | .repairPiece c => Sys2Proof.Machine.execRepairPiece c s
  | .resbufParity die => Sys2Proof.Machine.execResbufParity die s
  | .verdict c spoilt => Sys2Proof.Machine.execVerdict c spoilt s
  | .rerunS die upsets spoilt => Sys2Proof.Machine.execRerunS die upsets spoilt s
  | .rerunX die upsets spoilt => Sys2Proof.Machine.execRerunX die upsets spoilt s
  | .resolutionOutcome die => Sys2Proof.Machine.execResolutionOutcome die s
  | .descComplete c u => Sys2Proof.Machine.execDescComplete c u s
  | .endOp c => Sys2Proof.Machine.execEndOp c s
  | .nop c => Sys2Proof.Machine.execNop c s
  | .fence c => Sys2Proof.Machine.execFence c s
  | .kat c failGroups => Sys2Proof.Machine.execKat c failGroups s
  | .mma c upsets badLines => Sys2Proof.Machine.execMma c upsets badLines s
  | .copy c badLines => Sys2Proof.Machine.execCopy c badLines s
  | .add c => Sys2Proof.Machine.execAdd c s
  | .sub c => Sys2Proof.Machine.execSub c s
  | .mul c => Sys2Proof.Machine.execMul c s
  | .fma c => Sys2Proof.Machine.execFma c s
  | .min c => Sys2Proof.Machine.execMin c s
  | .max c => Sys2Proof.Machine.execMax c s
  | .abs c => Sys2Proof.Machine.execAbs c s
  | .neg c => Sys2Proof.Machine.execNeg c s
  | .select c => Sys2Proof.Machine.execSelect c s
  | .cmp c => Sys2Proof.Machine.execCmp c s
  | .exp2 c => Sys2Proof.Machine.execExp2 c s
  | .log2 c => Sys2Proof.Machine.execLog2 c s
  | .recip c => Sys2Proof.Machine.execRecip c s
  | .rsqrt c => Sys2Proof.Machine.execRsqrt c s
  | .iadd c => Sys2Proof.Machine.execIadd c s
  | .isub c => Sys2Proof.Machine.execIsub c s
  | .imul c => Sys2Proof.Machine.execImul c s
  | .imin c => Sys2Proof.Machine.execImin c s
  | .imax c => Sys2Proof.Machine.execImax c s
  | .iand c => Sys2Proof.Machine.execIand c s
  | .ior c => Sys2Proof.Machine.execIor c s
  | .ixor c => Sys2Proof.Machine.execIxor c s
  | .ishift c => Sys2Proof.Machine.execIshift c s
  | .perm c => Sys2Proof.Machine.execPerm c s
  | .shuffle c => Sys2Proof.Machine.execShuffle c s
  | .pack c => Sys2Proof.Machine.execPack c s
  | .unpack c => Sys2Proof.Machine.execUnpack c s
  | .classOp c => Sys2Proof.Machine.execClassOp c s
  | .count c => Sys2Proof.Machine.execCount c s
  | .redSum c => Sys2Proof.Machine.execRedSum c s
  | .redMax c => Sys2Proof.Machine.execRedMax c s
  | .redMin c => Sys2Proof.Machine.execRedMin c s
  | .redSumsq c => Sys2Proof.Machine.execRedSumsq c s
  | .tred c => Sys2Proof.Machine.execTred c s
  | .smxUpdate c => Sys2Proof.Machine.execSmxUpdate c s
  | .smxFinal c => Sys2Proof.Machine.execSmxFinal c s
  | .rowstats c => Sys2Proof.Machine.execRowstats c s
  | .normFin c => Sys2Proof.Machine.execNormFin c s
  | .normApply c => Sys2Proof.Machine.execNormApply c s
  | .naccStore c => Sys2Proof.Machine.execNaccStore c s
  | .clipScale c => Sys2Proof.Machine.execClipScale c s
  | .dmaCopy c badLines => Sys2Proof.Machine.execDmaCopy c badLines s
  | .dmaFill c => Sys2Proof.Machine.execDmaFill c s
  | .ctxStart c => Sys2Proof.Machine.execCtxStart c s
  | .ctxEnd c => Sys2Proof.Machine.execCtxEnd c s
  | .qcheck c => Sys2Proof.Machine.execQcheck c s
  | .qcopy c => Sys2Proof.Machine.execQcopy c s
  | .vcapture c => Sys2Proof.Machine.execVcapture c s
  | .vgather c => Sys2Proof.Machine.execVgather c s
  | .vopen c => Sys2Proof.Machine.execVopen c s
  | .vpublish c => Sys2Proof.Machine.execVpublish c s
  | .rread c => Sys2Proof.Machine.execRread c s
  | .rwrite c => Sys2Proof.Machine.execRwrite c s
  | .radd c => Sys2Proof.Machine.execRadd c s
  | .reduceWrite c => Sys2Proof.Machine.execReduceWrite c s
  | .reduceScatter c => Sys2Proof.Machine.execReduceScatter c s
  | .allGather c => Sys2Proof.Machine.execAllGather c s
  | .allReduce c => Sys2Proof.Machine.execAllReduce c s
  | .ringStart c => Sys2Proof.Machine.execRingStart c s
  | .ringWait c => Sys2Proof.Machine.execRingWait c s
  | .registerRead r a => Sys2Proof.Machine.execRegisterRead r a s
  | .followUp m => Sys2Proof.Machine.execFollowUp m s
  | .delayReqTimer t => Sys2Proof.Machine.execDelayReqTimer t s
  | .wholeSecond => Sys2Proof.Machine.execWholeSecond s
  | .refclk10mReturn => Sys2Proof.Machine.execRefclk10mReturn s
  | .laneParityError p => Sys2Proof.Machine.execLaneParityError p s
  | .unitCrcFail l u => Sys2Proof.Machine.execUnitCrcFail l u s
  | .flrComplete h => Sys2Proof.Machine.execFlrComplete h s
  | .hbmRetrainDone st ok => Sys2Proof.Machine.execHbmRetrainDone st ok s
  | .responseReady c => Sys2Proof.Machine.execResponseReady c s
  | .d3hot h enter => Sys2Proof.Machine.execD3hot h enter s
  | .tapInstruction ir => Sys2Proof.Machine.execTapInstruction ir s
  | .enec => Sys2Proof.Machine.execEnec s
  | .disec => Sys2Proof.Machine.execDisec s

end Sys2Proof.Machine
end

