-- ==== Sys2Proof/Safety.lean ====
section
/-!
DEFINITION. What a sound state of the block is, in the terms the statements use.
-/

namespace Sys2Proof.Machine

open Sys2Proof

/-- The memory is in canonical form: rising addresses, no byte that equals what an unlisted address reads as (R456:
0). -/
def Memory.wf (m : List Host.Cell) : Bool := Store.wf (fun _ => 0) m

/-- What the security rules allow of the lifecycle state, the debug level, its mark and the failed submissions beside
the power state and its target: a lifecycle state is one of four (R466), a level one of three (R484), FAILS is at most 8
(R486), CONTROL marks the reports (R487, R489), OFF is CLOSED and unmarked, and neither RETAIN nor the way into it is
CONTROL (R488, R489, R491). -/
structure State.Lawful (s : State) : Prop where
  lifecycle : 1 ≤ s.sec.lifecycle ∧ s.sec.lifecycle ≤ 4
  level     : s.sec.level ≤ 2
  fails     : s.sec.fails ≤ 8
  marked    : s.sec.level = 2 → s.sec.marked = true
  off       : s.pwr.st = .off → s.sec.level = 0 ∧ s.sec.marked = false
  retain    : s.pwr.st = .retain ∨ s.pwr.target = .retain → s.sec.level ≤ 1

/-- A requester's write reaches the registers of a page: its port takes requests, or JTAG stands at CONTROL, and the
page answers (R29, R399, R484). The I3C target reaches no page this way (R442). -/
def State.reaches (s : State) (r : Requester) (b : Blk) : Prop :=
  s.answers b = true ∧ (match r with
    | .mmio h => s.portTakes h = true
    | .jtag => s.jtagOpen true = true
    | .i3c => False)

/-- A tick argument that is allowed while ticks run: 0 for the first tick after the write (none), or a tick at least two
after the current one (R70). -/
def State.tickArgument (s : State) (at? : Option Nat) : Prop :=
  s.tickEn = true ∧ ((s.tickArg = 0 ∧ at? = none) ∨ (s.tickArg ≠ 0 ∧ s.tick + 2 ≤ s.tickArg ∧ at? = some s.tickArg))

/-- A command of a job that waits for its tick, accepted and shown in GLB_JOB_CMD (R69 to R71, R77). -/
def State.withCommand (s : State) (cmd : JobCmd) (at? : Option Nat) (w : Word) : State :=
  { s with job := { s.job with pend := some { cmd := cmd, at? := at? } } }.setReg .glb 0xA4 w

/-- A job command that left the job as it was: its state, its pending command, its start tick and the last accepted
command, with memory and cores (R69). -/
def State.jobStays (s t : State) : Prop :=
  t.job.st = s.job.st ∧ t.job.pend = s.job.pend ∧ t.job.armTick = s.job.armTick ∧ t.job.prot = s.job.prot ∧
  t.reg .glb 0xA4 = s.reg .glb 0xA4 ∧ t.hbm = s.hbm ∧ t.cores = s.cores ∧ t.flag .glb 0x10 0 = true

/-- A job command that was rejected: the job stays, and GLB shows JOB_CMD_REJECTED beside the violation (R69, R70). -/
def State.jobRejected (s t : State) : Prop := s.jobStays t ∧ t.flag .glb 0x10 8 = true

/-- A core has become a husk with a cause: it runs nothing, holds no result, carries no logical core and is out of the
live map; memory and the job's state stay, and every other core, where the fence ends no resolution of this one (R97,
R346, R357). -/
def State.fencedBy (s : State) (c : CoreId) (cause : Nat) (t : State) : Prop :=
  (t.core c).cause = cause ∧ (t.core c).run = none ∧ (t.core c).logical = none ∧ (t.core c).fly = [] ∧
  (t.core c).held = [] ∧ t.husk c = true ∧
  (∀ l, (s.core c).logical = some l → Store.get (fun _ => 0xFF) t.cad.live l = 0xFF) ∧
  (∀ e, e ≠ c → (t.core e).cause = (s.core e).cause ∧ (t.core e).run = (s.core e).run) ∧
  ((∀ e ∈ s.flt.active, e.2.core ≠ c) → ∀ e, e ≠ c → t.core e = s.core e) ∧
  t.hbm = s.hbm ∧ t.bad = s.bad ∧ t.job.st = s.job.st

/-- The limits of R88 on the periods of a slot. -/
def State.slotLimits (s : State) : Prop :=
  within 10 10000 s.skewLimit = true ∧ 1000 ≤ s.commitWindow ∧ 2 * s.skewLimit ≤ s.commitWindow ∧
  2 * s.commitWindow ≤ s.tickPeriod ∧ within 10000 1000000000 s.tickPeriod = true

/-- A requester's read reaches the registers of a page: its port takes requests, or JTAG is open for reads, and the page
answers (R29, R399, R484). The I3C target reads by messages of its own (R442). -/
def State.sees (s : State) (r : Requester) (b : Blk) : Prop :=
  s.answers b = true ∧ (match r with
    | .mmio h => s.portTakes h = true
    | .jtag => s.jtagOpen false = true
    | .i3c => False)

/-- An access of four bytes to the register at an offset of a page. -/
def Blk.at4 (b : Blk) (o : Nat) : RegAccess := { bar := .bar0, off := BitVec.ofNat 26 (b.base + o), size := 4 }

/-- A word with the bits of a mask taken from another. -/
def mixWord (m : Nat) (old v : Word) : Word := (old &&& ~~~(maskW m)) ||| (v &&& maskW m)

/-- The registers that only hold a setting: a write of one has no rule but those of its access codes and values. -/
def Blk.isSetting (b : Blk) (o : Nat) : Bool :=
  match b with
  | .glb => o == 0xD0 || o == 0xD4
  | .pwr => within 0x8C 0xA0 o
  | .tim => o == 0xC0
  | .sec => within 0x98 0xA0 o
  | .cfg => within 0x90 0x98 o
  | .hif _ => o == 0x88 || o == 0x8C
  | .fab _ | .d2d _ => o == 0x88
  | .hbm _ => within 0xA0 0xA8 o
  | .ver => o == 0x90 || o == 0x94 || o == 0xA0
  | .geo => within 0xC8 0xD4 o
  | .flt => within 0x80 0x88 o || within 0xA0 0xB4 o
  | _ => false

/-- The state in which an accepted LOAD carries out its procedure (R69, R72). -/
def State.loading (s : State) : State :=
  { s with job := { s.job with loadErr := 0, result := 0 } }.setJobState .loading


/-- What becomes of a die that a cause of R427 takes out of service: isolated with that cause and down, its clock
stopped, and its cores husks, those that were none with CAUSE 5 (R428). -/
def State.takesOut (s : State) (d : DieId) (code : Nat) (t : State) : Prop :=
  (t.die d).isolated = true ∧ (t.die d).cause = code ∧ (t.die d).up = false ∧ t.nowMhz d = 0 ∧
  ∀ c, coreDie c = d → (t.core c).cause = if s.husk c then (s.core c).cause else 5

/-- The page and ERR_STAT bit of a fatal core error (R145, R209, R273). -/
def fatalShownAt (c : CoreId) : CoreCause → Blk × Nat
  | .arrDatapath => (.arr c, 8)
  | .arrShadow => (.arr c, 9)
  | .arrOutbuf => (.arr c, 10)
  | .vecLane => (.vec c, 8)
  | .vecRegfile => (.vec c, 9)
  | .vecNacc => (.vec c, 10)
  | .cdmaParity => (.cdma c, 8)
  | .cstTagParity _ => (.cst c, 10)

/-- The core, the opcode and the core-store lines whose CRC fails of a command that issues a descriptor (R48, R111). -/
def descriptorOf : Instr → Option (CoreId × Nat × List (BitVec 19))
  | .endOp c => some (c, 0x00, [])
  | .nop c => some (c, 0x01, [])
  | .fence c => some (c, 0x02, [])
  | .kat c _ => some (c, 0xB8, [])
  | .mma c _ l => some (c, 0x10, l)
  | .dmaCopy c l => some (c, 0x60, l)
  | .dmaFill c => some (c, 0x61, [])
  | .ctxStart c => some (c, 0x70, [])
  | .ctxEnd c => some (c, 0x71, [])
  | .qcheck c => some (c, 0x72, [])
  | .qcopy c => some (c, 0x73, [])
  | .vcapture c => some (c, 0x80, [])
  | .vgather c => some (c, 0x81, [])
  | .vopen c => some (c, 0x82, [])
  | .vpublish c => some (c, 0x83, [])
  | .rread c => some (c, 0x90, [])
  | .rwrite c => some (c, 0x91, [])
  | .radd c => some (c, 0x92, [])
  | .reduceWrite c => some (c, 0x93, [])
  | .reduceScatter c => some (c, 0xA0, [])
  | .allGather c => some (c, 0xA1, [])
  | .allReduce c => some (c, 0xA2, [])
  | .ringStart c => some (c, 0xA4, [])
  | .ringWait c => some (c, 0xA5, [])
  | .copy c l => some (c, 0x20, l)
  | .add c => some (c, 0x21, [])
  | .sub c => some (c, 0x22, [])
  | .mul c => some (c, 0x23, [])
  | .fma c => some (c, 0x24, [])
  | .min c => some (c, 0x25, [])
  | .max c => some (c, 0x26, [])
  | .abs c => some (c, 0x27, [])
  | .neg c => some (c, 0x28, [])
  | .select c => some (c, 0x29, [])
  | .cmp c => some (c, 0x2A, [])
  | .exp2 c => some (c, 0x30, [])
  | .log2 c => some (c, 0x31, [])
  | .recip c => some (c, 0x32, [])
  | .rsqrt c => some (c, 0x33, [])
  | .iadd c => some (c, 0x38, [])
  | .isub c => some (c, 0x39, [])
  | .imul c => some (c, 0x3A, [])
  | .imin c => some (c, 0x3B, [])
  | .imax c => some (c, 0x3C, [])
  | .iand c => some (c, 0x3D, [])
  | .ior c => some (c, 0x3E, [])
  | .ixor c => some (c, 0x3F, [])
  | .ishift c => some (c, 0x40, [])
  | .perm c => some (c, 0x44, [])
  | .shuffle c => some (c, 0x45, [])
  | .pack c => some (c, 0x46, [])
  | .unpack c => some (c, 0x47, [])
  | .classOp c => some (c, 0x48, [])
  | .count c => some (c, 0x49, [])
  | .redSum c => some (c, 0x4C, [])
  | .redMax c => some (c, 0x4D, [])
  | .redMin c => some (c, 0x4E, [])
  | .redSumsq c => some (c, 0x4F, [])
  | .tred c => some (c, 0x50, [])
  | .smxUpdate c => some (c, 0x54, [])
  | .smxFinal c => some (c, 0x55, [])
  | .rowstats c => some (c, 0x56, [])
  | .normFin c => some (c, 0x57, [])
  | .normApply c => some (c, 0x58, [])
  | .naccStore c => some (c, 0x5C, [])
  | .clipScale c => some (c, 0x5D, [])
  | _ => none

/-- The next descriptor of a core's list as its sequencer fetches it (R46, R49, R112, R565): the core has its turn, the
64 bytes lie in the descriptor section where a stack serves them, they and the tensor descriptors they name carry no
poison and no stack has lost its contents. -/
structure State.Fetches (s : State) (c : CoreId) (r : Run) (d : Desc) : Prop where
  turn    : s.active? c = some r
  desc    : d = { raw := s.mem (s.descAddr r.at) 64, pos := r.pos, off := r.at }
  inside  : (s.sect 4).1 ≤ s.descAddr r.at ∧ s.descAddr r.at + 64 ≤ (s.sect 4).1 + (s.sect 4).2
  served  : s.servedTo c (s.descAddr r.at) = true
  kept    : s.anyLost = false
  sound   : s.poisoned (s.descAddr r.at) = false
  tensors : ∀ i ∈ d.tensors, s.tensorOk i = true → s.poisoned (s.tensorOff i) = false

/-- The device once a core has read a descriptor and the tensor descriptors it names: those reads have taken their turns
at the stacks' arbiters (R46, R260 to R263). -/
def State.fetched (s : State) (c : CoreId) (r : Run) (d : Desc) : State :=
  (s.enter (.core c) (s.descAddr r.at) 64).each (d.tensors.filter s.tensorOk)
    (fun s i => s.enter (.core c) (s.tensorOff i) 64)

/-- A fetched descriptor that may issue as an opcode: its SEQ is its position, its WAIT bits are met and its unit's
queue has room (R47, R49, R111). -/
structure State.Takes (s : State) (c : CoreId) (op : Nat) (r : Run) (d : Desc) : Prop extends s.Fetches c r d where
  seq   : d.seq = r.pos
  code  : d.op = op
  waits : (s.core c).waitsMet d = true
  room  : (s.core c).queueFull (unitOf op) = false

/-- A descriptor fault has stopped a core's list: the run is faulted, the pointer shows the descriptor, and the CORE
page shows the cause (R52). -/
def State.faultedAt (t : State) (c : CoreId) (r : Run) (bt : Nat) : Prop :=
  (t.core c).run = some { r with faulted := true } ∧ (t.core c).ptr = r.at ∧ t.flag (.core c) 0x10 bt = true

/-- A descriptor of a core has issued: the run stands at the next one, the pointer shows this one, and its entry, if it
has one, is the last in flight (R46, R49). -/
def State.issuedAt (s : State) (c : CoreId) (r : Run) (e : Option InFlight) (t : State) : Prop :=
  (t.core c).run = some { r with pos := r.pos + 1 } ∧ (t.core c).ptr = r.at ∧ (t.core c).fly = (s.core c).fly ++ e.toList

/-- The entry of a descriptor in flight that has no request outstanding. -/
def Desc.entry (d : Desc) : InFlight :=
  { unit := unitOf d.op, desc := BitVec.ofNat 512 d.raw, pos := d.pos, off := d.off }

/-- What a core's issue answers: the run moves on, with the descriptor's entry, and what may follow it follows (R46,
R49). -/
def State.issuesWith (s : State) (c : CoreId) (r : Run) (e : Option InFlight) : Host.Outcome State Fault Refusal :=
  .next (s.modCore c (fun x => x.issued r.at e)).settle

/-- What a descriptor fault of a core answers (R52). -/
def State.faultsAt (s : State) (c : CoreId) (r : Run) (bt halt : Nat) : Host.Outcome State Fault Refusal :=
  .next (s.descFault c r.at r.logical bt halt).settle

/-- What the run of a descriptor that its unit has started comes to, from what it gathered (R57, R178, R309): with no
fault it writes, and waits for what other devices acknowledge; bytes of other devices that it still wants are asked for
first, from the state it started in; a fault leaves what was gathered before it, but nothing to other devices where a
coordinate was beyond the package's dimensions. `after` is what a copy does beside. -/
def State.runComesTo (b : State) (c : CoreId) (r : Run) (d : Desc) (o : Io) (page : Blk) (outs : List (Nat × Nat))
    (f : Nat × Nat × Nat) (after : State → State) (x : Host.Outcome State Fault Refusal) : Prop :=
  let k := o.commit d page outs f.1 f.2.1 f.2.2
  let asks := b.fetchFar (.core c (unitOf d.op) d.pos) o.want
  (o.stop = none → o.want = [] → x = (after k.2).issuesWith c r (some { d.entry with tags := k.1, writes := true })) ∧
  (o.want ≠ [] → o.stop = none ∨ o.mute = false →
    x = asks.2.issuesWith c r (some { d.entry with tags := asks.1, phase := .fetch, got := o.got })) ∧
  (∀ e, o.stop = some e → o.mute = false → o.want = [] →
    x = (o.commitLost d page outs f.1 f.2.1 f.2.2).faultsAt c r e.1 e.2) ∧
  (∀ e, o.stop = some e → o.mute = true →
    x = (({ o with far := [], layers := [] } : Io).commitLost d page outs f.1 f.2.1 f.2.2).faultsAt c r e.1 e.2)

/-- The opcode of a command whose vector descriptor works lane by lane (R185 to R188, R192, R207). -/
def lanewise : List Nat :=
  [0x20, 0x21, 0x22, 0x23, 0x24, 0x25, 0x26, 0x27, 0x28, 0x29, 0x2A, 0x30, 0x31, 0x32, 0x33, 0x38, 0x39, 0x3A, 0x3B,
    0x3C, 0x3D, 0x3E, 0x3F, 0x40, 0x48, 0x5D]

/-- A lane of a source that is an immediate or a V register, with its poison; BCAST 2 and 3 give lane 0 (R172, R174). -/
def State.lane (s : State) (c : CoreId) (x : Opd) (b l : Nat) : Word × Bool :=
  match x with
  | .vreg n =>
    let k := 128 * n + (if b ≤ 1 then l else 0)
    (Store.get (fun _ => 0) (s.core c).v k, Store.get (fun _ => false) (s.core c).vp k)
  | .imm w => (w, false)
  | _ => (0, false)

/-- What a lane-wise opcode gives from three source lanes: the value with its poison (R184 to R188, R192, R207). Float
opcodes read a lane as an FP32 value of the core's mode; COPY and SELECT move its bits. -/
def laneResult (v : Vop) (a b c : Word × Bool) : Word × Bool :=
  let f := fun (x : Word × Bool) => fl v.g (Fmt.fp32.read v.g x.1.toNat)
  let one := fun (w : Word) => (w, a.2)
  let two := fun (w : Word) => (w, a.2 || b.2)
  match v.op with
  | 0x20 => a
  | 0x21 => two (fadd v.g (f a) (f b))
  | 0x22 => two (fsub v.g (f a) (f b))
  | 0x23 => two (fmul v.g (f a) (f b))
  | 0x24 => (ffma v.g (f a) (f b) (f c), a.2 || b.2 || c.2)
  | 0x25 => two (fmin v.g (f a) (f b))
  | 0x26 => two (fmax v.g (f a) (f b))
  | 0x27 => one (if isNan (f a) then fNan else f a &&& 0x7FFFFFFF)
  | 0x28 => one (if isNan (f a) then fNan else f a ^^^ 0x80000000)
  | 0x29 => if isNan (f a) || (rd v.g (f a)).isZero then (c.1, c.2 || a.2) else (b.1, b.2 || a.2)
  | 0x2A => two (if cmpHolds v.subop (rd v.g (f a)) (rd v.g (f b)) then fOne else fZero)
  | 0x30 => one (fexp2 v.g (f a))
  | 0x31 => one (flog2 v.g (f a))
  | 0x32 => one (frecip v.g (f a))
  | 0x33 => one (frsqrt v.g (f a))
  | 0x38 => two (a.1 + b.1)
  | 0x39 => two (a.1 - b.1)
  | 0x3A => two (a.1 * b.1)
  | 0x3B => two (if a.1.toInt ≤ b.1.toInt then a.1 else b.1)
  | 0x3C => two (if b.1.toInt ≤ a.1.toInt then a.1 else b.1)
  | 0x3D => two (a.1 &&& b.1)
  | 0x3E => two (a.1 ||| b.1)
  | 0x3F => two (a.1 ^^^ b.1)
  | 0x40 =>
    let n := b.1.toNat % 32
    two (if v.subop = 0 then a.1 <<< n else if v.subop = 1 then a.1 >>> n else a.1.sshiftRight n)
  | 0x48 => one (BitVec.ofNat 32 (classCode .fp32 { code := a.1.toNat }))
  | _ => one (fmin v.g fOne (fmul v.g v.imm0 (frsqrt v.g (f a))))

/-- The state in which a vector descriptor's walk begins: the unit shows the opcode (R208). -/
def State.vecBegins (s : State) (c : CoreId) (d : Desc) : State := s.modCore c (fun x => { x with vecOp := d.op })

/-- The checks of R565 that the copies and remote operations pass: fields, context, tensors, the operation's own rule
and the slot kind (R213, R249, R313). -/
def Desc.copyChecks (d : Desc) (s : State) : Bool :=
  let t := d.pair s
  let rem := if d.op = 0x90 then t.1 else t.2
  let loc := if d.op = 0x90 then t.2 else t.1
  let plain := t.1.vsel == 0 && t.2.vsel == 0
  d.headerOk && d.ctxOk && d.tensors.all s.tensorOk && d.tensorCtx t.1 && d.tensorCtx t.2 && s.tensorKind t.1 &&
  s.tensorKind t.2 && sameShape t.1 t.2 &&
  (match d.op with
  | 0x60 => d.restZero [8, 9, 10, 11] && (t.1.space == 1 || t.2.space == 1) && (t.2.vsel == 0 || t.2.vsel == 3) &&
      t.1.space != 2 && t.2.space != 2
  | 0x73 => d.restZero [8, 9, 10, 11] && d.ctxValid && (t.1.space == 2 || t.2.space == 2) && plain &&
      s.kindIn [.compute, .eval]
  | 0x93 => d.restZero [8, 9, 10, 11, 12] && decide (d.byte 12 ≤ 1) && plain && rem.space == 0 &&
      (loc.space == 1 || s.isLocal loc) && (t.2.fmtCode == 0 || t.2.fmtCode == 2 || t.2.fmtCode == 7) && !t.2.mx
  | 0x92 => d.restZero [8, 9, 10, 11] && plain && rem.space == 0 && (loc.space == 1 || s.isLocal loc) &&
      (t.2.fmtCode == 0 || t.2.fmtCode == 7) && !t.2.mx
  | _ => d.restZero [8, 9, 10, 11] && plain && rem.space == 0 && (loc.space == 1 || s.isLocal loc))

/-- The checks that VGATHER passes (R237, R565). -/
def Desc.gatherChecks (d : Desc) (s : State) : Bool :=
  let t := s.tensor (d.num 14 2)
  d.headerOk && d.ctxOk && d.restZero [8, 9, 10, 12, 13, 14, 15] && (d.byte 10 == 1 || d.byte 10 == 2) &&
  (d.byte 10 == 2 || d.ctxValid) && s.tensorOk (d.num 14 2) && t.vsel == 0 && t.dims == 1 &&
  (t.space == 1 || (t.space == 0 && globalDest t.base == s.own)) &&
  (match s.weight? (d.num 8 2) with
  | none => false
  | some w => (s.shardsOf w).all (fun x => decide (2 * (x.full + x.len) ≤ t.size.i0 * t.fmt.nibbles)))

/-- The checks that a collective passes but for its size rule (R329, R565). -/
def Desc.collectiveChecks (d : Desc) (s : State) : Bool :=
  let t := d.pair s
  d.headerOk && d.ctxOk && d.restZero [8, 9, 10, 11, 12, 13, 16, 17, 18, 19] && (d.byte 12 == 1 || d.byte 12 == 3) &&
  decide (d.byte 13 ≤ 2) && (d.op != 0xA1 || d.byte 13 == 0) && d.tensors.all s.tensorOk && d.tensorCtx t.1 &&
  d.tensorCtx t.2 && s.colRule d.op (d.byte 13) t.1 t.2 && s.tensorKind t.1 && s.tensorKind t.2

/-- The checks that RING_START passes before the ring's links (R333, R565). -/
def Desc.ringChecks (d : Desc) (s : State) : Bool :=
  let t := d.pair s
  d.headerOk && d.ctxOk && d.restZero [8, 9, 10, 11, 16, 17, 18, 19] && d.tensors.all s.tensorOk && d.tensorCtx t.1 &&
  d.tensorCtx t.2 && s.ringRule t.1 && s.ringRule t.2 && t.1.fmtCode == t.2.fmtCode &&
  t.2.size.i0 == s.ring 2 * t.1.size.i0 && s.tensorKind t.1 && s.tensorKind t.2

end Sys2Proof.Machine
end

