-- ==== Sys2Proof/Certificates/Slice0/Obligations.lean ====
section
/-!
DEFINITION. The statements, in the order of OBLIGATIONS.json.
-/

open Sys2Proof Sys2Proof.Machine

/-! ### The step, reset and the invariants -/

/-- A step with a command in front carries it out on the state with the queue's rest. On an empty queue the block
idles: the model's own choice, log entry 1. -/
def Obligations.StepRunsFrontCommand : Prop :=
  (∀ (c : Instr) (s : State), step { s with pending := c :: s.pending } = exec c s) ∧
  (∀ s : State, s.pending = [] → step s = .next s)

/-- Every command completes, and leaves the queue of waiting commands as it is. -/
def Obligations.EveryCommandKeepsTheQueue : Prop :=
  ∀ (c : Instr) (s : State), ∃ t, exec c s = .next t ∧ t.pending = s.pending

/-- After reset every register of every page holds the reset value of its table (R16), no job is loaded (R68), no host
owns the device (R402), the time is free and no tick has come (R84, R87), and the power state is STARTING at PHASE 0
(R463). The state after reset is lawful. What state beside the registers starts at is the model's choice where the
spec gives none: log entry 5. -/
def Obligations.ResetLeavesTheTables : Prop :=
  ((∀ (b : Blk) (o : Nat) (r : RegRow), b.row? o = some r → State.reset.reg b o = BitVec.ofNat 32 r.reset) ∧
  State.reset.job = {} ∧ State.reset.owner.host = none ∧ State.reset.tim.lock = .free ∧ State.reset.tick = 0 ∧
  State.reset.pwr.st = .starting ∧ State.reset.pwr.phase = 0 ∧ State.reset.cls = [] ∧
  (∀ a, State.reset.physByte a = 0) ∧ State.reset.pending = []) ∧
  (State.reset.Lawful)

/-- Every step from a lawful state leads to a lawful one: OFF is CLOSED and unmarked, CONTROL is marked, neither
RETAIN nor the way into it is CONTROL, and the lifecycle state, the level and FAILS stay in their ranges. -/
def Obligations.StepKeepsLawful : Prop := ∀ s t : State, s.Lawful → step s = .next t → t.Lawful

/-- No command but ZEROISATION_DONE moves the lifecycle state. -/
def Obligations.LifecycleMovesOnlyWithZeroisation : Prop :=
  ∀ (c : Instr) (s t : State), c ≠ .zeroisationDone → exec c s = .next t → t.sec.lifecycle = s.sec.lifecycle

/-- Every step keeps the canonical form of memory. That unlisted memory reads 0 is the model's choice: log entry 6. -/
def Obligations.StepKeepsMemoryCanonical : Prop :=
  ∀ s t : State, Memory.wf s.hbm = true → step s = .next t → Memory.wf t.hbm = true

/-! ### The job (R68 to R77) -/

/-- PAUSE, RESUME and HALT from the owner in the states of R69, with a tick argument that R70 allows, wait for their
tick; HALT takes the place of a pending PAUSE or RESUME. Nothing but the pending command and GLB_JOB_CMD changes. ARM
from the owner in LOADED under the conditions of R69 leads to ARMED with the start tick of the argument; the
neighbours are checked as it is accepted (R326). A job command of the owner that the job's state, its pending command, a
condition of R69 or its tick argument excludes leaves the job as it is, and GLB shows ACCESS_VIOLATION and
JOB_CMD_REJECTED; one of another requester leaves it too. How a rejected command is recorded is the model's reading: log
entry 31. So is PENDING in ARMED: log entry 59. -/
def Obligations.JobCommandsWaitOrAreRejected : Prop :=
  (∀ (r : Requester) (s : State) (at? : Option Nat),
    s.reaches r .glb → s.isOwner r = true → s.tickArgument at? →
    (s.job.st = .running → s.job.pend = none →
      exec (.pause r) s = .next (s.withCommand .pause at? 3)) ∧
    (s.job.st = .paused → s.job.pend = none → s.pwr.st = .run →
      exec (.resume r) s = .next (s.withCommand .resume at? 4)) ∧
    (∀ bcast : Bool, s.job.st = .armed ∨ s.job.st = .running ∨ s.job.st = .paused →
      (∀ b t, s.job.pend ≠ some { cmd := .halt b, at? := t }) →
      exec (.halt r bcast) s = .next (s.withCommand (.halt bcast) at? (if bcast then 0x105 else 5)))) ∧
  (∀ (r : Requester) (s : State),
    s.reaches r .glb → s.isOwner r = true → s.tickArgument (some s.tickArg) → s.pwr.st = .run → s.job.st = .loaded →
    s.tim.lock = .locked → s.periodsMatch = true → s.husks ≤ s.field .cad 0x90 3 0 →
    s.ver.fetch.busy = false →
    ∃ t, exec (.arm r) s = .next t ∧ t.job.st = .armed ∧ t.job.armTick = some s.tickArg ∧ t.job.pend = s.job.pend ∧
      t.reg .glb 0xA4 = 2 ∧ t.hbm = s.hbm ∧ t.cores = s.cores ∧ t.sec = s.sec ∧ t.owner = s.owner ∧
      (∀ p, s.isAbsent p = true → t.flag .frt 0x10 10 = true) ∧
      ((∀ p, s.isAbsent p = false) → s.geo.restore.busy = false → t.job.halts = s.job.halts)) ∧
  (∀ (r : Requester) (s : State), s.reaches r .glb →
    let late := s.tickEn = false ∨ (s.tickArg ≠ 0 ∧ s.tickArg < s.tick + 2)
    (s.isOwner r = true →
      (s.job.st ≠ .running ∨ s.job.pend.isSome ∨ late → ∃ t, exec (.pause r) s = .next t ∧ s.jobRejected t) ∧
      (s.job.st ≠ .paused ∨ s.job.pend.isSome ∨ late ∨ s.pwr.st ≠ .run →
        ∃ t, exec (.resume r) s = .next t ∧ s.jobRejected t) ∧
      (∀ b : Bool, s.job.st.active = false ∨ (∃ c a, s.job.pend = some { cmd := .halt c, at? := a }) ∨ late →
        ∃ t, exec (.halt r b) s = .next t ∧ s.jobRejected t) ∧
      (s.job.st ≠ .loaded ∨ s.tickArg = 0 ∨ late ∨ s.pwr.st ≠ .run ∨ s.tim.lock ≠ .locked ∨ s.periodsMatch = false ∨
        s.field .cad 0x90 3 0 < s.husks ∨ s.ver.fetch.busy = true → ∃ t, exec (.arm r) s = .next t ∧ s.jobRejected t) ∧
      ((s.job.st ≠ .empty ∧ s.job.st ≠ .loadFailed) ∨ s.pwr.st ≠ .run →
        ∃ t, exec (.load r) s = .next t ∧ s.jobRejected t) ∧
      (∀ b : Bool, (s.job.st ≠ .loaded ∧ s.job.st ≠ .loadFailed ∧ s.job.st ≠ .halted) ∨ s.pwr.st ≠ .run →
        ∃ t, exec (.clear r b) s = .next t ∧ s.jobRejected t)) ∧
    (s.isOwner r = false → ∀ i ∈ [Instr.pause r, .resume r, .halt r false, .halt r true, .arm r, .load r, .clear r false,
        .clear r true], ∃ t, exec i s = .next t ∧ s.jobStays t))

/-! ### Time and ticks (R79 to R93) -/

/-- A tick is the next instant at which the time since TIM_START_TIME is a multiple of TIM_TICK_PERIOD, and takes its
number (R87). The tick finds no slot running, or the slot past its commit deadline; the periods are within R88. The
next tick lies past the present time, at most one period away, or is tick 0 (R87). That a tick and what it finds due are
separate commands, and that a whole second waits for its tick, are the model's choices, and that a cause of VER at a
tick waits for the next one its reading: log entries 9, 10 and 63. -/
def Obligations.TickTakesTheNextNumber : Prop :=
  (∀ s : State, s.ticking = true → s.slotLimits → s.nextTickAt < 2 ^ 64 →
    (s.tim.deadline = true ∨ s.inSlot = false) →
    ∃ t, exec .tick s = .next t ∧
      t.tick = (if s.now < s.startTime then 0 else (s.now - s.startTime) / s.tickPeriod + 1) ∧
      t.now = s.startTime + t.tick * s.tickPeriod ∧ t.tim.tickAt = some t.tim.now ∧
      t.tim.window = false ∧ t.tim.deadline = false ∧ t.tim.lock = s.tim.lock ∧
      t.sec = s.sec ∧ t.owner = s.owner ∧ t.pwr = s.pwr) ∧
  (∀ s : State, 0 < s.tickPeriod →
    (s.now < s.startTime → s.nextTick = 0 ∧ s.nextTickAt = s.startTime) ∧
    (s.startTime ≤ s.now → s.now < s.nextTickAt ∧ s.nextTickAt ≤ s.now + s.tickPeriod ∧
      (s.nextTickAt - s.startTime) % s.tickPeriod = 0 ∧ s.nextTick = (s.nextTickAt - s.startTime) / s.tickPeriod))

/-- The transitions of TIM_LOCK.STATE at an iteration of the discipline loop, for the offset e of its references, and
the holdover that ends by its time (R84, R85). TIM_OFFSET takes e where there is one; the counter ends the millisecond
that the rate adjustment of the iteration before it slews, and is stepped by e only while ACQUIRING from references
other than PPS with more than 1000 ns and no job active; otherwise the adjustment for the next millisecond follows from
e and the sum of the offsets (R83). With the main domain off the counter runs on with the last frequency correction, and
stops with its reference (R441, R551). An iteration changes no memory, no registers of other pages from 0x080 on but those
of RAS and DBG, no job state, no ownership and no power state. Where the loop's millisecond ends, the scale of its
terms and the lock state that the step looks at are the model's readings: log entries 62 and 68. -/
def Obligations.DisciplineLoopMovesTheLock : Prop :=
  (∀ s : State, s.pwr.powered = true →
    (s.timeSource = 0 → ∃ t, exec .disciplineLoop s = .next t ∧ t.tim.lock = .free) ∧
    (s.timeSource ≠ 0 → ∀ e : Option Int, meanOffset s.references.1 = e →
      (s.tim.lock = .free → ∃ t, exec .disciplineLoop s = .next t ∧
        t.tim.lock = (if e.isSome then .acquiring else .free)) ∧
      (∀ v, e = some v → s.tim.lock = .acquiring → 2 * v.natAbs ≤ s.skewLimit → s.tim.good = 15 →
        ∃ t, exec .disciplineLoop s = .next t ∧ t.tim.lock = .locked) ∧
      (e = none → s.tim.lock = .locked → s.tim.noRef = 3 →
        ∃ t, exec .disciplineLoop s = .next t ∧ t.tim.lock = .holdover ∧ t.flag .tim 0x10 9 = true) ∧
      (∀ v, e = some v → s.tim.lock = .locked → s.skewLimit < v.natAbs → s.tim.bad = 3 →
        ∃ t, exec .disciplineLoop s = .next t ∧ t.tim.lock = .acquiring ∧ t.flag .tim 0x10 8 = true) ∧
      (∀ v, e = some v → s.tim.lock = .holdover → 2 * v.natAbs ≤ s.skewLimit →
        ∃ t, exec .disciplineLoop s = .next t ∧ t.tim.lock = .locked) ∧
      (∀ v, e = some v → s.tim.lock = .holdover → s.skewLimit < 2 * v.natAbs → v.natAbs ≤ s.skewLimit →
        ∃ t, exec .disciplineLoop s = .next t ∧ t.tim.lock = .holdover ∧ t.tim.heldMs = s.tim.heldMs + 1) ∧
      (∀ v, e = some v → s.tim.lock = .holdover → s.skewLimit < v.natAbs →
        ∃ t, exec .disciplineLoop s = .next t ∧ t.tim.lock = .acquiring ∧ t.flag .tim 0x10 8 = true) ∧
      (∀ v, e = some v → ∃ t, exec .disciplineLoop s = .next t ∧
        t.tim.offset = max (-(2 ^ 31 - 1)) (min (2 ^ 31 - 1) v) ∧
        (t.tim.lock = .acquiring → 1000 < v.natAbs → s.timeSource ≠ 3 → s.job.st.active = false →
          t.tim.now = BitVec.ofInt 64 (s.loopAdvance.now - v) ∧ t.tim.corr = s.tim.corr ∧ t.tim.rate = 0) ∧
        (t.tim.lock ≠ .acquiring ∨ v.natAbs ≤ 1000 ∨ s.timeSource = 3 ∨ s.job.st.active = true →
          t.tim.now = s.loopAdvance.tim.now ∧ t.tim.corr = s.tim.corr + v ∧
          t.tim.rate = max (-640) (min 640 (-8 * v - (s.tim.corr + v))))) ∧
      (e = none → ∃ t, exec .disciplineLoop s = .next t ∧ t.tim.offset = s.tim.offset ∧
        t.tim.now = s.loopAdvance.tim.now ∧ t.tim.rate = max (-640) (min 640 (-s.tim.corr)))) ∧
    (s.tim.lock = .holdover → (s.reg .tim 0xC0).toNat ≤ s.tim.heldMs →
      ∃ t, exec .holdoverExpiry s = .next t ∧ t.tim.lock = .acquiring ∧ t.flag .tim 0x10 8 = true) ∧
    (s.tickEn = false → s.fineNow + 2 ^ 40 < 2 ^ 80 → s.tim.rate ≤ 640 →
      s.loopAdvance.fineNow = s.fineNow + (65536000000 + s.tim.rate * 1024 - s.tim.elapsed).toNat)) ∧
  (∀ s : State, s.pwr.powered = false →
    (s.tim.refclk = true → exec .disciplineLoop s = .next { s with tim := s.tim.slew none }.loopAdvance) ∧
    (s.tim.refclk = false → exec .disciplineLoop s = .next s)) ∧
  (∀ s : State, ∃ t, exec .disciplineLoop s = .next t ∧ t.hbm = s.hbm ∧ t.cores = s.cores ∧ t.sec = s.sec ∧
    t.owner = s.owner ∧ t.pwr = s.pwr ∧ t.job.st = s.job.st ∧ t.tim.tick = s.tim.tick ∧
    (∀ b o, 0x80 ≤ o → o < 4096 → b ≠ .ras → b ≠ .dbg → t.reg b o = s.reg b o))

/-- The references and the time outputs: a 1PPS edge in PPS mode gives the offset from the nearest whole second, an
edge less than 500 ms after the last accepted one is ignored (R80, R550); a lost 10 MHz reference does not stop a
powered counter, and without main power TIM_LOCK starts from FREE (R551); a whole second before the next tick gives
its pulse (R89). PTP messages of the profile's domain while the main domain runs (R81): what each leaves of the
offset, the path delay and PTP_OK, and nothing else changes; other messages change nothing. That a whole second at the
instant of a tick waits for the tick is the model's reading: log entry 10. -/
def Obligations.TimeReferencesAndPtp : Prop :=
  (∀ s : State,
    (∀ t : BitVec 64, s.timeSource = 3 → s.pwr.powered = true →
      (∀ u, s.tim.ppsAt = some u → ¬(u ≤ t ∧ (t - u).toNat < 500000000)) →
      exec (.ppsEdge t) s = .next { s with tim := { s.tim with
        pps := some (fromSecond t.toNat), ppsAt := some t, ppsAge := 0 } }) ∧
    (∀ t u : BitVec 64, s.tim.ppsAt = some u → u ≤ t → (t - u).toNat < 500000000 →
      exec (.ppsEdge t) s = .next s) ∧
    (s.pwr.powered = true →
      exec .refclk10mLoss s = .next { s with tim := { s.tim with refclk := false } }) ∧
    (s.pwr.powered = false →
      exec .refclk10mLoss s = .next { s with tim := { s.tim with refclk := false, lock := .free } }) ∧
    exec .refclk10mReturn s = .next { s with tim := { s.tim with refclk := true } } ∧
    (s.pwr.powered = true → s.tickEn = true → s.nextSecond < s.nextTickAt →
      s.now % 1000000000 ≠ 0 → s.nextTickAt < 2 ^ 64 →
      ∃ t, exec .wholeSecond s = .next t ∧ t.out = .ppsPulse :: s.out ∧
        t.now = s.nextSecond ∧ t.tim.tick = s.tim.tick ∧ t.hbm = s.hbm ∧ t.regs = s.regs)) ∧
  (∀ (s : State) (m : PtpMsg), s.pwr.powered = true →
    (m.domain.toNat = (if s.flag .tim 0x80 4 then 24 else 0) →
      (m.twoStep = false → exec (.sync m) s = .next { s with tim := { s.tim with ptp := { s.tim.ptp with
        syncOk := true, sync := none, msDiff := some ((m.rx.toNat : Int) - m.stamp.toNat)
        offset := some ((m.rx.toNat : Int) - m.stamp.toNat - s.tim.ptp.delay) } } }) ∧
      (m.twoStep = true → exec (.sync m) s = .next { s with tim := { s.tim with ptp := { s.tim.ptp with
        syncOk := true, sync := some (m.seqId, m.rx) } } }) ∧
      (∀ rx, s.tim.ptp.sync = some (m.seqId, rx) →
        exec (.followUp m) s = .next { s with tim := { s.tim with ptp := { s.tim.ptp with
          sync := none, msDiff := some ((rx.toNat : Int) - m.stamp.toNat)
          offset := some ((rx.toNat : Int) - m.stamp.toNat - s.tim.ptp.delay) } } }) ∧
      exec (.announce m) s = .next { s with tim := { s.tim with ptp := { s.tim.ptp with announce := true } } } ∧
      (∀ t3 d, s.tim.ptp.reqAt = some t3 → s.tim.ptp.msDiff = some d → m.seqId = s.tim.ptp.reqSeq →
        exec (.delayResp m) s = .next { s with tim := { s.tim with ptp := { s.tim.ptp with
          reqAt := none, delay := (d + ((m.stamp.toNat : Int) - t3.toNat)) / 2
          offset := some (d - (d + ((m.stamp.toNat : Int) - t3.toNat)) / 2) } } })) ∧
    (m.domain.toNat ≠ (if s.flag .tim 0x80 4 then 24 else 0) →
      exec (.sync m) s = .next s ∧ exec (.followUp m) s = .next s ∧ exec (.announce m) s = .next s ∧
      exec (.delayResp m) s = .next s) ∧
    exec .announceReceiptTimeout s = .next { s with tim := { s.tim with ptp := { s.tim.ptp with
      announce := false, syncOk := false } } } ∧
    (∀ t : BitVec 64, s.tim.ptp.ok = true → s.tim.fabclk = true →
      exec (.delayReqTimer t) s = .next { s with
        tim := { s.tim with ptp := { s.tim.ptp with reqSeq := s.tim.ptp.reqSeq + 1, reqAt := some t } }
        out := .delayReq (s.tim.ptp.reqSeq + 1) :: s.out }))

/-! ### Register accesses (R10 to R15, R29, R399, R566) -/

/-- A read of four bytes reaches a register of a page: the answer is the captured value where the requester holds one,
which ends the capture, and the live value elsewhere (R11, R15). No register and no memory changes. A read of a
register named _LO captures the _HI value for the same requester, in place of an earlier capture; a read of TIM_NOW_LO
also captures TIM_NOW_FRAC; the captures of other requesters stay (R11, R79). -/
def Obligations.RegisterReadAnswers : Prop :=
  (∀ (r : Requester) (s : State) (b : Blk) (o : Nat),
    s.sees r b → o < 4096 → o % 4 = 0 → (b.row? o).isSome = true → b ≠ .dbg →
    (s.capture? r (b.base + o) = none → ∃ t, exec (.registerRead r (b.at4 o)) s = .next t ∧
      t.out = .regData r (b.base + o) (s.live b o) false :: s.out ∧
      t.regs = s.regs ∧ t.hbm = s.hbm ∧ t.cls = s.cls ∧ t.job = s.job ∧ t.tim = s.tim) ∧
    (∀ w, s.capture? r (b.base + o) = some w → ∃ t, exec (.registerRead r (b.at4 o)) s = .next t ∧
      t.out = .regData r (b.base + o) w false :: s.out ∧ t.capture? r (b.base + o) = none ∧
      t.regs = s.regs ∧ t.hbm = s.hbm ∧ t.cls = s.cls ∧ t.job = s.job ∧ t.tim = s.tim)) ∧
  (∀ (r : Requester) (s : State) (b : Blk) (o : Nat),
    s.sees r b → o < 4096 → o % 4 = 0 → (b.row? o).isSome = true → b ≠ .dbg → b.isLo o = true →
    s.capture? r (b.base + o) = none →
    ∃ t, exec (.loReadCapture r (BitVec.ofNat 26 (b.base + o))) s = .next t ∧
      t.out = .regData r (b.base + o) (s.live b o) false :: s.out ∧
      t.capture? r (b.base + o + 4) = some (s.live b (o + 4)) ∧
      (b = .tim → o = 0x88 → t.capture? r (b.base + 0x84) = some (s.live .tim 0x84)) ∧
      (∀ q a, q ≠ r → t.capture? q a = s.capture? q a) ∧ t.regs = s.regs)

/-- A host's access to an offset where no register is: the read is completed with an abort, which AER records, the write
is discarded, and ACCESS_VIOLATION is set in the page that holds the offset, or in GLB where no page is (R15, R399). An
aligned write of eight bytes to a register pair is two writes of four, the low word first (R10). The bits of AER are
those of PCIe: log entry 32. -/
def Obligations.ReservedOffsetsAndPairs : Prop :=
  (∀ (h : HostId) (s : State) (a : Nat) (b : Blk), s.portTakes h = true → a < 2 ^ 26 → a % 4 = 0 →
    (Blk.ofOff a = none ∧ b = .glb) ∨ (Blk.ofOff a = some b ∧ s.answers b = true ∧ b.row? (a % 4096) = none) →
    (∃ t, exec (.registerRead (.mmio h) { bar := .bar0, off := BitVec.ofNat 26 a, size := 4 }) s = .next t ∧
      t.out.head? = some (.completerAbort (.mmio h)) ∧ t.flag b 0x10 0 = true ∧
      (t.hostPort h).cfg = { (s.hostPort h).cfg with
        corr := (s.hostPort h).cfg.corr ||| 0x2000, uncorr := (s.hostPort h).cfg.uncorr ||| 0x8000 } ∧
      t.hbm = s.hbm ∧ t.job.st = s.job.st) ∧
    (∀ v, ∃ t, exec (.registerWrite (.mmio h) { bar := .bar0, off := BitVec.ofNat 26 a, size := 4 } v) s = .next t ∧
      t.flag b 0x10 0 = true ∧ t.hbm = s.hbm ∧ t.job.st = s.job.st ∧
      (∀ c o, 0x80 ≤ o → o < 4096 → c ≠ .ras → o ≠ 0x94 → t.reg c o = s.reg c o))) ∧
  (∀ (r : Requester) (s t : State) (b : Blk) (o : Nat) (v : BitVec 64),
    b.isLo o = true → o < 4096 → o % 8 = 0 → s.reaches r b →
    exec (.registerWrite r (b.at4 o) (v &&& 0xFFFFFFFF)) s = .next t → t.reaches r b →
    exec (.registerWrite r { bar := .bar0, off := BitVec.ofNat 26 (b.base + o), size := 8 } v) s =
      exec (.registerWrite r (b.at4 (o + 4)) (v >>> 32)) t)

/-- A write of a settings register without a rule of its own: the owner's write of an allowed value sets the RW and
RWO fields and leaves the others; another requester's sets the RW fields only, and is a violation if it would change
an RWO field; a value that is not allowed is a violation and leaves the register (R12, R14, R564). That the partial
write is counted as a violation too is the model's reading: log entries 21 and 22. -/
def Obligations.SettingsWriteFollowsTheAccessCodes : Prop :=
  ∀ (r : Requester) (s : State) (b : Blk) (o : Nat) (row : RegRow) (v : Word),
    s.reaches r b → b.isSetting o = true → b.row? o = some row →
    (s.isOwner r = true → valueOk s.word b o (mixWord (row.rw ||| row.rwo) (s.reg b o) v) = true →
      exec (.registerWrite r (b.at4 o) (v.setWidth 64)) s =
        .next (s.setReg b o (mixWord (row.rw ||| row.rwo) (s.reg b o) v))) ∧
    (s.isOwner r = false → valueOk s.word b o (mixWord row.rw (s.reg b o) v) = true →
      (s.reg b o ^^^ v) &&& maskW row.rwo = 0 →
      exec (.registerWrite r (b.at4 o) (v.setWidth 64)) s = .next (s.setReg b o (mixWord row.rw (s.reg b o) v))) ∧
    (s.isOwner r = false → valueOk s.word b o (mixWord row.rw (s.reg b o) v) = true →
      (s.reg b o ^^^ v) &&& maskW row.rwo ≠ 0 →
      ∃ t, exec (.registerWrite r (b.at4 o) (v.setWidth 64)) s = .next t ∧
        t.reg b o = mixWord row.rw (s.reg b o) v ∧ t.flag b 0x10 0 = true ∧ t.hbm = s.hbm) ∧
    (s.isOwner r = true → valueOk s.word b o (mixWord (row.rw ||| row.rwo) (s.reg b o) v) = false →
      ∃ t, exec (.registerWrite r (b.at4 o) (v.setWidth 64)) s = .next t ∧
        t.reg b o = s.reg b o ∧ t.flag b 0x10 0 = true ∧ t.hbm = s.hbm)

/-- BLK_CTL.LOCK from the owner is set and stays alone in what it changes (R499). SOFT_RESET of a page of those named,
where it is accepted, leaves every register of it at its reset value but those that R525 keeps, and no other page
changes; of a page of a core it resets that core's working state and its ARR, VEC, CDMA and CST registers, and the fence
and the other cores stay (R452, R525). What SOFT_RESET takes with it beside the registers of its page is the model's
choice: log entry 25. -/
def Obligations.LockAndSoftReset : Prop :=
  ∀ (r : Requester) (s : State) (b : Blk) (p : BitVec 14), s.reaches r b → s.isOwner r = true → p.toNat * 4096 = b.base →
    (∃ t, exec (.blkLock r p) s = .next t ∧ t.flag b 8 3 = true ∧ t.hbm = s.hbm ∧ t.job = s.job ∧ t.cores = s.cores ∧
      (∀ c o, o < 4096 → c ≠ b ∨ o ≠ 8 → t.reg c o = s.reg c o)) ∧
    (b ∈ [.tim, .tel, .frt, .ver, .mbq, .cad] → s.softOk b = true → s.cfg.applied = none →
      ∃ t, exec (.softReset r p) s = .next t ∧ t.hbm = s.hbm ∧ t.job = s.job ∧ t.cores = s.cores ∧
      (∀ o row, b.row? o = some row → 0x80 ≤ o → b.softKeeps o = false → t.reg b o = BitVec.ofNat 32 row.reset) ∧
      (∀ c o, o < 4096 → c ≠ b ∨ o < 0x80 ∨ b.softKeeps o = true → c ≠ .tel ∨ o < 0x140 → t.reg c o = s.reg c o) ∧
      (∀ k, k < 8 → t.telCount k % 2 ^ 64 = s.telCount k % 2 ^ 64)) ∧
    (∀ c, b ∈ [.core c, .arr c, .vec c, .cdma c, .cst c] → s.softOk b = true → s.cfg.applied = none →
      ∃ t, exec (.softReset r p) s = .next t ∧ (t.core c).cause = (s.core c).cause ∧ (t.core c).run = none ∧
      (t.core c).fly = [] ∧ (t.core c).held = [] ∧ (t.core c).written = [] ∧ (t.core c).status = .idle ∧
      (∀ n, Store.get (fun _ => 0) (t.core c).v n = 0) ∧ (t.core c).samples = (s.core c).samples ∧
      (∀ q ∈ [Blk.arr c, .vec c, .cdma c, .cst c], ∀ o row, q.row? o = some row → 0x80 ≤ o → q.softKeeps o = false →
        t.reg q o = BitVec.ofNat 32 row.reset) ∧
      (∀ q o, o < 4096 → q ∉ [Blk.arr c, .vec c, .cdma c, .cst c] ∨ q.softKeeps o = true → t.reg q o = s.reg q o) ∧
      ((∀ e ∈ s.flt.active, e.2.core ≠ c) → ∀ e, e ≠ c → t.core e = s.core e) ∧ t.hbm = s.hbm ∧ t.job = s.job)

/-- TIM_CTL, and TIM_NOW as a pair: the low word waits for its requester's high word, which sets the time with no
fraction; without a waiting low word the high word is refused (R87, R88, R108, R566). The event counters: a new
selection zeroes its counter, CLEAR zeroes all eight (R512); the trace starts at its head with a mask of events (R516,
R517). -/
def Obligations.TimeRegistersAndCounters : Prop :=
  (∀ (r : Requester) (s : State), s.reaches r .tim → s.isOwner r = true →
    (s.tickEn = false → s.timeSource = 0 ∨ s.timeSource = 3 →
      (∀ v, ∃ t, exec (.timNowLoWrite r v) s = .next t ∧ heldOf t.tim.held r = some v ∧ t.tim.now = s.tim.now ∧
        (∀ q, q ≠ r → heldOf t.tim.held q = heldOf s.tim.held q) ∧ t.regs = s.regs ∧ t.hbm = s.hbm) ∧
      (∀ v lo, heldOf s.tim.held r = some lo → ∃ t, exec (.timNowHiWrite r v) s = .next t ∧
        t.tim.now = BitVec.ofNat 64 (v.toNat * 2 ^ 32 + lo.toNat) ∧ t.tim.frac = 0 ∧ heldOf t.tim.held r = none ∧
        t.tim.tick = s.tim.tick ∧ t.regs = s.regs ∧ t.hbm = s.hbm) ∧
      (∀ v, heldOf s.tim.held r = none → ∃ t, exec (.timNowHiWrite r v) s = .next t ∧
        t.tim.now = s.tim.now ∧ t.flag .tim 0x10 0 = true)) ∧
    (s.job.st.active = false → ∀ on : Bool, ∃ t, exec (.tickEn r on) s = .next t ∧ t.tickEn = on ∧
      t.timeSource = s.timeSource ∧ t.tim.now = s.tim.now ∧ t.tim.lock = s.tim.lock ∧
      (on = true → s.tickEn = false → t.tim.tickAt = none ∧ t.tickPhase = 0) ∧
      (∀ b o, o < 4096 → b ≠ .tim ∨ o ≠ 0x80 → t.reg b o = s.reg b o)) ∧
    (s.job.st.active = false → ∀ src : BitVec 2, ∃ t, exec (.source r src) s = .next t ∧ t.timeSource = src.toNat ∧
      t.tickEn = s.tickEn ∧ (src.toNat = 0 → s.timeSource ≠ 0 → t.tim.lock = .free) ∧
      (src.toNat ≠ 0 → t.tim.lock = s.tim.lock) ∧ t.tim.now = s.tim.now) ∧
    (s.job.st.active = true → ∀ src : BitVec 2, src.toNat ≠ s.timeSource → ∃ t, exec (.source r src) s = .next t ∧
      t.timeSource = s.timeSource ∧ t.tickEn = s.tickEn ∧ t.flag .tim 0x10 0 = true) ∧
    (s.job.st.active = true → s.tickEn = true → ∃ t, exec (.tickEn r false) s = .next t ∧ t.tickEn = true ∧
      t.flag .tim 0x10 0 = true)) ∧
  (∀ (r : Requester) (s : State),
    (s.reaches r .tel → s.flag .tel 8 3 = false →
      (∃ t, exec (.telClear r) s = .next t ∧ (∀ k, k < 8 → t.telCount k = 0) ∧
        t.flag .tel 0x80 0 = s.flag .tel 0x80 0 ∧ t.hbm = s.hbm ∧
        (∀ k, k < 8 → t.reg .tel (0x100 + 4 * k) = s.reg .tel (0x100 + 4 * k))) ∧
      (∀ (k : Fin 8) (v : Word), eventOk (fld v 7 0) (fld v 15 8) = true → ∃ t, exec (.telCntSel r k v) s = .next t ∧
        t.reg .tel (0x100 + 4 * k.val) &&& 0xFFFF = v &&& 0xFFFF ∧ t.telCount k.val = 0 ∧
        (∀ j, j < 8 → j ≠ k.val → t.telCount j % 2 ^ 64 = s.telCount j % 2 ^ 64))) ∧
    (s.reaches r .dbg → s.flag .dbg 8 3 = false → 1 ≤ s.sec.level → ∀ m : BitVec 8,
      ∃ t, exec (.traceEnable r m) s = .next t ∧ t.flag .dbg 0x84 0 = true ∧ t.field .dbg 0x84 15 8 = m.toNat ∧
        (s.flag .dbg 0x84 0 = false → t.reg .dbg 0x88 = 0) ∧
        (s.flag .dbg 0x84 0 = true → t.reg .dbg 0x88 = s.reg .dbg 0x88) ∧ t.hbm = s.hbm))

/-- DBG_HALT at level CONTROL and in power state RUN halts and releases the core it names, and no other; the bit of a
husk has no effect (R138, R491, R516). The debug memory window at level CONTROL, over the V registers of a core: a write
sets the word with clean poison, a read returns it, and the address moves on by four where INC is set (R518). That an
address that is no multiple of 4 and a halt outside RUN are violations is the model's reading: log entries 27 and 34. -/
def Obligations.DebugReachesTheCores : Prop :=
  (∀ (r : Requester) (s : State) (c : CoreId), s.reaches r .dbg → s.isOwner r = true → s.sec.level = 2 →
    s.pwr.st = .run →
    (s.husk c = true → ∀ i ∈ [Instr.coreHalt r c, .coreRelease r c], ∃ t, exec i s = .next t ∧
      (∀ d, t.core d = s.core d) ∧ t.hbm = s.hbm ∧ t.regs = s.regs) ∧
    (s.husk c = false → ∃ t, exec (.coreHalt r c) s = .next t ∧ t.core c = { s.core c with halt := true } ∧
      (∀ d : CoreId, d ≠ c → t.core d = s.core d) ∧ t.hbm = s.hbm ∧ t.regs = s.regs ∧ t.job = s.job) ∧
    (s.husk c = false → ∃ t, exec (.coreRelease r c) s = .next t ∧ t.core c = { s.core c with halt := false } ∧
      (∀ d : CoreId, d ≠ c → t.core d = s.core d) ∧ t.hbm = s.hbm ∧ t.regs = s.regs ∧ t.job = s.job)) ∧
  (∀ (r : Requester) (s : State) (c : CoreId), s.reaches r .dbg → s.sees r .dbg → s.sec.level = 2 →
    s.dbgSpace = 2 → s.dbgInside = true → s.dbgCore = some c →
    (s.isOwner r = true → ∀ v : Word, ∃ t, exec (.dbgMemWrite r v) s = .next t ∧
      Store.get (fun _ => 0) (t.core c).v (s.dbgAddr / 4) = v ∧
      (∀ i, i ≠ s.dbgAddr / 4 → Store.get (fun _ => 0) (t.core c).v i = Store.get (fun _ => 0) (s.core c).v i) ∧
      t.dbgAddr = s.dbgAddr + (if s.flag .dbg 0xC0 16 then 4 else 0) ∧ t.hbm = s.hbm) ∧
    (Store.get (fun _ => false) (s.core c).vp (s.dbgAddr / 4) = false → ∃ t, exec (.dbgMemRead r) s = .next t ∧
      t.out = .regData r (Blk.dbg.base + 0xCC)
        (BitVec.ofNat 32 (Store.get (fun _ => (0 : Word)) (s.core c).v (s.dbgAddr / 4)).toNat) false :: s.out ∧
      t.dbgAddr = s.dbgAddr + (if s.flag .dbg 0xC0 16 then 4 else 0) ∧ t.cores = s.cores ∧ t.hbm = s.hbm))

/-- Array abort, fence and unfence of a core (R141 to R143, R146, R346). ABORT outside a job discards what the array has
not committed and what waits in its queue, and is late where nothing was; it is refused while a job is active. FENCE_REQ
of a core that is no husk makes it one with cause 4, on either of its two registers, and on a husk does nothing; UNFENCE
of a husk outside a job tests it, and the test's outcome decides. A fatal error of a core that is no husk is raised on
the page and bit of its cause, and the core becomes a husk with CAUSE 1. A core that becomes a husk carries no logical
core and runs no list; memory stays, and so does every other core where it had no resolution of its own. On a husk
nothing follows. -/
def Obligations.CoresAreFenced : Prop :=
  (∀ (r : Requester) (s : State) (c : CoreId),
    (s.reaches r (.arr c) → s.isOwner r = true → s.husk c = false →
      (s.job.st.active = false → ∃ t, exec (.arrAbort r c) s = .next t ∧ (t.core c).held = [] ∧
        (t.core c).shadow = none ∧
        (t.core c).fly = (s.core c).fly.filter (fun e => !decide (e.unit = .arr) || decide (e.phase = .issued)) ∧
        ((s.core c).held = [] → (t.core c).abortLate = true ∧ (t.core c).status = (s.core c).status) ∧
        (∀ h ∈ (s.core c).held, (s.core c).latest = some h.pos → (t.core c).status = .aborted) ∧
        t.hbm = s.hbm ∧ t.regs = s.regs ∧ t.job = s.job) ∧
      (s.job.st.active = true → ∃ t, exec (.arrAbort r c) s = .next t ∧ t.cores = s.cores ∧
        t.flag (.arr c) 0x10 0 = true)) ∧
    (s.reaches r (.core c) → s.isOwner r = true →
      (∀ via, s.husk c = false → ∃ t, exec (.fenceReq r c via) s = .next t ∧ s.fencedBy c 4 t) ∧
      (s.husk c = true → ∀ via, exec (.fenceReq r c via) s = .next s) ∧
      (s.husk c = true → s.job.st.active = false → ∃ t, exec (.unfence r c) s = .next t ∧
        (t.core c).testing = true ∧ t.husk c = true ∧ t.hbm = s.hbm ∧ t.job = s.job) ∧
      (s.job.st.active = true → ∃ t, exec (.unfence r c) s = .next t ∧ t.cores = s.cores ∧
        t.flag (.core c) 0x10 0 = true)) ∧
    ((s.core c).testing = true → s.husk c = true →
      exec (.unfenceDone c 0) s = .next (s.modCore c (fun x => { x with cause := 0, passed := true, testing := false })) ∧
      (∀ g : BitVec 5, g ≠ 0 → exec (.unfenceDone c g) s =
        .next (s.modCore c (fun x => { x with cause := 3, passed := false, testing := false }))))) ∧
  (∀ (c : CoreId) (k : CoreCause) (s : State),
    (s.husk c = true → exec (.fatalCoreError c k) s = .next s) ∧
    (s.husk c = false → ∃ t, exec (.fatalCoreError c k) s = .next t ∧ s.fencedBy c 1 t ∧
      t.flag (fatalShownAt c k).1 0x10 (fatalShownAt c k).2 = true))

/-! ### The job between its states (R40, R69 to R76, R106) -/

/-- LOAD from the owner in EMPTY or LOAD_FAILED, in power state RUN and with no reset asked for, is accepted: the
procedure of R72 runs on the state LOADING, and stops at its first failure; a range that R40 refuses gives 0x0A, a bad
header of an image that can be read 0x01. LOAD_DONE: with no step failed the state is LOADED, otherwise LOAD_FAILED,
which shows the code (R72). That the steps run at the acceptance of LOAD is the model's choice: log entries 17 to 19.
-/
def Obligations.LoadRunsItsSteps : Prop :=
  (∀ (r : Requester) (s : State), s.reaches r .glb → s.isOwner r = true → s.pwr.st = .run →
    s.job.st = .empty ∨ s.job.st = .loadFailed → s.flag .ras 0x80 31 = false →
    (∃ t, exec (.load r) s = .next t ∧ t.reg .glb 0xA4 = 1 ∧
      t.job.result = (State.loadImage (s.loading) r).1) ∧
    (s.rangeOk = false → ∃ t, exec (.load r) s = .next t ∧ t.job.st = .loading ∧ t.job.result = 0x0A ∧
      t.job.prot = none ∧ t.hbm = s.hbm ∧ t.cores = s.cores) ∧
    (s.rangeOk = true → s.anyLost = false → s.firstUnserved s.imageBase 128 = none →
      s.rangePoisoned s.imageBase 128 = false → s.headerOk = false →
      ∃ t, exec (.load r) s = .next t ∧ t.job.st = .loading ∧ t.job.result = 0x01 ∧
        t.job.prot = some (s.imageBase, s.imageLen) ∧ t.hbm = s.hbm ∧ t.cores = s.cores)) ∧
  (∀ s : State, s.job.st = .loading →
    (s.job.result = 0 → ∃ t, exec .loadDone s = .next t ∧ t.job = { s.job with st := .loaded } ∧
      t.hbm = s.hbm ∧ t.cores = s.cores ∧ t.mbq = s.mbq ∧ t.ver = s.ver ∧ t.cad = s.cad) ∧
    (s.job.result ≠ 0 → ∃ t, exec .loadDone s = .next t ∧
      t.job = { s.job with st := .loadFailed, loadErr := s.job.result } ∧
      t.hbm = s.hbm ∧ t.cores = s.cores ∧ t.mbq = s.mbq ∧ t.ver = s.ver ∧ t.cad = s.cad))

/-- CLEAR from the owner in LOADED, LOAD_FAILED or HALTED: CLEARING with the job's state reset, every core store zero
and husks still fenced; local memory is zero with ZERO_HBM and unchanged without. CLEAR_DONE lifts the protection and
leads to EMPTY (R69, R76). That the effects of CLEAR come at its acceptance is the model's choice: log entries 15 and
16. -/
def Obligations.ClearResetsTheJob : Prop :=
  ∀ (r : Requester) (s : State),
    (s.reaches r .glb → s.isOwner r = true → s.pwr.st = .run →
      s.job.st = .loaded ∨ s.job.st = .loadFailed ∨ s.job.st = .halted → ∀ zero : Bool,
      ∃ t, exec (.clear r zero) s = .next t ∧ t.job.st = .clearing ∧ t.job.pend = none ∧ t.job.halts = [] ∧
        t.job.prot = s.job.prot ∧ t.cad = {} ∧ t.mbq = {} ∧ t.ver = {} ∧
        (∀ c : CoreId, (t.core c).cst = [] ∧ (t.core c).run = none ∧ (t.core c).fly = [] ∧
          (t.core c).cause = (s.core c).cause) ∧
        t.reg .glb 0xA8 = 0 ∧ t.reg .glb 0xD8 = 0 ∧ t.reg64 .glb 0xE0 = 0 ∧ t.reg .pwr 0x88 = 200 ∧
        t.reg .cad 0x88 = 0 ∧ t.reg .cad 0x90 = 0 ∧
        (zero = false → t.hbm = s.hbm) ∧ (zero = true → ∀ a, a < 2 ^ 40 → t.physByte a = 0)) ∧
    (s.job.st = .clearing → s.sec.zBusy = false → ∃ t, exec .clearDone s = .next t ∧ t.job.st = .empty ∧
      t.job.prot = none ∧ t.hbm = s.hbm ∧ t.cores = s.cores)

/-- At a halt the recorded cause is a local one with the lowest code, where there is a local one, and a received
broadcast otherwise; a host HALT whose tick has come is a local one with code 0x10; memory, contexts, queues, versions
and cores keep their contents (R74, R75). The copies of a halt broadcast fall due one at a time; a port that is up sends
what is due, and on another it waits (R297, R301). -/
def Obligations.HaltRecordsTheFirstCause : Prop :=
  ((∀ (s : State) (b : Bool), s.dueCmd = some (.halt b) →
    ∃ h ∈ s.haltReasons, h.code = 0x10 ∧ h.remote = none ∧ h.bcast = b) ∧
  ∀ s : State, s.job.due = some .halt → s.pwr.warm = false →
    (∀ h ∈ s.haltReasons, h.remote = none → ∃ t c, exec .jobHalt s = .next t ∧ t.job.st = .halted ∧
      c ≤ h.code ∧ (∃ k ∈ s.haltReasons, k.remote = none ∧ k.code = c) ∧
      t.reg .glb 0xA8 = BitVec.ofNat 32 (2 ^ 31 + c) ∧ t.reg .glb 0xD8 = s.reg .glb 0x9C ∧
      t.reg64 .glb 0xE0 = s.tick ∧
      t.hbm = s.hbm ∧ t.cores = s.cores ∧ t.mbq = s.mbq ∧ t.ver = s.ver ∧ t.job.pend = none) ∧
    ((∀ h ∈ s.haltReasons, h.remote ≠ none) → ∀ h, s.haltReasons.head? = some h →
      ∃ t p d, exec .jobHalt s = .next t ∧ t.job.st = .halted ∧ h.remote = some (p, d) ∧
      t.reg .glb 0xA8 = BitVec.ofNat 32 (2 ^ 31 + 2 ^ 30 + p.val * 2 ^ 24 + h.code) ∧
      t.reg .glb 0xD8 = coordOfDest d.toNat ∧ t.hbm = s.hbm ∧ t.cores = s.cores)) ∧
  (∀ (p : PortId) (s : State) (f : Fu) (l : List (Fu × Bool)),
    ((s.port p).st = .up → (s.port p).dueBcast = (f, false) :: l → (∀ e ∈ l, e.2 = false) →
      ∃ t g, exec (.bcastCopyTimer p) s = .next t ∧ t.out = .fu p g :: s.out ∧ g.payload = f.payload ∧ g.type = f.type ∧
        fuCrcOk g = true ∧ (t.port p).dueBcast = l ∧ (t.port p).buf = (s.port p).buf ∧ t.hbm = s.hbm ∧ t.job = s.job) ∧
    ((s.port p).st ≠ .up → (s.port p).dueBcast = (f, false) :: l →
      ∃ t, exec (.bcastCopyTimer p) s = .next t ∧ (t.port p).dueBcast = (f, true) :: l ∧ t.out = s.out ∧
        (t.port p).st = (s.port p).st ∧ t.hbm = s.hbm ∧ t.job = s.job))

/-! ### Ownership (R401 to R403) -/

/-- GLB_OWNER's requests: CLAIM of a living host while no living host owns, RELEASE and HANDOVER of the owner are
carried out; a CLAIM by the owner has no effect; the others are violations that leave the owner (R402). A heartbeat
from its own port, the timeout set by the owner alone and within its range, and the check of every millisecond: a host
whose last heartbeat is TIMEOUT_MS old is not alive, and ownership passes to the other host if that is alive, otherwise
to none (R401, R402, R418). The part of the test port in ownership is the model's reading: log entry 22. -/
def Obligations.OwnershipAndHeartbeats : Prop :=
  (∀ (h : HostId) (s : State), s.reaches (.mmio h) .glb →
    (s.owner.host ≠ some h → s.alive h = true →
      (∀ g, s.owner.host = some g → s.alive g = false) →
      ∃ t, exec (.claim h) s = .next t ∧ t.owner.host = some h ∧ t.hbm = s.hbm ∧ t.job = s.job ∧ t.sec = s.sec) ∧
    (s.owner.host = some h → exec (.claim h) s = .next s) ∧
    (s.owner.host ≠ some h → s.alive h = false ∨ (∃ g, s.owner.host = some g ∧ s.alive g = true) →
      ∃ t, exec (.claim h) s = .next t ∧ t.owner = s.owner ∧ t.flag .glb 0x10 0 = true) ∧
    (s.owner.host = some h → ∃ t, exec (.release h) s = .next t ∧ t.owner.host = none ∧ t.hbm = s.hbm ∧ t.job = s.job) ∧
    (s.owner.host = some h → s.alive (otherHost h) = true →
      ∃ t, exec (.handover h) s = .next t ∧ t.owner.host = some (otherHost h) ∧ t.hbm = s.hbm ∧ t.job = s.job) ∧
    (s.owner.host = some h → s.alive (otherHost h) = false →
      ∃ t, exec (.handover h) s = .next t ∧ t.owner = s.owner ∧ t.flag .glb 0x10 0 = true) ∧
    (s.owner.host ≠ some h → (∃ t, exec (.release h) s = .next t ∧ t.owner = s.owner ∧ t.flag .glb 0x10 0 = true) ∧
      (∃ t, exec (.handover h) s = .next t ∧ t.owner = s.owner ∧ t.flag .glb 0x10 0 = true))) ∧
  (∀ (h : HostId) (s : State),
    (s.reaches (.mmio h) .glb →
      (∀ v, ∃ t, exec (.heartbeat h v) s = .next t ∧ (0 < s.timeoutMs → t.alive h = true) ∧ (t.hostPort h).ageMs = 0 ∧
        t.reg .glb (0x90 + 4 * h.num) = v ∧ t.owner = s.owner ∧ t.hbm = s.hbm ∧ t.job = s.job) ∧
      (∀ ms : BitVec 16, s.owner.host = some h → within 100 60000 ms.toNat = true →
        ∃ t, exec (.setTimeout h ms) s = .next t ∧ t.timeoutMs = ms.toNat ∧ t.owner = s.owner ∧ t.hbm = s.hbm) ∧
      (∀ ms : BitVec 16, s.owner.host ≠ some h ∨ within 100 60000 ms.toNat = false → ms.toNat ≠ s.timeoutMs →
        ∃ t, exec (.setTimeout h ms) s = .next t ∧ t.timeoutMs = s.timeoutMs ∧ t.owner = s.owner ∧
          t.flag .glb 0x10 0 = true)) ∧
    (∃ t, exec .ownershipCheck s = .next t ∧
      t.alive h = ((s.hostPort h).beat && decide ((s.hostPort h).ageMs + 1 < s.timeoutMs)) ∧
      (s.owner.host = some h → t.alive h = true → t.owner.host = some h) ∧
      (s.owner.host = some h → t.alive h = false → t.alive (otherHost h) = true →
        t.owner.host = some (otherHost h)) ∧
      (s.owner.host = some h → t.alive h = false → t.alive (otherHost h) = false →
        t.owner.host = none) ∧
      (s.owner.host = none → t.owner.host = none) ∧ t.hbm = s.hbm ∧ t.job = s.job))

/-! ### The instants of a slot, the power manager and the isolation of dies (R90 to R93, R427 to R436, R551, R558) -/

/-- The commit window of a running slot opens P - W after its tick: no core may issue a descriptor from then on, and the
logical cores that are overrunning then stand fixed. The deadline comes S before the next tick: every write still
incomplete then is late. Neither comes twice, and neither without ticks. What a tick found due takes effect: an armed
job runs from this tick on with its first slot dispatched, where no table is poisoned, a paused one keeps its contexts,
queues and versions and goes on with the job tick that was frozen; nothing happens that was not due (R69, R73, R94).
That the job's moves are commands of their own after the TICK is the model's choice: log entry 9. -/
def Obligations.InstantsOfASlot : Prop :=
  (∀ s : State,
    (s.ticking = true → s.inSlot = true → s.tim.window = false → ∃ t, exec .commitWindowOpen s = .next t ∧
      t.tim = { (s.advance (s.nextTickAt - s.commitWindow)).tim with window := true } ∧
      (∀ c, t.active? c = none) ∧
      t.cad.overrun = s.overrunners ∧ t.job.st = s.job.st ∧ t.sec = s.sec ∧ t.owner = s.owner) ∧
    (s.ticking = true → s.inSlot = true → s.tim.window = true → s.tim.deadline = false →
      ∃ t, exec .commitDeadline s = .next t ∧
        t.tim = { (s.advance (s.nextTickAt - s.skewLimit)).tim with deadline := true } ∧
        t.cad.late = s.cad.late ++ ((allFin 192).flatMap s.lateOf ++ s.lateLost ++
          (if s.headersLate then [(0xFF, 0)] else [])) ∧
        (∀ (c : CoreId), ∀ e ∈ (s.core c).fly, e.late = true → (s.logicalOf c, e.off) ∈ t.cad.late) ∧
        t.cad.overrun = s.cad.overrun ∧ t.hbm = s.hbm ∧ t.cores = s.cores ∧ t.job.st = s.job.st ∧
        (s.col.staged = [] → t.job = s.job) ∧ t.sec = s.sec) ∧
    (s.ticking = false ∨ s.tim.window = true → exec .commitWindowOpen s = .next s) ∧
    (s.ticking = false ∨ s.tim.deadline = true → exec .commitDeadline s = .next s)) ∧
  (∀ s : State,
    (s.job.due = some .start → ∃ t, exec .jobStart s = .next t ∧ t.job.st = .running ∧ t.job.armTick = none ∧
      t.reg64 .glb 0xC0 = s.tick ∧ t.reg64 .glb 0xC8 = 0 ∧
      (s.bad = [] → t.cad.dispatched = true ∧ t.cad.entry = 0 ∧
        t.cad.kind = (SlotKind.ofCode (s.mem (s.reg64 .cad 0x80 + 8) 1)).getD .idle) ∧
      t.tim = s.tim ∧ t.sec = s.sec ∧ t.owner = s.owner ∧ t.pwr = s.pwr) ∧
    (s.job.due = some .pause → ∃ t, exec .pauseTakesEffect s = .next t ∧
      t.job = { s.job with pend := none, due := none, pauseTick := s.tick, st := .paused } ∧
      t.hbm = s.hbm ∧ t.cores = s.cores ∧ t.mbq = s.mbq ∧ t.ver = s.ver ∧ t.cad = s.cad ∧ t.tim = s.tim) ∧
    (s.job.due = some .resume → ∃ t, exec .resumeTakesEffect s = .next t ∧ t.job.st = .running ∧ t.job.pend = none ∧
      (s.jobStart ≤ s.job.pauseTick → s.job.pauseTick ≤ s.tick →
        t.reg64 .glb 0xC0 = s.jobStart + (s.tick - s.job.pauseTick) ∧
        t.reg64 .glb 0xC8 = s.job.pauseTick - s.jobStart ∧
        (s.bad = [] → t.cad.dispatched = true ∧
          t.cad.entry = (s.job.pauseTick - s.jobStart) % (s.reg .cad 0x88).toNat)) ∧
      t.tim = s.tim ∧ t.sec = s.sec ∧ t.owner = s.owner ∧ t.pwr = s.pwr) ∧
    (s.job.due ≠ some .start → exec .jobStart s = .next s) ∧
    (s.job.due ≠ some .pause → exec .pauseTakesEffect s = .next s) ∧
    (s.job.due ≠ some .resume → exec .resumeTakesEffect s = .next s))

/-- A telemetry frame of a die in service shows the temperatures of its cores that are no husks and of its stacks, and
nothing else of the device. The regulator's acknowledgement raises a die to the frequency that waited.
FORCE_THROTTLE_N low takes every die in service to the floor at once; its release is only noted, for the next control
step. -/
def Obligations.TelemetryAndRegulator : Prop :=
  (∀ (d : DieId) (f : DieTelemetry) (s : State),
    ((s.die d).up = true → (s.link (ownLink d)).sideband = true → ∃ t, exec (.telemetry d f) s = .next t ∧
      (t.die d).frame = some f ∧ (t.die d).heard = true ∧ (∀ e, e ≠ d → t.die e = s.die e) ∧
      (∀ c, coreDie c = d → s.husk c = false →
        t.reg (.core c) 0x90 = BitVec.ofNat 32 (2 ^ 31 + (tempAt f.coreTemps (c.val % 48)).toNat)) ∧
      (∀ c, coreDie c ≠ d ∨ s.husk c = true → t.reg (.core c) 0x90 = s.reg (.core c) 0x90) ∧
      (∀ k, stackDie k = d →
        t.reg (.hbm k) 0xB4 = BitVec.ofNat 32 (2 ^ 31 + (tempAt f.stackTemps (k.val % 4)).toNat)) ∧
      (∀ k, stackDie k ≠ d → t.reg (.hbm k) 0xB4 = s.reg (.hbm k) 0xB4) ∧
      t.hbm = s.hbm ∧ t.cores = s.cores ∧ t.job = s.job ∧ t.sec = s.sec ∧ t.pwr = s.pwr) ∧
    ((s.die d).up = false ∨ (s.link (ownLink d)).sideband = false → exec (.telemetry d f) s = .next s)) ∧
  (∀ s : State,
    (∀ d f, (s.die d).want = some f → f < 2048 → ∃ t, exec (.voltageAcknowledge d) s = .next t ∧
      t.nowMhz d = f ∧ (t.die d).want = none ∧ (∀ e, e ≠ d → t.die e = s.die e ∧ t.nowMhz e = s.nowMhz e) ∧
      t.hbm = s.hbm ∧ t.cores = s.cores ∧ t.job = s.job) ∧
    (∀ d, (s.die d).want = none → exec (.voltageAcknowledge d) s = .next s) ∧
    (s.pwr.force = false → s.pwr.powered = true → ∃ t, exec .forceThrottle s = .next t ∧ t.pwr.force = true ∧
      (∀ d, (s.die d).up = true → t.nowMhz d = s.floorMhz ∧ (t.die d).want = none) ∧
      (∀ d, (s.die d).up = false → t.die d = s.die d ∧ t.nowMhz d = s.nowMhz d) ∧
      t.flag .pwr 0x10 12 = true ∧ t.hbm = s.hbm ∧ t.cores = s.cores) ∧
    (exec .forceThrottleRelease s = .next { s with pwr := { s.pwr with force := false } }))

/-- A control step to which every die in service has sent its telemetry: PWR_NOW_W takes the measured power, and each
die's frequency the row of R433 that applies, limited to the cap and then to the floor; a higher one waits for the
regulator; a retried AVSBus transaction is AVS_ERR. -/
def Obligations.ControlStepSetsTheFrequencies : Prop :=
  ∀ (m : PowerReadings) (s : State), s.pwr.powered = true → (∀ d, (s.die d).up = true → (s.die d).heard = true) →
    let now := min 4095 (railWatts m + m.hbmWatts)
    let limit := s.field .pwr 0xA0 11 0
    ∃ t, exec (.controlStep m) s = .next t ∧ (m.avsErr ≠ [] → t.flag .pwr 0x10 11 = true) ∧
      t.field .pwr 0xA4 11 0 = now ∧ t.pwr.hiPow = decide (limit < now) ∧
      (∀ d, (s.die d).up = true →
        let f := s.nowMhz d
        let w := if s.pwr.force then s.floorMhz
          else if s.hotDie d ∨ limit < now then f - 100
          else if s.coolDie d ∧ 100 * now ≤ 97 * limit then f + 25
          else f
        let g := max (min w (s.field .pwr (0x90 + 4 * d.val) 10 0)) s.floorMhz
        t.nowMhz d = min f g ∧ (t.die d).want = (if f < g then some g else none) ∧ (t.die d).hot = s.hotDie d ∧
        (t.die d).heard = false ∧ (t.die d).missed = 0) ∧
      (∀ d, (s.die d).up = false → t.die d = s.die d ∧ t.nowMhz d = s.nowMhz d) ∧
      ((∃ d, (s.die d).up = true ∧ s.pwr.force = false ∧ (s.hotDie d = true ∨ limit < now) ∧
          s.nowMhz d < s.floorMhz + 100) →
        t.flag .pwr 0x10 10 = true ∧ t.field .pwr 0xB8 31 16 = min 0xFFFF (s.field .pwr 0xB8 31 16 + 1)) ∧
      t.hbm = s.hbm ∧ t.cores = s.cores ∧ t.job.st = s.job.st ∧ t.sec = s.sec ∧ t.tim = s.tim

/-- A die taken out of service with a cause of R427 is isolated and down with its clock stopped, and its cores are
husks: those that were none before with CAUSE 5. So it goes with a thermal trip for every die (6), with a fault of its
own regulator (5), with a stack in service that fails training (4), with the loss of the fabric reference clock for
every die (1) and with the owner's ISOLATE (7). A die already isolated keeps its cause. -/
def Obligations.IsolationTakesTheDieOut : Prop :=
  ∀ s : State,
    (s.pwr.powered = true → ∃ t, exec .thermalTrip s = .next t ∧ t.pwr.tripped = true ∧ t.flag .pwr 0x10 9 = true ∧
      ∀ d, (s.die d).isolated = false → s.takesOut d 6 t) ∧
    (∀ (rail : Fin 5) (d : DieId), s.pwr.powered = true → rail.val = d.val → (s.die d).isolated = false →
      ∃ t, exec (.regulatorFault rail) s = .next t ∧ s.takesOut d 5 t ∧ t.flag .pwr 0x10 8 = true ∧
        ∀ e, e ≠ d → (t.die e) = s.die e) ∧
    (s.pwr.powered = true → ∃ t, exec (.regulatorFault 4) s = .next t ∧ t.flag .pwr 0x10 13 = true ∧ t.dies = s.dies) ∧
    (∀ k, (s.die (stackDie k)).up = true → (s.die (stackDie k)).isolated = false →
      ∃ t, exec (.stackTrainFail k) s = .next t ∧ s.takesOut (stackDie k) 4 t ∧ t.flag (.hbm k) 0x10 11 = true ∧
        ∀ e, e ≠ stackDie k → t.die e = s.die e) ∧
    (s.pwr.powered = true → ∃ t, exec .fabRefclkLoss s = .next t ∧ t.tim.fabclk = false ∧
      (∀ d, (s.die d).isolated = false → s.takesOut d 1 t) ∧
      ∀ p, (s.port p).st = .up → (t.port p).st = .down ∧ (t.port p).cause = 2) ∧
    (∀ (r : Requester) (d : DieId), s.reaches r .pwr → s.isOwner r = true → (s.die d).isolated = false →
      ∃ t, exec (.isolate r d) s = .next t ∧ s.takesOut d 7 t ∧ ∀ e, e ≠ d → t.die e = s.die e)

/-! ### Fatal core errors, repair, Flint and sweeps (R101, R145, R209, R273, R346 to R363) -/

/-- The oldest sampled result of a core whose verdict is due: with a passing one it commits and is held no more; with
a failing one, by the checksum or by a column that a fault of the checker spoils, FLT_DISAGREE_CNT counts it and a
resolution runs on the die. Both count in FLT_CHECK_CNT. The re-runs of a resolution, each counted as a verdict, and
its outcome by the table of R355: what FLT_STAT then shows, the disputed result no longer held, a blamed core on the
watch list, and a core of PERSISTENT or UNRESOLVED a husk. The outcome waits for both re-runs. A parity error in the
buffer gives UNRESOLVED. When a sampled result is held is the model's reading: log entry 13. -/
def Obligations.VerdictsAndResolutions : Prop :=
  (∀ (c : CoreId) (s : State) (h : Held) (k : Option (BitVec 7)),
    (s.core c).held.find? (fun h => h.sampled && !h.judged) = some h →
    ((h.mma s).judged h.fail k = none → ∃ t, exec (.verdict c k) s = .next t ∧
      t.reg .flt 0xC4 = s.reg .flt 0xC4 + 1 ∧ t.reg .flt 0x8C = s.reg .flt 0x8C ∧
      (t.core c).held = (s.core c).held.filter (fun k => k.pos != h.pos) ∧
      t.reg (.arr c) 0x8C = s.reg (.arr c) 0x8C + 1 ∧ t.flt = s.flt) ∧
    (∀ n, (h.mma s).judged h.fail k = some n → ∃ t, exec (.verdict c k) s = .next t ∧
      t.reg .flt 0xC4 = s.reg .flt 0xC4 + 1 ∧
      t.reg .flt 0x8C = BitVec.ofNat 32 (min 0xFFFFFFFF ((s.reg .flt 0x8C).toNat + 1)) ∧
      t.flag .flt 0x10 8 = true ∧
      (t.core c).held = (s.core c).held.map (fun e =>
        if e.pos = h.pos then { e with judged := true, fail := some n } else e) ∧
      (∀ r, s.resolution (coreDie c) = some r → t.resolution (coreDie c) = some r) ∧
      (t.resolution (coreDie c)).isSome = true ∧ t.hbm = s.hbm)) ∧
  (∀ (d : DieId) (s : State) (r : Resolution), s.resolution d = some r →
    (∀ u k, r.s = none → s.banksUsed r.core < 2 → (s.core r.core).halt = false →
      ∃ t, exec (.rerunS d u k) s = .next t ∧ t.resolution d = some { r with s := some (s.rerun r u k) } ∧
        t.reg .flt 0xC4 = s.reg .flt 0xC4 + 1 ∧ t.hbm = s.hbm ∧ t.cores = s.cores) ∧
    (∀ u k p, r.partner = some p → r.x = none → (s.core p).halt = false →
      ∃ t, exec (.rerunX d u k) s = .next t ∧ t.resolution d = some { r with x := some (s.rerun r u k) } ∧
        t.reg .flt 0xC4 = s.reg .flt 0xC4 + 1 ∧ t.hbm = s.hbm ∧ t.cores = s.cores) ∧
    (r.s = none ∨ (r.partner.isSome = true ∧ r.x = none) → exec (.resolutionOutcome d) s = .next s) ∧
    (∀ q, r.s = some q → (r.partner.isSome = true → r.x.isSome = true) →
      ∃ t, exec (.resolutionOutcome d) s = .next t ∧
        t.flt.last = (match r.x with
          | some x => if r.o.res = q.1 ∧ q.1 = x.1 then (if x.2 = none then 2 else 1)
              else if q.1 = x.1 then 3
              else if r.o.res = x.1 then 4
              else if r.o.res = q.1 ∧ x.2 = none then 5 else 6
          | none => if r.o.res = q.1 ∧ q.2 = none then 2 else 6) ∧
        (∀ h ∈ (t.core r.core).held, h.pos ≠ r.o.pos) ∧
        (2 ≤ t.flt.last ∧ t.flt.last ≤ 4 → t.watched r.core = true) ∧
        (5 ≤ t.flt.last → t.husk r.core = true)) ∧
    (∃ t, exec (.resbufParity d) s = .next t ∧ t.flt.last = 6 ∧ t.flag .flt 0x10 12 = true ∧ t.husk r.core = true ∧
      ∀ h ∈ (t.core r.core).held, h.pos ≠ r.o.pos))

/-- A sweep: the owner's command in RUN takes every core that is no husk, or the one named; a core finishes its lowest
group, or fails it and is fenced with CAUSE 3, watched and counted; an abort stops the sweep at the next group's end;
and it is done once no core is left or it was stopped. A helper starts the first piece queued to it, in the order of
R101, once its own list has ended and no lower wave is open: its working state is that of a tick, and the piece runs
from its first descriptor. -/
def Obligations.RepairPiecesAndSweeps : Prop :=
  (∀ s : State,
    (∀ r (groups : BitVec 5) (all : Bool) (core : BitVec 8), s.reaches r .flt → s.isOwner r = true →
      s.flt.sweep.busy = false → groups ≠ 0 → s.pwr.st = .run →
      ∃ t, exec (.sweep r groups all core) s = .next t ∧ t.flt.sweep = { s.flt.sweep with
          busy := true, stop := false, failed := 0, cores := 0
          todo := ((allFin 192).filter (fun c => !s.husk c && (all || c.val == core.toNat))).map
            (fun c => (c, groups.toNat)) } ∧
        t.hbm = s.hbm ∧ t.cores = s.cores ∧ t.job = s.job) ∧
    (∀ r, s.reaches r .flt → s.isOwner r = true → s.flt.sweep.busy = true →
      ∃ t, exec (.sweepAbort r) s = .next t ∧ t.flt.sweep = { s.flt.sweep with stop := true } ∧
        t.hbm = s.hbm ∧ t.cores = s.cores) ∧
    (∀ c e, s.flt.sweep.todo.find? (fun e => decide (e.1 = c)) = some e → s.maySweep c = true → s.husk c = false →
      (∃ t, exec (.sweepGroup c false) s = .next t ∧
        t.flt.sweep = s.flt.sweep.advance c (e.2 - 2 ^ lowestGroup e.2) ∧ (t.core c).v = [] ∧ (t.core c).t = [] ∧
        (t.core c).na = [] ∧ (t.core c).cause = 0 ∧ t.hbm = s.hbm) ∧
      (∃ t, exec (.sweepGroup c true) s = .next t ∧ (t.core c).cause = 3 ∧ t.watched c = true ∧
        t.flt.sweep.failed = s.flt.sweep.failed + 1 ∧ t.flag .flt 0x10 11 = true ∧
        (∀ e ∈ t.flt.sweep.todo, e.1 ≠ c))) ∧
    (s.flt.sweep.busy = true → (s.flt.sweep.todo = [] ∨ s.flt.sweep.stop = true) →
      ∃ t, exec .sweepDone s = .next t ∧ t.flt.sweep = { s.flt.sweep with
          busy := false, done := true, aborted := s.flt.sweep.stop, stop := false, todo := [] } ∧
        (s.flt.sweep.done = false → t.flag .flt 0x38 0 = true) ∧ t.hbm = s.hbm ∧ t.cores = s.cores)) ∧
  (∀ (c : CoreId) (s : State) (p : PieceRun) (i : Nat),
    s.inSlot = true → s.tim.window = false → (s.core c).mayHelp = true →
    firstPiece (s.cad.pieces.zipIdx.filter (fun e =>
      decide (e.1.st = .queued) && s.helperOf e.1 == (s.core c).logical)) = some (p, i) →
    (s.waveWaits p = true → exec (.repairPiece c) s = .next s) ∧
    (s.waveWaits p = false → ∃ t, exec (.repairPiece c) s = .next t ∧
      (t.core c).run = some { base := p.list, logical := p.logical, piece := some i } ∧ (t.core c).ptr = p.list ∧
      (t.core c).fly = [] ∧ (t.core c).written = [] ∧ (t.core c).v = [] ∧ (t.core c).t = [] ∧ (t.core c).na = [] ∧
      t.cad.pieces = s.cad.pieces.modify i (fun p => { p with st := .running c }) ∧
      (∀ e, e ≠ c → t.core e = s.core e) ∧ t.hbm = s.hbm ∧ t.job = s.job))

/-! ### Descriptors (R46 to R52, R111, R359, R565) -/

/-- Every command that issues a descriptor: a SEQ out of order is BAD_SEQ and a reserved opcode BAD_OPCODE, whatever
the command, and its WAIT bits need not be met for either (log entry 12); a descriptor of another opcode, one whose
WAIT bits are not met and one without room in its queue are not taken, and the device stays as it is but for the lines
whose CRC fails from now on. What follows a command is nothing where no request is outstanding, no descriptor waits in
a queue and no collective runs. That the command names the core and the list names the descriptor is the model's
choice: log entry 11. -/
def Obligations.DescriptorsIssueInOrder : Prop :=
  (∀ s : State, s.trackers = [] → s.frt.errs = [] → s.waiting = false → s.settle = s) ∧
  ∀ (i : Instr) (c : CoreId) (op : Nat) (l : List (BitVec 19)) (s₀ : State) (r : Run) (d : Desc),
    descriptorOf i = some (c, op, l) →
    let s := s₀.upsetLines c l
    let u := s.fetched c r d
    s.Fetches c r d →
    (∀ bt, (d.seq ≠ r.pos ∧ bt = 9) ∨ (d.seq = r.pos ∧ d.op ∉ opcodes ∧ bt = 8) →
      exec i s₀ = u.faultsAt c r bt 0x08 ∧
      ∃ t : State, exec i s₀ = .next t.settle ∧ t.faultedAt c r bt ∧ t.hbm = s.hbm ∧ t.cad.live = s.cad.live ∧
        ∀ e, e ≠ c → t.core e = s.core e) ∧
    (d.seq = r.pos → d.op ∈ opcodes →
      d.op ≠ op ∨ (s.core c).waitsMet d = false ∨ (s.core c).queueFull (unitOf op) = true → exec i s₀ = .next s.settle)

/-- The sequencer's own descriptors. NOP has no effect but its issue. FENCE, END and KAT wait until nothing of the
core is in flight; FENCE of scope 0 leaves the clean tags, of scope 1 and 2 those of version storage alone; END ends
the list or the piece; a KAT that passes leaves the registers as at a tick, and one that fails fences the core with
CAUSE 3. A reserved field that is not zero is BAD_OPCODE. A unit other than the array completes the oldest descriptor
that it has started, once nothing of it is outstanding. That effects come at the issue is the model's choice: log
entry 12. -/
def Obligations.SequencerDescriptors : Prop :=
  ∀ (c : CoreId) (s : State) (r : Run) (d : Desc),
    let v := s.fetched c r d
    (s.Takes c 1 r d → d.ctxOk = true → d.headerOk = true → d.restZero [] = true →
      exec (.nop c) s = v.issuesWith c r none) ∧
    (∀ (i : Instr) (op : Nat) (l : List (BitVec 19)), descriptorOf i = some (c, op, l) → op ∈ [0, 1, 2, 0xB8] →
      s.Takes c op r d → d.headerOk = false ∨ d.restZero [8] = false →
      exec i s = v.faultsAt c r 8 0x08 ∧ ∃ t : State, exec i s = .next t.settle ∧ t.faultedAt c r 8 ∧ t.hbm = s.hbm) ∧
    (s.Takes c 2 r d → d.ctxOk = true → d.headerOk = true → d.restZero [8] = true → d.byte 8 ≤ 2 →
      ((s.core c).fly ≠ [] → exec (.fence c) s = .next s.settle) ∧
      ((s.core c).fly = [] → ∃ t : State, exec (.fence c) s = .next t.settle ∧ s.issuedAt c r none t ∧
        (d.byte 8 = 0 → (t.core c).clean = (s.core c).clean) ∧
        (d.byte 8 ≠ 0 → ∀ k g,
          (Store.get (fun _ => none) (t.core c).clean k = some g → g.version = true) ∧
          (Store.get (fun _ => none) (s.core c).clean k = some g → g.version = true →
            Store.get (fun _ => none) (t.core c).clean k = some g)) ∧
        (t.core c).v = (s.core c).v ∧ (t.core c).cst = (s.core c).cst ∧ t.hbm = s.hbm)) ∧
    (s.Takes c 0 r d → d.ctxOk = true → d.headerOk = true → d.restZero [] = true →
      ((s.core c).fly ≠ [] → exec (.endOp c) s = .next s.settle) ∧
      ((s.core c).fly = [] → ∃ t : State, exec (.endOp c) s = .next t.settle ∧
        (t.core c).run = some { r with pos := r.pos + 1, ended := true } ∧ (t.core c).ptr = r.at ∧
        (∀ k, r.piece = some k → t.cad.pieces = s.cad.pieces.modify k (fun p => { p with st := .done })) ∧
        (r.piece = none → t.cad = s.cad) ∧ (∀ e, e ≠ c → t.core e = s.core e) ∧ t.hbm = s.hbm ∧ t.regs = s.regs)) ∧
    (s.Takes c 0xB8 r d → d.ctxOk = true → d.headerOk = true → d.restZero [8] = true →
      0 < d.byte 8 ∧ d.byte 8 < 32 → s.cad.kind = .check →
      ((s.core c).fly ≠ [] → ∀ g, exec (.kat c g) s = .next s.settle) ∧
      ((s.core c).fly = [] → ∀ g : BitVec 5,
        (d.byte 8 &&& g.toNat = 0 → ∃ t : State, exec (.kat c g) s = .next t.settle ∧ s.issuedAt c r none t ∧
          (t.core c).v = [] ∧ (t.core c).t = [] ∧ (t.core c).na = [] ∧ (t.core c).cst = (s.core c).cst ∧
          (t.core c).cause = 0 ∧ t.hbm = s.hbm) ∧
        (d.byte 8 &&& g.toNat ≠ 0 → ∃ t : State, exec (.kat c g) s = .next t.settle ∧ (t.core c).cause = 3 ∧
          t.flag .flt 0x10 11 = true ∧ (t.core c).v = [] ∧ (t.core c).run = none))) ∧
    (∀ (u : UnitId) (e : InFlight), u ≠ .arr → (s.core c).oldest u = some e → (s.core c).flyAt u e.pos = some e →
      (e.phase = .issued ∧ e.tags = [] ∧ e.held = false → ∃ t : State, exec (.descComplete c u) s = .next t.settle ∧
        t.core c = { s.core c with fly := (s.core c).fly.filter (fun x => !(decide (x.unit = u) && x.pos == e.pos)) } ∧
        (u = .vec → t.reg (.vec c) 0x84 = s.reg (.vec c) 0x84 + 1) ∧ (∀ k, k ≠ c → t.core k = s.core k) ∧ t.hbm = s.hbm) ∧
      (e.phase ≠ .issued ∨ e.tags ≠ [] ∨ e.held = true → exec (.descComplete c u) s = .next s.settle))

/-! ### Vector descriptors (R171 to R208) -/

/-- The lane-wise operations with a V register as DST and V registers or immediates as sources, once the vector engine
is free: every lane of DST takes the operation's result of the source lanes with their poison; no other register, no
memory and no other core changes. So COPY, ADD, SUB, MUL, FMA, MIN, MAX, ABS, NEG, SELECT, CMP, EXP2, LOG2, RECIP,
RSQRT, IADD, ISUB, IMUL, IMIN, IMAX, IAND, IOR, IXOR, ISHIFT, CLASS and CLIP_SCALE. That effects come at the issue is
the model's choice: log entry 12. -/
def Obligations.LanewiseResults : Prop :=
  ∀ (i : Instr) (c : CoreId) (op : Nat) (l : List (BitVec 19)) (s₀ : State) (r : Run) (d : Desc) (n : Nat),
    descriptorOf i = some (c, op, l) → op ∈ lanewise →
    let s := s₀.upsetLines c l
    let v := d.vop s c
    s.Takes c op r d → d.vecCheck v s = .ok () → v.dst = .vreg n → (s.core c).unitBusy .vec = false →
    (v.s0.isV || v.s0.isImm) = true → (v.s1.isV || v.s1.isImm) = true → (v.s2.isV || v.s2.isImm) = true →
    ∃ t : State, exec i s₀ = .next t.settle ∧ s.issuedAt c r (some { d.entry with writes := true }) t ∧
      (∀ k, k < 128 →
        (Store.get (fun _ => 0) (t.core c).v (128 * n + k), Store.get (fun _ => false) (t.core c).vp (128 * n + k)) =
          laneResult v (s.lane c v.s0 v.b0 k) (s.lane c v.s1 v.b1 k) (s.lane c v.s2 v.b2 k)) ∧
      (∀ k, k < 128 * n ∨ 128 * n + 128 ≤ k → Store.get (fun _ => 0) (t.core c).v k = Store.get (fun _ => 0) (s.core c).v k ∧
        Store.get (fun _ => false) (t.core c).vp k = Store.get (fun _ => false) (s.core c).vp k) ∧
      (t.core c).t = (s.core c).t ∧ (t.core c).na = (s.core c).na ∧ (t.core c).cst = (s.core c).cst ∧
      (t.core c).vecOp = op ∧ (t.core c).beats = (s.core c).beats + 1 ∧
      (∀ e, e ≠ c → t.core e = s.core e) ∧ t.hbm = s.hbm ∧ t.cad = s.cad ∧ t.mbq = s.mbq ∧ t.ver = s.ver

/-- Every vector descriptor that passes the checks of R178 issues. While an earlier one has not all its bytes it waits
in the engine's queue. Otherwise it runs: with no element to access it does nothing; what its walk gathered is written
to the core store, the memory and other devices and its beats are counted; bytes of other devices are asked for first;
a walk that meets a fault stops the list with its cause, and leaves what it gathered before. One whose fields, tensors,
shapes or slot kind do not pass stops the list with BAD_OPCODE, BAD_TENSOR or SLOT_KIND and writes nothing. So every
opcode of the vector unit, lane-wise or not: PERM, SHUFFLE, PACK, UNPACK, REDSUM, REDMAX, REDMIN, REDSUMSQ, TRED,
SMX_UPDATE, SMX_FINAL, ROWSTATS, NORM_FIN, NORM_APPLY and NACC_STORE too. That effects come at the issue is the model's
choice: log entry 12. -/
def Obligations.VectorWalksAreCarriedOut : Prop :=
  ∀ (i : Instr) (c : CoreId) (op : Nat) (l : List (BitVec 19)) (s₀ : State) (r : Run) (d : Desc),
    descriptorOf i = some (c, op, l) → unitOf op = .vec →
    let s := s₀.upsetLines c l
    let v := d.vop s c
    let u := s.fetched c r d
    let b := u.vecBegins c d
    s.Takes c op r d →
    (d.vecCheck v s = .ok () →
      ((s.core c).unitBusy .vec = true → exec i s₀ = b.issuesWith c r (some d.queuedEntry)) ∧
      ((s.core c).unitBusy .vec = false →
        (v.works = false → exec i s₀ = b.issuesWith c r (some d.entry)) ∧
        (v.works = true →
          (∀ (s1 : State) (w : Vop), v.resolve b d.ctx r.logical = .ok (s1, w) →
            let o := vecRun w { s := s1, c := c }
            b.runComesTo c r d { o with s := o.s.countBeats c o.beats } (.vec c) (w.dst.outs d.ctx) (0x11, 0, 0) id
              (exec i s₀)) ∧
          (∀ e, v.resolve b d.ctx r.logical = .error e → exec i s₀ = e.s.faultsAt c r e.bit e.halt)))) ∧
    (d.vecCheck v s ≠ .ok () → ∃ (t : State) (bt : Nat), exec i s₀ = .next t.settle ∧ t.faultedAt c r bt ∧ bt ∈ [8, 10, 11] ∧
      (d.headerOk = false → bt = 8) ∧
      (t.core c).v = (s.core c).v ∧ (t.core c).t = (s.core c).t ∧ (t.core c).cst = (s.core c).cst ∧ t.hbm = s.hbm)

/-! ### Copies, remote operations, contexts, versions, the array and collectives (R121 to R136, R210 to R237, R249, R313, R329) -/

/-- DMA_COPY, QCOPY, RREAD, RWRITE, RADD and REDUCE_WRITE on well-formed descriptors, once their unit is free: the
bytes gathered row by row are written, remote ones as the operation's flow units, and the descriptor is in flight until
they are acknowledged; bytes of other devices are asked for first; a fault stops the list; a DMA_COPY from local memory
leaves clean tags. DMA_FILL on a well-formed descriptor writes its value and scale to every element of DST, and counts
the blocks. VGATHER of shards that all lie on this device copies the selected version's bytes to DST; with shards on
other devices it first asks their owners for them. While its unit has not all the bytes of an earlier descriptor it
waits in the queue. That effects come at the issue is the model's choice: log entry 12. -/
def Obligations.CopiesAreCarriedOut : Prop :=
  (∀ (i : Instr) (c : CoreId) (op : Nat) (l : List (BitVec 19)) (s₀ : State) (r : Run) (d : Desc),
    descriptorOf i = some (c, op, l) → op ∈ [0x60, 0x73, 0x90, 0x91, 0x92, 0x93] →
    let s := s₀.upsetLines c l
    let p := d.pair s
    let u := s.fetched c r d
    let b := if op = 0x60 then u.modCore c (fun q => { q with cdmaOp := 0x60 }) else u
    s.Takes c op r d → d.copyChecks s = true →
    ((s.core c).unitBusy (unitOf op) = true → exec i s₀ = b.issuesWith c r (some d.queuedEntry)) ∧
    ((s.core c).unitBusy (unitOf op) = false →
      (∀ (s1 : State) (x y : Ten), b.resolvePair p.1 p.2 d.ctx r.logical = .ok (s1, x, y) →
        let o := ({ s := s1, c := c, fwd := sameKind x y && decide (op ≤ 0x91), acc := decide (0x92 ≤ op) } : Io).copy x y
        b.runComesTo c r d o (if op = 0x60 then .cdma c else .core c) (if op = 0x73 then y.outs d.ctx else [])
          (if op ∈ [0x60, 0x73] then (0x11, 0, 0) else d.remoteOp p.2)
          (fun k => if op = 0x60 then (k.tagClean c x y).modCore c (fun q => { q with blocks := q.blocks + o.units }) else k)
          (exec i s₀)) ∧
      (∀ e, b.resolvePair p.1 p.2 d.ctx r.logical = .error e → exec i s₀ = e.s.faultsAt c r e.bit e.halt))) ∧
  (∀ (c : CoreId) (s : State) (r : Run) (d : Desc), s.Takes c 0x61 r d → d.headerOk = true → d.ctxOk = true →
    d.restZero [10, 11, 12, 13, 14, 15, 16] = true → s.tensorOk (d.num 10 2) = true →
    let t := s.tensor (d.num 10 2)
    let b := (s.fetched c r d).modCore c (fun q => { q with cdmaOp := 0x61 })
    (t.space = 1 ∨ (t.space = 0 ∧ (t.vsel = 0 ∨ t.vsel = 3))) → s.tensorKind t = true →
    ((s.core c).unitBusy .cdma = true → exec (.dmaFill c) s = b.issuesWith c r (some d.queuedEntry)) ∧
    ((s.core c).unitBusy .cdma = false →
      (t.size.empty = true → exec (.dmaFill c) s = b.issuesWith c r (some d.entry)) ∧
      (t.size.empty = false →
        (∀ (s1 : State) (y : Ten), b.resolve t d.ctx r.logical true = .ok (s1, y) →
          let o := ({ s := s1, c := c } : Io).each t.size.allRows (fun o row => o.fillRow y (d.num 12 4) (d.byte 16) row)
          o.want = [] → b.runComesTo c r d o (.cdma c) [] (0x11, 0, 0)
            (fun k => k.modCore c (fun q => { q with blocks := q.blocks + o.units })) (exec (.dmaFill c) s)) ∧
        (∀ e, b.resolve t d.ctx r.logical true = .error e → exec (.dmaFill c) s = e.s.faultsAt c r e.bit e.halt)))) ∧
  (∀ (c : CoreId) (s : State) (r : Run) (d : Desc) (w : Weight) (v : Nat), s.Takes c 0x81 r d →
    d.gatherChecks s = true → s.weight? (d.num 8 2) = some w →
    let u := s.fetched c r d
    (if d.byte 10 = 1 then u.captured d.ctx w.id r.logical else .ok (d.num 12 2)) = .ok v →
    let t := s.tensor (d.num 14 2)
    let xs := (s.shardsOf w).filter (fun x => decide (0 < x.len))
    let mine := destAxis s.own 3
    ((s.core c).unitBusy .ver = true → exec (.vgather c) s = u.issuesWith c r (some d.queuedEntry)) ∧
    ((s.core c).unitBusy .ver = false →
      (∀ k, w.resolve v = some k → (∀ x ∈ xs, x.d = mine) →
        u.runComesTo c r d (({ s := u, c := c } : Io).each xs (fun o x => o.putShard
          { t := t, place := if t.space = 1 then .store else .glob } (some (w.storage k)) x)) (.core c) [] (0x11, 0, 0) id
          (exec (.vgather c) s)) ∧
      ((∃ x ∈ xs, x.d = mine) → w.resolve v = none → ∃ t : State, exec (.vgather c) s = .next t.settle ∧ t.faultedAt c r 14) ∧
      ((∃ x ∈ xs, x.d ≠ mine) → ((∃ x ∈ xs, x.d = mine) → (w.resolve v).isSome = true) →
        let q := (xs.filter (fun x => x.d != mine)).foldl (fun (q : List Nat × State) x =>
          let a := q.2.gatherShard (.core c .ver d.pos) w.id v x
          (q.1 ++ a.1, a.2)) ([], u)
        exec (.vgather c) s = q.2.pump.issuesWith c r (some { d.entry with tags := q.1, phase := .fetch }))))

/-- Context and version descriptors, once their unit is free. CTX_START and CTX_END: the context moves as R212 tells
or the descriptor faults with CTX_STATE; a repeated CTX_START of the same micro-batch changes nothing. QCHECK of an
inbound entry that holds its micro-batch's data issues; a late one counts, is raised and faults. VCAPTURE takes a
lease on the current version of every weight of the context's stage and writes nothing but the capture records; one
inside the loaded image takes BOUNDS; VOPEN makes the first empty or retired position of the weight PENDING with a
version that follows the current one; VPUBLISH notes the retire tick of a pending version. A repetition changes
nothing; a version or a ring that does not allow it faults. Version numbers compare by serial-number arithmetic
(R223). -/
def Obligations.ContextsAndVersionsMove : Prop :=
  (∀ (c : CoreId) (s : State) (r : Run) (d : Desc), d.headerOk = true → d.ctxValid = true → d.ctx < 48 →
    (s.core c).unitBusy .fab = false → s.cad.kind ∈ [SlotKind.compute, SlotKind.eval] →
    let k := d.ctx
    let x := s.ctx k
    let dir := d.byte 8
    let mb := BitVec.ofNat 32 (d.num 12 4)
    (s.Takes c 0x70 r d → d.restZero [8, 9, 12, 13, 14, 15] = true → dir ≤ 2 → d.byte 9 ≤ 7 →
      let same := x.mb = mb ∧ x.vstage = d.byte 9
      (x.st = .free → dir ≠ 1 → ∃ t : State, exec (.ctxStart c) s = .next t.settle ∧ s.issuedAt c r (some d.entry) t ∧
        t.ctx k = { x with st := if dir = 0 then .forward else .eval, mb := mb, vstage := d.byte 9
                           captured := false, endPending := false } ∧
        (∀ j, j ≠ k → t.ctx j = s.ctx j) ∧ t.hbm = s.hbm ∧ t.ver = s.ver ∧ t.regs = s.regs) ∧
      (x.st = .forward → x.endPending = false → dir = 1 → same → ∃ t : State, exec (.ctxStart c) s = .next t.settle ∧
        s.issuedAt c r (some d.entry) t ∧ t.ctx k = { x with st := .backward } ∧
        (∀ j, j ≠ k → t.ctx j = s.ctx j) ∧ t.hbm = s.hbm ∧ t.ver = s.ver) ∧
      (same → (x.st = .forward ∧ dir = 0) ∨ (x.st = .backward ∧ dir ≤ 1) ∨ (x.st = .eval ∧ dir = 2) →
        ∃ t : State, exec (.ctxStart c) s = .next t.settle ∧ s.issuedAt c r (some d.entry) t ∧ t.mbq = s.mbq ∧ t.hbm = s.hbm) ∧
      (¬same → x.st ≠ .free → ∃ t : State, exec (.ctxStart c) s = .next t.settle ∧ t.faultedAt c r 14 ∧
        t.flag .mbq 0x10 9 = true ∧ t.mbq = s.mbq)) ∧
    (s.Takes c 0x71 r d → d.restZero [] = true →
      (x.st ≠ .free → ∃ t : State, exec (.ctxEnd c) s = .next t.settle ∧ s.issuedAt c r (some d.entry) t ∧
        t.ctx k = { x with endPending := true } ∧ (∀ j, j ≠ k → t.ctx j = s.ctx j) ∧ t.hbm = s.hbm ∧ t.ver = s.ver) ∧
      (x.st = .free → ∃ t : State, exec (.ctxEnd c) s = .next t.settle ∧ t.faultedAt c r 14 ∧ t.flag .mbq 0x10 9 = true ∧
        t.mbq = s.mbq)) ∧
    (∀ q, s.Takes c 0x72 r d → d.restZero [8, 9] = true → s.queue? (d.num 8 2) = some q → q.vstage = x.vstage →
      q.kind < 2 → s.firstUnserved (q.entryOff (q.entryOf x)) 64 = none →
      let h := q.entryOff (q.entryOf x)
      let stamp := s.mem h 8
      (s.rangePoisoned h 64 = false → stamp ≤ s.jobTick → stamp < 0xFFFFFFFFFFFFFFFE → s.mem (h + 8) 4 = x.mb.toNat →
        ∃ t : State, exec (.qcheck c) s = .next t.settle ∧ s.issuedAt c r (some d.entry) t ∧ t.mbq = s.mbq ∧ t.hbm = s.hbm) ∧
      (s.rangePoisoned h 64 = true ∨ s.jobTick < stamp ∨ 0xFFFFFFFFFFFFFFFE ≤ stamp ∨ s.mem (h + 8) 4 ≠ x.mb.toNat →
        ∃ t : State, exec (.qcheck c) s = .next t.settle ∧ t.faultedAt c r 14 ∧
        t.flag .mbq 0x10 8 = true ∧
        t.reg .mbq 0x84 = BitVec.ofNat 32 (min 0xFFFFFFFF ((s.reg .mbq 0x84).toNat + 1)) ∧ t.hbm = s.hbm))) ∧
  ((∀ a b : BitVec 16, (precedes a.toNat b.toNat = true ↔ 1 ≤ (b - a).toNat ∧ (b - a).toNat ≤ 32767) ∧
    ((b - a).toNat = 0 ↔ a = b) ∧
    ((b - a).toNat = 32768 → precedes a.toNat b.toNat = false ∧ precedes b.toNat a.toNat = false)) ∧
  ∀ (c : CoreId) (s : State) (r : Run) (d : Desc), d.headerOk = true → d.ctxOk = true →
    (s.core c).unitBusy .ver = false →
    (s.Takes c 0x80 r d → d.restZero [] = true → d.ctxValid = true →
      s.cad.kind ∈ [SlotKind.compute, SlotKind.eval] → (s.ver.weights.map Weight.id).Nodup →
      let x := s.ctx d.ctx
      (x.captured = true → ∃ t : State, exec (.vcapture c) s = .next t.settle ∧ s.issuedAt c r (some d.entry) t ∧ t.mbq = s.mbq ∧
        t.ver = s.ver ∧ t.hbm = s.hbm) ∧
      (x.captured = false → x.st = .forward ∨ x.st = .eval →
        (∀ w ∈ s.ver.weights, w.vstage = x.vstage → s.served (s.captureAt d.ctx w.id) = true ∧
          s.hitsImage (s.captureAt d.ctx w.id) 2 = false ∧ ∀ p ∈ w.ring, p.st = .current → p.leases < 255) →
        ∃ t : State, exec (.vcapture c) s = .next t.settle ∧ s.issuedAt c r (some d.entry) t ∧
          t.ctx d.ctx = { x with captured := true } ∧
          t.ver.weights = s.ver.weights.map (fun w => if w.vstage = x.vstage then w.lease else w) ∧
          (∀ a, (∀ w ∈ s.ver.weights, w.vstage = x.vstage → ∀ k, k < 2 → a ≠ s.phys (s.captureAt d.ctx w.id + k)) →
            t.physByte a = s.physByte a)) ∧
      (x.captured = false → x.st = .forward ∨ x.st = .eval →
        (∀ w ∈ s.ver.weights, w.vstage = x.vstage → ∀ p ∈ w.ring, p.st = .current → p.leases < 255) →
        (∃ w ∈ s.ver.weights, w.vstage = x.vstage ∧ s.hitsImage (s.captureAt d.ctx w.id) 2 = true) →
        ∃ t : State, exec (.vcapture c) s = .next t.settle ∧ t.faultedAt c r 13 ∧ t.ver = s.ver ∧ t.mbq = s.mbq ∧
          t.hbm = s.hbm)) ∧
    (∀ w, s.Takes c 0x82 r d → d.restZero [8, 9, 12, 13] = true → s.cad.kind = .stepBoundary →
      s.weight? (d.num 8 2) = some w →
      let v := d.num 12 2
      (∀ k, precedes w.currentVer v = true → (∀ p ∈ w.ring, p.st ≠ .pending ∧ (p.ver = v → p.st = .empty ∨ p.st = .retired)) →
        findIdx (fun p => p.st == .empty || p.st == .retired) w.ring = some k →
        ∃ t : State, exec (.vopen c) s = .next t.settle ∧ s.issuedAt c r (some d.entry) t ∧
          t.ver = (s.modPos w.id k (fun _ => { st := .pending, ver := v })).ver ∧ t.mbq = s.mbq ∧ t.hbm = s.hbm) ∧
      (∀ p, w.ring.find? (fun p => p.st == .pending) = some p → p.ver = v →
        ∃ t : State, exec (.vopen c) s = .next t.settle ∧ s.issuedAt c r (some d.entry) t ∧ t.ver = s.ver ∧ t.hbm = s.hbm) ∧
      (precedes w.currentVer v = false → (∀ p ∈ w.ring, p.st ≠ .pending) →
        ∃ t : State, exec (.vopen c) s = .next t.settle ∧ t.faultedAt c r 14 ∧ t.flag .ver 0x10 14 = true ∧ t.ver = s.ver)) ∧
    (∀ w, s.Takes c 0x83 r d → d.restZero [8, 9, 12, 13, 16, 17, 18, 19, 20, 21, 22, 23] = true →
      s.cad.kind = .stepBoundary → s.weight? (d.num 8 2) = some w →
      let v := d.num 12 2
      let retire := d.num 16 8
      (∀ k, findIdx (fun p => p.st == .pending && p.ver == v) w.ring = some k → (w.ring.getD k {}).pub = none →
        ∃ t : State, exec (.vpublish c) s = .next t.settle ∧ s.issuedAt c r (some d.entry) t ∧
          t.ver = (s.modPos w.id k (fun p => { p with pub := some retire })).ver ∧ t.hbm = s.hbm) ∧
      (findIdx (fun p => p.st == .pending && p.ver == v) w.ring = none →
        ∃ t : State, exec (.vpublish c) s = .next t.settle ∧ t.faultedAt c r 14 ∧ t.flag .ver 0x10 14 = true ∧ t.ver = s.ver)))

/-- An MMA that passes its checks. Without a row or a column it is a no-op. Otherwise it enters the array queue, and
stays there behind another one, while an earlier one has not written back what it reads or writes, and, its shadow tile
loaded, until a bank is free and the one before it is at its commit point. Otherwise its cycle 0 begins: the result is
computed from the operands and waits, for its verdict where it is sampled; C stays as it is. One that is not sampled is
written back, counted in ARR_INSN_CNT and complete at its DESC_COMPLETE. When it is computed, and when a sampled result
is held, are the model's readings: log entries 12 and 13. -/
def Obligations.MmaCommitsOrIsHeld : Prop :=
  (∀ (c : CoreId) (ups : List Upset) (l : List (BitVec 19)) (s₀ : State) (r : Run) (d : Desc),
    let s := s₀.upsetLines c l
    let u := s.fetched c r d
    let x := d.mma s
    let waits := fun (v : State) => v.issuesWith c r (some (d.queuedEntry ups))
    s.Takes c 0x10 r d → d.mmaCheck x s = .ok () →
    (x.m = 0 ∨ x.n = 0 → exec (.mma c ups l) s₀ = u.issuesWith c r none) ∧
    (x.m ≠ 0 → x.n ≠ 0 →
      (0 < (s.core c).queued .arr ∨ (s.arrAhead c).any x.waitsFor = true → exec (.mma c ups l) s₀ = waits u) ∧
      ((s.core c).queued .arr = 0 → (s.arrAhead c).any x.waitsFor = false →
        (∀ e, u.loadShadow c d.pos x = .error e → exec (.mma c ups l) s₀ = e.s.faultsAt c r e.bit e.halt) ∧
        (∀ s1 : State, u.loadShadow c d.pos x = .ok s1 →
          (s1.arrWaits c = true → exec (.mma c ups l) s₀ = waits s1) ∧
          (s1.arrWaits c = false →
            let g := s1.granite c
            let old := ({ s := s1, c := c } : Io).readOldC x
            let a := old.2.readStream x { b := (s1.core c).shadow.elim [] (fun h => h.b), cOld := old.1 }
            let s2 := a.2.s.modCore c (fun q => q.beginMma d.pos x.d (x.m * x.k * x.n * x.d) (x.busyCells g a.1))
            let res := applyUpsets ups (x.result g a.1)
            let sampled := s1.sampled c x.force
            let fail := if sampled then x.failing g (s1.field .flt 0x88 15 0) a.1 res else none
            let h : Held := { desc := BitVec.ofNat 512 d.raw, off := d.off, pos := d.pos, res := res, fail := fail
                              sampled := sampled }
            (∀ f, a.2.stop = some f → exec (.mma c ups l) s₀ =
              (s2.modCore c (fun q => q.setStatus d.pos .faulted)).faultsAt c r f.1 f.2) ∧
            (a.2.stop = none → ∃ t : State, exec (.mma c ups l) s₀ = .next t.settle ∧
              s2.issuedAt c r (some { d.entry with phase := .running, held := sampled }) t ∧
              (t.core c).status = (if sampled then .held else .running) ∧
              (t.core c).held = (s2.core c).held ++ [h] ∧
              (t.core c).cst = (s2.core c).cst ∧ t.hbm = s2.hbm ∧ t.regs = s2.regs)))))) ∧
  (∀ (c : CoreId) (s : State) (e : InFlight) (h : Held), (s.core c).oldest .arr = some e →
    (s.core c).flyAt .arr e.pos = some e → e.tags = [] →
    (s.core c).held.find? (fun h => h.pos == e.pos && !h.sampled) = some h →
    let v := s.commitMma c (h.mma s) h.res h.pos
    exec (.descComplete c .arr) s = .next (v.modCore c (fun q => (q.letGo h).dropFly .arr e.pos)).settle ∧
    v.reg (.arr c) 0x8C = s.reg (.arr c) 0x8C + 1 ∧ v.hbm = s.hbm ∧ (v.core c).fly = (s.core c).fly)

/-- A collective (REDUCE_SCATTER, ALL_GATHER, ALL_REDUCE) that passes its checks waits in the fabric unit while sixteen
run, and otherwise runs: its rank's part is done, with the segments that came before. A RING_START sends its block round
the ring and writes its own slot; it waits in the fabric unit while eight run, and faults where a link of the ring is
down. RING_WAIT is held until its slot is written. Each waits while the unit's next descriptor cannot start yet. -/
def Obligations.CollectivesAndRings : Prop :=
  ∀ (c : CoreId) (s : State) (r : Run) (d : Desc),
    let p := d.pair s
    let id := BitVec.ofNat 32 (d.num 16 4)
    let u := s.fetched c r d
    (∀ (i : Instr) (op size : Nat), descriptorOf i = some (c, op, []) → op ∈ [0xA0, 0xA1, 0xA2] → s.Takes c op r d →
      d.collectiveChecks s = true →
      colSize op (destAxis s.own (d.byte 12)) (s.ring (d.byte 12)) p.1.size.i0 p.2.size.i0 = some size →
      ((s.core c).unitBusy .fab = true ∨ 16 ≤ s.col.ops.length → exec i s = u.issuesWith c r (some d.queuedEntry)) ∧
      ((s.core c).unitBusy .fab = false → s.col.ops.length < 16 →
        let x : Collective := { core := c, pos := d.pos, op := op, axis := d.byte 12, fold := d.byte 13, id := id
                                fmt := p.1.fmtCode, size := size, src := globalOff p.1.base
                                dst := globalOff p.2.base, need := p.2.size.i0 }
        let v := ({ u with col := { u.col with ops := u.col.ops ++ [x] } }).modCore c (fun q =>
          q.putFly { d.entry with held := true })
        exec i s = (((v.colStart x).takeStaged 0x20 id (State.colTake id)).colCheck id).issuesWith c r none)) ∧
    (s.Takes c 0xA4 r d → d.ringChecks s = true →
      ((s.core c).unitBusy .fab = true ∨ 8 ≤ s.col.ringCount →
        exec (.ringStart c) s = u.issuesWith c r (some d.queuedEntry)) ∧
      ((s.core c).unitBusy .fab = false → s.col.ringCount < 8 →
        (2 ≤ s.ring 2 → (List.range (s.ring 2)).all (s.ringLink 2) = false → ∃ t : State,
          exec (.ringStart c) s = .next t.settle ∧ t.faultedAt c r 14 ∧ t.flag .col 0x10 9 = true ∧ t.hbm = s.hbm) ∧
        (s.ring 2 < 2 ∨ (List.range (s.ring 2)).all (s.ringLink 2) = true →
          let n := p.1.size.i0 * p.1.fmt.nibbles / 2
          let x : RingOp := { core := c, pos := d.pos, id := id, dst := globalOff p.2.base, bytes := n
                              got := List.replicate (s.ring 2) 0 }
          let a := globalOff p.1.base
          (∀ k, s.firstUnserved a n = some k → exec (.ringStart c) s = (u.glbRecord (max k a) 5).faultsAt c r 14 0x08) ∧
          (s.firstUnserved a n = none →
            let mine := (List.range n).map (fun k => (s.byte (a + k), s.poisoned (a + k)))
            let w := u.enter .system a n
            let v := ({ w with col := { w.col with rings := w.col.rings.filter (fun (y : RingOp) => y.id != id) ++ [x] } }).modCore c
              (fun q => q.putFly d.entry)
            exec (.ringStart c) s = (((if 2 ≤ s.ring 2 then v.ringSend id 1 0 mine else v).ringPut x 0 0 mine).takeStaged
              0x21 id (State.ringTake id)).issuesWith c r none)))) ∧
    (s.Takes c 0xA5 r d → d.headerOk = true → d.ctxOk = true → d.restZero [10, 11, 12, 16, 17, 18, 19] = true →
      s.tensorOk (d.num 10 2) = true → s.ringRule (s.tensor (d.num 10 2)) = true → d.byte 12 < s.ring 2 →
      ((s.core c).unitBusy .fab = true → exec (.ringWait c) s = u.issuesWith c r (some d.queuedEntry)) ∧
      ((s.core c).unitBusy .fab = false → exec (.ringWait c) s = u.issuesWith c r (some { d.entry with
        held := !(match s.ringOp id with
          | none => false
          | some x => decide (x.bytes ≤ x.got.getD (d.byte 12) 0)) })))

/-! ### Flow units and fabric ports (R274 to R328) -/

/-- Operations that arrive at their owner: a read returns the bytes and their poison and writes nothing; a write and
the atomic operations change the addressed bytes and are acknowledged, unless they would touch the loaded image
(status 1, recorded in GLB); a VGATHER_REQ reads the storage of the version it names, or is told that it is retired (4)
or not there (5). A stack that does not serve (2), a header that R314 does not allow, a weight or range that is not
there and no job loaded (6) are recorded in FRT with the requester. -/
def Obligations.RequestsAreServedAtTheirOwner : Prop :=
  ∀ (p : PortId) (f : Fu) (s s1 : State), s.arrive p f false = (some f, s1) →
    f.dest.toNat = s1.own → (fuHdr f).src ≠ s1.own → s1.anyLost = false →
    let h := fuHdr f
    let u := s1.freeCredit p f.vc.toNat
    let answer := fun (v : State) (type status poison : Nat) (data : List Byte) =>
      (Host.Outcome.next : State → Host.Outcome State Fault Refusal) ((v.sendPlain (opFu type h.src f.tag.toNat poison
        { addr := h.addr, src := s1.own, op := status, dlen := data.length } data) none).settle.idleBack p)
    let reads := fun (v : State) (a : Nat) =>
      let l := (List.range h.dlen).map (fun k => (s1.byte (a + k), s1.poisoned (a + k)))
      answer (v.enter .system a h.dlen) 0x18 0 (poisonMask l) (l.map (·.1))
    let rejects := fun (v : State) (a status : Nat) =>
      let v := v.raise { page := .frt, bit := 9, cls := 2, kind := 2, addr := a }
      answer (v.setReg .frt 0x8C (BitVec.ofNat 32 h.src)) 0x1A status 0 []
    (f.type = 0x10 →
      (hdrOk f = false → exec (.readReq p f) s = rejects u h.addr 6) ∧
      (hdrOk f = true → s1.firstUnserved h.addr h.dlen = none →
        exec (.readReq p f) s = reads (u.noteInRead h.addr) h.addr) ∧
      (hdrOk f = true → s1.firstUnserved h.addr h.dlen ≠ none →
        exec (.readReq p f) s = rejects (u.noteInRead h.addr) h.addr 2)) ∧
    (∀ i : Instr, (i = .write p f ∧ f.type = 0x11) ∨ (i = .addF32 p f ∧ f.type = 0x12) ∨
        (i = .addI32 p f ∧ f.type = 0x13) ∨ (i = .reduce p f ∧ f.type = 0x14) →
      (hdrOk f = false → exec i s = rejects u h.addr 6) ∧
      (hdrOk f = true → s1.hitsImage h.addr h.dlen = true → exec i s = answer (u.glbRecord h.addr 2) 0x1A 1 0 []) ∧
      (hdrOk f = true → s1.hitsImage h.addr h.dlen = false →
        (s1.firstUnserved h.addr h.dlen ≠ none → exec i s = rejects u h.addr 2) ∧
        (s1.firstUnserved h.addr h.dlen = none →
          let v := u.enter .system h.addr h.dlen
          exec i s = answer (if f.type = 0x11 then v.writeP h.addr (fuData f)
            else v.combine h.addr f.type.toNat h.op h.fmt (fuData f)) 0x19 0 0 []))) ∧
    (f.type = 0x15 →
      (s1.weight? h.weight = none → exec (.vgatherReq p f) s = rejects u h.addr 6) ∧
      (∀ w, s1.weight? h.weight = some w →
        (s1.job.st.holdsJob = false ∨ hdrOk f = false ∨ w.len < h.addr + h.dlen →
          exec (.vgatherReq p f) s = rejects u h.addr 6) ∧
        (s1.job.st.holdsJob = true → hdrOk f = true → h.addr + h.dlen ≤ w.len →
          (∀ k, w.resolve h.version = some k →
            (s1.firstUnserved (w.storage k + h.addr) h.dlen = none →
              exec (.vgatherReq p f) s = reads u (w.storage k + h.addr)) ∧
            (s1.firstUnserved (w.storage k + h.addr) h.dlen ≠ none →
              exec (.vgatherReq p f) s = rejects u (w.storage k + h.addr) 2)) ∧
          (w.resolve h.version = none → exec (.vgatherReq p f) s =
            answer (u.verCause (if precedes h.version w.currentVer then 8 else 9) 2 0 h.version w.id 2 0) 0x1A
              (if precedes h.version w.currentVer then 4 else 5) 0 []))))

/-- A response that names an outstanding request frees it and does what its requester asks for: data and
acknowledgements reach the requester, an error is its error; one for a request that nobody waits for only frees it,
and one that names none or does not fit it is discarded. A flow unit for another device goes on by its route. No
response in 50 µs counts as UNREACHABLE for a request that is no slot work. A segment of a collective and a block of a
ring operation that arrive here: for an operation that has issued they are taken by it; otherwise they are staged, and
while the staging buffer is full their credit is held back. -/
def Obligations.ResponsesReachTheirRequester : Prop :=
  (∀ (p : PortId) (f : Fu) (s s1 : State), s.arrive p f false = (some f, s1) →
    let u := s1.freeCredit p f.vc.toNat
    let ends := fun (v : State) => (Host.Outcome.next : State → Host.Outcome State Fault Refusal) (v.settle.idleBack p)
    (∀ i : Instr, (i = .readResp p f ∧ f.type = 0x18) ∨ (i = .writeAck p f ∧ f.type = 0x19) ∨
        (i = .error p f ∧ f.type = 0x1A) →
      (f.dest.toNat ≠ s1.own → exec i s = ends (u.transit p f)) ∧
      (f.dest.toNat = s1.own →
        (s1.trackerOf f.tag.toNat = none → exec i s = ends u) ∧
        (∀ t, s1.trackerOf f.tag.toNat = some t →
          (t.dead = true → exec i s = ends (u.freeTracker t.id).afterResponse) ∧
          (t.dead = false → f.type = 0x18 → t.read = true →
            exec i s = ends ((u.freeTracker t.id).ownerData t (fuData f)).afterResponse) ∧
          (t.dead = false → f.type = 0x19 → t.read = false →
            exec i s = ends ((u.freeTracker t.id).ownerAck t).afterResponse) ∧
          (t.dead = false → f.type = 0x1A →
            exec i s = ends ((u.freeTracker t.id).ownerError t (fuHdr f).op false).afterResponse) ∧
          (t.dead = false → (f.type = 0x18 ∧ t.read = false) ∨ (f.type = 0x19 ∧ t.read = true) → exec i s = ends u)))) ∧
    (∀ i : Instr, (i = .readReq p f ∧ f.type = 0x10) ∨ (i = .write p f ∧ f.type = 0x11) ∨ (i = .addF32 p f ∧ f.type = 0x12) ∨
        (i = .addI32 p f ∧ f.type = 0x13) ∨ (i = .reduce p f ∧ f.type = 0x14) ∨ (i = .vgatherReq p f ∧ f.type = 0x15) →
      f.dest.toNat ≠ s1.own → exec i s = ends (u.transit p f)) ∧
    (∀ i : Instr, (i = .colData p f ∧ f.type = 0x20) ∨ (i = .ringBlock p f ∧ f.type = 0x21) →
      f.dest.toNat ≠ s1.own → exec i s = ends ((s1.freeCredit p 2).transit p f))) ∧
  (∀ (tag : BitVec 14) (s : State),
    (∀ t, s.trackerOf tag.toNat = some t →
      (t.dead = false → timesOut t.owner = true → exec (.respTimeout tag) s = .next (((((
        { s with trackers := s.trackers.map (fun (v : Tracker) => if v.id = t.id then { v with dead := true } else v) }).raise
          { page := .frt, bit := 11, cls := 2, kind := 2, addr := t.dest.toNat }).ownerError t 3 true).afterResponse).settle)) ∧
      (t.dead = true ∨ timesOut t.owner = false → exec (.respTimeout tag) s = .next s.settle)) ∧
    (s.trackerOf tag.toNat = none → exec (.respTimeout tag) s = .next s.settle)) ∧
  (∀ (p : PortId) (f : Fu) (s s1 : State), s.arrive p f false = (some f, s1) → f.dest.toNat = s1.own →
    let id := BitVec.ofNat 32 (fuHdr f).opId
    let staged := { s1 with col := { s1.col with
      staged := s1.col.staged ++ [f], peak := max s1.col.peak (192 * (s1.col.staged.length + 1)) } }
    let pays := fun (v : State) => (Host.Outcome.next : State → Host.Outcome State Fault Refusal) ((if v.stageFull then
      { v with col := { v.col with owed := v.col.owed ++ [p] } } else v.freeCredit p 2).settle.idleBack p)
    (f.type = 0x20 →
      (s1.colOp id = none → exec (.colData p f) s = pays staged) ∧
      (∀ x, s1.colOp id = some x → exec (.colData p f) s = pays ((s1.colSegment x f).colCheck id))) ∧
    (f.type = 0x21 →
      (s1.ringOp id = none → exec (.ringBlock p f) s = pays staged) ∧
      (∀ x, s1.ringOp id = some x → exec (.ringBlock p f) s = pays (s1.ringBlock x f))))

/-- The receiver of a port that is UP. A flow unit whose CRC fails is counted, and the port discards until a
REPLAY_MARK, or goes DOWN in lane-parity mode; codewords that the FEC corrected or could not are counted; a malformed
one is recorded and puts the receiver into the discard state; IDLE and REPLAY_MARK carry the trailer, and the mark sets
the count; a sequenced one in order is handed on once and moves the count, the expected number and the acknowledgement;
a duplicate is dropped. An error in a trailer asks for a retrain once its flow unit is dealt with. In what order a
port's causes are taken is the model's reading: log entry 42. -/
def Obligations.ReceiverTakesFlowUnits : Prop :=
  ∀ (p : PortId) (f : Fu) (s : State), (s.port p).st = .up →
    let q := s.port p
    let r := (s.modPort p (fun q => { q with
      traffic := q.traffic || decide (f.type.toNat ≠ 0 ∧ f.type.toNat ≠ 3) })).takeTrailer p f
    let ends := fun (v : State) => (Host.Outcome.next : State → Host.Outcome State Fault Refusal)
      (((if r.1 then v else v.protocolError p false).flush p).settle.idleBack p)
    (∀ (unc : Bool) (good bad : Byte), fuCrcOk f = false ∨ unc = true → ∃ t, exec (.crcFailedFu p f ⟨unc, good, bad⟩) s = .next t ∧
      t.reg (.fab p) 0x90 = BitVec.ofNat 32 (min 0xFFFFFFFF ((s.reg (.fab p) 0x90).toNat + 1)) ∧
      t.flag (.fab p) 0x10 8 = true ∧ (q.fec = true → bad ≠ 0 → t.flag (.fab p) 0x10 9 = true) ∧
      (q.parity = false → (t.port p).discard = true ∧ (t.port p).st = .up ∧ (t.port p).cnt = q.cnt) ∧
      (q.parity = true → (t.port p).st = .down ∧ (t.port p).cause = 5) ∧ t.hbm = s.hbm ∧ t.cores = s.cores) ∧
    (∀ good bad : Byte, fuCrcOk f = true → ∃ t, exec (.crcFailedFu p f ⟨false, good, bad⟩) s = .next t ∧
      (q.fec = true → good ≠ 0 →
        t.reg (.fab p) 0x94 = BitVec.ofNat 32 (min 0xFFFFFFFF ((s.reg (.fab p) 0x94).toNat + good.toNat))) ∧
      (q.fec = true → bad ≠ 0 → t.flag (.fab p) 0x10 9 = true ∧
        t.reg (.fab p) 0x98 = BitVec.ofNat 32 (min 0xFFFFFFFF ((s.reg (.fab p) 0x98).toNat + bad.toNat))) ∧
      (q.fec = false → t = s) ∧ t.ports = s.ports ∧ t.hbm = s.hbm ∧ t.cores = s.cores) ∧
    (fuCrcOk f = true → fuMalformed f = true → ∃ t : State, exec (.malformedFu p f) s = ends t ∧
      t.flag (.fab p) 0x10 12 = true ∧ (t.port p).discard = !q.parity ∧ t.hbm = s.hbm ∧ t.cores = s.cores) ∧
    (fuCrcOk f = true → fuMalformed f = false → f.type = 0 → exec (.idle p f) s = ends r.2) ∧
    (fuCrcOk f = true → fuMalformed f = false → f.type = 1 → q.parity = false → ∃ t : State,
      exec (.replayMark p f) s = ends t ∧ (t.port p).cnt = fuNum f 0 2 % 4096 ∧ t.hbm = s.hbm ∧
      ((q.exp + 4096 - fuNum f 0 2 % 4096) % 4096 < 2048 → (t.port p).discard = false ∧ (t.port p).exp = q.exp ∧
        (t.port p).st = .up) ∧
      (2048 ≤ (q.exp + 4096 - fuNum f 0 2 % 4096) % 4096 → t.flag (.fab p) 0x10 13 = true ∧ (t.port p).st ≠ .up)) ∧
    (fuCrcOk f = true → r.1 = true → fuMalformed f = false → 5 ≤ f.type.toNat → q.parity = false →
      q.discard = false → q.full f.vc.toNat = false → q.cnt < 4096 → q.exp < 4096 →
      (q.cnt = q.exp → ∃ u, s.arrive p f false = (some f, u) ∧
        (u.port p).exp = (q.exp + 1) % 4096 ∧ (u.port p).cnt = (q.cnt + 1) % 4096 ∧
        (u.port p).ackSeq = q.cnt ∧ (u.port p).ackValid = true ∧ u.hbm = s.hbm ∧ u.cores = s.cores) ∧
      (0 < (q.exp + 4096 - q.cnt) % 4096 → (q.exp + 4096 - q.cnt) % 4096 < 2048 →
        ∃ u, s.arrive p f false = (none, u) ∧ (u.port p).exp = q.exp ∧ (u.port p).st = .up ∧ u.hbm = s.hbm))

/-- The states of a port: an attempt with every lane locked on an enabled DOWN port leads to TRAINING, one without
leaves it DOWN with cause 3; INIT messages with SEEN sent and received take it UP, a timeout DOWN with cause 7; lost
lanes, the peer's pattern and software retrain an UP port; a completed retrain takes it UP again; and loss of signal
(2), a third failed retrain (4), a lane parity error (5), a replay parity error (6) and LINK_EN = 0 (1) take it down.
Where LINK_DOWN rises and what counts a replay are the model's readings: log entry 42. -/
def Obligations.PortsTrainAndFall : Prop :=
  ∀ (p : PortId) (s : State),
    let q := s.port p
    (∀ a : TrainAttempt, q.st = .down → s.linkEn p = true → s.fabricOn = true →
      (q.wake = true ∨ q.cause < 3 → ∃ t, exec (.trainingAttempt p a) s = .next t ∧
        (a.lanes = 0xFFFF → (t.port p).st = .training ∧ (t.port p).locked = true ∧ (t.port p).bistFail = !a.bistOk) ∧
        (a.lanes ≠ 0xFFFF → (t.port p).st = .down ∧ (t.port p).cause = 3) ∧ t.hbm = s.hbm ∧ t.cores = s.cores) ∧
      (q.cause = 3 ∨ q.cause = 7 → ∃ t, exec (.trainingRetry p a) s = .next t ∧
        (a.lanes = 0xFFFF → (t.port p).st = .training ∧ (t.port p).locked = true) ∧
        (a.lanes ≠ 0xFFFF → (t.port p).st = .down ∧ (t.port p).cause = 3))) ∧
    (q.st = .training → ∃ t, exec (.trainingTimeout p) s = .next t ∧ (t.port p).st = .down ∧ (t.port p).cause = 7) ∧
    (q.st = .training → q.locked = true → q.seen = true → q.gotSeen = true →
      ∃ t, exec (.initTimer p) s = .next t ∧ (t.port p).st = .up ∧ t.hbm = s.hbm) ∧
    (q.st = .training → q.locked = true → q.seen = false ∨ q.gotSeen = false → q.sentSeen = false →
      ∃ t, exec (.initTimer p) s = .next t ∧ (t.port p).st = .training ∧ (t.port p).sentSeen = q.seen ∧ t.hbm = s.hbm) ∧
    (∀ f : Fu, q.st = .training → f.type = 2 → fuCrcOk f = true →
      fuMalformed f = false → fuNum f 0 1 = 1 → q.sentSeen = true → fuNum f 1 1 % 2 = 1 →
      ∃ t : State, exec (.init p f) s = .next (t.settle.idleBack p) ∧ (t.port p).st = .up ∧ (t.port p).seen = true ∧ t.hbm = s.hbm) ∧
    (∀ i : Instr, i = .laneLockLoss p ∨ i = .peerRetrainPattern p → q.st = .up → ∃ t, exec i s = .next t ∧
      (t.port p).st = .retrain ∧ (t.port p).buf = q.buf ∧ (t.port p).exp = q.exp ∧ t.flag (.fab p) 0x10 11 = true ∧
      t.reg (.fab p) 0xB4 = BitVec.ofNat 32 (min 0xFFFFFFFF ((s.reg (.fab p) 0xB4).toNat + 1)) ∧ t.hbm = s.hbm) ∧
    (q.st = .retrain → ∃ t, exec (.retrainComplete p) s = .next t ∧ (t.port p).st = .up ∧
      (t.port p).afterRetrain = true ∧ (t.port p).exp = q.exp ∧ t.hbm = s.hbm) ∧
    (q.st = .retrain → ∃ t, exec (.relockTimeout p) s = .next t ∧ t.hbm = s.hbm ∧
      (if q.fails + 1 < 3 then (t.port p).st = .retrain ∧ (t.port p).fails = q.fails + 1
        else (t.port p).st = .down ∧ (t.port p).cause = 4)) ∧
    (q.st = .up → q.parity = false → q.buf ≠ [] → q.expiries + 1 < 8 → ∃ t, exec (.replayTimerExpiry p) s = .next t ∧
      (t.port p).expiries = q.expiries + 1 ∧ (t.port p).buf = q.buf ∧ t.flag (.fab p) 0x10 10 = true ∧
      t.reg (.fab p) 0x8C = BitVec.ofNat 32 (min 0xFFFFFFFF ((s.reg (.fab p) 0x8C).toNat + 1)) ∧ t.hbm = s.hbm) ∧
    (q.st = .up → q.parity = false → q.buf ≠ [] → ∃ t, exec (.replayParity p) s = .next t ∧ (t.port p).st = .down ∧
      (t.port p).cause = 6 ∧ t.flag (.fab p) 0x10 17 = true ∧ t.hbm = s.hbm) ∧
    (q.st = .up → q.parity = true → ∃ t, exec (.laneParityError p) s = .next t ∧ (t.port p).st = .down ∧
      (t.port p).cause = 5 ∧ t.hbm = s.hbm) ∧
    (q.st = .up ∨ q.st = .training ∨ q.st = .retrain → ∃ t, exec (.lossOfSignal p) s = .next t ∧
      (t.port p).st = .down ∧ (t.port p).cause = 2 ∧ (t.port p).signal = false ∧ t.flag (.fab p) 0x10 14 = true ∧
      t.hbm = s.hbm) ∧
    (∀ r : Requester, s.reaches r (.fab p) → s.isOwner r = true → s.flag (.fab p) 0x80 1 = false →
      (s.linkEn p = true → q.st = .up → ∃ t, exec (.fabRetrain r p) s = .next t ∧ (t.port p).st = .retrain ∧
        t.hbm = s.hbm) ∧
      (q.st ≠ .disabled → ∃ t, exec (.linkDisable r p) s = .next t ∧ (t.port p).st = .disabled ∧
        (t.port p).cause = 1 ∧ t.linkEn p = false ∧ t.hbm = s.hbm) ∧
      (s.linkEn p = false → q.st = .disabled → ∃ t, exec (.linkEnable r p) s = .next t ∧ (t.port p).st = .down ∧
        (t.port p).wake = true ∧ t.linkEn p = true ∧ t.hbm = s.hbm))

/-- What ports tell one another. A TIME_STAMP leaves its pair, a DELAY_REPORT one sample of the delay where its pair
is known; a HELLO that meets R318 makes the port's neighbour valid, another records a mismatch; a newer RING_STATE of
another device takes the place of the older; an expired one counts as showing neither side; a halt broadcast received
for the first time is shown in RAS and halts an active job at its next tick. The timers send, on the ports that are up,
the device's time, its HELLO, what its ports can do on an axis of two devices or more, and the pair of the latest
stamp. -/
def Obligations.PortsTellOneAnother : Prop :=
  ∀ s : State,
    let told := fun (p : PortId) (l : List Byte) (v : State) =>
      if (v.port p).st = .up then v.enqueue p (mkFu 3 5 0 0 l.length 0 l) false else v
    (∀ (p : PortId) (f : Fu) (s1 : State), s.arrive p f false = (some f, s1) →
    let ends := fun (v : State) => (Host.Outcome.next : State → Host.Outcome State Fault Refusal) (v.settle.idleBack p)
    (∀ (ns : BitVec 64) (fr : BitVec 16), f.type = 3 → ∃ t : State, exec (.timeStamp p f ns fr) s = ends t ∧
      (t.port p).stamps = (time16 (fuNum f 0 8) (fuNum f 8 2), time16 ns.toNat fr.toNat) :: (s1.port p).stamps ∧
      (t.port p).peerLock = fuNum f 10 1 ∧ t.hbm = s.hbm ∧ t.cores = s.cores) ∧
    (∀ b a, f.type = 5 → fuNum f 0 1 = 1 →
      nearestStamp (time16 (fuNum f 4 8) (fuNum f 2 2)) (s1.port p).stamps = some (b, a) →
      ∃ t : State, exec (.delayReport p f) s = ends t ∧ (t.port p).delayValid = true ∧
        (t.port p).samples = (((a - time16 (fuNum f 4 8) (fuNum f 2 2)) - (b - time16 (fuNum f 12 8) (fuNum f 20 2))) ::
          (s1.port p).samples).take 16 ∧ t.hbm = s.hbm) ∧
    (f.type = 5 → fuNum f 0 1 = 0 → ∃ t : State, exec (.hello p f) s = ends t ∧ t.hbm = s.hbm ∧
      (s1.helloOk p f = true → (t.port p).nbValid = true ∧ (t.port p).nbMismatch = false) ∧
      (s1.helloOk p f = false → (t.port p).nbMismatch = true ∧ t.flag (.fab p) 0x10 18 = true)) ∧
    (f.type = 5 → fuNum f 0 1 = 2 → fuNum f 1 1 = p.val / 2 → fuNum f 2 1 < s1.ring (p.val / 2) →
      fuNum f 2 1 ≠ destAxis s1.own (p.val / 2) →
      let seq : Word := BitVec.ofNat 32 (fuNum f 4 4)
      (∀ r, s1.ringRec (p.val / 2) (fuNum f 2 1) = some r → 0 < (seq - r.seq).toNat ∧ (seq - r.seq).toNat < 2 ^ 31) →
      ∃ t : State, exec (.ringState p f) s = ends t ∧ t.ringRec (p.val / 2) (fuNum f 2 1) = some {
          axis := p.val / 2, coord := fuNum f 2 1, plus := fuNum f 3 1 % 2 == 1, minus := fuNum f 3 1 / 2 % 2 == 1
          seq := seq } ∧ t.hbm = s.hbm) ∧
    (f.type = 4 → s1.frt.seen.contains (BitVec.ofNat 32 (fuNum f 0 4), BitVec.ofNat 64 (fuNum f 8 8)) = false →
      ∃ t : State, exec (.haltBcast p f) s = ends t ∧
        t.reg .ras 0x8C = BitVec.ofNat 32 (fuNum f 4 1 * 2 ^ 24 + destOfCoord (BitVec.ofNat 32 (fuNum f 0 4))) ∧
        t.reg64 .ras 0x90 = fuNum f 8 8 ∧ t.flag .ras 0x10 8 = true ∧
        (BitVec.ofNat 32 (fuNum f 0 4), BitVec.ofNat 64 (fuNum f 8 8)) ∈ t.frt.seen ∧
        (s1.job.st.active = true → ∃ h ∈ t.job.halts, h.code = fuNum f 4 1 ∧
          h.remote = some (p, BitVec.ofNat 24 (destOfCoord (BitVec.ofNat 32 (fuNum f 0 4))))) ∧
        t.job.st = s1.job.st ∧ t.hbm = s.hbm)) ∧
    (∀ (ax : AxisId) (x : BitVec 6), ∃ t, exec (.ringStateExpiry ax x) s = .next t ∧ t.hbm = s.hbm ∧ t.ports = s.ports ∧
      t.frt.recs = s.frt.recs.map (fun r => if r.axis = ax.val ∧ r.coord = x.toNat then
        { r with plus := false, minus := false } else r)) ∧
    (∀ (i : Instr) (p : PortId), i = .timeStampTimer ∨ i = .helloTimer ∨ i = .ringStateTimer ∨ i = .delayReportTimer p →
      ∃ t, exec i s = .next t ∧ t.hbm = s.hbm ∧ t.cores = s.cores ∧ t.job = s.job ∧ t.tim = s.tim ∧
        (∀ k, (t.port k).st = (s.port k).st ∧ (t.port k).nbValid = (s.port k).nbValid)) ∧
    ((∃ t, exec .timeStampTimer s = .next t ∧ ∀ p, (s.port p).st = .up → ∃ u, Output.fu p u ∈ t.out ∧ u.type = 3 ∧
        u.payload = leBytes s.tim.now.toNat 8 ++ leBytes s.tim.frac.toNat 2 ++ leBytes s.tim.lock.code 1 ++ [0] ++
          leBytes s.tick 8) ∧
      exec .helloTimer s = .next (s.each (allFin 8) (fun v p => told p ([0] ++ leBytes p.val 1 ++
        leBytes (s.field .glb 0x98 7 0) 1 ++ [0] ++ leBytes (s.reg .glb 0x9C).toNat 4 ++
        leBytes (s.reg .frt 0x80).toNat 4 ++ leBytes (s.reg .glb 0x80).toNat 4) v)) ∧
      (∀ (p : PortId) (tx rx : Int) (l : List (Int × Int)), (s.port p).stamps = (tx, rx) :: l →
        exec (.delayReportTimer p) s = .next (told p ([1, 0] ++ leBytes (tx.toNat % 65536) 2 ++
          leBytes (tx.toNat / 65536) 8 ++ leBytes (rx.toNat / 65536) 8 ++ leBytes (rx.toNat % 65536) 2) s)) ∧
      exec .ringStateTimer s = .next (s.each [0, 1, 2, 3] (fun v ax =>
        if s.ring ax < 2 then v
        else
          let seq := v.frt.seq.getD ax 0 + 1
          let m := [2] ++ leBytes ax 1 ++ leBytes (destAxis s.own ax) 1 ++
            leBytes (bit (s.usable (axisPort ax true)) + 2 * bit (s.usable (axisPort ax false))) 1 ++
            leBytes seq.toNat 4 ++ leBytes (s.reg .glb 0x9C).toNat 4
          told (axisPort ax false) m (told (axisPort ax true) m
            { v with frt := { v.frt with seq := v.frt.seq.set ax seq } }))))

/-! ### Geode (R365 to R390) -/

/-- A die's agent that is done has put its shard into the target slot and hashed it, and one that has nothing to copy
changes nothing; at the window an agent that is not done (3) or poison seen (4, halt cause 0x05) stops the snapshot and
the newest point stays; at the deadline a written point is committed. A GEO_HELLO on the buddy axis tells of the buddy;
one that names another buddy port is a mismatch, one with the device's own feed is SAME_FEED, and a drain that either
bars ends; after 5 ms without one the buddy is unknown; while enabled the device sends one on both ports (R376 to R381).
How a drain that runs ends is the model's reading: log entry 72. -/
def Obligations.SnapshotsAndBuddyHellos : Prop :=
  ∀ s : State,
    (∀ (d : DieId) (c : Copying), s.geo.copying = some c → c.todo.contains d = true → s.geo.writing = false →
      s.tim.window = false → (s.die d).up = true → s.anyLost = false →
      let c' := { c with todo := c.todo.filter (· != d)
                         sha := c.sha ++ [(d, sha256 ((s.shardBytes d.val).map (·.1)))]
                         poison := c.poison.or ((s.shardBlocks d.val).find? s.poisoned) }
      let u := s.each (s.shardBlocks d.val) (fun v b => v.enter .agent b 64)
      exec (.copyAgentDone d) s = .next (({ u with geo := { u.geo with copying := some c' } }).areaWrite d.val
        (slotAt s.geo.slotLen (bit c.slotB)) (s.shardBytes d.val))) ∧
    (∀ (d : DieId), (∀ c, s.geo.copying = some c → c.todo.contains d = false) ∨ s.geo.writing = true ∨
      s.tim.window = true ∨ (s.die d).up = false → exec (.copyAgentDone d) s = .next s) ∧
    (∀ c : Copying, s.geo.copying = some c → c.dieDown = false →
      (c.todo ≠ [] → s.snapWindow.geo.copying = none ∧ s.snapWindow.geo.last = 3 ∧
        s.snapWindow.geo.points = s.geo.points ∧ s.snapWindow.flag .geo 0x10 8 = true ∧ s.snapWindow.hbm = s.hbm) ∧
      (∀ a, c.todo = [] → c.poison = some a → s.snapWindow.geo.copying = none ∧ s.snapWindow.geo.last = 4 ∧
        s.snapWindow.geo.points = s.geo.points ∧ s.snapWindow.flag .geo 0x10 10 = true ∧ s.snapWindow.hbm = s.hbm) ∧
      (s.geo.writing = true → s.geo.points.length = 4 →
        s.snapCommit.point (bit c.slotB) = { valid := true, step := s.geo.step, tick := c.tick, origin := s.reg .glb 0x9C } ∧
        s.snapCommit.point (1 - bit c.slotB) = s.point (1 - bit c.slotB) ∧ s.snapCommit.geo.last = 1 ∧
        s.snapCommit.flag .geo 0x38 4 = true ∧ s.snapCommit.hbm = s.hbm)) ∧
    (∀ (p : PortId) (f : Fu) (s1 : State), s.arrive p f false = (some f, s1) → f.type = 5 → fuNum f 0 1 = 3 →
      ∃ t : State, exec (.geoHello p f) s = .next (t.settle.idleBack p) ∧ t.hbm = s1.hbm ∧ t.cores = s1.cores ∧
        t.job.st = s1.job.st ∧
        (p ≠ s1.buddyPort → t.geo.hello = s1.geo.hello) ∧
        (p = s1.buddyPort → t.geo.hello = some {
            port := p, axis := fuNum f 1 1, region := fuNum f 2 1 % 2 == 1,
            mode := fuNum f 2 1 / 2 % 4, feed := BitVec.ofNat 8 (fuNum f 3 1), coord := BitVec.ofNat 32 (fuNum f 4 4),
            base := BitVec.ofNat 64 (fuNum f 8 8), len := BitVec.ofNat 64 (fuNum f 16 8),
            slotLen := BitVec.ofNat 64 (fuNum f 24 8) }) ∧
        (p = s1.buddyPort ∨ p = oppositePort s1.buddyPort →
          t.geo.mismatch.contains p = (fuNum f 1 1 != s1.buddyPort.val) ∧
          (fuNum f 1 1 ≠ s1.buddyPort.val → s1.geo.mismatch.contains p = false → t.flag .geo 0x10 12 = true) ∧
          t.geo.same.contains p = (fuNum f 3 1 == s1.feed) ∧
          (fuNum f 3 1 = s1.feed → s1.geo.same.contains p = false → t.flag .geo 0x10 11 = true) ∧
          (t.drainBarred s1.buddyPort = true → t.geo.drain.st ≠ .opening ∧ t.geo.drain.st ≠ .draining)) ∧
        (p ≠ s1.buddyPort ∧ p ≠ oppositePort s1.buddyPort → t = s1.freeCredit p 3)) ∧
    exec .geoHelloExpiry s = .next { s with geo := { s.geo with hello := none } } ∧
    (let u := { s with geo := { s.geo with inRead := [] } }
      ∀ m, m = [3] ++ leBytes s.buddyPort.val 1 ++ leBytes (bit (decide (s.pwr.st ≠ .retain)) + 2 * s.interleave) 1 ++
        leBytes s.feed 1 ++ leBytes (s.reg .glb 0x9C).toNat 4 ++ leBytes s.geo.base 8 ++ leBytes s.geo.len 8 ++
        leBytes s.geo.slotLen 8 →
        exec .geoHelloTimer s = .next (if s.geo.enabled then
          (u.discovery s.buddyPort m).discovery (oppositePort s.buddyPort) m else u))

/-- The buddy drain as its sender: the newest committed point that has not been drained is offered with its STEP,
SNAP_TICK and shard lengths; a grant starts the writes; a refusal, no grant in 1 ms and an abort leave the drain
waiting for its retry, with DRAIN_FAIL. As its receiver: no area (2), the feed (3), a shard that does not fit (4) or an
IN slot that a restore reads (1) refuse; otherwise the IN slot that does not hold the newest inbound point is zeroed and
granted, and DRAIN_DONE makes the point that its headers give complete (R382). When an IN slot counts as read by a
restore is the model's choice: log entry 71. -/
def Obligations.BuddyDrains : Prop :=
  ∀ s : State,
    (∀ b, s.pwr.st ≠ .retain → s.geo.enabled = true → s.job.st.drains = true →
      s.newestLocal = some b → (∀ q, s.geo.drain.last = some q → q.before (s.point (bit b)) = true) →
      let d := { s.geo.drain with st := .opening, slotB := b, point := s.point (bit b), tags := [], sent := 0
                                  total := (s.pointLens (bit b)).sum, phase := 0 }
      let opened := ({ s with geo := { s.geo with drain := d } }).discovery s.buddyPort ([4, 0, 0, 0] ++ s.coordBytes ++
        leBytes (s.point (bit b)).step.toNat 8 ++ leBytes (s.point (bit b)).tick.toNat 8 ++
        (s.pointLens (bit b)).flatMap (fun n => leBytes n 8))
      let refused := { s with geo := { s.geo with drain := { s.geo.drain with st := .noBuddy } } }
      (s.geo.drain.st = .idle ∨ s.geo.drain.st = .noBuddy →
        exec .buddyDrainStart s = .next (if s.buddyUsable then opened else refused).settle) ∧
      (s.geo.drain.st = .waiting → exec .drainRetry s = .next (if s.buddyUsable then opened else refused).settle)) ∧
    (s.geo.drain.st = .opening → ∃ t, exec .drainGrantTimeout s = .next t ∧ t.geo.drain.st = .waiting ∧
      t.geo.drain.result = 5 ∧ t.geo.drain.point = s.geo.drain.point ∧ t.flag .geo 0x10 13 = true ∧ t.hbm = s.hbm) ∧
    (∀ (p : PortId) (f : Fu) (s1 : State), s.arrive p f false = (some f, s1) → f.type = 5 →
      let u := s1.freeCredit p 3
      (fuNum f 0 1 = 5 → p = s1.buddyPort → s1.geo.drain.st = .opening →
        (fuNum f 1 1 = 0 → exec (.drainGrant p f) s = .next (((({ u with geo := { u.geo with drain :=
          { u.geo.drain with st := .draining, inB := fuNum f 2 1 == 1, result := 0 } } }).drainPush).settle).idleBack p)) ∧
        (fuNum f 1 1 ≠ 0 → ∃ t : State, exec (.drainGrant p f) s = .next (t.settle.idleBack p) ∧ t.geo.drain.st = .waiting ∧
          t.geo.drain.result = fuNum f 1 1 % 16 ∧ t.flag .geo 0x10 13 = true ∧ t.hbm = s1.hbm)) ∧
      (fuNum f 0 1 = 7 →
        (p = s1.buddyPort → s1.geo.drain.st = .opening ∨ s1.geo.drain.st = .draining →
          ∃ t : State, exec (.drainAbort p f) s = .next (t.settle.idleBack p) ∧ t.geo.drain.st = .waiting ∧ t.flag .geo 0x10 13 = true ∧
            t.geo.inDrain = s1.geo.inDrain ∧ t.hbm = s1.hbm) ∧
        (p = oppositePort s1.buddyPort → ∃ t : State, exec (.drainAbort p f) s = .next (t.settle.idleBack p) ∧ t.geo.inDrain = none ∧
          t.geo.drain = s1.geo.drain ∧ t.hbm = s1.hbm)) ∧
      (fuNum f 0 1 = 4 → p = oppositePort s1.buddyPort → s1.geo.mismatch.contains p = false →
        let grant := fun (v : State) (result slot : Nat) => (Host.Outcome.next : State → Host.Outcome State Fault Refusal)
          ((v.discovery p ([5] ++ leBytes result 1 ++ leBytes slot 1 ++ [0] ++ s1.coordBytes)).settle.idleBack p)
        let fits := ∀ n, n < 4 → fuNum f (24 + 8 * n) 8 ≤ s1.geo.slotLen
        let feeds := s1.feedWarn = true ∨ (s1.port p).nbFeed.toNat ≠ s1.feed
        (s1.geo.enabled = false → exec (.drainOpen p f) s = grant u 2 0) ∧
        (s1.geo.enabled = true → ¬feeds → exec (.drainOpen p f) s = grant u 3 0) ∧
        (s1.geo.enabled = true → feeds → ¬fits → exec (.drainOpen p f) s = grant u 4 0) ∧
        (s1.geo.enabled = true → feeds → fits →
          let b := (s1.point 2).valid && !((s1.point 3).valid && (s1.point 2).before (s1.point 3))
          let z := u.zeroRecords (2 + bit b)
          (s1.geo.inRead.contains (2 + bit b) = true → exec (.drainOpen p f) s = grant u 1 0) ∧
          (s1.geo.inRead.contains (2 + bit b) = false → exec (.drainOpen p f) s = grant { z with geo := { z.geo with
            inDrain := some (b, p, BitVec.ofNat 64 (fuNum f 8 8), BitVec.ofNat 64 (fuNum f 16 8)) } } 0 (bit b)))) ∧
      (∀ b step tick, fuNum f 0 1 = 6 → s1.geo.inDrain = some (b, p, step, tick) → fuNum f 8 8 = step.toNat →
        fuNum f 16 8 = tick.toNat → s1.anyLost = false → s1.geo.points.length = 4 →
        ∃ t : State, exec (.drainDone p f) s = .next (t.settle.idleBack p) ∧ t.geo.inDrain = none ∧ t.hbm = s1.hbm ∧
          t.point (2 + bit b) = if (s1.readPoint (2 + bit b)).valid = true ∧ (s1.readPoint (2 + bit b)).step = step ∧
            (s1.readPoint (2 + bit b)).tick = tick then s1.readPoint (2 + bit b) else s1.point (2 + bit b)))

/-- Host drains: GO from the owner in the states of R383 starts one on the newest committed point, or ends with the
first ERROR that applies; a durable one waits armed for the tick that ends a slot whose point commits; ABORT ends it
with ERROR 5; the file is sent, a 4 KiB block with EP where poisoned data stands in it, and HOST_DONE raised, or ERROR 4
where a port cannot send; elsewhere GO is a violation that changes nothing (R383, R384, R389). A write that sets GO and
ABORT is taken in that order by the model's choice: log entry 23. -/
def Obligations.HostDrains : Prop :=
  ∀ s : State,
    let h := s.geo.host
    let first := fun (durable : Bool) (ports : Nat) (b : Bool) =>
      if (((s.copies (bit b)).getD 0 []).drop 64).take 32 ≠ s.geo.digest then 2
      else if s.reg64 .geo 0xD0 < s.fileLen durable then 3
      else if s.portsSend ports = false then 4 else 0
    (∀ (r : Requester) (port : BitVec 2), s.reaches r .geo → s.isOwner r = true → port ≠ 0 → h.st ≠ 1 → h.st ≠ 2 →
      s.pwr.st ≠ .retain →
      (s.job.st.drains = true → ∃ t, exec (.hostDrain r port) s = .next t ∧ t.geo.host.durable = false ∧
        t.geo.host.ports = port.toNat ∧ t.geo.host.attempts = h.attempts ∧ t.hbm = s.hbm ∧
        (s.newestLocal = none → t.geo.host.st = 4 ∧ t.geo.host.err = 1 ∧ t.flag .geo 0x10 15 = true) ∧
        (∀ b, s.newestLocal = some b →
          (first false port.toNat b = 0 → t.geo.host.st = 2 ∧ t.geo.host.err = 0 ∧ t.geo.host.reading = true ∧
            t.geo.host.slotB = b ∧ t.geo.host.point = s.point (bit b)) ∧
          (first false port.toNat b ≠ 0 → t.geo.host.st = 4 ∧ t.geo.host.err = first false port.toNat b ∧
            t.flag .geo 0x10 15 = true ∧ t.flag .geo 0x38 1 = true))) ∧
      (s.job.st.active = true → ∃ t, exec (.durableDrain r port) s = .next t ∧ t.geo.host.st = 1 ∧
        t.geo.host.durable = true ∧ t.geo.host.ports = port.toNat ∧ t.geo.host.err = 0 ∧ t.hbm = s.hbm)) ∧
    (∀ (r : Requester) (port : BitVec 2), s.reaches r .geo → s.isOwner r = true →
      (s.job.st.drains = false ∨ h.st = 1 ∨ h.st = 2 ∨ port = 0 → ∃ t, exec (.hostDrain r port) s = .next t ∧
        t.geo.host = h ∧ t.flag .geo 0x10 0 = true ∧ t.hbm = s.hbm) ∧
      (s.job.st.active = false ∨ h.st = 1 ∨ h.st = 2 ∨ port = 0 → ∃ t, exec (.durableDrain r port) s = .next t ∧
        t.geo.host = h ∧ t.flag .geo 0x10 0 = true ∧ t.hbm = s.hbm) ∧
      (h.st = 1 ∨ h.st = 2 → ∃ t, exec (.hostDrainAbort r) s = .next t ∧ t.geo.host.st = 4 ∧ t.geo.host.err = 5 ∧
        t.flag .geo 0x10 15 = true ∧ t.flag .geo 0x38 1 = true ∧ t.geo.points = s.geo.points ∧ t.hbm = s.hbm) ∧
      (h.st ≠ 1 → h.st ≠ 2 → ∃ t, exec (.hostDrainAbort r) s = .next t ∧ t.geo.host = h ∧ t.hbm = s.hbm)) ∧
    (s.geo.durDue = true → h.st = 1 → s.pwr.st ≠ .retain →
      ∃ t : State, exec .durableCommit s = .next t.settle ∧ t.geo.durDue = false ∧ t.geo.durCommitted = true ∧ t.hbm = s.hbm ∧
        (∀ b, s.newestLocal = some b → first h.durable h.ports b = 0 → t.geo.host.st = 2 ∧ t.geo.host.reading = true ∧
          t.geo.host.slotB = b ∧ t.geo.host.point = s.point (bit b))) ∧
    (h.st = 2 → h.reading = true → s.pwr.st ≠ .retain → s.field .geo 0xA0 31 16 ≠ 0 →
      (s.portsSend h.ports = false → ∃ t, exec .hostDone s = .next t ∧ t.geo.host.st = 4 ∧ t.geo.host.err = 4 ∧
        t.hbm = s.hbm) ∧
      (s.portsSend h.ports = true → s.anyLost = false →
        let file := s.shardFile h.durable (bit h.slotB) h.point
        ∃ t, exec .hostDone s = .next t ∧ t.geo.host.st = 3 ∧ t.flag .geo 0x38 0 = true ∧
          t.hbm = s.hbm ∧ t.geo.points = s.geo.points ∧ ∀ e ∈ (chunks 4096 file.1.length file.1).zipIdx,
            Output.hostWrite (if h.ports = 1 then .h0 else if h.ports = 2 then .h1 else if e.2 % 2 = 0 then .h0 else .h1)
              (s.reg64 .geo 0xC8 + 4096 * e.2) e.1
              (file.2.any (fun r => decide (r.1 < 4096 * e.2 + e.1.length ∧ 4096 * e.2 < r.1 + r.2))) false ∈ t.out))

/-- Restores: GO in LOADED without one running copies a local point back whose checks 1 to 4 pass, and writes no byte
where one fails; elsewhere it is a violation. At the end GEO_STEP is the point's STEP and DONE is set, or ERROR is the
failed check's number, 7 for poison, 8 where the job has left LOADED. GEO_STEP is written as a pair in LOADED only
(R375, R386, R535). That GEO_STEP_HI without its low word has no effect is the model's choice: log entry 24. -/
def Obligations.RestoresAndTheStepNumber : Prop :=
  ∀ s : State,
    (∀ (r : Requester) (src : BitVec 2), s.reaches r .geo → s.isOwner r = true →
      (s.job.st ≠ .loaded ∨ s.geo.restore.busy = true → ∃ t, exec (.restore r src) s = .next t ∧
        t.geo = s.geo ∧ t.flag .geo 0x10 0 = true ∧ t.hbm = s.hbm) ∧
      (s.job.st = .loaded → s.geo.restore.busy = false → s.anyLost = false → src.toNat < 2 →
        let fail := if s.copiesBad src.toNat = true then some 1 else s.recordCheck (s.copies src.toNat)
        let now := (s.areaRead 0 (slotAt s.geo.slotLen src.toNat) s.versionTable.length).map (·.1)
        (∀ e, fail = some e ∨ (fail = none ∧ now ≠ s.versionTable ∧ e = 4) →
          ∃ t, exec (.restore r src) s = .next t ∧ t.geo.restore = { busy := true, source := src.toNat, stage := 3, err := e } ∧
            t.hbm = s.hbm ∧ t.geo.step = s.geo.step) ∧
        (fail = none → now = s.versionTable →
          let u := ({ s with geo := { s.geo with restore := { busy := true, source := src.toNat } } }).setReg .geo 0xD8
            (mixWord 3 (s.reg .geo 0xD8) (BitVec.ofNat 32 src.toNat))
          let v := (u.checkPoint src.toNat).enterArea 0 (slotAt s.geo.slotLen src.toNat) s.versionTable.length
          exec (.restore r src) s = .next (v.restoreShards src.toNat ((s.copies src.toNat).getD 0 []) [0, 1, 2, 3]))) ∧
      (s.job.st = .loaded → s.geo.restore.busy = false → 2 ≤ src.toNat → s.buddyUsable = false →
        ∃ t, exec (.restore r src) s = .next t ∧ t.geo.restore.busy = true ∧ t.geo.restore.err = 6 ∧
          t.geo.restore.stage = 3 ∧ t.hbm = s.hbm)) ∧
    (s.pwr.st ≠ .retain → s.geo.restore.busy = true → s.geo.restore.stage = 3 → s.geo.restore.source < 2 →
      s.job.st = .loaded →
      (∀ e, s.geo.restore.err = e → e ≠ 0 ∨ s.geo.restore.poison = true → ∃ t : State, exec .restoreDone s = .next t.settle ∧
        t.geo.restore.busy = false ∧ t.geo.restore.done = false ∧ t.geo.restore.err = (if e = 0 then 7 else e) ∧
        t.geo.step = s.geo.step ∧ t.flag .geo 0x10 16 = true ∧ t.flag .geo 0x38 3 = true ∧ t.hbm = s.hbm) ∧
      (s.geo.restore.err = 0 → s.geo.restore.poison = false → ∃ t : State, exec .restoreDone s = .next t.settle ∧
        t.geo.restore.busy = false ∧ t.geo.restore.done = true ∧ t.geo.restore.err = 0 ∧
        t.geo.step = BitVec.ofNat 64 (recNum ((s.copies s.geo.restore.source).getD 0 []) 8 8) ∧
        t.flag .geo 0x38 2 = true ∧ t.hbm = s.hbm)) ∧
    (s.pwr.st ≠ .retain → s.geo.restore.busy = true → s.geo.restore.stage = 3 → s.geo.restore.source < 2 →
      s.job.st ≠ .loaded → ∃ t : State, exec .restoreDone s = .next t.settle ∧ t.geo.restore.busy = false ∧
        t.geo.restore.err = 8 ∧ t.geo.step = s.geo.step ∧ t.flag .geo 0x10 16 = true ∧ t.hbm = s.hbm) ∧
    (∀ (r : Requester) (v : Word), s.reaches r .geo → s.isOwner r = true → s.job.st = .loaded →
      (∃ t, exec (.geoStepLoWrite r v) s = .next t ∧ t.geo.step = s.geo.step ∧ heldOf t.geo.loHeld r = some v ∧
        (∀ q, q ≠ r → heldOf t.geo.loHeld q = heldOf s.geo.loHeld q) ∧ t.regs = s.regs ∧ t.hbm = s.hbm) ∧
      (∀ lo, heldOf s.geo.loHeld r = some lo → ∃ t, exec (.geoStepHiWrite r v) s = .next t ∧
        t.geo.step = BitVec.ofNat 64 (v.toNat * 2 ^ 32 + lo.toNat) ∧ heldOf t.geo.loHeld r = none ∧
        t.regs = s.regs ∧ t.hbm = s.hbm))

/-! ### The hosts (R391 to R418) -/

/-- The BAR2 window. A read or a write of local memory through an open window moves its bytes with their poison; a
closed window, a coordinate outside the hall, a write from a port that does not own the device and a range that is not
served or is the image end in a Completer Abort or a discarded write, recorded and counted, and change no memory; a
write that arrives poisoned is recorded and writes poison; a window onto another device becomes a remote request (R396
to R399). How refused accesses are counted is the model's reading: log entry 30. -/
def Obligations.WindowReachesMemory : Prop :=
  ∀ (h : HostId) (w : BitVec 36) (s : State), s.portTakes h = true →
    let g := s.bar2Global h w.toNat
    let off := globalOff g
    let open_ := s.pwr.warm = false ∧ s.flag (.hif h) 0x88 0 = true ∧ s.coordOk (globalDest g) = true
    let aborts := fun (t : State) => Output.completerAbort (.mmio h) ∈ t.out ∧ t.flag (.hif h) 0x10 0 = true ∧
      t.reg (.hif h) 0x90 = BitVec.ofNat 32 (min 0xFFFFFFFF ((s.reg (.hif h) 0x90).toNat + 1)) ∧ t.hbm = s.hbm ∧
      t.cores = s.cores ∧ t.trackers = s.trackers
    let drops := fun (t : State) => t.flag (.hif h) 0x10 0 = true ∧
      t.reg (.hif h) 0x94 = BitVec.ofNat 32 (min 0xFFFFFFFF ((s.reg (.hif h) 0x94).toNat + 1)) ∧ t.hbm = s.hbm ∧
      t.cores = s.cores ∧ t.trackers = s.trackers
    (∀ len : Nat,
      (¬open_ → ∃ t : State, exec (.bar2Read h w len) s = .next t.settle ∧ aborts t) ∧
      (open_ → len = 0 → ∃ t : State, exec (.bar2Read h w len) s = .next t.settle ∧
        Output.bar2Data h w.toNat [] false ∈ t.out ∧ t.hbm = s.hbm ∧ t.regs = s.regs) ∧
      (open_ → globalDest g = s.own → s.anyLost = false →
        (s.okPrefix off len false < len → ∃ t : State, exec (.bar2Read h w len) s = .next t.settle ∧ aborts t) ∧
        (len ≤ s.okPrefix off len false → ∃ t : State, exec (.bar2Read h w len) s = .next t.settle ∧
          Output.bar2Data h w.toNat (s.bytes off len) ((List.range len).any (fun i => s.poisoned (off + i))) ∈ t.out ∧
          t.hbm = s.hbm ∧ t.cores = s.cores ∧
          ((List.range len).any (fun i => s.poisoned (off + i)) = true → t.flag .ras 0x10 9 = true))) ∧
      (open_ → 0 < len → globalDest g ≠ s.own →
        let r := s.requestReads (.bar2 h s.nextTag) g len
        let b : Bar2Read := { key := s.nextTag, w := w.toNat, g := g, len := len, tags := r.1 }
        exec (.bar2Read h w len) s =
          .next ((r.2.modHost h (fun p => { p with reads := p.reads ++ [b] })).pump).settle)) ∧
    (∀ (data : List Byte) (ep : Bool),
      let v := if ep then s.poisonRx h g else s
      (globalDest g = s.own → s.hitsImage off data.length = true → ∃ t : State,
        exec (.bar2Write h w data ep) s = .next t.settle ∧ drops t ∧ t.flag .glb 0x10 0 = true) ∧
      (¬open_ ∨ s.owner.host ≠ some h →
        ∃ t : State, exec (.bar2Write h w data ep) s = .next t.settle ∧ drops t) ∧
      (ep = true → ∃ t : State, exec (.bar2Write h w data ep) s = .next t.settle ∧ t.flag (.hif h) 0x10 9 = true) ∧
      (open_ → s.owner.host = some h → globalDest g = s.own →
        (s.okPrefix off data.length true < data.length →
          ∃ t : State, exec (.bar2Write h w data ep) s = .next t.settle ∧ drops t) ∧
        (data.length ≤ s.okPrefix off data.length true → s.hitsImage off data.length = false →
          exec (.bar2Write h w data ep) s = .next ((v.enter .system off data.length).write off data ep).settle)) ∧
      (open_ → s.owner.host = some h → globalDest g ≠ s.own →
        let r := v.requestWrites (.bar2Write h s.nextTag) g (data.map (fun b => (b, ep))) 0x11 0 0
        let post : Bar2Post := { key := s.nextTag, g := g }
        exec (.bar2Write h w data ep) s =
          .next ((r.2.modHost h (fun p => { p with posts := p.posts ++ [post] })).pump).settle))

/-- Host DMA. A doorbell inside the ring sets TAIL, any other is dropped, counted and recorded; EN from the bound port
starts a channel at the first entry with phase 1, and stops one; a descriptor from host memory is read there and moves
its bytes, its record with the tag, the count, the index, the status and the phase goes out behind them and HEAD moves
on; one that could not be read ends in ERROR with status 1, one with a field outside R405 with 4, one that names no
device of the hall with 2; poison from the host is recorded, travels with the bytes and gives status 3 (R404 to R409).
That channels have no order among themselves, and what enabling a stopping channel drops, are the model's choice: log
entry 41. -/
def Obligations.DmaMovesDescriptors : Prop :=
  ∀ (c : ChanId) (s : State),
    let o := chanAt c
    let x := s.chan c
    let n := s.ringSize c
    (∀ (h : HostId) (v : Word), s.portTakes h = true →
      (s.doorbellOk h c (v.toNat % 65536) = true → ∃ t, exec (.dmaDb h c v) s = .next t ∧
        t.chan c = { x with tail := v.toNat % 65536 } ∧ t.reg .dma (o + 0x1C) = BitVec.ofNat 32 (v.toNat % 65536) ∧
        (∀ k, k ≠ c → t.chan k = s.chan k) ∧ t.hbm = s.hbm ∧ t.job = s.job) ∧
      (s.doorbellOk h c (v.toNat % 65536) = false → ∃ t, exec (.dmaDb h c v) s = .next t ∧ t.chans = s.chans ∧
        t.flag (.hif h) 0x10 0 = true ∧ t.hbm = s.hbm ∧
        t.reg (.hif h) 0x94 = BitVec.ofNat 32 (min 0xFFFFFFFF ((s.reg (.hif h) 0x94).toNat + 1)))) ∧
    (∀ r : Requester, s.reaches r .dma → r = .mmio (s.chanHost c) →
      (s.chanOn c = false → ∃ t, exec (.channelEnable r c) s = .next t ∧ t.chan c = { st := .running } ∧
        t.chanOn c = true ∧ t.chanHost c = s.chanHost c ∧ t.ringSize c = n ∧ t.hbm = s.hbm) ∧
      (s.chanOn c = true → ∃ t, exec (.channelDisable r c) s = .next t ∧ t.chanOn c = false ∧ t.hbm = s.hbm ∧
        (x.st ≠ .idle → (∀ j, x.job = some j → j.tags = []) → t.chan c = { x with st := .idle, job := none }) ∧
        (∀ j, x.st ≠ .idle → x.job = some j → j.tags ≠ [] → t.chan c = { x with st := .stopping }))) ∧
    (∀ i : DmaInput, x.st = .running → x.job = none → x.head ≠ x.tail → s.hostSends (s.chanHost c) = true →
      let record := fun (tag : Word) (moved status : Nat) => Output.hostWrite (s.chanHost c)
        (s.reg64 .dma (o + 0x10) + 16 * x.head) (leBytes tag.toNat 4 ++ leBytes moved 4 ++ leBytes x.head 2 ++
          leBytes status 1 ++ leBytes (bit x.phase) 1 ++ [0, 0, 0, 0]) false false
      let steps := fun (t : State) => exec (.dmaCompletion c i) s = .next t.settle ∧
        (t.chan c).head = (x.head + 1) % n ∧ (t.chan c).tail = x.tail ∧
        (t.chan c).phase = (x.phase != decide (x.head + 1 = n)) ∧ (t.chan c).job = none ∧
        Output.hostRead (s.chanHost c) (s.reg64 .dma (o + 8) + 32 * x.head) 32 ∈ t.out
      let ends := fun (t : State) (status : Nat) => (t.chan c).st = .error ∧ t.flag .dma 0x10 (dmaBit status) = true ∧
        t.reg .dma (o + 0x18) = BitVec.ofNat 32 (status * 65536 + x.head) ∧ t.hbm = s.hbm
      (i.descErr = true → ∃ t tag, steps t ∧ ends t 1 ∧ record tag 0 1 ∈ t.out) ∧
      (i.descErr = false → dmaFields i.desc = none → ∃ t, steps t ∧ ends t 4 ∧
        record (BitVec.ofNat 32 (recNum i.desc 20 4)) 0 4 ∈ t.out) ∧
      (∀ j, i.descErr = false → dmaFields i.desc = some j →
        (s.coordOk (globalDest j.dev) = false → ∃ t, steps t ∧ ends t 2 ∧ record j.tag 0 2 ∈ t.out) ∧
        (s.coordOk (globalDest j.dev) = true → globalDest j.dev ≠ s.own → j.toHost = true ∨ i.data ≠ [] →
          ∃ t : State, exec (.dmaCompletion c i) s = .next t.settle ∧ (∃ k, (t.chan c).job = some k ∧ k.tags ≠ []) ∧
            (t.chan c).head = x.head ∧ t.hbm = s.hbm) ∧
        (s.coordOk (globalDest j.dev) = true → globalDest j.dev = s.own → s.anyLost = false →
          let off := globalOff j.dev
          (j.toHost = true → j.len ≤ s.okPrefix off j.len false →
            let bad := (List.range j.len).any (fun k => s.poisoned (off + k))
            ∃ t, steps t ∧ (t.chan c).st = .running ∧ t.hbm = s.hbm ∧ record j.tag j.len (if bad then 3 else 0) ∈ t.out ∧
              Output.hostWrite (s.chanHost c) j.host (s.bytes off j.len) bad j.ro ∈ t.out ∧
              (j.irq = true → t.flag .dma 0x38 c.val = true)) ∧
          (j.toHost = false → i.hostErr = false → i.data.length = j.len → j.len ≤ s.okPrefix off j.len true →
            ∃ t, steps t ∧ (t.chan c).st = .running ∧ record j.tag j.len (if i.poisoned then 3 else 0) ∈ t.out ∧
              Output.hostRead (s.chanHost c) j.host j.len ∈ t.out ∧ t.hbm = (s.write off i.data i.poisoned).hbm ∧
              t.bad = (s.write off i.data i.poisoned).bad ∧
              (i.poisoned = true → t.flag (.hif (s.chanHost c)) 0x10 9 = true) ∧
              (j.irq = true → t.flag .dma 0x38 c.val = true))))) ∧
    (∀ (i : DmaInput) (j : DmaJob), x.st = .running → x.job = some j →
      (j.tags = [] → exec (.dmaCompletion c i) s = .next ((s.dmaFinish c j).settle)) ∧
      (j.tags ≠ [] → exec (.dmaCompletion c i) s = .next s.settle))

/-- The resets and the link of a host's port. A conventional reset and an FLR close the port's window, clear its MSI-X
table and its configuration space and stop the channels bound to it; the other port, the job and memory stay as they
are. A port trains, its link falls, its clock is lost, and it enters and leaves D3hot alone (R401, R412, R413, R455,
R551). What the MSI-X table holds after a reset is taken from PCIe: log entry 32. -/
def Obligations.PortsResetAlone : Prop :=
  ∀ (h : HostId) (s : State),
    let p := s.hostPort h
    let fresh := fun (t : State) => t.alive h = false ∧ (t.hostPort h).inReset = true ∧
      (t.hostPort h).d3hot = false ∧ (t.hostPort h).msix = [] ∧ (t.hostPort h).pba = [] ∧
      (t.hostPort h).cfg = {} ∧ (t.hostPort h).reads = [] ∧ (t.hostPort h).posts = [] ∧ t.reg (.hif h) 0x88 = 0 ∧ t.reg (.hif h) 0x8C = 0 ∧
      t.reg (.hif h) 0x90 = s.reg (.hif h) 0x90 ∧ t.reg (.hif h) 0x94 = s.reg (.hif h) 0x94 ∧
      (∀ c ∈ s.chansOf h, t.chanOn c = false)
    let apart := fun (t : State) => t.hbm = s.hbm ∧ t.cores = s.cores ∧ t.job.st = s.job.st ∧ t.job.pend = s.job.pend ∧
      t.sec.level = s.sec.level ∧ (∀ q, q ≠ h → (t.hostPort q).up = (s.hostPort q).up ∧
        t.alive q = s.alive q ∧ (t.hostPort q).cfg = (s.hostPort q).cfg ∧ (t.hostPort q).msix = (s.hostPort q).msix ∧
        (t.hostPort q).reads = (s.hostPort q).reads ∧ t.reg (.hif q) 0x88 = s.reg (.hif q) 0x88) ∧
      (∀ c, s.chanHost c ≠ h → t.chan c = s.chan c ∧ t.chanOn c = s.chanOn c)
    (s.pwr.powered = true → ∃ t, exec (.conventionalReset h) s = .next t ∧ fresh t ∧ apart t ∧ (t.hostPort h).up = false ∧
      t.flag (.hif h) 0x10 11 = false) ∧
    (s.portTakes h = true ∨ p.d3hot = true → ∃ t, exec (.flr h) s = .next t ∧ fresh t ∧ apart t ∧
      (t.hostPort h).up = p.up ∧ t.flag (.hif h) 0x10 11 = true) ∧
    (p.up = true → ∃ t, exec (.flrComplete h) s = .next t ∧ t.hostPort h = { p with inReset := false } ∧ apart t ∧
      t.regs = s.regs) ∧
    (∀ (speed : BitVec 3) (width : BitVec 5), s.pwr.powered = true → ∃ t, exec (.portLinkTraining h speed width) s = .next t ∧
      (t.hostPort h).up = true ∧ (t.hostPort h).ready = true ∧ (t.hostPort h).inReset = false ∧
      (t.hostPort h).speed = speed.toNat ∧ (t.hostPort h).width = width.toNat ∧
      (t.hostPort h).flit = decide (speed.toNat = 6) ∧ (t.hostPort h).cfg = p.cfg ∧ (t.hostPort h).msix = p.msix ∧
      t.alive h = s.alive h ∧ apart t ∧ t.regs = s.regs) ∧
    (p.up = true → ∃ t, exec (.pcieLinkDown h) s = .next t ∧ (t.hostPort h).up = false ∧ t.alive h = false ∧
      t.flag (.hif h) 0x10 10 = true ∧ apart t ∧
      (s.owner.host = some h → t.owner.host = if s.alive (otherHost h) then some (otherHost h) else none) ∧
      (∀ q, s.owner.host = some q → q ≠ h → s.alive q = true → t.owner.host = some q)) ∧
    (p.up = true → ∃ t, exec (.pcieRefclkLoss h) s = .next t ∧ fresh t ∧ apart t ∧ (t.hostPort h).up = false) ∧
    (∀ enter : Bool, p.up = true → ∃ t, exec (.d3hot h enter) s = .next t ∧ (t.hostPort h).d3hot = enter ∧
      (t.hostPort h).up = true ∧ t.alive h = s.alive h ∧ (t.hostPort h).msix = p.msix ∧ apart t ∧
      t.regs = s.regs)

/-! ### Local memory and the version store (R223 to R273) -/

/-- Every local offset maps to exactly one byte of one stack, by the mode's row of R245's table: one to one, onto
every stack address, on the die of the stack's number divided by four; a write of MODE 3 is an access violation. -/
def Obligations.InterleaveIsOneToOne : Prop :=
  (∀ m a b, m ≤ 2 → a < 2 ^ 40 → b < 2 ^ 40 → physical m a = physical m b → a = b) ∧
  (∀ m p, m ≤ 2 → p < 2 ^ 40 → ∃ a, a < 2 ^ 40 ∧ physical m a = p) ∧
  (∀ off : BitVec 40,
    physical 0 off.toNat = (4 * (off.extractLsb 39 38).toNat + (off.extractLsb 13 12).toNat) * 2 ^ 36 +
      (off.extractLsb 37 14 ++ off.extractLsb 11 0).toNat ∧
    physical 1 off.toNat = (off.extractLsb 15 12).toNat * 2 ^ 36 + (off.extractLsb 39 16 ++ off.extractLsb 11 0).toNat ∧
    physical 2 off.toNat = (off.extractLsb 39 36).toNat * 2 ^ 36 + (off.extractLsb 35 0).toNat) ∧
  (∀ a, a < 2 ^ 40 → (physStack a).val = a / 2 ^ 36 ∧ (stackDie (physStack a)).val = a / 2 ^ 36 / 4) ∧
  (∀ (r : Requester) (st : StackId) (v : Word) (s : State), s.reaches r (.hbm st) → v.toNat % 4 = 3 →
    ∃ t, exec (.hbmInterleaveWrite r st v) s = .next t ∧ t.interleave = s.interleave ∧ t.flag (.hbm st) 0x10 0 = true ∧
      t.hbm = s.hbm)

/-- What the stack controllers do. A mode is written by the owner in EMPTY and LOAD_FAILED only, and moves no data.
RETRAIN in EMPTY, LOAD_FAILED and HALTED puts the stack into self-refresh with its contents, and ends with it serving
or its die isolated with TRAIN_FAIL. A granted read of a block whose re-read matches counts its re-reads, one whose
re-reads fail marks its block poisoned and counts it, one of a poisoned block marks and counts nothing; a granted
write is a write of its bytes, but not of the image and not at a die that is down; the present bulk entries that wait
unforced yield to the priority entry within its quota (R246, R253 to R255, R259, R262, R263, R270, R271). That the
command names a local offset and runs to its grant is the model's reading: log entry 37. -/
def Obligations.StacksServe : Prop :=
  ∀ (st : StackId) (s : State),
    (∀ (r : Requester) (v : Word), s.reaches r (.hbm st) →
      (s.isOwner r = true → s.job.st = .empty ∨ s.job.st = .loadFailed → v.toNat % 4 ≠ 3 →
        ∃ t, exec (.hbmInterleaveWrite r st v) s = .next t ∧ t.interleave = v.toNat % 4 ∧ t.hbm = s.hbm ∧ t.bad = s.bad ∧
          t.cores = s.cores ∧ t.job = s.job ∧
          (∀ b o, o < 4096 → b ≠ .hbm 0 ∨ o ≠ 0xB8 → t.reg b o = s.reg b o)) ∧
      (s.job.st ≠ .empty → s.job.st ≠ .loadFailed → ∃ t, exec (.hbmInterleaveWrite r st v) s = .next t ∧
        t.interleave = s.interleave ∧ t.flag (.hbm st) 0x10 0 = true ∧ t.hbm = s.hbm)) ∧
    (∀ r : Requester, s.reaches r (.hbm st) →
      (s.job.st.retrains = true → ∃ t, exec (.hbmRetrain r st) s = .next t ∧ t.stack st = { s.stack st with
          trained := false, selfRefresh := true, retraining := true } ∧ (∀ k, k ≠ st → t.stack k = s.stack k) ∧
        t.hbm = s.hbm ∧ t.bad = s.bad) ∧
      (s.job.st.retrains = false → ∃ t, exec (.hbmRetrain r st) s = .next t ∧ t.stackTab = s.stackTab ∧
        t.flag (.hbm st) 0x10 0 = true ∧ t.hbm = s.hbm)) ∧
    ((s.stack st).retraining = true →
      (∃ t, exec (.hbmRetrainDone st true) s = .next t ∧ t.stack st = { s.stack st with
          trained := true, selfRefresh := false, retraining := false } ∧ t.hbm = s.hbm ∧ t.bad = s.bad) ∧
      ((s.die (stackDie st)).up = true → (s.die (stackDie st)).isolated = false →
        ∃ t, exec (.hbmRetrainDone st false) s = .next t ∧
        (t.die (stackDie st)).isolated = true ∧ (t.die (stackDie st)).up = false ∧ t.flag (.hbm st) 0x10 11 = true)) ∧
    (∀ (off : BitVec 40) (len : BitVec 11) (l : List (BitVec 40 × Fin 4)) (corr : Byte) (e : ArbEntry) (w : List ArbEntry),
      s.stackOf off.toNat = st → 0 < len.toNat → len.toNat ≤ 64 - off.toNat % 64 →
      let g := s.noteUpsets st l
      let b := g.phys off.toNat / 64
      let n := g.upsetOf b
      let bad := Store.get (fun _ => false) g.bad b
      (s.served off.toNat = false → ∃ t, exec (.hbmRead st off len ⟨l, corr⟩ e w) s = .next t ∧ t.hbm = s.hbm ∧
        t.bad = s.bad ∧ t.stack st = g.stack st ∧ t.flag .glb 0x10 0 = true) ∧
      (s.served off.toNat = true → (g.requestAt st e w).1 = true → g.isLost b = false →
        ∃ t, exec (.hbmRead st off len ⟨l, corr⟩ e w) s = .next t ∧ t.hbm = s.hbm ∧ t.cores = s.cores ∧
          t.arb st = (g.requestFor st e w 1).2.arb st ∧
          (n = 0 ∨ bad = true → t.bad = s.bad ∧ t.reg (.hbm st) 0x90 = s.reg (.hbm st) 0x90 ∧
            t.reg (.hbm st) 0x94 = s.reg (.hbm st) 0x94) ∧
          (n = 0 ∧ corr = 0 ∨ bad = true → t.reg (.hbm st) 0x10 = s.reg (.hbm st) 0x10 ∧
            t.reg (.hbm st) 0x98 = s.reg (.hbm st) 0x98) ∧
          (corr ≠ 0 → n < 3 → bad = false → t.flag (.hbm st) 0x10 10 = true ∧ t.reg (.hbm st) 0x98 =
            BitVec.ofNat 32 (min 0xFFFFFFFF ((s.reg (.hbm st) 0x98).toNat + corr.toNat))) ∧
          (0 < n → bad = false → t.upsetOf b = 0 ∧ t.reg (.hbm st) 0x90 = BitVec.ofNat 32
            (min 0xFFFFFFFF ((s.reg (.hbm st) 0x90).toNat + min n 2))) ∧
          (0 < n → n < 3 → bad = false → t.flag (.hbm st) 0x10 8 = true ∧ t.bad = s.bad) ∧
          (3 ≤ n → bad = false → t.flag (.hbm st) 0x10 9 = true ∧ t.poisoned off.toNat = true ∧
            t.reg (.hbm st) 0x94 = BitVec.ofNat 32 (min 0xFFFFFFFF ((s.reg (.hbm st) 0x94).toNat + 1))))) ∧
    (∀ (off : BitVec 40) (data : List Byte) (p : Bool) (e : ArbEntry) (w : List ArbEntry), s.stackOf off.toNat = st →
      data ≠ [] → data.length ≤ 1024 - off.toNat % 1024 →
      (s.hitsImage off.toNat data.length = false → s.served off.toNat = true → (s.requestAt st e w).1 = true →
        exec (.hbmWrite st off data p e w) s =
          .next ((s.requestFor st e w (blocksOf off.toNat data.length).length).2.write off.toNat data p)) ∧
      (s.hitsImage off.toNat data.length = true ∨ s.served off.toNat = false →
        ∃ t, exec (.hbmWrite st off data p e w) s = .next t ∧
          t.hbm = s.hbm ∧ t.bad = s.bad ∧ t.flag .glb 0x10 0 = true)) ∧
    (∀ (a : Arb) (present pending : List Bool) (limit quota window : Nat), a.cycle % a.window ≠ 0 →
      present.getD 3 false = true → pending.getD 3 false = true → nth a.backoff 3 = 0 → a.pri < a.quota →
      (∀ i ∈ [0, 1, 2, 4], present.getD i false = true → pending.getD i false = true → nth a.wait i < a.limit) →
      (a.cycleStep present pending limit quota window).1 = some 3 ∧
      (a.cycleStep present pending limit quota window).2.pri = a.pri + 1)

/-- Host fetch: GO from the owner in LOADED without one running asks the hosts for every weight's shard, block by
block from the ports in turn; elsewhere it is a violation. A block that came whole is written to the CURRENT position,
one with an error poisoned, with FETCH_ERR; the fetch then ends with DONE, the interrupt of bit 0, and the count of
the weights. A parity error of the store's own is META_POISON (R232, R238). -/
def Obligations.WeightsAreFetched : Prop :=
  ∀ s : State,
    (∀ r : Requester, s.reaches r .ver → s.isOwner r = true →
      (s.job.st = .loaded → s.ver.fetch.busy = false → s.fetchPorts ≠ 0 → ∃ t, exec (.hostFetch r) s = .next t ∧
        t.ver.fetch.busy = true ∧ t.ver.fetch.todo = s.fetchList ∧ t.ver.fetch.done = s.ver.fetch.done ∧
        t.ver.weights = s.ver.weights ∧ t.hbm = s.hbm ∧ t.job = s.job ∧
        (∀ k a d n, (fetchReads s.fetchList)[k]? = some (a, d, n) →
          Output.hostRead (fetchPort s.fetchPorts k) a n ∈ t.out)) ∧
      (s.job.st ≠ .loaded ∨ s.ver.fetch.busy = true ∨ s.fetchPorts = 0 → ∃ t, exec (.hostFetch r) s = .next t ∧
        t.ver = s.ver ∧ t.flag .ver 0x10 0 = true ∧ t.hbm = s.hbm)) ∧
    (∀ data : List HostBlock, s.ver.fetch.busy = true → s.pwr.st ≠ .retain → ∃ t, exec (.fetchDone data) s = .next t ∧
      t.ver.fetch.busy = false ∧ t.ver.fetch.done = true ∧ t.ver.fetch.count = s.ver.weights.length ∧
      t.ver.weights = s.ver.weights ∧ t.flag .ver 0x38 0 = true ∧ t.job.st = s.job.st ∧ t.cores = s.cores ∧
      t.hbm = (s.each (fetchReads s.ver.fetch.todo).zipIdx (fun s e =>
        State.fetchBlock data (fetchPort s.fetchPorts e.2) e.1.1 e.1.2.1 e.1.2.2 s)).hbm) ∧
    (∀ (data : List HostBlock) (h : HostId) (src dst len : Nat) (b : HostBlock), s.served dst = true →
      data.find? (fun b => b.addr.toNat == src) = some b → b.bytes.length = len → b.ep = false →
      (b.bad = false → State.fetchBlock data h src dst len s = (s.enter .system dst len).write dst b.bytes false) ∧
      (b.bad = true → State.fetchBlock data h src dst len s =
          ((s.fetchErr src).enter .system dst len).write dst b.bytes true ∧
        (s.fetchErr src).flag .ver 0x10 17 = true ∧ (s.fetchErr src).ver.fetch.err = true ∧
        (s.fetchErr src).hbm = s.hbm)) ∧
    (∃ t, exec .metaPoison s = .next t ∧ t.flag .ver 0x10 18 = true ∧ t.flag .ver 0x10 5 = true ∧
      t.hbm = s.hbm ∧ t.ver = s.ver ∧ t.cores = s.cores ∧ t.job.st = s.job.st ∧
      (s.job.st.active = true ∨ s.job.st = .loaded → ∃ h ∈ t.job.halts, h.code = 1 ∧ h.bcast = true))

/-! ### Security (R461, R466 to R494, R556) -/

/-- SUBMIT_TOKEN. The first check of R486 that a token fails gives the code, which its response, LAST_RESULT and
TOKEN_REJECTED show; a failure at checks 3 to 6 counts; a submission that reaches check 4 uses up the nonce; no level
and no lifecycle state changes. An accepted OBSERVE token opens level 1, a CONTROL token outside OWNED level 2 with
the mark; a CONTROL token in OWNED and a lifecycle token wait for zeroisation, and are applied when it completes
(R468, R486, R487). That several tokens may wait for zeroisation is the model's reading: log entry 48. -/
def Obligations.TokensAreJudgedInOrder : Prop :=
  ∀ (k : Carrier) (tok : Token) (fuse : Bool) (s : State), s.carrierUp k = true → s.pwr.phase ≠ 0xF →
    let checks : List (Bool × Nat) := [(decide (s.sec.fails < 8), 8), (tokenFormatOk tok, 1),
      (decide (tok.deviceId = deviceId), 2), (decide (s.sec.nonce = some tok.nonce), 3), (s.sec.signerOk tok, 4),
      (tok.sigOk, 5), (s.tokenState tok, 6), (s.sec.targetOk tok, 7)]
    let grants := fun (t : State) (n : Nat) => t.sec.level = n ∧ t.sec.fails = 0 ∧ t.sec.result = 0 ∧ t.sec.nonce = none ∧
      t.sec.lifecycle = s.sec.lifecycle ∧ (t.sec.mail k).work = some (bareReply 5 0 0) ∧
      t.sec.meas = s.sec.meas.set 5 (sha256 (s.sec.meas.getD 5 [] ++ BitVec.ofNat 8 n :: tokenDigest tok)) ∧
      t.hbm = s.hbm ∧ t.job = s.job
    (∀ i code, checks[i]? = some (false, code) → (∀ (j : Nat) e, j < i → checks[j]? = some e → e.1 = true) →
      ∃ t, exec (.submitToken k tok fuse) s = .next t ∧ t.sec.result = code ∧ t.flag .sec 0x10 8 = true ∧
        (t.sec.mail k).work = some (bareReply 5 4 code) ∧ t.sec.level = s.sec.level ∧
        t.sec.lifecycle = s.sec.lifecycle ∧ t.sec.marked = s.sec.marked ∧
        t.sec.fails = (if 2 ≤ code ∧ code ≤ 5 then min 8 (s.sec.fails + 1) else s.sec.fails) ∧
        t.sec.nonce = (if 3 ≤ code ∧ code ≤ 7 then none else s.sec.nonce) ∧ t.hbm = s.hbm) ∧
    ((∀ e ∈ checks, e.1 = true) →
      (tok.kind = 1 → tok.target = 1 → ∃ t, exec (.submitToken k tok fuse) s = .next t ∧ grants t 1 ∧
        t.sec.marked = s.sec.marked) ∧
      (tok.kind = 1 → tok.target ≠ 1 → s.sec.lifecycle ≠ 2 → ∃ t, exec (.submitToken k tok fuse) s = .next t ∧
        grants t 2 ∧ t.sec.marked = true) ∧
      (tok.kind ≠ 1 ∨ (tok.target ≠ 1 ∧ s.sec.lifecycle = 2) → ∃ t, exec (.submitToken k tok fuse) s = .next t ∧
        t.sec.zBusy = true ∧ t.sec.zCause = (if tok.kind = 1 then 2 else 3) ∧ t.sec.nonce = none ∧
        t.sec.zToks = s.sec.zToks ++ [(some k, tok, fuse)] ∧ t.sec.level = s.sec.level ∧
        t.sec.lifecycle = s.sec.lifecycle ∧ (∀ a, a < 2 ^ 40 → t.physByte a = 0)))

/-- Zeroisation and the levels. GO from the owner where R486 would permit a CONTROL token zeroes local memory and
every core's store and registers, with the job CLEARING unless it was EMPTY; elsewhere it is a violation that changes
nothing. At its end the job is EMPTY and the token that asked for it is applied: CONTROL with its mark, or the fuses
and the new lifecycle state with level CLOSED, or FUSE_FAIL with the state unchanged. RELOCK closes the level; a nonce
expires alone; SP_FAULT is device-fatal with halt cause 0x0B (R468, R485, R487, R488, R490, R494). What a second
zeroisation does and that the checks run again at the end are the model's readings: log entries 48 and 49. -/
def Obligations.ZeroisationAndLevels : Prop :=
  ∀ s : State,
    (∀ r : Requester, s.reaches r .sec → s.isOwner r = true →
      (s.controlOk = true → ∃ t, exec (.zeroize r) s = .next t ∧ t.sec.zBusy = true ∧ t.sec.zCause = 1 ∧
        t.sec.zToks = s.sec.zToks ∧ (∀ a, a < 2 ^ 40 → t.physByte a = 0) ∧
        (∀ c, (t.core c).cst = [] ∧ (t.core c).v = [] ∧ (t.core c).t = [] ∧ (t.core c).na = [] ∧
          (t.core c).cause = (s.core c).cause) ∧
        t.job.st = (if s.job.st = .empty then .empty else .clearing) ∧ t.sec.level = s.sec.level ∧
        t.sec.marked = s.sec.marked ∧ t.owner = s.owner ∧ (∀ c, t.chanOn c = false)) ∧
      (s.controlOk = false → ∃ t, exec (.zeroize r) s = .next t ∧ t.sec = s.sec ∧ t.flag .sec 0x10 0 = true ∧
        t.hbm = s.hbm ∧ t.cores = s.cores) ∧
      (∃ t, exec (.relock r) s = .next t ∧ t.sec.level = 0 ∧ t.sec.marked = s.sec.marked ∧ t.sec.nonce = s.sec.nonce ∧
        (s.sec.level = 0 → t = s) ∧
        (s.sec.level ≠ 0 → t.sec.meas = s.sec.meas.set 5 (sha256 (s.sec.meas.getD 5 [] ++ 0 :: zero32))) ∧
        (s.sec.level = 2 → ∀ c, (t.core c).halt = false) ∧ t.hbm = s.hbm ∧ t.job = s.job)) ∧
    (s.sec.zBusy = true →
      (s.sec.zToks = [] → ∃ t, exec .zeroisationDone s = .next t ∧ t.sec = { s.sec with zBusy := false, zDone := true } ∧
        t.job.st = (if s.job.st = .clearing then .empty else s.job.st) ∧ t.hbm = s.hbm) ∧
      (∀ k tok fuse, s.sec.zToks = [(some k, tok, fuse)] → s.pwr.st = .run → s.pwr.target = .run →
        s.job.st = .clearing ∨ s.job.st = .empty → s.sec.targetOk tok = true →
        (tok.kind = 1 → tok.target = 2 → s.sec.level < 2 → ∃ t, exec .zeroisationDone s = .next t ∧ t.sec.level = 2 ∧
          t.sec.marked = true ∧ t.sec.result = 0 ∧ t.job.st = .empty ∧ t.sec.lifecycle = s.sec.lifecycle ∧
          (t.sec.mail k).work = some (bareReply 5 0 0) ∧ t.sec.zToks = []) ∧
        (tok.kind ≠ 1 → fuse = true → ∃ t, exec .zeroisationDone s = .next t ∧ t.sec.lifecycle = tok.target.toNat ∧
          t.sec.level = 0 ∧ t.sec.result = 0 ∧ t.job.st = .empty ∧ (t.sec.mail k).work = some (bareReply 5 0 0) ∧
          (tok.target = 2 → t.sec.ownerRoot = sha256 tok.newOwnerPk ∧ t.sec.ownerPk = some tok.newOwnerPk) ∧
          (tok.target ≠ 2 → t.sec.ownerRoot = s.sec.ownerRoot) ∧ (tok.target = 4 → t.sec.udsBlown = true)) ∧
        (tok.kind ≠ 1 → fuse = false → ∃ t, exec .zeroisationDone s = .next t ∧ t.sec.lifecycle = s.sec.lifecycle ∧
          t.sec.level = s.sec.level ∧ t.sec.result = 9 ∧ t.flag .sec 0x10 10 = true ∧ t.flag .sec 0x10 8 = true ∧
          t.sec.ownerRoot = s.sec.ownerRoot ∧ (t.sec.mail k).work = some (bareReply 5 4 9)))) ∧
    (s.sec.zBusy = false → exec .zeroisationDone s = .next s) ∧
    exec .nonceExpiry s = .next { s with sec := { s.sec with nonce := none } } ∧
    (∃ t, exec .spFault s = .next t ∧ t.flag .sec 0x10 11 = true ∧ t.flag .ras 0x80 31 = true ∧ t.sec = s.sec ∧
      t.hbm = s.hbm ∧ (s.job.st.active = true ∨ s.job.st = .loaded → ∃ h ∈ t.job.halts, h.code = 0x0B))

/-- Attestation. GET_IDENTITY and GET_REPORT answer with the identity and the signed body where an identity is ready,
else with NO_IDENTITY; the mark chooses the signing identity; EXTEND from the owner's mailbox extends register 6 or 7,
from another carrier it is NOT_PERMITTED; GET_CHALLENGE replaces the nonce by random bytes, of which nothing is known.
A response that is ready takes the place of its request, and a DOE Abort discards both (R479 to R483, R485). -/
def Obligations.AttestationAnswers : Prop :=
  ∀ (k : Carrier) (s : State), s.carrierUp k = true → s.pwr.phase ≠ 0xF →
    let tells := fun (t : State) (m : Reply) => t.sec.mail k = { work := some m } ∧
      (∀ q, q ≠ k → t.sec.mail q = s.sec.mail q) ∧ t.hbm = s.hbm ∧ t.job = s.job ∧ t.regs = s.regs
    let ready := s.sec.identity = true ∧ s.sec.lifecycle ≠ 4
    (ready → ∃ t, exec (.getIdentity k) s = .next t ∧ tells t ⟨replyHead 1 0 0 8048 ++ deviceId ++
      identityPk false ++ identityPk true ++ [BitVec.ofNat 8 (bit s.sec.marked)] ++ List.replicate 7 0, .endorsement⟩) ∧
    (∀ nonce, nonce.length = 32 → ready → ∃ t, exec (.getReport k nonce) s = .next t ∧
      tells t ⟨replyHead 2 0 0 17472 ++ s.reportBody (Carrier.code k) nonce, .signature s.sec.marked s.fresh⟩) ∧
    (¬ready → (∃ t, exec (.getIdentity k) s = .next t ∧ tells t (bareReply 1 3 0)) ∧
      (∀ nonce, ∃ t, exec (.getReport k nonce) s = .next t ∧ tells t (bareReply 2 3 0))) ∧
    (∀ (i : Byte) (d : List Byte), d.length = 32 → i = 6 ∨ i = 7 → ∃ t, exec (.extend k i d) s = .next t ∧
      (s.owner.host.map Carrier.doe = some k → tells t (bareReply 3 0 0) ∧
        t.sec.meas = s.sec.meas.set i.toNat (sha256 (s.sec.meas.getD i.toNat [] ++ d))) ∧
      (s.owner.host.map Carrier.doe ≠ some k → tells t (bareReply 3 2 0) ∧ t.sec.meas = s.sec.meas)) ∧
    (∃ t n, exec (.getChallenge k) s = .next t ∧ n = (List.range 32).map (fun i => Config.freeByte (s.fresh + i)) ∧
      tells t { head := replyHead 4 0 0 40 ++ n } ∧ t.sec.nonce = some n) ∧
    (∀ m, (s.sec.mail k).work = some m → ∃ t, exec (.responseReady k) s = .next t ∧ t.sec.mail k = { ready := some m } ∧
      (∀ h, k = .doe h → Output.doeData h m.bytes ∈ t.out) ∧
      (k = .i3c → s.i3c.ibi = true → s.i3c.addr.isSome = true → Output.inBandInterrupt 3 ∈ t.out) ∧ t.hbm = s.hbm) ∧
    (∀ h, ∃ t, exec (.doeAbort h) s = .next t ∧ t.sec.mail (.doe h) = {} ∧ t.sec.level = s.sec.level ∧
      (∀ z ∈ t.sec.zToks, z.1 ≠ some (.doe h)) ∧ t.sec.zToks.map (·.2) = s.sec.zToks.map (·.2) ∧ t.hbm = s.hbm)

/-- The I3C target. Bytes written stand in the request buffer, those beyond 8 KiB are dropped with STATUS 1; a buffer that
is well-formed is served as the request of its CODE, another is MALFORMED; a read returns at most 256 bytes of the
response from its offset on, a state read 0, 1 or 2; a target without an address takes one, and gives it up; ENEC and
DISEC switch the in-band interrupts (R478, R482, R556). A target without an address is not reached. The I3C target and
the test port: READ of a standby register gives its value with STATUS 0 (R441, R442), WRITE of another register than
PWR_STATE_REQ gives STATUS 1, and IDCODE shifts out its register (R559); in OFF the TAP does not respond (R491). What
refused and unaddressed accesses return is the model's reading: log entry 33. -/
def Obligations.I3cMessagesAndTap : Prop :=
  (∀ s : State,
    (s.i3cOpen = true →
      (∀ (off : BitVec 16) (data : List Byte), ∃ t, exec (.msgWrite off data) s = .next t ∧
        (∀ i b, data[i]? = some b → off.toNat + i < 8192 → Store.get (fun _ => 0) t.i3c.buffer (off.toNat + i) = b) ∧
        (∀ a, a < off.toNat ∨ off.toNat + data.length ≤ a ∨ 8192 ≤ a →
          Store.get (fun _ => 0) t.i3c.buffer a = Store.get (fun _ => 0) s.i3c.buffer a) ∧
        t.i3c.next = (if 8192 < off.toNat + data.length then [1] else s.i3c.next) ∧ t.sec = s.sec ∧ t.hbm = s.hbm) ∧
      (s.msgOk = false → s.pwr.phase ≠ 0xF → ∃ t, exec .msgSubmit s = .next t ∧ t.sec.mailI3c =
        { work := some (bareReply (((s.msgBytes 1 1).headD 0).toNat % 128) 1 0) } ∧ t.sec.level = s.sec.level ∧ t.hbm = s.hbm) ∧
      (s.msgOk = true →
        ((s.msgBytes 1 1).headD 0 = 1 → exec .msgSubmit s = exec (.getIdentity .i3c) s) ∧
        ((s.msgBytes 1 1).headD 0 = 2 → exec .msgSubmit s = exec (.getReport .i3c (s.msgBytes 8 32)) s) ∧
        ((s.msgBytes 1 1).headD 0 = 3 → exec .msgSubmit s =
          exec (.extend .i3c ((s.msgBytes 8 1).headD 0) (s.msgBytes 16 32)) s) ∧
        ((s.msgBytes 1 1).headD 0 = 4 → exec .msgSubmit s = exec (.getChallenge .i3c) s) ∧
        ((s.msgBytes 1 1).headD 0 = 5 → ∃ f, exec .msgSubmit s =
          exec (.submitToken .i3c s.msgToken f) { s with fresh := s.fresh + 1 })) ∧
      (∀ off : BitVec 24,
        (∀ m, s.sec.mailI3c.ready = some m → exec (.msgRead off) s =
          .next { s with i3c := { s.i3c with next := (m.bytes.drop off.toNat).take 256 } }) ∧
        (s.sec.mailI3c.ready = none → exec (.msgRead off) s = .next { s with i3c := { s.i3c with next := [] } })) ∧
      (∃ v, exec .msgState s = .next { s with i3c := { s.i3c with next := [v] } } ∧
        (s.sec.mailI3c.work.isSome = true → v = 1) ∧
        (s.sec.mailI3c.work = none → s.sec.zToks = [] → v = if s.sec.mailI3c.ready.isSome then 2 else 0))) ∧
    (s.i3c.addr = none → (∀ off data, exec (.msgWrite off data) s = .next s) ∧ exec .msgSubmit s = .next s ∧
      (∀ off, exec (.msgRead off) s = .next s) ∧ exec .msgState s = .next s ∧
      (s.pwr.st ≠ .starting ∨ s.pwr.phase ≠ 0 → ∀ a,
        exec (.entdaa a) s = .next { s with i3c := { s.i3c with addr := some a } })) ∧
    exec .rstdaa s = .next { s with i3c := { s.i3c with addr := none } } ∧
    (s.i3c.addr.isSome = true → exec .enec s = .next { s with i3c := { s.i3c with ibi := true } } ∧
      exec .disec s = .next { s with i3c := { s.i3c with ibi := false } })) ∧
  (∀ s : State,
    (∀ (a : BitVec 7) (b : Blk) (o : Nat), s.i3c.addr = some a → standbyReg b o = true → (b.row? o).isSome = true →
      o % 4 = 0 → o < 4096 → s.capture? .i3c (b.base + o) = none →
      ∃ t, exec (.i3cRead (BitVec.ofNat 24 (b.base + o))) s = .next t ∧
        t.i3c.next = leBytes (s.live b o).toNat 4 ++ [0] ∧ t.regs = s.regs ∧ t.hbm = s.hbm ∧ t.out = s.out) ∧
    (∀ (a : BitVec 7) (off : BitVec 24) (v : Word), s.i3c.addr = some a → off.toNat ≠ Blk.pwr.base + 0x80 →
      exec (.i3cWrite off v) s = .next { s with i3c := { s.i3c with next := [1] } }) ∧
    (s.pwr.powered = true → exec (.tapInstruction 1) s = .next { s with
      jtag := { ir := 1 }, out := .jtagData 0x19216A6B :: s.out }) ∧
    (∀ ir, s.pwr.powered = false → exec (.tapInstruction ir) s = .next s) ∧
    (∀ ir : BitVec 8, s.pwr.powered = true → ir ≠ 1 → s.sec.level = 0 → s.sec.lifecycle = 2 →
      exec (.tapInstruction ir) s = .next { s with jtag := { ir := 0xFF } }) ∧
    (∀ ir : BitVec 8, s.pwr.powered = true → ir = 2 ∨ ir = 3 → s.sec.lifecycle ≠ 2 ∨ s.sec.level = 2 →
      exec (.tapInstruction ir) s = .next { s with jtag := { ir := ir } }))

/-- Updates of firmware and of Shale. GO from the owner outside OFF asks the writing port for the image; while one
runs, or in OFF, it is a violation. The image's first failed check is ERR, and the flash stays as it is; one that
passes goes into the slot that is not in use, and neither the running version nor the applied image changes (R461,
R476, R493). The order of the checks and the violation for GO in OFF are the model's readings: log entries 50 and 51.
-/
def Obligations.UpdatesAreChecked : Prop :=
  ∀ s : State,
    (∀ h : HostId, s.reaches (.mmio h) .sec → s.isOwner (.mmio h) = true →
      (s.sec.fwBusy = false → s.cfg.busy = false → s.pwr.st ≠ .off → ∃ t, exec (.fwUpdate (.mmio h)) s = .next t ∧
        t.sec = { s.sec with fwBusy := true, fwErr := 0, fwDone := false } ∧
        Output.hostRead h (s.reg64 .sec 0x98) (s.reg .sec 0xA0).toNat ∈ t.out ∧ t.job = s.job ∧ t.hbm = s.hbm) ∧
      (s.sec.fwBusy = true ∨ s.cfg.busy = true ∨ s.pwr.st = .off → ∃ t, exec (.fwUpdate (.mmio h)) s = .next t ∧
        t.sec = s.sec ∧ t.flag .sec 0x10 0 = true ∧ t.hbm = s.hbm)) ∧
    (∀ h : HostId, s.reaches (.mmio h) .cfg → s.isOwner (.mmio h) = true →
      (s.cfg.busy = false → s.pwr.st ≠ .off → ∃ t, exec (.shaleUpdate (.mmio h)) s = .next t ∧
        t.cfg = { s.cfg with busy := true, err := 0, done := false } ∧
        Output.hostRead h (s.reg64 .cfg 0x90) (s.reg .cfg 0x98).toNat ∈ t.out ∧ t.job = s.job ∧ t.hbm = s.hbm) ∧
      (s.cfg.busy = true ∨ s.pwr.st = .off → ∃ t, exec (.shaleUpdate (.mmio h)) s = .next t ∧
        t.cfg = s.cfg ∧ t.flag .cfg 0x10 0 = true ∧ t.hbm = s.hbm)) ∧
    (s.sec.fwBusy = true → ∀ (img : Option FwImage) (ok : Bool),
      ∃ t, exec (.fwUpdateDone img ok) s = .next t ∧ t.sec.fwBusy = false ∧ t.sec.fwVersion = s.sec.fwVersion ∧
        t.sec.slotB = s.sec.slotB ∧ t.sec.meas = s.sec.meas ∧ t.hbm = s.hbm ∧
        t.sec.fwErr = s.fwUpdateErr img ok ∧ t.sec.fwDone = (s.fwUpdateErr img ok == 0) ∧
        (s.fwUpdateErr img ok ≠ 0 → t.flag .sec 0x10 9 = true) ∧
        (s.fwUpdateErr img ok ≠ 0 → s.fwUpdateErr img ok ≠ 6 → t.sec.flash = s.sec.flash) ∧
        (s.fwUpdateErr img ok = 0 → t.sec.flash =
          if s.sec.slotB then { s.sec.flash with fwA := img } else { s.sec.flash with fwB := img }) ∧
        (s.fwUpdateErr img ok = 6 → (if s.sec.slotB then t.sec.flash.fwB = s.sec.flash.fwB
          else t.sec.flash.fwA = s.sec.flash.fwA) ∧ t.sec.flash.shaleA = s.sec.flash.shaleA ∧
          fwStatus t.sec.minSvn (if s.sec.slotB then t.sec.flash.fwA else t.sec.flash.fwB) ≠ 0)) ∧
    (s.cfg.busy = true → ∀ (img : Option ShaleImage) (ok : Bool),
      ∃ t, exec (.shaleUpdateDone img ok) s = .next t ∧ t.cfg.busy = false ∧ t.cfg.applied = s.cfg.applied ∧
        t.hbm = s.hbm ∧ t.cfg.err = s.shaleErr img ok ∧ t.cfg.done = (s.shaleErr img ok == 0) ∧
        (s.shaleErr img ok ≠ 0 → t.flag .cfg 0x10 9 = true) ∧
        (s.shaleErr img ok ≠ 0 → s.shaleErr img ok ≠ 6 → t.sec = s.sec) ∧
        (s.shaleErr img ok = 0 → t.sec.flash = if s.cfg.applied.isSome && !s.cfg.slotB
          then { s.sec.flash with shaleB := img } else { s.sec.flash with shaleA := img }))

/-! ### Bridge links, dies, power states and resets (R419 to R463) -/

/-- Units on a bridge link that is up, each of them one unit position of this end too. IDLE has no other effect; a
CTRL unit sets the credit totals and acknowledges what R288 allows, anything else retrains; a REPLAY_MARK sets the
count, and the first one after a retrain takes the link up and replays; a sequenced unit in order is accepted, a
duplicate moves the count alone, and while the receiver discards none does anything; a unit whose CRC or kind fails is
counted whatever it was, and the receiver of a link that is up discards; an expiry is counted and the end replays, at
the eighth it retrains. A position carries CTRL in every 64, else the next unit of a replay, else new traffic (R288 to
R294, R420 to R422). The rate of the positions, the class of the place an accepted unit frees and the end of a retrain
are the model's readings: log entries 43 and 44. -/
def Obligations.BridgeLinksCarryUnits : Prop :=
  ∀ (l : LinkId) (u : D2dUnit) (s : State),
    let q := s.link l
    let only := fun (t : State) => (∀ k, k ≠ l → t.link k = s.link k) ∧ t.dies = s.dies ∧ t.cores = s.cores ∧
      t.hbm = s.hbm ∧ t.job.st = s.job.st
    let d := (unitNum u 0 2 % 4096 + 4096 - q.oldest) % 4096
    (q.st = .up → unitOk u = true →
      (u.kind = 0 → exec (.d2dIdle l u) s = .next (s.sendTurn l)) ∧
      (u.kind = 1 →
        (unitNum u 2 1 % 2 = 0 ∨ d = 4095 ∧ q.sent.length < 4096 → ∃ t, exec (.d2dCtrl l u) s = .next (t.sendTurn l) ∧
          only t ∧ t.link l = { q with credits := [unitNum u 4 2, unitNum u 6 2] }) ∧
        (unitNum u 2 1 % 2 = 1 → d < q.sent.length → d ≠ 4095 → ∃ t, exec (.d2dCtrl l u) s = .next (t.sendTurn l) ∧
          only t ∧ t.link l = { q with
            credits := [unitNum u 4 2, unitNum u 6 2], oldest := (q.oldest + d + 1) % 4096, sent := q.sent.drop (d + 1)
            again := q.again.drop (q.again.length - (q.sent.length - (d + 1))), expiries := 0, fails := 0
            afterRetrain := false }) ∧
        (unitNum u 2 1 % 2 = 1 → q.sent.length ≤ d → d ≠ 4095 → q.afterRetrain = false →
          ∃ t, exec (.d2dCtrl l u) s = .next (t.sendTurn l) ∧ only t ∧ (t.link l).st = .retrain)) ∧
      (u.kind = 2 → (q.exp + 4096 - unitNum u 0 2 % 4096) % 4096 < 2048 →
        ∃ t, exec (.d2dReplayMark l u) s = .next (t.sendTurn l) ∧
        only t ∧ t.link l = { q with cnt := unitNum u 0 2 % 4096, discard := false }) ∧
      (∀ i : Instr, (i = .hdr l u ∧ u.kind = 0x10) ∨ (i = .data l u ∧ u.kind = 0x11) ∨ (i = .dataPoisoned l u ∧ u.kind = 0x12) →
        (q.discard = true → exec i s = .next (s.sendTurn l)) ∧
        (q.discard = false → q.cnt = q.exp → q.exp < 4096 → ∃ t cls, exec i s = .next (t.sendTurn l) ∧ only t ∧ cls < 2 ∧
          t.link l = { q with
            cnt := (q.cnt + 1) % 4096, exp := (q.exp + 1) % 4096, ackSeq := q.cnt, ackValid := true
            freed := q.freed.set cls (q.freed.getD cls 0 + 1)
            expiries := if q.sent.isEmpty then 0 else q.expiries, fails := if q.sent.isEmpty then 0 else q.fails
            afterRetrain := if q.sent.isEmpty then false else q.afterRetrain }) ∧
        (q.discard = false → 0 < (q.exp + 4096 - q.cnt) % 4096 → (q.exp + 4096 - q.cnt) % 4096 < 2048 →
          ∃ t, exec i s = .next (t.sendTurn l) ∧ only t ∧ t.link l = { q with cnt := (q.cnt + 1) % 4096 }))) ∧
    (q.st = .retrain → unitOk u = true → u.kind = 2 → (q.exp + 4096 - unitNum u 0 2 % 4096) % 4096 < 2048 →
      ∃ t, exec (.d2dReplayMark l u) s = .next (t.sendTurn l) ∧ only t ∧ t.link l = { q with
          st := .up, afterRetrain := true, cnt := unitNum u 0 2 % 4096, discard := false, again := q.sent } ∧
        Output.d2d l (mkUnit 2 (leBytes q.oldest 2)) ∈ t.out) ∧
    (∀ i : Instr, i = .d2dIdle l u ∨ i = .d2dCtrl l u ∨ i = .d2dReplayMark l u ∨ i = .width l u ∨ i = .hdr l u ∨
        i = .data l u ∨ i = .dataPoisoned l u ∨ i = .unitCrcFail l u → unitOk u = false →
      (q.st = .up ∨ q.st = .handshake → ∃ t, only t ∧ t.flag (.d2d l) 0x10 8 = true ∧
        t.reg (.d2d l) 0x90 = BitVec.ofNat 32 (min 0xFFFFFFFF ((s.reg (.d2d l) 0x90).toNat + 1)) ∧
        (q.st = .up → exec i s = .next (t.sendTurn l) ∧ t.link l = { q with discard := true }) ∧
        (q.st = .handshake → exec i s = .next t ∧ t.link l = q)) ∧
      (q.st ≠ .up → q.st ≠ .handshake → exec i s = .next s)) ∧
    (q.st = .up →
      (q.at64 = 0 → (s.sendTurn l).link l = { q with at64 := 1 } ∧ Output.d2d l (ctrlUnit q) ∈ (s.sendTurn l).out) ∧
      (∀ v m, q.at64 ≠ 0 → q.again = v :: m → (s.sendTurn l).link l = { q with at64 := (q.at64 + 1) % 64, again := m } ∧
        Output.d2d l v ∈ (s.sendTurn l).out) ∧
      (q.at64 ≠ 0 → q.again = [] → ∃ v, Output.d2d l v ∈ (s.sendTurn l).out ∧
        ((v.kind = 0 ∧ (s.sendTurn l).link l = { q with at64 := (q.at64 + 1) % 64 }) ∨
          (v.kind.toNat ∈ [0x10, 0x11, 0x12] ∧ q.sent.length < 2047 ∧
            (s.sendTurn l).link l = { q with at64 := (q.at64 + 1) % 64, sent := q.sent ++ [v] })))) ∧
    (q.st = .up → ∃ t, exec (.d2dReplayTimerExpiry l) s = .next t ∧ t.flag (.d2d l) 0x10 9 = true ∧
      t.reg (.d2d l) 0x8C = BitVec.ofNat 32 (min 0xFFFFFFFF ((s.reg (.d2d l) 0x8C).toNat + 1)) ∧
      (q.expiries < 7 → only t ∧ t.link l = { q with expiries := q.expiries + 1, again := q.sent } ∧
        Output.d2d l (mkUnit 2 (leBytes q.oldest 2)) ∈ t.out) ∧
      (7 ≤ q.expiries → q.afterRetrain = false → only t ∧ (t.link l).st = .retrain ∧ (t.link l).exp = q.exp))

/-- How a bridge link trains and falls. An attempt takes the candidate width of both ends' bitmaps to its handshake
with a new generation, or fails; a WIDTH unit with the same proposal takes the link up from sequence number 0, a stale
one is ignored, one with a lower common width starts a new exchange, any other takes the link down, as a timeout does;
the third failed retrain and the loss of the clock take it down. A link of a die to X that goes down takes the die
down with cause 1, three failed sideband trainings with cause 2 (R423 to R427). What follows a fall of a link is the
model's reading where R421 leaves it: log entries 44 and 45. -/
def Obligations.BridgeLinksTrainAndFall : Prop :=
  ∀ (l : LinkId) (s : State),
    let q := s.link l
    let d := linkFar l
    let falls := fun (t : State) => (t.link l).st = .down ∧ t.flag (.d2d l) 0x10 13 = true ∧
      (l.val < 4 → (s.die d).isolated = false → (t.die d).isolated = true ∧ (t.die d).cause = 1 ∧ (t.die d).up = false) ∧
      (4 ≤ l.val → t.dies = s.dies ∧ t.hbm = s.hbm)
    let tries := fun (t : State) (near far : BitVec 16) => (t.link l).gen = nextGen q.gen ∧ (t.link l).near = near ∧
      (t.link l).far = far ∧ (t.link l).proposal = candidate near far (s.halfOnly l) ∧
      (t.link l).st = (if candidate near far (s.halfOnly l) = .none then .down else .handshake) ∧ t.hbm = s.hbm ∧
      t.dies = s.dies
    (∀ near far, q.st = .training → ∃ t, exec (.d2dTraining l near far) s = .next t ∧ tries t near far) ∧
    (∀ near far, 4 ≤ l.val → q.st = .down → s.endsUp l = true → ∃ t, exec (.d2dRetry l near far) s = .next t ∧
      tries t near far) ∧
    (∀ u : D2dUnit, q.st = .handshake → u.kind = 3 → unitOk u = true → unitNum u 0 1 ≤ 3 →
      let p := Width.ofCode (unitNum u 0 1)
      (unitNum u 2 1 ≠ q.gen → ∃ t, exec (.width l u) s = .next t ∧ t.link l = { q with gotGen := unitNum u 1 1 } ∧
        t.dies = s.dies ∧ t.hbm = s.hbm) ∧
      (unitNum u 2 1 = q.gen →
        (p = q.proposal → p ≠ .none → ∃ t, exec (.width l u) s = .next t ∧ (t.link l).st = .up ∧ (t.link l).width = p ∧
          (t.link l).cnt = 0 ∧ (t.link l).exp = 0 ∧ (t.link l).credits = [0, 0] ∧
          (p ≠ .full → t.flag (.d2d l) 0x10 11 = true) ∧ t.hbm = s.hbm) ∧
        (∀ w, p ≠ q.proposal → commonWidth p q.proposal = some w → ∃ t, exec (.width l u) s = .next t ∧
          (t.link l).st = .handshake ∧ (t.link l).proposal = w ∧ (t.link l).gen = nextGen q.gen ∧
          t.flag (.d2d l) 0x10 12 = true ∧ t.hbm = s.hbm) ∧
        (p ≠ q.proposal ∨ p = .none → commonWidth p q.proposal = none → ∃ t, exec (.width l u) s = .next t ∧ falls t))) ∧
    (q.st = .handshake → (∃ t, exec (.handshakeTimeout l) s = .next t ∧ falls t) ∧
      exec (.widthTimer l) s = .next (s.emit (.d2d l (mkUnit 3 (leBytes q.proposal.code 1 ++ leBytes q.gen 1 ++
        leBytes q.gotGen 1 ++ [0] ++ leBytes q.near.toNat 2))))) ∧
    (q.st = .retrain → ∃ t, exec (.d2dRelockTimeout l) s = .next t ∧
      (q.fails < 2 → (t.link l).st = .retrain ∧ (t.link l).fails = q.fails + 1 ∧ t.hbm = s.hbm) ∧
      (2 ≤ q.fails → falls t)) ∧
    (q.st = .up ∨ q.st = .retrain ∨ q.st = .handshake → ∃ t, exec (.forwardedClockLoss l) s = .next t ∧ falls t) ∧
    (q.st = .training → ∃ t, exec (.forwardedClockLoss l) s = .next t ∧ (t.link l).st = .down ∧ t.dies = s.dies ∧
      t.hbm = s.hbm) ∧
    (∀ r : Requester, s.reaches r (.d2d l) → s.isOwner r = true →
      (q.st = .up → ∃ t, exec (.d2dRetrain r l) s = .next t ∧ (t.link l).st = .retrain ∧ (t.link l).width = q.width ∧
        (t.link l).exp = q.exp ∧ t.flag (.d2d l) 0x10 10 = true ∧ t.hbm = s.hbm) ∧
      (q.st = .down → s.endsPowered l = true → ∃ t, exec (.d2dRetrain r l) s = .next t ∧ (t.link l).st = .training ∧
        t.hbm = s.hbm)) ∧
    (∀ n, q.sideband = true → ∃ t, exec (.sidebandParity l n) s = .next t ∧ t.flag (.d2d l) 0x10 15 = true ∧
      (n < 3 → t.links = s.links ∧ t.dies = s.dies ∧ t.hbm = s.hbm) ∧
      (3 ≤ n → (t.link l).sideband = false ∧ (4 ≤ l.val → t.dies = s.dies) ∧
        (l.val < 4 → (s.die d).isolated = false → (t.die d).isolated = true ∧ (t.die d).cause = 2 ∧ (t.die d).up = false)))

/-- A die reset. From the owner it isolates the die with code 8, its contents kept where its stacks still refresh; a
second one while it runs is a violation. With what it finds it ends with the die in service, its cores tested (those
fenced for their die return, a failed one has CAUSE 3, every other husk stays one), its stacks trained with what they
keep and its link to X up at the candidate width of the bitmaps found; a wrong identity (9), and a link that fails or
has no width, leave it isolated with FAILED set (R423, R427, R429). What a die keeps and how its link shakes hands are
the model's readings: log entries 44 and 45. -/
def Obligations.DiesAreReset : Prop :=
  ∀ (d : DieId) (s : State),
    (∀ r : Requester, s.reaches r .pwr → s.isOwner r = true →
      ((s.die d).busy = false → ∃ t, exec (.dieReset r d) s = .next t ∧ (t.die d).busy = true ∧ (t.die d).failed = false ∧
        (t.die d).isolated = true ∧ (∀ e, e ≠ d → t.die e = s.die e) ∧
        ((s.die d).isolated = false → (t.die d).cause = 8 ∧ (t.die d).up = false) ∧
        ((s.die d).isolated = true → (t.die d).cause = (s.die d).cause ∧ t.hbm = s.hbm) ∧
        ((s.die d).up = true → t.hbm = s.hbm)) ∧
      ((s.die d).busy = true → ∃ t, exec (.dieReset r d) s = .next t ∧ t.dies = s.dies ∧ t.flag .pwr 0x10 0 = true ∧
        t.hbm = s.hbm)) ∧
    (∀ b : DieBringUp, (s.die d).busy = true → s.pwr.warm = false →
      let w := candidate b.near b.far (s.halfOnly (ownLink d))
      (b.dieId = some (BitVec.ofNat 4 d.val) → b.linkOk = true → w ≠ .none → b.badStacks = [] →
        ∃ t, exec (.dieResetDone d b) s = .next t ∧
        (t.die d).up = true ∧ (t.die d).isolated = false ∧ (t.die d).busy = false ∧ (t.die d).failed = false ∧
        (t.die d).cause = 0 ∧ (t.link (ownLink d)).st = .up ∧ (t.link (ownLink d)).width = w ∧
        (t.link (ownLink d)).gen = nextGen (s.link (ownLink d)).gen ∧ (∀ k ∈ stacksOf d, (t.stack k).trained = true) ∧
        (∀ c ∈ coresOf d, (t.core c).cause =
          (if (s.core c).cause = 0 ∨ (s.core c).cause = 5 then
            (if b.katFails.any (fun i => i.val == c.val % 48) then 3 else 0) else (s.core c).cause)) ∧
        (∀ e, e ≠ d → t.die e = s.die e) ∧ ((s.die d).refresh = true → t.hbm = s.hbm)) ∧
      (b.dieId ≠ some (BitVec.ofNat 4 d.val) → ∃ t, exec (.dieResetDone d b) s = .next t ∧ (t.die d).isolated = true ∧
        (t.die d).cause = 9 ∧ (t.die d).failed = true ∧ (t.die d).busy = false ∧ t.flag .glb 0x10 9 = true) ∧
      (b.dieId = some (BitVec.ofNat 4 d.val) → b.linkOk = false ∨ w = .none → ∃ t, exec (.dieResetDone d b) s = .next t ∧
        (t.die d).isolated = true ∧ (t.die d).failed = true ∧ (t.die d).busy = false))

/-- Requests for a power state are accepted from the owner in the states of R444, and lower CONTROL on the way into
RETAIN; a request for the present state has no effect; any other is a violation. When the state is reached, IDLE
changes nothing else, RETAIN powers the dies down without isolating them and keeps the memory, and OFF leaves only
what R441 keeps, with the level CLOSED and unmarked (R443 to R446, R488, R492). That requests in a warm reset are
refused, and what OFF does to tokens, are the model's readings: log entries 48, 50 and 53. -/
def Obligations.PowerStatesAreRequested : Prop :=
  ∀ s : State,
    (∀ (r : Requester) (i : Instr) (p : PowerState), s.reaches r .pwr → s.isOwner r = true →
      (i = .requestRun r ∧ p = .run) ∨ (i = .requestIdle r ∧ p = .idle) ∨ (i = .requestRetain r ∧ p = .retain) ∨
        (i = .requestOff r ∧ p = .off) →
      let rest := s.job.st = .empty ∨ s.job.st = .loaded ∨ s.job.st = .loadFailed ∨ s.job.st = .halted
      let listed := (p = .idle ∧ s.pwr.st = .run ∧ (rest ∨ s.job.st = .paused)) ∨
        (p = .retain ∧ (s.pwr.st = .run ∨ s.pwr.st = .idle) ∧ rest) ∨
        (p = .run ∧ (s.pwr.st = .idle ∨ s.pwr.st = .retain)) ∨
        (p = .off ∧ (s.pwr.st = .run ∨ s.pwr.st = .idle ∨ s.pwr.st = .retain) ∧
          (s.job.st = .empty ∨ s.job.st = .loadFailed))
      let still := s.pwr.target = s.pwr.st ∧ s.pwr.warm = false
      (still → listed → ∃ t, exec i s = .next t ∧ t.pwr = { s.pwr with target := p } ∧ t.job = s.job ∧ t.hbm = s.hbm ∧
        t.dies = s.dies ∧ t.sec.level = (if p = .retain ∧ s.sec.level = 2 then 1 else s.sec.level)) ∧
      (still → p = s.pwr.st → exec i s = .next s) ∧
      (¬still ∨ (p ≠ s.pwr.st ∧ ¬listed) → ∃ t, exec i s = .next t ∧ t.pwr = s.pwr ∧ t.sec.level = s.sec.level ∧
        t.flag .pwr 0x10 0 = true ∧ t.hbm = s.hbm)) ∧
    (∀ b : List DieBringUp, s.pwr.target ≠ s.pwr.st → s.pwr.warm = false →
      (s.pwr.target = .idle ∨ (s.pwr.target = .run ∧ s.pwr.st ≠ .retain) → ∃ t, exec (.powerStateReached b) s = .next t ∧
        t.pwr = { s.pwr with st := s.pwr.target } ∧ t.job = s.job ∧ t.hbm = s.hbm ∧ t.dies = s.dies ∧ t.sec = s.sec) ∧
      (s.pwr.target = .retain → ∃ t, exec (.powerStateReached b) s = .next t ∧ t.pwr.st = .retain ∧ t.hbm = s.hbm ∧
        t.job.st = s.job.st ∧ t.sec = s.sec ∧ (∀ d, (t.die d).up = false ∧ (t.die d).isolated = (s.die d).isolated) ∧
        (∀ d k, (s.die d).up = true → k ∈ stacksOf d → (t.stack k).selfRefresh = true)) ∧
      (s.pwr.target = .off → ∃ t, exec (.powerStateReached b) s = .next t ∧ t.pwr.st = .off ∧ t.pwr.phase = 7 ∧
        t.pwr.lastOff = 1 ∧ t.pwr.powered = false ∧ t.sec.level = 0 ∧ t.sec.marked = false ∧ t.sec.nonce = none ∧
        t.sec.lifecycle = s.sec.lifecycle ∧ t.hbm = [] ∧ t.cores = [] ∧ t.job = {} ∧ t.tim.now = s.tim.now))

/-- Resets of the whole device. A warm reset is a violation in OFF and after a thermal trip; else it halts an active
job with cause 0x10, stops the channels and ends with the job EMPTY and the power state RUN, the level, the mark and
the nonce kept. Cold reset and a drop of VSTBY leave every register at its reset value, the fuses and the flash as
they are. The loss of main power leads to OFF with LAST_OFF 2, and PWR_GOOD out of it. START_UP checks the firmware
slots: with none it stops in BOOT_FAIL, without PWR_GOOD in HELD, else it ends in RUN, READY (R446 to R451, R454,
R474, R475). How commands come to run from reset is the model's choice: log entry 2. -/
def Obligations.ResetsAndStartUp : Prop :=
  ∀ s : State,
    (∀ r : Requester, s.reaches r .pwr → s.isOwner r = true →
      (s.pwr.tripped = true ∨ s.pwr.st = .off → ∃ t, exec (.warmReset r) s = .next t ∧ t.pwr = s.pwr ∧
        t.flag .pwr 0x10 0 = true ∧ t.job.st = s.job.st ∧ t.hbm = s.hbm) ∧
      (s.pwr.tripped = false → s.pwr.st ≠ .off → s.pwr.powered = true → s.pwr.warm = false →
        ∃ t, exec (.warmReset r) s = .next t ∧ t.pwr.warm = true ∧ t.pwr.ready = false ∧ t.pwr.target = .run ∧
          t.job.st = s.job.st ∧ (∀ c, t.chanOn c = false) ∧ t.flt.sweep.busy = false ∧ t.ver.fetch.busy = false ∧
          (s.job.st.active = true → (∃ h ∈ t.job.halts, h.code = 0x10 ∧ h.bcast = true) ∧ t.dies = s.dies) ∧
          (s.job.st.active = false → ∀ d, (t.die d).busy = true ∧ (t.die d).isolated = true))) ∧
    (∀ b : List DieBringUp, s.pwr.warm = true → s.job.st.active = false → ∃ t, exec (.warmResetDone b) s = .next t ∧
      t.pwr.warm = false ∧ t.pwr.st = .run ∧ t.pwr.target = .run ∧ t.pwr.ready = true ∧ t.job = {} ∧
      t.owner.host = none ∧ t.sec.level = s.sec.level ∧ t.sec.marked = s.sec.marked ∧ t.sec.nonce = s.sec.nonce ∧
      t.tim.now = s.tim.now ∧ (∀ c, (t.chan c).st = .idle)) ∧
    (∀ i : Instr, i = .coldReset ∨ i = .vstbyDrop → ∃ t, exec i s = .next t ∧
      (∀ b o row, b.row? o = some row → t.reg b o = BitVec.ofNat 32 row.reset) ∧ t.pwr.st = .starting ∧ t.pwr.phase = 0 ∧
      t.pwr.tripped = false ∧ t.job = {} ∧ t.hbm = [] ∧ t.cores = [] ∧ t.owner.host = none ∧ t.sec.level = 0 ∧
      t.sec.marked = false ∧ t.sec.nonce = none ∧ t.sec.fails = 0 ∧ t.sec.lifecycle = s.sec.lifecycle ∧
      t.sec.minSvn = s.sec.minSvn ∧ t.sec.ownerRoot = s.sec.ownerRoot ∧ t.sec.flash = s.sec.flash ∧
      t.sec.meas = List.replicate 8 zero32) ∧
    (s.pwr.powered = true → ∃ t, exec .lossOfMainPower s = .next t ∧ t.pwr.st = .off ∧ t.pwr.lastOff = 2 ∧
      t.pwr.powered = false ∧ t.sec.level = 0 ∧ t.sec.marked = false ∧ t.sec.nonce = none ∧
      t.sec.lifecycle = s.sec.lifecycle ∧ t.hbm = [] ∧ t.job = {} ∧
      (s.job.st.active = true → ∀ p, (s.port p).st = .up → ∃ f, Output.fu p f ∈ t.out ∧ f.type = 4)) ∧
    (∀ b : BoardStart, s.pwr.st = .off → b.pwrGood = true → ∃ t, exec (.exitFromOff b) s = .next t ∧ t.pwr.st = .run ∧
      t.pwr.phase = 6 ∧ t.pwr.ready = true ∧ t.pwr.powered = true ∧ t.sec.level = s.sec.level ∧
      t.sec.marked = s.sec.marked ∧ t.sec.nonce = none ∧ t.job.st = s.job.st) ∧
    (∀ b : BoardStart, s.pwr.st = .starting → s.pwr.phase = 0 → s.sec.meas = List.replicate 8 zero32 →
      let c := { s.sec with flash := b.program.getD s.sec.flash }
      (c.bootSlot = none → ∃ t, exec (.startUp b) s = .next t ∧ t.pwr.phase = 0xF ∧ t.pwr.st = .starting ∧
        t.sec.booted = s.sec.booted ∧ t.sec.meas = s.sec.meas ∧ t.hbm = s.hbm) ∧
      (∀ sl img, c.bootSlot = some (sl, img) → ∃ t, exec (.startUp b) s = .next t ∧ t.sec.booted = true ∧
        t.sec.slotB = sl ∧ t.sec.fwVersion = img.version ∧ t.sec.identity = decide (s.sec.lifecycle ≠ 4) ∧
        t.sec.meas[0]? = some (sha256 (zero32 ++ img.romextSha)) ∧ t.sec.meas[1]? = some (sha256 (zero32 ++ img.fwSha)) ∧
        (b.pwrGood = false → t.pwr.phase = 0xE ∧ t.pwr.st = .starting ∧ t.hbm = s.hbm) ∧
        (b.pwrGood = true → t.pwr.phase = 6 ∧ t.pwr.st = .run ∧ t.pwr.ready = true)))
end

