-- ==== Sys2Proof/Laws/FrameOps.lean ====
section
/-!
SUPPORT. What the shared operations, memory, links and the router leave unchanged.
-/

namespace Sys2Proof.Machine

open Sys2Proof

@[simp] theorem State.each_pending {α : Type} (f : State → α → State) (h : ∀ s a, (f s a).pending = s.pending) (l : List α)
    (s : State) : (s.each l f).pending = s.pending := by
  induction l generalizing s with
  | nil => rfl
  | cons a l ih => exact (ih (f s a)).trans (h s a)

@[simp] theorem foldl_pending {α : Type} (f : State → α → State) (h : ∀ s a, (f s a).pending = s.pending) (l : List α)
    (s : State) : (l.foldl f s).pending = s.pending := State.each_pending f h l s

@[simp] theorem foldl_snd_pending {α β : Type} (f : β × State → α → β × State)
    (h : ∀ r a, (f r a).2.pending = r.2.pending) (l : List α) (r : β × State) : (l.foldl f r).2.pending = r.2.pending := by
  induction l generalizing r with
  | nil => rfl
  | cons a l ih => exact (ih (f r a)).trans (h r a)

@[simp] theorem foldr_snd_pending {α β : Type} (f : α → β × State → β × State)
    (h : ∀ a r, (f a r).2.pending = r.2.pending) (l : List α) (r : β × State) : (l.foldr f r).2.pending = r.2.pending := by
  induction l with
  | nil => rfl
  | cons a l ih => exact (h a _).trans ih

@[simp] theorem State.each_hbm {α : Type} (f : State → α → State) (h : ∀ s a, (f s a).hbm = s.hbm) (l : List α)
    (s : State) : (s.each l f).hbm = s.hbm := by
  induction l generalizing s with
  | nil => rfl
  | cons a l ih => exact (ih (f s a)).trans (h s a)

@[simp] theorem foldl_hbm {α : Type} (f : State → α → State) (h : ∀ s a, (f s a).hbm = s.hbm) (l : List α)
    (s : State) : (l.foldl f s).hbm = s.hbm := State.each_hbm f h l s

@[simp] theorem foldl_snd_hbm {α β : Type} (f : β × State → α → β × State)
    (h : ∀ r a, (f r a).2.hbm = r.2.hbm) (l : List α) (r : β × State) : (l.foldl f r).2.hbm = r.2.hbm := by
  induction l generalizing r with
  | nil => rfl
  | cons a l ih => exact (ih (f r a)).trans (h r a)

@[simp] theorem foldr_snd_hbm {α β : Type} (f : α → β × State → β × State)
    (h : ∀ a r, (f a r).2.hbm = r.2.hbm) (l : List α) (r : β × State) : (l.foldr f r).2.hbm = r.2.hbm := by
  induction l with
  | nil => rfl
  | cons a l ih => exact (h a _).trans ih

@[simp] theorem State.each_sec {α : Type} (f : State → α → State) (h : ∀ s a, (f s a).sec = s.sec) (l : List α)
    (s : State) : (s.each l f).sec = s.sec := by
  induction l generalizing s with
  | nil => rfl
  | cons a l ih => exact (ih (f s a)).trans (h s a)

@[simp] theorem foldl_sec {α : Type} (f : State → α → State) (h : ∀ s a, (f s a).sec = s.sec) (l : List α)
    (s : State) : (l.foldl f s).sec = s.sec := State.each_sec f h l s

@[simp] theorem foldl_snd_sec {α β : Type} (f : β × State → α → β × State)
    (h : ∀ r a, (f r a).2.sec = r.2.sec) (l : List α) (r : β × State) : (l.foldl f r).2.sec = r.2.sec := by
  induction l generalizing r with
  | nil => rfl
  | cons a l ih => exact (ih (f r a)).trans (h r a)

@[simp] theorem foldr_snd_sec {α β : Type} (f : α → β × State → β × State)
    (h : ∀ a r, (f a r).2.sec = r.2.sec) (l : List α) (r : β × State) : (l.foldr f r).2.sec = r.2.sec := by
  induction l with
  | nil => rfl
  | cons a l ih => exact (h a _).trans ih

@[simp] theorem State.each_owner {α : Type} (f : State → α → State) (h : ∀ s a, (f s a).owner = s.owner) (l : List α)
    (s : State) : (s.each l f).owner = s.owner := by
  induction l generalizing s with
  | nil => rfl
  | cons a l ih => exact (ih (f s a)).trans (h s a)

@[simp] theorem foldl_owner {α : Type} (f : State → α → State) (h : ∀ s a, (f s a).owner = s.owner) (l : List α)
    (s : State) : (l.foldl f s).owner = s.owner := State.each_owner f h l s

@[simp] theorem foldl_snd_owner {α β : Type} (f : β × State → α → β × State)
    (h : ∀ r a, (f r a).2.owner = r.2.owner) (l : List α) (r : β × State) : (l.foldl f r).2.owner = r.2.owner := by
  induction l generalizing r with
  | nil => rfl
  | cons a l ih => exact (ih (f r a)).trans (h r a)

@[simp] theorem foldr_snd_owner {α β : Type} (f : α → β × State → β × State)
    (h : ∀ a r, (f a r).2.owner = r.2.owner) (l : List α) (r : β × State) : (l.foldr f r).2.owner = r.2.owner := by
  induction l with
  | nil => rfl
  | cons a l ih => exact (h a _).trans ih

@[simp] theorem State.each_tim {α : Type} (f : State → α → State) (h : ∀ s a, (f s a).tim = s.tim) (l : List α)
    (s : State) : (s.each l f).tim = s.tim := by
  induction l generalizing s with
  | nil => rfl
  | cons a l ih => exact (ih (f s a)).trans (h s a)

@[simp] theorem foldl_tim {α : Type} (f : State → α → State) (h : ∀ s a, (f s a).tim = s.tim) (l : List α)
    (s : State) : (l.foldl f s).tim = s.tim := State.each_tim f h l s

@[simp] theorem foldl_snd_tim {α β : Type} (f : β × State → α → β × State)
    (h : ∀ r a, (f r a).2.tim = r.2.tim) (l : List α) (r : β × State) : (l.foldl f r).2.tim = r.2.tim := by
  induction l generalizing r with
  | nil => rfl
  | cons a l ih => exact (ih (f r a)).trans (h r a)

@[simp] theorem foldr_snd_tim {α β : Type} (f : α → β × State → β × State)
    (h : ∀ a r, (f a r).2.tim = r.2.tim) (l : List α) (r : β × State) : (l.foldr f r).2.tim = r.2.tim := by
  induction l with
  | nil => rfl
  | cons a l ih => exact (h a _).trans ih

@[simp] theorem State.each_pwr {α : Type} (f : State → α → State) (h : ∀ s a, (f s a).pwr = s.pwr) (l : List α)
    (s : State) : (s.each l f).pwr = s.pwr := by
  induction l generalizing s with
  | nil => rfl
  | cons a l ih => exact (ih (f s a)).trans (h s a)

@[simp] theorem foldl_pwr {α : Type} (f : State → α → State) (h : ∀ s a, (f s a).pwr = s.pwr) (l : List α)
    (s : State) : (l.foldl f s).pwr = s.pwr := State.each_pwr f h l s

@[simp] theorem foldl_snd_pwr {α β : Type} (f : β × State → α → β × State)
    (h : ∀ r a, (f r a).2.pwr = r.2.pwr) (l : List α) (r : β × State) : (l.foldl f r).2.pwr = r.2.pwr := by
  induction l generalizing r with
  | nil => rfl
  | cons a l ih => exact (ih (f r a)).trans (h r a)

@[simp] theorem foldr_snd_pwr {α β : Type} (f : α → β × State → β × State)
    (h : ∀ a r, (f a r).2.pwr = r.2.pwr) (l : List α) (r : β × State) : (l.foldr f r).2.pwr = r.2.pwr := by
  induction l with
  | nil => rfl
  | cons a l ih => exact (h a _).trans ih

@[simp] theorem State.setWord_frame (x0 : State) (x1 : Nat) (x2 : Word) :
    (State.setWord x0 x1 x2).pending = x0.pending ∧ (State.setWord x0 x1 x2).hbm = x0.hbm ∧ (State.setWord x0 x1 x2).sec = x0.sec ∧ (State.setWord x0 x1 x2).owner = x0.owner ∧ (State.setWord x0 x1 x2).tim = x0.tim ∧ (State.setWord x0 x1 x2).pwr = x0.pwr := by
  unfold State.setWord; simp

@[simp] theorem State.setReg_frame (x0 : State) (x1 : Blk) (x2 : Nat) (x3 : Word) :
    (State.setReg x0 x1 x2 x3).pending = x0.pending ∧ (State.setReg x0 x1 x2 x3).hbm = x0.hbm ∧ (State.setReg x0 x1 x2 x3).sec = x0.sec ∧ (State.setReg x0 x1 x2 x3).owner = x0.owner ∧ (State.setReg x0 x1 x2 x3).tim = x0.tim ∧ (State.setReg x0 x1 x2 x3).pwr = x0.pwr := by
  unfold State.setReg; simp

@[simp] theorem State.setField_frame (x0 : State) (x1 : Blk) (x2 : Nat) (x3 : Nat) (x4 : Nat) (x5 : Nat) :
    (State.setField x0 x1 x2 x3 x4 x5).pending = x0.pending ∧ (State.setField x0 x1 x2 x3 x4 x5).hbm = x0.hbm ∧ (State.setField x0 x1 x2 x3 x4 x5).sec = x0.sec ∧ (State.setField x0 x1 x2 x3 x4 x5).owner = x0.owner ∧ (State.setField x0 x1 x2 x3 x4 x5).tim = x0.tim ∧ (State.setField x0 x1 x2 x3 x4 x5).pwr = x0.pwr := by
  unfold State.setField; simp

@[simp] theorem State.setFlag_frame (x0 : State) (x1 : Blk) (x2 : Nat) (x3 : Nat) (x4 : Bool) :
    (State.setFlag x0 x1 x2 x3 x4).pending = x0.pending ∧ (State.setFlag x0 x1 x2 x3 x4).hbm = x0.hbm ∧ (State.setFlag x0 x1 x2 x3 x4).sec = x0.sec ∧ (State.setFlag x0 x1 x2 x3 x4).owner = x0.owner ∧ (State.setFlag x0 x1 x2 x3 x4).tim = x0.tim ∧ (State.setFlag x0 x1 x2 x3 x4).pwr = x0.pwr := by
  unfold State.setFlag; simp

@[simp] theorem State.setReg64_frame (x0 : State) (x1 : Blk) (x2 : Nat) (x3 : Nat) :
    (State.setReg64 x0 x1 x2 x3).pending = x0.pending ∧ (State.setReg64 x0 x1 x2 x3).hbm = x0.hbm ∧ (State.setReg64 x0 x1 x2 x3).sec = x0.sec ∧ (State.setReg64 x0 x1 x2 x3).owner = x0.owner ∧ (State.setReg64 x0 x1 x2 x3).tim = x0.tim ∧ (State.setReg64 x0 x1 x2 x3).pwr = x0.pwr := by
  unfold State.setReg64; simp

@[simp] theorem State.countSat_frame (x0 : State) (x1 : Blk) (x2 : Nat) (x3 : Nat) :
    (State.countSat x0 x1 x2 x3).pending = x0.pending ∧ (State.countSat x0 x1 x2 x3).hbm = x0.hbm ∧ (State.countSat x0 x1 x2 x3).sec = x0.sec ∧ (State.countSat x0 x1 x2 x3).owner = x0.owner ∧ (State.countSat x0 x1 x2 x3).tim = x0.tim ∧ (State.countSat x0 x1 x2 x3).pwr = x0.pwr := by
  unfold State.countSat; simp

@[simp] theorem State.countWrap_frame (x0 : State) (x1 : Blk) (x2 : Nat) (x3 : Nat) :
    (State.countWrap x0 x1 x2 x3).pending = x0.pending ∧ (State.countWrap x0 x1 x2 x3).hbm = x0.hbm ∧ (State.countWrap x0 x1 x2 x3).sec = x0.sec ∧ (State.countWrap x0 x1 x2 x3).owner = x0.owner ∧ (State.countWrap x0 x1 x2 x3).tim = x0.tim ∧ (State.countWrap x0 x1 x2 x3).pwr = x0.pwr := by
  unfold State.countWrap; simp

@[simp] theorem State.setCore_frame (x0 : State) (x1 : CoreId) (x2 : Core) :
    (State.setCore x0 x1 x2).pending = x0.pending ∧ (State.setCore x0 x1 x2).hbm = x0.hbm ∧ (State.setCore x0 x1 x2).sec = x0.sec ∧ (State.setCore x0 x1 x2).owner = x0.owner ∧ (State.setCore x0 x1 x2).tim = x0.tim ∧ (State.setCore x0 x1 x2).pwr = x0.pwr := by
  unfold State.setCore; simp

@[simp] theorem State.modCore_frame (x0 : State) (x1 : CoreId) (x2 : (Core → Core)) :
    (State.modCore x0 x1 x2).pending = x0.pending ∧ (State.modCore x0 x1 x2).hbm = x0.hbm ∧ (State.modCore x0 x1 x2).sec = x0.sec ∧ (State.modCore x0 x1 x2).owner = x0.owner ∧ (State.modCore x0 x1 x2).tim = x0.tim ∧ (State.modCore x0 x1 x2).pwr = x0.pwr := by
  unfold State.modCore; simp

@[simp] theorem State.modDie_frame (x0 : State) (x1 : DieId) (x2 : (Die → Die)) :
    (State.modDie x0 x1 x2).pending = x0.pending ∧ (State.modDie x0 x1 x2).hbm = x0.hbm ∧ (State.modDie x0 x1 x2).sec = x0.sec ∧ (State.modDie x0 x1 x2).owner = x0.owner ∧ (State.modDie x0 x1 x2).tim = x0.tim ∧ (State.modDie x0 x1 x2).pwr = x0.pwr := by
  unfold State.modDie; simp

@[simp] theorem State.modStack_frame (x0 : State) (x1 : StackId) (x2 : (Stack → Stack)) :
    (State.modStack x0 x1 x2).pending = x0.pending ∧ (State.modStack x0 x1 x2).hbm = x0.hbm ∧ (State.modStack x0 x1 x2).sec = x0.sec ∧ (State.modStack x0 x1 x2).owner = x0.owner ∧ (State.modStack x0 x1 x2).tim = x0.tim ∧ (State.modStack x0 x1 x2).pwr = x0.pwr := by
  unfold State.modStack; simp

@[simp] theorem State.setArb_frame (x0 : State) (x1 : StackId) (x2 : Arb) :
    (State.setArb x0 x1 x2).pending = x0.pending ∧ (State.setArb x0 x1 x2).hbm = x0.hbm ∧ (State.setArb x0 x1 x2).sec = x0.sec ∧ (State.setArb x0 x1 x2).owner = x0.owner ∧ (State.setArb x0 x1 x2).tim = x0.tim ∧ (State.setArb x0 x1 x2).pwr = x0.pwr := by
  unfold State.setArb; simp

@[simp] theorem State.modPort_frame (x0 : State) (x1 : PortId) (x2 : (Port → Port)) :
    (State.modPort x0 x1 x2).pending = x0.pending ∧ (State.modPort x0 x1 x2).hbm = x0.hbm ∧ (State.modPort x0 x1 x2).sec = x0.sec ∧ (State.modPort x0 x1 x2).owner = x0.owner ∧ (State.modPort x0 x1 x2).tim = x0.tim ∧ (State.modPort x0 x1 x2).pwr = x0.pwr := by
  unfold State.modPort; simp

@[simp] theorem State.modLink_frame (x0 : State) (x1 : LinkId) (x2 : (Link → Link)) :
    (State.modLink x0 x1 x2).pending = x0.pending ∧ (State.modLink x0 x1 x2).hbm = x0.hbm ∧ (State.modLink x0 x1 x2).sec = x0.sec ∧ (State.modLink x0 x1 x2).owner = x0.owner ∧ (State.modLink x0 x1 x2).tim = x0.tim ∧ (State.modLink x0 x1 x2).pwr = x0.pwr := by
  unfold State.modLink; simp

@[simp] theorem State.modHost_frame (x0 : State) (x1 : HostId) (x2 : (HostPort → HostPort)) :
    (State.modHost x0 x1 x2).pending = x0.pending ∧ (State.modHost x0 x1 x2).hbm = x0.hbm ∧ (State.modHost x0 x1 x2).sec = x0.sec ∧ (State.modHost x0 x1 x2).owner = x0.owner ∧ (State.modHost x0 x1 x2).tim = x0.tim ∧ (State.modHost x0 x1 x2).pwr = x0.pwr := by
  unfold State.modHost; simp

@[simp] theorem State.modChan_frame (x0 : State) (x1 : ChanId) (x2 : (Channel → Channel)) :
    (State.modChan x0 x1 x2).pending = x0.pending ∧ (State.modChan x0 x1 x2).hbm = x0.hbm ∧ (State.modChan x0 x1 x2).sec = x0.sec ∧ (State.modChan x0 x1 x2).owner = x0.owner ∧ (State.modChan x0 x1 x2).tim = x0.tim ∧ (State.modChan x0 x1 x2).pwr = x0.pwr := by
  unfold State.modChan; simp

@[simp] theorem State.emit_frame (x0 : State) (x1 : Output) :
    (State.emit x0 x1).pending = x0.pending ∧ (State.emit x0 x1).hbm = x0.hbm ∧ (State.emit x0 x1).sec = x0.sec ∧ (State.emit x0 x1).owner = x0.owner ∧ (State.emit x0 x1).tim = x0.tim ∧ (State.emit x0 x1).pwr = x0.pwr := by
  unfold State.emit; simp

@[simp] theorem State.fire_frame (x0 : State) (x1 : HostId) (x2 : Nat) :
    (State.fire x0 x1 x2).pending = x0.pending ∧ (State.fire x0 x1 x2).hbm = x0.hbm ∧ (State.fire x0 x1 x2).sec = x0.sec ∧ (State.fire x0 x1 x2).owner = x0.owner ∧ (State.fire x0 x1 x2).tim = x0.tim ∧ (State.fire x0 x1 x2).pwr = x0.pwr := by
  unfold State.fire; simp; ((repeat' split) <;> simp)

@[simp] theorem State.advisory_frame (x0 : State) (x1 : HostId) (x2 : Nat) :
    (State.advisory x0 x1 x2).pending = x0.pending ∧ (State.advisory x0 x1 x2).hbm = x0.hbm ∧ (State.advisory x0 x1 x2).sec = x0.sec ∧ (State.advisory x0 x1 x2).owner = x0.owner ∧ (State.advisory x0 x1 x2).tim = x0.tim ∧ (State.advisory x0 x1 x2).pwr = x0.pwr := by
  unfold State.advisory; simp

@[simp] theorem State.completerAborts_frame (x0 : State) (x1 : HostId) :
    (State.completerAborts x0 x1).pending = x0.pending ∧ (State.completerAborts x0 x1).hbm = x0.hbm ∧ (State.completerAborts x0 x1).sec = x0.sec ∧ (State.completerAborts x0 x1).owner = x0.owner ∧ (State.completerAborts x0 x1).tim = x0.tim ∧ (State.completerAborts x0 x1).pwr = x0.pwr := by
  unfold State.completerAborts; simp

@[simp] theorem State.fireBit_frame (x0 : State) (x1 : Blk) (x2 : Nat) :
    (State.fireBit x0 x1 x2).pending = x0.pending ∧ (State.fireBit x0 x1 x2).hbm = x0.hbm ∧ (State.fireBit x0 x1 x2).sec = x0.sec ∧ (State.fireBit x0 x1 x2).owner = x0.owner ∧ (State.fireBit x0 x1 x2).tim = x0.tim ∧ (State.fireBit x0 x1 x2).pwr = x0.pwr := by
  unfold State.fireBit; ((repeat' split) <;> simp)

@[simp] theorem State.irq_frame (x0 : State) (x1 : Blk) (x2 : Nat) :
    (State.irq x0 x1 x2).pending = x0.pending ∧ (State.irq x0 x1 x2).hbm = x0.hbm ∧ (State.irq x0 x1 x2).sec = x0.sec ∧ (State.irq x0 x1 x2).owner = x0.owner ∧ (State.irq x0 x1 x2).tim = x0.tim ∧ (State.irq x0 x1 x2).pwr = x0.pwr := by
  unfold State.irq; simp; ((repeat' split) <;> simp)

@[simp] theorem State.trace_frame (x0 : State) (x1 : Nat) (x2 : Nat) (x3 : Nat) :
    (State.trace x0 x1 x2 x3).pending = x0.pending ∧ (State.trace x0 x1 x2 x3).hbm = x0.hbm ∧ (State.trace x0 x1 x2 x3).sec = x0.sec ∧ (State.trace x0 x1 x2 x3).owner = x0.owner ∧ (State.trace x0 x1 x2 x3).tim = x0.tim ∧ (State.trace x0 x1 x2 x3).pwr = x0.pwr := by
  unfold State.trace; ((repeat' split) <;> simp)

@[simp] theorem State.telOne_frame (x0 : Nat) (x1 : Nat) (x2 : Nat) (x3 : State) (x4 : Nat) :
    (State.telOne x0 x1 x2 x3 x4).pending = x3.pending ∧ (State.telOne x0 x1 x2 x3 x4).hbm = x3.hbm ∧ (State.telOne x0 x1 x2 x3 x4).sec = x3.sec ∧ (State.telOne x0 x1 x2 x3 x4).owner = x3.owner ∧ (State.telOne x0 x1 x2 x3 x4).tim = x3.tim ∧ (State.telOne x0 x1 x2 x3 x4).pwr = x3.pwr := by
  unfold State.telOne; simp; ((repeat' split) <;> simp)

@[simp] theorem State.tel_frame (x0 : State) (x1 : Nat) (x2 : Nat) (x3 : Nat) :
    (State.tel x0 x1 x2 x3).pending = x0.pending ∧ (State.tel x0 x1 x2 x3).hbm = x0.hbm ∧ (State.tel x0 x1 x2 x3).sec = x0.sec ∧ (State.tel x0 x1 x2 x3).owner = x0.owner ∧ (State.tel x0 x1 x2 x3).tim = x0.tim ∧ (State.tel x0 x1 x2 x3).pwr = x0.pwr := by
  unfold State.tel; ((repeat' split) <;> simp)

@[simp] theorem State.ibi_frame (x0 : State) (x1 : Byte) :
    (State.ibi x0 x1).pending = x0.pending ∧ (State.ibi x0 x1).hbm = x0.hbm ∧ (State.ibi x0 x1).sec = x0.sec ∧ (State.ibi x0 x1).owner = x0.owner ∧ (State.ibi x0 x1).tim = x0.tim ∧ (State.ibi x0 x1).pwr = x0.pwr := by
  unfold State.ibi; ((repeat' split) <;> simp)

@[simp] theorem State.record_frame (x0 : State) (x1 : Cause) :
    (State.record x0 x1).pending = x0.pending ∧ (State.record x0 x1).hbm = x0.hbm ∧ (State.record x0 x1).sec = x0.sec ∧ (State.record x0 x1).owner = x0.owner ∧ (State.record x0 x1).tim = x0.tim ∧ (State.record x0 x1).pwr = x0.pwr := by
  unfold State.record; simp; ((repeat' split) <;> simp)

@[simp] theorem State.setCause_frame (x0 : State) (x1 : Cause) :
    (State.setCause x0 x1).pending = x0.pending ∧ (State.setCause x0 x1).hbm = x0.hbm ∧ (State.setCause x0 x1).sec = x0.sec ∧ (State.setCause x0 x1).owner = x0.owner ∧ (State.setCause x0 x1).tim = x0.tim ∧ (State.setCause x0 x1).pwr = x0.pwr := by
  unfold State.setCause; simp

@[simp] theorem State.rasReport_frame (x0 : State) (x1 : Cause) (x2 : Nat) :
    (State.rasReport x0 x1 x2).pending = x0.pending ∧ (State.rasReport x0 x1 x2).hbm = x0.hbm ∧ (State.rasReport x0 x1 x2).sec = x0.sec ∧ (State.rasReport x0 x1 x2).owner = x0.owner ∧ (State.rasReport x0 x1 x2).tim = x0.tim ∧ (State.rasReport x0 x1 x2).pwr = x0.pwr := by
  unfold State.rasReport; simp; ((repeat' split) <;> simp)

@[simp] theorem State.requestHalt_frame (x0 : State) (x1 : HaltReq) :
    (State.requestHalt x0 x1).pending = x0.pending ∧ (State.requestHalt x0 x1).hbm = x0.hbm ∧ (State.requestHalt x0 x1).sec = x0.sec ∧ (State.requestHalt x0 x1).owner = x0.owner ∧ (State.requestHalt x0 x1).tim = x0.tim ∧ (State.requestHalt x0 x1).pwr = x0.pwr := by
  unfold State.requestHalt; simp

@[simp] theorem State.haltFor_frame (x0 : State) (x1 : Cause) (x2 : Nat) (x3 : Nat) :
    (State.haltFor x0 x1 x2 x3).pending = x0.pending ∧ (State.haltFor x0 x1 x2 x3).hbm = x0.hbm ∧ (State.haltFor x0 x1 x2 x3).sec = x0.sec ∧ (State.haltFor x0 x1 x2 x3).owner = x0.owner ∧ (State.haltFor x0 x1 x2 x3).tim = x0.tim ∧ (State.haltFor x0 x1 x2 x3).pwr = x0.pwr := by
  unfold State.haltFor; ((repeat' split) <;> simp)

@[simp] theorem State.settleAlert_frame (s s' : State) :
    (s.settleAlert s').pending = s'.pending ∧ (s.settleAlert s').hbm = s'.hbm ∧ (s.settleAlert s').sec = s'.sec ∧ (s.settleAlert s').owner = s'.owner ∧ (s.settleAlert s').tim = s'.tim ∧ (s.settleAlert s').pwr = s'.pwr := by
  unfold State.settleAlert; dsimp only; (repeat' split) <;> simp

@[simp] theorem State.raise_frame (x0 : State) (x1 : Cause) :
    (State.raise x0 x1).pending = x0.pending ∧ (State.raise x0 x1).hbm = x0.hbm ∧ (State.raise x0 x1).sec = x0.sec ∧ (State.raise x0 x1).owner = x0.owner ∧ (State.raise x0 x1).tim = x0.tim ∧ (State.raise x0 x1).pwr = x0.pwr := by
  unfold State.raise; ((repeat' split) <;> simp)

@[simp] theorem State.poisonSeen_frame (x0 : State) (x1 : Blk) :
    (State.poisonSeen x0 x1).pending = x0.pending ∧ (State.poisonSeen x0 x1).hbm = x0.hbm ∧ (State.poisonSeen x0 x1).sec = x0.sec ∧ (State.poisonSeen x0 x1).owner = x0.owner ∧ (State.poisonSeen x0 x1).tim = x0.tim ∧ (State.poisonSeen x0 x1).pwr = x0.pwr := by
  unfold State.poisonSeen; simp

@[simp] theorem State.violation_frame (x0 : State) (x1 : Blk) (x2 : Nat) (x3 : Requester) :
    (State.violation x0 x1 x2 x3).pending = x0.pending ∧ (State.violation x0 x1 x2 x3).hbm = x0.hbm ∧ (State.violation x0 x1 x2 x3).sec = x0.sec ∧ (State.violation x0 x1 x2 x3).owner = x0.owner ∧ (State.violation x0 x1 x2 x3).tim = x0.tim ∧ (State.violation x0 x1 x2 x3).pwr = x0.pwr := by
  unfold State.violation; ((repeat' split) <;> simp)

@[simp] theorem State.takeFree_frame (x0 : State) :
    (State.takeFree x0).2.pending = x0.pending ∧ (State.takeFree x0).2.hbm = x0.hbm ∧ (State.takeFree x0).2.sec = x0.sec ∧ (State.takeFree x0).2.owner = x0.owner ∧ (State.takeFree x0).2.tim = x0.tim ∧ (State.takeFree x0).2.pwr = x0.pwr := by
  unfold State.takeFree; simp

@[simp] theorem State.takeFreeBytes_frame (x0 : State) (x1 : Nat) :
    (State.takeFreeBytes x0 x1).2.pending = x0.pending ∧ (State.takeFreeBytes x0 x1).2.hbm = x0.hbm ∧ (State.takeFreeBytes x0 x1).2.sec = x0.sec ∧ (State.takeFreeBytes x0 x1).2.owner = x0.owner ∧ (State.takeFreeBytes x0 x1).2.tim = x0.tim ∧ (State.takeFreeBytes x0 x1).2.pwr = x0.pwr := by
  unfold State.takeFreeBytes; simp

@[simp] theorem State.setJobState_frame (x0 : State) (x1 : JobState) :
    (State.setJobState x0 x1).pending = x0.pending ∧ (State.setJobState x0 x1).hbm = x0.hbm ∧ (State.setJobState x0 x1).sec = x0.sec ∧ (State.setJobState x0 x1).owner = x0.owner ∧ (State.setJobState x0 x1).tim = x0.tim ∧ (State.setJobState x0 x1).pwr = x0.pwr := by
  unfold State.setJobState; ((repeat' split) <;> simp)

@[simp] theorem State.latchRoutes_frame (x0 : State) :
    (State.latchRoutes x0).pending = x0.pending ∧ (State.latchRoutes x0).hbm = x0.hbm ∧ (State.latchRoutes x0).sec = x0.sec ∧ (State.latchRoutes x0).owner = x0.owner ∧ (State.latchRoutes x0).tim = x0.tim ∧ (State.latchRoutes x0).pwr = x0.pwr := by
  unfold State.latchRoutes; simp

@[simp] theorem State.putByte_frame (x0 : State) (x1 : Nat) (x2 : Byte) :
    (State.putByte x0 x1 x2).pending = x0.pending ∧ (State.putByte x0 x1 x2).sec = x0.sec ∧ (State.putByte x0 x1 x2).owner = x0.owner ∧ (State.putByte x0 x1 x2).tim = x0.tim ∧ (State.putByte x0 x1 x2).pwr = x0.pwr := by
  unfold State.putByte; simp

@[simp] theorem State.putBytes_frame (x0 : State) (x1 : Nat) (x2 : List Byte) :
    (State.putBytes x0 x1 x2).pending = x0.pending ∧ (State.putBytes x0 x1 x2).sec = x0.sec ∧ (State.putBytes x0 x1 x2).owner = x0.owner ∧ (State.putBytes x0 x1 x2).tim = x0.tim ∧ (State.putBytes x0 x1 x2).pwr = x0.pwr := by
  induction x2 generalizing x0 x1 with
  | nil => simp [State.putBytes]
  | cons v l ih => unfold State.putBytes; simp [ih]

@[simp] theorem State.setPoison_frame (x0 : State) (x1 : Nat) (x2 : Bool) :
    (State.setPoison x0 x1 x2).pending = x0.pending ∧ (State.setPoison x0 x1 x2).hbm = x0.hbm ∧ (State.setPoison x0 x1 x2).sec = x0.sec ∧ (State.setPoison x0 x1 x2).owner = x0.owner ∧ (State.setPoison x0 x1 x2).tim = x0.tim ∧ (State.setPoison x0 x1 x2).pwr = x0.pwr := by
  unfold State.setPoison; simp

@[simp] theorem State.markPoisoned_frame (x0 : State) (x1 : Nat) :
    (State.markPoisoned x0 x1).pending = x0.pending ∧ (State.markPoisoned x0 x1).hbm = x0.hbm ∧ (State.markPoisoned x0 x1).sec = x0.sec ∧ (State.markPoisoned x0 x1).owner = x0.owner ∧ (State.markPoisoned x0 x1).tim = x0.tim ∧ (State.markPoisoned x0 x1).pwr = x0.pwr := by
  unfold State.markPoisoned; simp

@[simp] theorem State.findLost_frame (x0 : State) (x1 : Nat) :
    (State.findLost x0 x1).pending = x0.pending ∧ (State.findLost x0 x1).sec = x0.sec ∧ (State.findLost x0 x1).owner = x0.owner ∧ (State.findLost x0 x1).tim = x0.tim ∧ (State.findLost x0 x1).pwr = x0.pwr := by
  unfold State.findLost; simp; ((repeat' split) <;> simp)

@[simp] theorem State.setUpset_frame (x0 : State) (x1 : Nat) (x2 : Nat) :
    (State.setUpset x0 x1 x2).pending = x0.pending ∧ (State.setUpset x0 x1 x2).hbm = x0.hbm ∧ (State.setUpset x0 x1 x2).sec = x0.sec ∧ (State.setUpset x0 x1 x2).owner = x0.owner ∧ (State.setUpset x0 x1 x2).tim = x0.tim ∧ (State.setUpset x0 x1 x2).pwr = x0.pwr := by
  unfold State.setUpset; simp

@[simp] theorem State.findUpset_frame (x0 : State) (x1 : Nat) :
    (State.findUpset x0 x1).pending = x0.pending ∧ (State.findUpset x0 x1).hbm = x0.hbm ∧ (State.findUpset x0 x1).sec = x0.sec ∧ (State.findUpset x0 x1).owner = x0.owner ∧ (State.findUpset x0 x1).tim = x0.tim ∧ (State.findUpset x0 x1).pwr = x0.pwr := by
  unfold State.findUpset; simp; ((repeat' split) <;> simp)

@[simp] theorem State.checkBlock_frame (x0 : State) (x1 : Nat) :
    (State.checkBlock x0 x1).pending = x0.pending ∧ (State.checkBlock x0 x1).sec = x0.sec ∧ (State.checkBlock x0 x1).owner = x0.owner ∧ (State.checkBlock x0 x1).tim = x0.tim ∧ (State.checkBlock x0 x1).pwr = x0.pwr := by
  unfold State.checkBlock; simp

@[simp] theorem State.checkRead_frame (x0 : State) (x1 : Nat) (x2 : Nat) :
    (State.checkRead x0 x1 x2).pending = x0.pending ∧ (State.checkRead x0 x1 x2).sec = x0.sec ∧ (State.checkRead x0 x1 x2).owner = x0.owner ∧ (State.checkRead x0 x1 x2).tim = x0.tim ∧ (State.checkRead x0 x1 x2).pwr = x0.pwr := by
  unfold State.checkRead; ((repeat' split) <;> simp)

@[simp] theorem State.writeBlock_frame (x0 : State) (x1 : Nat) (x2 : List (Nat × Byte)) (x3 : Bool) :
    (State.writeBlock x0 x1 x2 x3).pending = x0.pending ∧ (State.writeBlock x0 x1 x2 x3).sec = x0.sec ∧ (State.writeBlock x0 x1 x2 x3).owner = x0.owner ∧ (State.writeBlock x0 x1 x2 x3).tim = x0.tim ∧ (State.writeBlock x0 x1 x2 x3).pwr = x0.pwr := by
  unfold State.writeBlock; simp; ((repeat' split) <;> simp)

@[simp] theorem State.writeCells_frame (x0 : State) (x1 : Nat) (x2 : Store (Byte × Bool)) :
    (State.writeCells x0 x1 x2).pending = x0.pending ∧ (State.writeCells x0 x1 x2).sec = x0.sec ∧ (State.writeCells x0 x1 x2).owner = x0.owner ∧ (State.writeCells x0 x1 x2).tim = x0.tim ∧ (State.writeCells x0 x1 x2).pwr = x0.pwr := by
  induction x1 generalizing x0 x2 with
  | zero => unfold State.writeCells; simp
  | succ n ih =>
    unfold State.writeCells
    cases x2 with
    | nil => simp
    | cons e m => simp [ih]

@[simp] theorem State.write_frame (x0 : State) (x1 : Nat) (x2 : List Byte) (x3 : Bool) :
    (State.write x0 x1 x2 x3).pending = x0.pending ∧ (State.write x0 x1 x2 x3).sec = x0.sec ∧ (State.write x0 x1 x2 x3).owner = x0.owner ∧ (State.write x0 x1 x2 x3).tim = x0.tim ∧ (State.write x0 x1 x2 x3).pwr = x0.pwr := by
  unfold State.write; simp

@[simp] theorem State.writeP_frame (x0 : State) (x1 : Nat) (x2 : List (Byte × Bool)) :
    (State.writeP x0 x1 x2).pending = x0.pending ∧ (State.writeP x0 x1 x2).sec = x0.sec ∧ (State.writeP x0 x1 x2).owner = x0.owner ∧ (State.writeP x0 x1 x2).tim = x0.tim ∧ (State.writeP x0 x1 x2).pwr = x0.pwr := by
  unfold State.writeP; simp

@[simp] theorem State.fillStack_frame (x0 : State) (x1 : StackId) :
    (State.fillStack x0 x1).pending = x0.pending ∧ (State.fillStack x0 x1).sec = x0.sec ∧ (State.fillStack x0 x1).owner = x0.owner ∧ (State.fillStack x0 x1).tim = x0.tim ∧ (State.fillStack x0 x1).pwr = x0.pwr := by
  unfold State.fillStack; simp

@[simp] theorem State.loseStack_frame (x0 : State) (x1 : StackId) :
    (State.loseStack x0 x1).pending = x0.pending ∧ (State.loseStack x0 x1).sec = x0.sec ∧ (State.loseStack x0 x1).owner = x0.owner ∧ (State.loseStack x0 x1).tim = x0.tim ∧ (State.loseStack x0 x1).pwr = x0.pwr := by
  unfold State.loseStack; simp

@[simp] theorem State.zeroHbm_frame (x0 : State) :
    (State.zeroHbm x0).pending = x0.pending ∧ (State.zeroHbm x0).sec = x0.sec ∧ (State.zeroHbm x0).owner = x0.owner ∧ (State.zeroHbm x0).tim = x0.tim ∧ (State.zeroHbm x0).pwr = x0.pwr := by
  unfold State.zeroHbm; simp

@[simp] theorem State.arbitrate_frame (x0 : State) (x1 : StackId) (x2 : ArbEntry) (x3 : List ArbEntry) :
    (State.arbitrate x0 x1 x2 x3).2.pending = x0.pending ∧ (State.arbitrate x0 x1 x2 x3).2.hbm = x0.hbm ∧ (State.arbitrate x0 x1 x2 x3).2.sec = x0.sec ∧ (State.arbitrate x0 x1 x2 x3).2.owner = x0.owner ∧ (State.arbitrate x0 x1 x2 x3).2.tim = x0.tim ∧ (State.arbitrate x0 x1 x2 x3).2.pwr = x0.pwr := by
  unfold State.arbitrate; simp

@[simp] theorem State.grant_frame (x0 : StackId) (x1 : ArbEntry) (x2 : List ArbEntry) (x3 : Nat) (x4 : State) :
    (State.grant x0 x1 x2 x3 x4).2.pending = x4.pending ∧ (State.grant x0 x1 x2 x3 x4).2.hbm = x4.hbm ∧ (State.grant x0 x1 x2 x3 x4).2.sec = x4.sec ∧ (State.grant x0 x1 x2 x3 x4).2.owner = x4.owner ∧ (State.grant x0 x1 x2 x3 x4).2.tim = x4.tim ∧ (State.grant x0 x1 x2 x3 x4).2.pwr = x4.pwr := by
  induction x3 generalizing x4 with
  | zero => simp [State.grant]
  | succ n ih =>
    unfold State.grant
    dsimp only
    split <;> simp [ih]

@[simp] theorem State.countGrant_frame (x0 : State) (x1 : StackId) (x2 : Nat) :
    (State.countGrant x0 x1 x2).pending = x0.pending ∧ (State.countGrant x0 x1 x2).hbm = x0.hbm ∧ (State.countGrant x0 x1 x2).sec = x0.sec ∧ (State.countGrant x0 x1 x2).owner = x0.owner ∧ (State.countGrant x0 x1 x2).tim = x0.tim ∧ (State.countGrant x0 x1 x2).pwr = x0.pwr := by
  unfold State.countGrant; split <;> simp

@[simp] theorem State.requestAt_frame (x0 : State) (x1 : StackId) (x2 : ArbEntry) (x3 : List ArbEntry) :
    (State.requestAt x0 x1 x2 x3).2.pending = x0.pending ∧ (State.requestAt x0 x1 x2 x3).2.hbm = x0.hbm ∧ (State.requestAt x0 x1 x2 x3).2.sec = x0.sec ∧ (State.requestAt x0 x1 x2 x3).2.owner = x0.owner ∧ (State.requestAt x0 x1 x2 x3).2.tim = x0.tim ∧ (State.requestAt x0 x1 x2 x3).2.pwr = x0.pwr := by
  unfold State.requestAt; ((repeat' split) <;> simp)

@[simp] theorem State.requestFor_frame (x0 : State) (x1 : StackId) (x2 : ArbEntry) (x3 : List ArbEntry) (x4 : Nat) :
    (State.requestFor x0 x1 x2 x3 x4).2.pending = x0.pending ∧ (State.requestFor x0 x1 x2 x3 x4).2.hbm = x0.hbm ∧ (State.requestFor x0 x1 x2 x3 x4).2.sec = x0.sec ∧ (State.requestFor x0 x1 x2 x3 x4).2.owner = x0.owner ∧ (State.requestFor x0 x1 x2 x3 x4).2.tim = x0.tim ∧ (State.requestFor x0 x1 x2 x3 x4).2.pwr = x0.pwr := by
  unfold State.requestFor; dsimp only; split <;> simp

@[simp] theorem State.takeTurn_frame (x0 : State) (x1 : Source) (x2 : Nat) (x3 : Nat) :
    (State.takeTurn x0 x1 x2 x3).pending = x0.pending ∧ (State.takeTurn x0 x1 x2 x3).hbm = x0.hbm ∧ (State.takeTurn x0 x1 x2 x3).sec = x0.sec ∧ (State.takeTurn x0 x1 x2 x3).owner = x0.owner ∧ (State.takeTurn x0 x1 x2 x3).tim = x0.tim ∧ (State.takeTurn x0 x1 x2 x3).pwr = x0.pwr := by
  unfold State.takeTurn; simp

@[simp] theorem State.foldGrants_frame (x0 : State) :
    (State.foldGrants x0).pending = x0.pending ∧ (State.foldGrants x0).hbm = x0.hbm ∧ (State.foldGrants x0).sec = x0.sec ∧ (State.foldGrants x0).owner = x0.owner ∧ (State.foldGrants x0).tim = x0.tim ∧ (State.foldGrants x0).pwr = x0.pwr := by
  unfold State.foldGrants; simp

@[simp] theorem State.enter_frame (x0 : State) (x1 : Source) (x2 : Nat) (x3 : Nat) :
    (State.enter x0 x1 x2 x3).pending = x0.pending ∧ (State.enter x0 x1 x2 x3).hbm = x0.hbm ∧ (State.enter x0 x1 x2 x3).sec = x0.sec ∧ (State.enter x0 x1 x2 x3).owner = x0.owner ∧ (State.enter x0 x1 x2 x3).tim = x0.tim ∧ (State.enter x0 x1 x2 x3).pwr = x0.pwr := by
  unfold State.enter; simp

@[simp] theorem State.enterCells_frame (x0 : State) (x1 : Source) (x2 : Store (Byte × Bool)) :
    (State.enterCells x0 x1 x2).pending = x0.pending ∧ (State.enterCells x0 x1 x2).hbm = x0.hbm ∧ (State.enterCells x0 x1 x2).sec = x0.sec ∧ (State.enterCells x0 x1 x2).owner = x0.owner ∧ (State.enterCells x0 x1 x2).tim = x0.tim ∧ (State.enterCells x0 x1 x2).pwr = x0.pwr := by
  unfold State.enterCells; simp

@[simp] theorem State.fabCause_frame (x0 : State) (x1 : PortId) (x2 : Nat) (x3 : Nat) (x4 : Bool) :
    (State.fabCause x0 x1 x2 x3 x4).pending = x0.pending ∧ (State.fabCause x0 x1 x2 x3 x4).hbm = x0.hbm ∧ (State.fabCause x0 x1 x2 x3 x4).sec = x0.sec ∧ (State.fabCause x0 x1 x2 x3 x4).owner = x0.owner ∧ (State.fabCause x0 x1 x2 x3 x4).tim = x0.tim ∧ (State.fabCause x0 x1 x2 x3 x4).pwr = x0.pwr := by
  unfold State.fabCause; simp

@[simp] theorem State.setPortState_frame (x0 : State) (x1 : PortId) (x2 : PortState) :
    (State.setPortState x0 x1 x2).pending = x0.pending ∧ (State.setPortState x0 x1 x2).hbm = x0.hbm ∧ (State.setPortState x0 x1 x2).sec = x0.sec ∧ (State.setPortState x0 x1 x2).owner = x0.owner ∧ (State.setPortState x0 x1 x2).tim = x0.tim ∧ (State.setPortState x0 x1 x2).pwr = x0.pwr := by
  unfold State.setPortState; ((repeat' split) <;> simp)

@[simp] theorem State.sendOut_frame (x0 : State) (x1 : PortId) (x2 : Fu) :
    (State.sendOut x0 x1 x2).pending = x0.pending ∧ (State.sendOut x0 x1 x2).hbm = x0.hbm ∧ (State.sendOut x0 x1 x2).sec = x0.sec ∧ (State.sendOut x0 x1 x2).owner = x0.owner ∧ (State.sendOut x0 x1 x2).tim = x0.tim ∧ (State.sendOut x0 x1 x2).pwr = x0.pwr := by
  unfold State.sendOut; simp

@[simp] theorem State.sendSequenced_frame (x0 : State) (x1 : PortId) (x2 : Fu × Bool) :
    (State.sendSequenced x0 x1 x2).pending = x0.pending ∧ (State.sendSequenced x0 x1 x2).hbm = x0.hbm ∧ (State.sendSequenced x0 x1 x2).sec = x0.sec ∧ (State.sendSequenced x0 x1 x2).owner = x0.owner ∧ (State.sendSequenced x0 x1 x2).tim = x0.tim ∧ (State.sendSequenced x0 x1 x2).pwr = x0.pwr := by
  unfold State.sendSequenced; simp

@[simp] theorem State.flushN_frame (x0 : State) (x1 : PortId) (x2 : Nat) :
    (State.flushN x0 x1 x2).pending = x0.pending ∧ (State.flushN x0 x1 x2).hbm = x0.hbm ∧ (State.flushN x0 x1 x2).sec = x0.sec ∧ (State.flushN x0 x1 x2).owner = x0.owner ∧ (State.flushN x0 x1 x2).tim = x0.tim ∧ (State.flushN x0 x1 x2).pwr = x0.pwr := by
  induction x2 generalizing x0 with
  | zero => unfold State.flushN; simp
  | succ n ih =>
    unfold State.flushN
    dsimp only
    (repeat' split) <;> simp [ih]

@[simp] theorem State.flush_frame (x0 : State) (x1 : PortId) :
    (State.flush x0 x1).pending = x0.pending ∧ (State.flush x0 x1).hbm = x0.hbm ∧ (State.flush x0 x1).sec = x0.sec ∧ (State.flush x0 x1).owner = x0.owner ∧ (State.flush x0 x1).tim = x0.tim ∧ (State.flush x0 x1).pwr = x0.pwr := by
  unfold State.flush; simp

@[simp] theorem State.enqueue_frame (x0 : State) (x1 : PortId) (x2 : Fu) (x3 : Bool) :
    (State.enqueue x0 x1 x2 x3).pending = x0.pending ∧ (State.enqueue x0 x1 x2 x3).hbm = x0.hbm ∧ (State.enqueue x0 x1 x2 x3).sec = x0.sec ∧ (State.enqueue x0 x1 x2 x3).owner = x0.owner ∧ (State.enqueue x0 x1 x2 x3).tim = x0.tim ∧ (State.enqueue x0 x1 x2 x3).pwr = x0.pwr := by
  unfold State.enqueue; simp

@[simp] theorem State.replay_frame (x0 : State) (x1 : PortId) :
    (State.replay x0 x1).pending = x0.pending ∧ (State.replay x0 x1).hbm = x0.hbm ∧ (State.replay x0 x1).sec = x0.sec ∧ (State.replay x0 x1).owner = x0.owner ∧ (State.replay x0 x1).tim = x0.tim ∧ (State.replay x0 x1).pwr = x0.pwr := by
  unfold State.replay; simp

@[simp] theorem State.sendDue_frame (x0 : State) (x1 : PortId) :
    (State.sendDue x0 x1).pending = x0.pending ∧ (State.sendDue x0 x1).hbm = x0.hbm ∧ (State.sendDue x0 x1).sec = x0.sec ∧ (State.sendDue x0 x1).owner = x0.owner ∧ (State.sendDue x0 x1).tim = x0.tim ∧ (State.sendDue x0 x1).pwr = x0.pwr := by
  unfold State.sendDue; simp; ((repeat' split) <;> simp)

@[simp] theorem State.bcastTimer_frame (x0 : State) (x1 : PortId) :
    (State.bcastTimer x0 x1).pending = x0.pending ∧ (State.bcastTimer x0 x1).hbm = x0.hbm ∧ (State.bcastTimer x0 x1).sec = x0.sec ∧ (State.bcastTimer x0 x1).owner = x0.owner ∧ (State.bcastTimer x0 x1).tim = x0.tim ∧ (State.bcastTimer x0 x1).pwr = x0.pwr := by
  unfold State.bcastTimer; simp

@[simp] theorem State.bcastOn_frame (x0 : State) (x1 : PortId) (x2 : Word) (x3 : Nat) (x4 : Nat) :
    (State.bcastOn x0 x1 x2 x3 x4).pending = x0.pending ∧ (State.bcastOn x0 x1 x2 x3 x4).hbm = x0.hbm ∧ (State.bcastOn x0 x1 x2 x3 x4).sec = x0.sec ∧ (State.bcastOn x0 x1 x2 x3 x4).owner = x0.owner ∧ (State.bcastOn x0 x1 x2 x3 x4).tim = x0.tim ∧ (State.bcastOn x0 x1 x2 x3 x4).pwr = x0.pwr := by
  unfold State.bcastOn; ((repeat' split) <;> simp)

@[simp] theorem State.bcast_frame (x0 : State) (x1 : Word) (x2 : Nat) (x3 : Nat) (x4 : Option PortId) :
    (State.bcast x0 x1 x2 x3 x4).pending = x0.pending ∧ (State.bcast x0 x1 x2 x3 x4).hbm = x0.hbm ∧ (State.bcast x0 x1 x2 x3 x4).sec = x0.sec ∧ (State.bcast x0 x1 x2 x3 x4).owner = x0.owner ∧ (State.bcast x0 x1 x2 x3 x4).tim = x0.tim ∧ (State.bcast x0 x1 x2 x3 x4).pwr = x0.pwr := by
  unfold State.bcast; simp

@[simp] theorem State.takeAck_frame (x0 : State) (x1 : PortId) (x2 : Nat) :
    (State.takeAck x0 x1 x2).2.pending = x0.pending ∧ (State.takeAck x0 x1 x2).2.hbm = x0.hbm ∧ (State.takeAck x0 x1 x2).2.sec = x0.sec ∧ (State.takeAck x0 x1 x2).2.owner = x0.owner ∧ (State.takeAck x0 x1 x2).2.tim = x0.tim ∧ (State.takeAck x0 x1 x2).2.pwr = x0.pwr := by
  unfold State.takeAck; simp; ((repeat' split) <;> simp)

@[simp] theorem State.takeCredit_frame (x0 : State) (x1 : PortId) (x2 : Nat) (x3 : Nat) :
    (State.takeCredit x0 x1 x2 x3).2.pending = x0.pending ∧ (State.takeCredit x0 x1 x2 x3).2.hbm = x0.hbm ∧ (State.takeCredit x0 x1 x2 x3).2.sec = x0.sec ∧ (State.takeCredit x0 x1 x2 x3).2.owner = x0.owner ∧ (State.takeCredit x0 x1 x2 x3).2.tim = x0.tim ∧ (State.takeCredit x0 x1 x2 x3).2.pwr = x0.pwr := by
  unfold State.takeCredit; simp; ((repeat' split) <;> simp)

@[simp] theorem State.freeCredit_frame (x0 : State) (x1 : PortId) (x2 : Nat) :
    (State.freeCredit x0 x1 x2).pending = x0.pending ∧ (State.freeCredit x0 x1 x2).hbm = x0.hbm ∧ (State.freeCredit x0 x1 x2).sec = x0.sec ∧ (State.freeCredit x0 x1 x2).owner = x0.owner ∧ (State.freeCredit x0 x1 x2).tim = x0.tim ∧ (State.freeCredit x0 x1 x2).pwr = x0.pwr := by
  unfold State.freeCredit; simp

@[simp] theorem State.latchMap_frame (x0 : State) :
    (State.latchMap x0).pending = x0.pending ∧ (State.latchMap x0).hbm = x0.hbm ∧ (State.latchMap x0).sec = x0.sec ∧ (State.latchMap x0).owner = x0.owner ∧ (State.latchMap x0).tim = x0.tim ∧ (State.latchMap x0).pwr = x0.pwr := by
  unfold State.latchMap; simp

@[simp] theorem State.routeFail_frame (x0 : State) (x1 : Fu) :
    (State.routeFail x0 x1).pending = x0.pending ∧ (State.routeFail x0 x1).hbm = x0.hbm ∧ (State.routeFail x0 x1).sec = x0.sec ∧ (State.routeFail x0 x1).owner = x0.owner ∧ (State.routeFail x0 x1).tim = x0.tim ∧ (State.routeFail x0 x1).pwr = x0.pwr := by
  unfold State.routeFail; simp

@[simp] theorem State.sendPlain_frame (x0 : State) (x1 : Fu) (x2 : Option PortId) :
    (State.sendPlain x0 x1 x2).pending = x0.pending ∧ (State.sendPlain x0 x1 x2).hbm = x0.hbm ∧ (State.sendPlain x0 x1 x2).sec = x0.sec ∧ (State.sendPlain x0 x1 x2).owner = x0.owner ∧ (State.sendPlain x0 x1 x2).tim = x0.tim ∧ (State.sendPlain x0 x1 x2).pwr = x0.pwr := by
  unfold State.sendPlain; ((repeat' split) <;> simp)

@[simp] theorem State.unreachable_frame (x0 : State) (x1 : Fu) :
    (State.unreachable x0 x1).pending = x0.pending ∧ (State.unreachable x0 x1).hbm = x0.hbm ∧ (State.unreachable x0 x1).sec = x0.sec ∧ (State.unreachable x0 x1).owner = x0.owner ∧ (State.unreachable x0 x1).tim = x0.tim ∧ (State.unreachable x0 x1).pwr = x0.pwr := by
  unfold State.unreachable; simp; ((repeat' split) <;> simp)

@[simp] theorem State.sendFu_frame (x0 : State) (x1 : Fu) (x2 : Option PortId) :
    (State.sendFu x0 x1 x2).pending = x0.pending ∧ (State.sendFu x0 x1 x2).hbm = x0.hbm ∧ (State.sendFu x0 x1 x2).sec = x0.sec ∧ (State.sendFu x0 x1 x2).owner = x0.owner ∧ (State.sendFu x0 x1 x2).tim = x0.tim ∧ (State.sendFu x0 x1 x2).pwr = x0.pwr := by
  unfold State.sendFu; ((repeat' split) <;> simp)

@[simp] theorem State.transit_frame (x0 : State) (x1 : PortId) (x2 : Fu) :
    (State.transit x0 x1 x2).pending = x0.pending ∧ (State.transit x0 x1 x2).hbm = x0.hbm ∧ (State.transit x0 x1 x2).sec = x0.sec ∧ (State.transit x0 x1 x2).owner = x0.owner ∧ (State.transit x0 x1 x2).tim = x0.tim ∧ (State.transit x0 x1 x2).pwr = x0.pwr := by
  unfold State.transit; ((repeat' split) <;> simp)

@[simp] theorem State.sendTracker_frame (x0 : State) (x1 : Tracker) :
    (State.sendTracker x0 x1).pending = x0.pending ∧ (State.sendTracker x0 x1).hbm = x0.hbm ∧ (State.sendTracker x0 x1).sec = x0.sec ∧ (State.sendTracker x0 x1).owner = x0.owner ∧ (State.sendTracker x0 x1).tim = x0.tim ∧ (State.sendTracker x0 x1).pwr = x0.pwr := by
  unfold State.sendTracker; simp

@[simp] theorem State.pump_frame (x0 : State) :
    (State.pump x0).pending = x0.pending ∧ (State.pump x0).hbm = x0.hbm ∧ (State.pump x0).sec = x0.sec ∧ (State.pump x0).owner = x0.owner ∧ (State.pump x0).tim = x0.tim ∧ (State.pump x0).pwr = x0.pwr := by
  unfold State.pump
  refine ⟨?_, ?_, ?_, ?_, ?_, ?_⟩ <;>
    first
    | (apply State.each_pending; intro s t; split <;> simp)
    | (apply State.each_hbm; intro s t; split <;> simp)
    | (apply State.each_sec; intro s t; split <;> simp)
    | (apply State.each_owner; intro s t; split <;> simp)
    | (apply State.each_tim; intro s t; split <;> simp)
    | (apply State.each_pwr; intro s t; split <;> simp)

@[simp] theorem State.request_frame (x0 : State) (x1 : ReqOwner) (x2 : Nat) (x3 : Nat) (x4 : Nat) (x5 : Bool) (x6 : Fu) :
    (State.request x0 x1 x2 x3 x4 x5 x6).2.pending = x0.pending ∧ (State.request x0 x1 x2 x3 x4 x5 x6).2.hbm = x0.hbm ∧ (State.request x0 x1 x2 x3 x4 x5 x6).2.sec = x0.sec ∧ (State.request x0 x1 x2 x3 x4 x5 x6).2.owner = x0.owner ∧ (State.request x0 x1 x2 x3 x4 x5 x6).2.tim = x0.tim ∧ (State.request x0 x1 x2 x3 x4 x5 x6).2.pwr = x0.pwr := by
  unfold State.request; simp

@[simp] theorem State.freeTracker_frame (x0 : State) (x1 : Nat) :
    (State.freeTracker x0 x1).pending = x0.pending ∧ (State.freeTracker x0 x1).hbm = x0.hbm ∧ (State.freeTracker x0 x1).sec = x0.sec ∧ (State.freeTracker x0 x1).owner = x0.owner ∧ (State.freeTracker x0 x1).tim = x0.tim ∧ (State.freeTracker x0 x1).pwr = x0.pwr := by
  unfold State.freeTracker; simp

@[simp] theorem State.requestReads_frame (x0 : State) (x1 : ReqOwner) (x2 : Nat) (x3 : Nat) :
    (State.requestReads x0 x1 x2 x3).2.pending = x0.pending ∧ (State.requestReads x0 x1 x2 x3).2.hbm = x0.hbm ∧ (State.requestReads x0 x1 x2 x3).2.sec = x0.sec ∧ (State.requestReads x0 x1 x2 x3).2.owner = x0.owner ∧ (State.requestReads x0 x1 x2 x3).2.tim = x0.tim ∧ (State.requestReads x0 x1 x2 x3).2.pwr = x0.pwr := by
  unfold State.requestReads; simp

@[simp] theorem State.requestWrites_frame (x0 : State) (x1 : ReqOwner) (x2 : Nat) (x3 : List (Byte × Bool)) (x4 : Nat) (x5 : Nat) (x6 : Nat) :
    (State.requestWrites x0 x1 x2 x3 x4 x5 x6).2.pending = x0.pending ∧ (State.requestWrites x0 x1 x2 x3 x4 x5 x6).2.hbm = x0.hbm ∧ (State.requestWrites x0 x1 x2 x3 x4 x5 x6).2.sec = x0.sec ∧ (State.requestWrites x0 x1 x2 x3 x4 x5 x6).2.owner = x0.owner ∧ (State.requestWrites x0 x1 x2 x3 x4 x5 x6).2.tim = x0.tim ∧ (State.requestWrites x0 x1 x2 x3 x4 x5 x6).2.pwr = x0.pwr := by
  unfold State.requestWrites; simp

@[simp] theorem State.discovery_frame (x0 : State) (x1 : PortId) (x2 : List Byte) :
    (State.discovery x0 x1 x2).pending = x0.pending ∧ (State.discovery x0 x1 x2).hbm = x0.hbm ∧ (State.discovery x0 x1 x2).sec = x0.sec ∧ (State.discovery x0 x1 x2).owner = x0.owner ∧ (State.discovery x0 x1 x2).tim = x0.tim ∧ (State.discovery x0 x1 x2).pwr = x0.pwr := by
  unfold State.discovery; ((repeat' split) <;> simp)

@[simp] theorem State.sendHello_frame (x0 : State) (x1 : PortId) :
    (State.sendHello x0 x1).pending = x0.pending ∧ (State.sendHello x0 x1).hbm = x0.hbm ∧ (State.sendHello x0 x1).sec = x0.sec ∧ (State.sendHello x0 x1).owner = x0.owner ∧ (State.sendHello x0 x1).tim = x0.tim ∧ (State.sendHello x0 x1).pwr = x0.pwr := by
  unfold State.sendHello; simp

@[simp] theorem State.sendRingState_frame (x0 : State) (x1 : Nat) :
    (State.sendRingState x0 x1).pending = x0.pending ∧ (State.sendRingState x0 x1).hbm = x0.hbm ∧ (State.sendRingState x0 x1).sec = x0.sec ∧ (State.sendRingState x0 x1).owner = x0.owner ∧ (State.sendRingState x0 x1).tim = x0.tim ∧ (State.sendRingState x0 x1).pwr = x0.pwr := by
  unfold State.sendRingState; ((repeat' split) <;> simp)

@[simp] theorem State.raiseAbsent_frame (x0 : State) (x1 : PortId) :
    (State.raiseAbsent x0 x1).pending = x0.pending ∧ (State.raiseAbsent x0 x1).hbm = x0.hbm ∧ (State.raiseAbsent x0 x1).sec = x0.sec ∧ (State.raiseAbsent x0 x1).owner = x0.owner ∧ (State.raiseAbsent x0 x1).tim = x0.tim ∧ (State.raiseAbsent x0 x1).pwr = x0.pwr := by
  unfold State.raiseAbsent; simp

@[simp] theorem State.judgeAbsent_frame (x0 : State) :
    (State.judgeAbsent x0).pending = x0.pending ∧ (State.judgeAbsent x0).hbm = x0.hbm ∧ (State.judgeAbsent x0).sec = x0.sec ∧ (State.judgeAbsent x0).owner = x0.owner ∧ (State.judgeAbsent x0).tim = x0.tim ∧ (State.judgeAbsent x0).pwr = x0.pwr := by
  unfold State.judgeAbsent; simp

@[simp] theorem State.usabilityChanged_frame (x0 : State) (x1 : PortId) (x2 : Bool) :
    (State.usabilityChanged x0 x1 x2).pending = x0.pending ∧ (State.usabilityChanged x0 x1 x2).hbm = x0.hbm ∧ (State.usabilityChanged x0 x1 x2).sec = x0.sec ∧ (State.usabilityChanged x0 x1 x2).owner = x0.owner ∧ (State.usabilityChanged x0 x1 x2).tim = x0.tim ∧ (State.usabilityChanged x0 x1 x2).pwr = x0.pwr := by
  unfold State.usabilityChanged; ((repeat' split) <;> simp)

@[simp] theorem State.startRetrain_frame (x0 : State) (x1 : PortId) :
    (State.startRetrain x0 x1).pending = x0.pending ∧ (State.startRetrain x0 x1).hbm = x0.hbm ∧ (State.startRetrain x0 x1).sec = x0.sec ∧ (State.startRetrain x0 x1).owner = x0.owner ∧ (State.startRetrain x0 x1).tim = x0.tim ∧ (State.startRetrain x0 x1).pwr = x0.pwr := by
  unfold State.startRetrain; simp

@[simp] theorem State.linkDown_frame (x0 : State) (x1 : PortId) (x2 : Nat) :
    (State.linkDown x0 x1 x2).pending = x0.pending ∧ (State.linkDown x0 x1 x2).hbm = x0.hbm ∧ (State.linkDown x0 x1 x2).sec = x0.sec ∧ (State.linkDown x0 x1 x2).owner = x0.owner ∧ (State.linkDown x0 x1 x2).tim = x0.tim ∧ (State.linkDown x0 x1 x2).pwr = x0.pwr := by
  unfold State.linkDown; simp; ((repeat' split) <;> simp)

@[simp] theorem State.retrainFailed_frame (x0 : State) (x1 : PortId) :
    (State.retrainFailed x0 x1).pending = x0.pending ∧ (State.retrainFailed x0 x1).hbm = x0.hbm ∧ (State.retrainFailed x0 x1).sec = x0.sec ∧ (State.retrainFailed x0 x1).owner = x0.owner ∧ (State.retrainFailed x0 x1).tim = x0.tim ∧ (State.retrainFailed x0 x1).pwr = x0.pwr := by
  unfold State.retrainFailed; simp; ((repeat' split) <;> simp)

@[simp] theorem State.wantRetrain_frame (x0 : State) (x1 : PortId) :
    (State.wantRetrain x0 x1).pending = x0.pending ∧ (State.wantRetrain x0 x1).hbm = x0.hbm ∧ (State.wantRetrain x0 x1).sec = x0.sec ∧ (State.wantRetrain x0 x1).owner = x0.owner ∧ (State.wantRetrain x0 x1).tim = x0.tim ∧ (State.wantRetrain x0 x1).pwr = x0.pwr := by
  unfold State.wantRetrain; ((repeat' split) <;> simp)

@[simp] theorem State.protocolError_frame (x0 : State) (x1 : PortId) (x2 : Bool) :
    (State.protocolError x0 x1 x2).pending = x0.pending ∧ (State.protocolError x0 x1 x2).hbm = x0.hbm ∧ (State.protocolError x0 x1 x2).sec = x0.sec ∧ (State.protocolError x0 x1 x2).owner = x0.owner ∧ (State.protocolError x0 x1 x2).tim = x0.tim ∧ (State.protocolError x0 x1 x2).pwr = x0.pwr := by
  unfold State.protocolError; simp; ((repeat' split) <;> simp)

@[simp] theorem State.fecSeen_frame (x0 : State) (x1 : PortId) (x2 : Nat) (x3 : Nat) :
    (State.fecSeen x0 x1 x2 x3).pending = x0.pending ∧ (State.fecSeen x0 x1 x2 x3).hbm = x0.hbm ∧ (State.fecSeen x0 x1 x2 x3).sec = x0.sec ∧ (State.fecSeen x0 x1 x2 x3).owner = x0.owner ∧ (State.fecSeen x0 x1 x2 x3).tim = x0.tim ∧ (State.fecSeen x0 x1 x2 x3).pwr = x0.pwr := by
  unfold State.fecSeen; simp; ((repeat' split) <;> simp)

@[simp] theorem State.crcFail_frame (x0 : State) (x1 : PortId) :
    (State.crcFail x0 x1).pending = x0.pending ∧ (State.crcFail x0 x1).hbm = x0.hbm ∧ (State.crcFail x0 x1).sec = x0.sec ∧ (State.crcFail x0 x1).owner = x0.owner ∧ (State.crcFail x0 x1).tim = x0.tim ∧ (State.crcFail x0 x1).pwr = x0.pwr := by
  unfold State.crcFail; simp; ((repeat' split) <;> simp)

@[simp] theorem State.takeTrailer_frame (x0 : State) (x1 : PortId) (x2 : Fu) :
    (State.takeTrailer x0 x1 x2).2.pending = x0.pending ∧ (State.takeTrailer x0 x1 x2).2.hbm = x0.hbm ∧ (State.takeTrailer x0 x1 x2).2.sec = x0.sec ∧ (State.takeTrailer x0 x1 x2).2.owner = x0.owner ∧ (State.takeTrailer x0 x1 x2).2.tim = x0.tim ∧ (State.takeTrailer x0 x1 x2).2.pwr = x0.pwr := by
  unfold State.takeTrailer; ((repeat' split) <;> simp)

@[simp] theorem State.takeSequenced_frame (x0 : State) (x1 : PortId) (x2 : Fu) :
    (State.takeSequenced x0 x1 x2).2.pending = x0.pending ∧ (State.takeSequenced x0 x1 x2).2.hbm = x0.hbm ∧ (State.takeSequenced x0 x1 x2).2.sec = x0.sec ∧ (State.takeSequenced x0 x1 x2).2.owner = x0.owner ∧ (State.takeSequenced x0 x1 x2).2.tim = x0.tim ∧ (State.takeSequenced x0 x1 x2).2.pwr = x0.pwr := by
  unfold State.takeSequenced; simp; ((repeat' split) <;> simp)

@[simp] theorem State.takeMark_frame (x0 : State) (x1 : PortId) (x2 : Fu) :
    (State.takeMark x0 x1 x2).pending = x0.pending ∧ (State.takeMark x0 x1 x2).hbm = x0.hbm ∧ (State.takeMark x0 x1 x2).sec = x0.sec ∧ (State.takeMark x0 x1 x2).owner = x0.owner ∧ (State.takeMark x0 x1 x2).tim = x0.tim ∧ (State.takeMark x0 x1 x2).pwr = x0.pwr := by
  unfold State.takeMark; simp; ((repeat' split) <;> simp)

@[simp] theorem State.received_frame (x0 : State) (x1 : PortId) (x2 : Fu) :
    (State.received x0 x1 x2).2.pending = x0.pending ∧ (State.received x0 x1 x2).2.hbm = x0.hbm ∧ (State.received x0 x1 x2).2.sec = x0.sec ∧ (State.received x0 x1 x2).2.owner = x0.owner ∧ (State.received x0 x1 x2).2.tim = x0.tim ∧ (State.received x0 x1 x2).2.pwr = x0.pwr := by
  unfold State.received; ((repeat' split) <;> simp)

@[simp] theorem State.arrive_frame (x0 : State) (x1 : PortId) (x2 : Fu) (x3 : Bool) :
    (State.arrive x0 x1 x2 x3).2.pending = x0.pending ∧ (State.arrive x0 x1 x2 x3).2.hbm = x0.hbm ∧ (State.arrive x0 x1 x2 x3).2.sec = x0.sec ∧ (State.arrive x0 x1 x2 x3).2.owner = x0.owner ∧ (State.arrive x0 x1 x2 x3).2.tim = x0.tim ∧ (State.arrive x0 x1 x2 x3).2.pwr = x0.pwr := by
  unfold State.arrive; simp; ((repeat' split) <;> simp)

@[simp] theorem State.idleBack_frame (x0 : State) (x1 : PortId) :
    (State.idleBack x0 x1).pending = x0.pending ∧ (State.idleBack x0 x1).hbm = x0.hbm ∧ (State.idleBack x0 x1).sec = x0.sec ∧ (State.idleBack x0 x1).owner = x0.owner ∧ (State.idleBack x0 x1).tim = x0.tim ∧ (State.idleBack x0 x1).pwr = x0.pwr := by
  unfold State.idleBack; ((repeat' split) <;> simp)

end Sys2Proof.Machine
end

