-- ==== Sys2Proof/Laws/FrameCores.lean ====
section
/-!
SUPPORT. What the operations of queues, versions, sequencers and units leave unchanged.
-/

namespace Sys2Proof.Machine

open Sys2Proof

@[simp] theorem State.glbRecord_frame (x0 : State) (x1 : Nat) (x2 : Nat) :
    (State.glbRecord x0 x1 x2).pending = x0.pending ∧ (State.glbRecord x0 x1 x2).hbm = x0.hbm ∧ (State.glbRecord x0 x1 x2).sec = x0.sec ∧ (State.glbRecord x0 x1 x2).owner = x0.owner ∧ (State.glbRecord x0 x1 x2).tim = x0.tim ∧ (State.glbRecord x0 x1 x2).pwr = x0.pwr := by
  unfold State.glbRecord; simp

@[simp] theorem State.setCtx_frame (x0 : State) (x1 : Nat) (x2 : Ctx) :
    (State.setCtx x0 x1 x2).pending = x0.pending ∧ (State.setCtx x0 x1 x2).hbm = x0.hbm ∧ (State.setCtx x0 x1 x2).sec = x0.sec ∧ (State.setCtx x0 x1 x2).owner = x0.owner ∧ (State.setCtx x0 x1 x2).tim = x0.tim ∧ (State.setCtx x0 x1 x2).pwr = x0.pwr := by
  unfold State.setCtx; simp

@[simp] theorem State.modWeight_frame (x0 : State) (x1 : Nat) (x2 : (Weight → Weight)) :
    (State.modWeight x0 x1 x2).pending = x0.pending ∧ (State.modWeight x0 x1 x2).hbm = x0.hbm ∧ (State.modWeight x0 x1 x2).sec = x0.sec ∧ (State.modWeight x0 x1 x2).owner = x0.owner ∧ (State.modWeight x0 x1 x2).tim = x0.tim ∧ (State.modWeight x0 x1 x2).pwr = x0.pwr := by
  unfold State.modWeight; simp

@[simp] theorem State.modPos_frame (x0 : State) (x1 : Nat) (x2 : Nat) (x3 : (Pos → Pos)) :
    (State.modPos x0 x1 x2 x3).pending = x0.pending ∧ (State.modPos x0 x1 x2 x3).hbm = x0.hbm ∧ (State.modPos x0 x1 x2 x3).sec = x0.sec ∧ (State.modPos x0 x1 x2 x3).owner = x0.owner ∧ (State.modPos x0 x1 x2 x3).tim = x0.tim ∧ (State.modPos x0 x1 x2 x3).pwr = x0.pwr := by
  unfold State.modPos; simp

@[simp] theorem State.verCause_frame (x0 : State) (x1 : Nat) (x2 : Nat) (x3 : Nat) (x4 : Nat) (x5 : Nat) (x6 : Nat) (x7 : Nat) :
    (State.verCause x0 x1 x2 x3 x4 x5 x6 x7).pending = x0.pending ∧ (State.verCause x0 x1 x2 x3 x4 x5 x6 x7).hbm = x0.hbm ∧ (State.verCause x0 x1 x2 x3 x4 x5 x6 x7).sec = x0.sec ∧ (State.verCause x0 x1 x2 x3 x4 x5 x6 x7).owner = x0.owner ∧ (State.verCause x0 x1 x2 x3 x4 x5 x6 x7).tim = x0.tim ∧ (State.verCause x0 x1 x2 x3 x4 x5 x6 x7).pwr = x0.pwr := by
  unfold State.verCause; simp

@[simp] theorem State.captureRead_frame (x0 : State) (x1 : Nat) (x2 : Nat) :
    (State.captureRead x0 x1 x2).2.pending = x0.pending ∧ (State.captureRead x0 x1 x2).2.sec = x0.sec ∧ (State.captureRead x0 x1 x2).2.owner = x0.owner ∧ (State.captureRead x0 x1 x2).2.tim = x0.tim ∧ (State.captureRead x0 x1 x2).2.pwr = x0.pwr := by
  unfold State.captureRead; simp; ((repeat' split) <;> simp)

@[simp] theorem State.releaseCtx_frame (x0 : State) (x1 : Nat) :
    (State.releaseCtx x0 x1).pending = x0.pending ∧ (State.releaseCtx x0 x1).sec = x0.sec ∧ (State.releaseCtx x0 x1).owner = x0.owner ∧ (State.releaseCtx x0 x1).tim = x0.tim ∧ (State.releaseCtx x0 x1).pwr = x0.pwr := by
  unfold State.releaseCtx
  dsimp only
  (repeat' split) <;> and_intros <;> simp
  all_goals
    first
    | apply State.each_pending
    | apply State.each_hbm
    | apply State.each_sec
    | apply State.each_owner
    | apply State.each_tim
    | apply State.each_pwr
  all_goals
    intro s w
    have h := State.captureRead_frame s (State.captureAt s x1 w.id) w.id
    (repeat' split) <;> simp_all

@[simp] theorem State.publishTick_frame (x0 : State) (x1 : Weight) :
    (State.publishTick x0 x1).pending = x0.pending ∧ (State.publishTick x0 x1).hbm = x0.hbm ∧ (State.publishTick x0 x1).sec = x0.sec ∧ (State.publishTick x0 x1).owner = x0.owner ∧ (State.publishTick x0 x1).tim = x0.tim ∧ (State.publishTick x0 x1).pwr = x0.pwr := by
  unfold State.publishTick; simp; ((repeat' split) <;> simp)

@[simp] theorem State.versionTick_frame (x0 : State) (x1 : Nat) :
    (State.versionTick x0 x1).pending = x0.pending ∧ (State.versionTick x0 x1).sec = x0.sec ∧ (State.versionTick x0 x1).owner = x0.owner ∧ (State.versionTick x0 x1).tim = x0.tim ∧ (State.versionTick x0 x1).pwr = x0.pwr := by
  unfold State.versionTick; simp

@[simp] theorem State.writeHeader_frame (x0 : State) (x1 : Queue) (x2 : Nat) (x3 : Nat) (x4 : Nat) (x5 : List Byte) :
    (State.writeHeader x0 x1 x2 x3 x4 x5).pending = x0.pending ∧ (State.writeHeader x0 x1 x2 x3 x4 x5).sec = x0.sec ∧ (State.writeHeader x0 x1 x2 x3 x4 x5).owner = x0.owner ∧ (State.writeHeader x0 x1 x2 x3 x4 x5).tim = x0.tim ∧ (State.writeHeader x0 x1 x2 x3 x4 x5).pwr = x0.pwr := by
  unfold State.writeHeader; simp; ((repeat' split) <;> simp)

@[simp] theorem State.modOut_frame (x0 : State) (x1 : Nat) (x2 : Nat) (x3 : (OutEntry → OutEntry)) :
    (State.modOut x0 x1 x2 x3).pending = x0.pending ∧ (State.modOut x0 x1 x2 x3).hbm = x0.hbm ∧ (State.modOut x0 x1 x2 x3).sec = x0.sec ∧ (State.modOut x0 x1 x2 x3).owner = x0.owner ∧ (State.modOut x0 x1 x2 x3).tim = x0.tim ∧ (State.modOut x0 x1 x2 x3).pwr = x0.pwr := by
  unfold State.modOut; simp

@[simp] theorem State.openEntry_frame (x0 : State) (x1 : Nat) (x2 : Queue) (x3 : Nat) :
    (State.openEntry x0 x1 x2 x3).pending = x0.pending ∧ (State.openEntry x0 x1 x2 x3).sec = x0.sec ∧ (State.openEntry x0 x1 x2 x3).owner = x0.owner ∧ (State.openEntry x0 x1 x2 x3).tim = x0.tim ∧ (State.openEntry x0 x1 x2 x3).pwr = x0.pwr := by
  unfold State.openEntry; simp; ((repeat' split) <;> simp)

@[simp] theorem State.stampEntry_frame (x0 : State) (x1 : OutEntry) :
    (State.stampEntry x0 x1).pending = x0.pending ∧ (State.stampEntry x0 x1).sec = x0.sec ∧ (State.stampEntry x0 x1).owner = x0.owner ∧ (State.stampEntry x0 x1).tim = x0.tim ∧ (State.stampEntry x0 x1).pwr = x0.pwr := by
  unfold State.stampEntry; ((repeat' split) <;> simp)

@[simp] theorem State.stampAll_frame (x0 : State) :
    (State.stampAll x0).pending = x0.pending ∧ (State.stampAll x0).sec = x0.sec ∧ (State.stampAll x0).owner = x0.owner ∧ (State.stampAll x0).tim = x0.tim ∧ (State.stampAll x0).pwr = x0.pwr := by
  unfold State.stampAll; ((repeat' split) <;> simp)

@[simp] theorem Io.each_pending {α : Type} (f : Io → α → Io) (h : ∀ o a, (f o a).s.pending = o.s.pending) (l : List α) (o : Io) :
    (o.each l f).s.pending = o.s.pending := by
  induction l generalizing o with
  | nil => rfl
  | cons a l ih => unfold Io.each; split; · rfl
                   exact (ih (f o a)).trans (h o a)

@[simp] theorem Io.each_hbm {α : Type} (f : Io → α → Io) (h : ∀ o a, (f o a).s.hbm = o.s.hbm) (l : List α) (o : Io) :
    (o.each l f).s.hbm = o.s.hbm := by
  induction l generalizing o with
  | nil => rfl
  | cons a l ih => unfold Io.each; split; · rfl
                   exact (ih (f o a)).trans (h o a)

@[simp] theorem Io.each_sec {α : Type} (f : Io → α → Io) (h : ∀ o a, (f o a).s.sec = o.s.sec) (l : List α) (o : Io) :
    (o.each l f).s.sec = o.s.sec := by
  induction l generalizing o with
  | nil => rfl
  | cons a l ih => unfold Io.each; split; · rfl
                   exact (ih (f o a)).trans (h o a)

@[simp] theorem Io.each_owner {α : Type} (f : Io → α → Io) (h : ∀ o a, (f o a).s.owner = o.s.owner) (l : List α) (o : Io) :
    (o.each l f).s.owner = o.s.owner := by
  induction l generalizing o with
  | nil => rfl
  | cons a l ih => unfold Io.each; split; · rfl
                   exact (ih (f o a)).trans (h o a)

@[simp] theorem Io.each_tim {α : Type} (f : Io → α → Io) (h : ∀ o a, (f o a).s.tim = o.s.tim) (l : List α) (o : Io) :
    (o.each l f).s.tim = o.s.tim := by
  induction l generalizing o with
  | nil => rfl
  | cons a l ih => unfold Io.each; split; · rfl
                   exact (ih (f o a)).trans (h o a)

@[simp] theorem Io.each_pwr {α : Type} (f : Io → α → Io) (h : ∀ o a, (f o a).s.pwr = o.s.pwr) (l : List α) (o : Io) :
    (o.each l f).s.pwr = o.s.pwr := by
  induction l generalizing o with
  | nil => rfl
  | cons a l ih => unfold Io.each; split; · rfl
                   exact (ih (f o a)).trans (h o a)

@[simp] theorem Io.fail_pending (o : Io) (e : Stop) :
    (o.fail e).s.pending = if o.stop.isSome then o.s.pending else e.s.pending := by
  unfold Io.fail; split <;> simp

@[simp] theorem Io.fail_hbm (o : Io) (e : Stop) :
    (o.fail e).s.hbm = if o.stop.isSome then o.s.hbm else e.s.hbm := by
  unfold Io.fail; split <;> simp

@[simp] theorem Io.fail_sec (o : Io) (e : Stop) :
    (o.fail e).s.sec = if o.stop.isSome then o.s.sec else e.s.sec := by
  unfold Io.fail; split <;> simp

@[simp] theorem Io.fail_owner (o : Io) (e : Stop) :
    (o.fail e).s.owner = if o.stop.isSome then o.s.owner else e.s.owner := by
  unfold Io.fail; split <;> simp

@[simp] theorem Io.fail_tim (o : Io) (e : Stop) :
    (o.fail e).s.tim = if o.stop.isSome then o.s.tim else e.s.tim := by
  unfold Io.fail; split <;> simp

@[simp] theorem Io.fail_pwr (o : Io) (e : Stop) :
    (o.fail e).s.pwr = if o.stop.isSome then o.s.pwr else e.s.pwr := by
  unfold Io.fail; split <;> simp

@[simp] theorem State.markNew_frame (x0 : State) (x1 : Nat × Nat) :
    (State.markNew x0 x1).pending = x0.pending ∧ (State.markNew x0 x1).hbm = x0.hbm ∧ (State.markNew x0 x1).sec = x0.sec ∧ (State.markNew x0 x1).owner = x0.owner ∧ (State.markNew x0 x1).tim = x0.tim ∧ (State.markNew x0 x1).pwr = x0.pwr := by
  unfold State.markNew; simp

@[simp] theorem Io.flush_frame (x0 : Io) :
    (Io.flush x0).pending = x0.s.pending ∧ (Io.flush x0).sec = x0.s.sec ∧ (Io.flush x0).owner = x0.s.owner ∧ (Io.flush x0).tim = x0.s.tim ∧ (Io.flush x0).pwr = x0.s.pwr := by
  unfold Io.flush; ((repeat' split) <;> simp)

@[simp] theorem State.badLine_frame (x0 : State) (x1 : CoreId) (x2 : Nat) :
    (State.badLine x0 x1 x2).pending = x0.pending ∧ (State.badLine x0 x1 x2).sec = x0.sec ∧ (State.badLine x0 x1 x2).owner = x0.owner ∧ (State.badLine x0 x1 x2).tim = x0.tim ∧ (State.badLine x0 x1 x2).pwr = x0.pwr := by
  unfold State.badLine; simp; ((repeat' split) <;> simp)

@[simp] theorem State.checkLine_frame (x0 : State) (x1 : CoreId) (x2 : Nat) :
    (State.checkLine x0 x1 x2).pending = x0.pending ∧ (State.checkLine x0 x1 x2).sec = x0.sec ∧ (State.checkLine x0 x1 x2).owner = x0.owner ∧ (State.checkLine x0 x1 x2).tim = x0.tim ∧ (State.checkLine x0 x1 x2).pwr = x0.pwr := by
  unfold State.checkLine; ((repeat' split) <;> simp)

@[simp] theorem Io.readCst_frame (x0 : Io) (x1 : Nat) :
    (Io.readCst x0 x1).2.s.pending = x0.s.pending ∧ (Io.readCst x0 x1).2.s.sec = x0.s.sec ∧ (Io.readCst x0 x1).2.s.owner = x0.s.owner ∧ (Io.readCst x0 x1).2.s.tim = x0.s.tim ∧ (Io.readCst x0 x1).2.s.pwr = x0.s.pwr := by
  unfold Io.readCst; simp; ((repeat' split) <;> simp)

@[simp] theorem Io.readMem_frame (x0 : Io) (x1 : Nat) :
    (Io.readMem x0 x1).2.s.pending = x0.s.pending ∧ (Io.readMem x0 x1).2.s.sec = x0.s.sec ∧ (Io.readMem x0 x1).2.s.owner = x0.s.owner ∧ (Io.readMem x0 x1).2.s.tim = x0.s.tim ∧ (Io.readMem x0 x1).2.s.pwr = x0.s.pwr := by
  unfold Io.readMem; simp; ((repeat' split) <;> simp)

@[simp] theorem Io.failMute_frame (x0 : Io) :
    (Io.failMute x0).s.pending = x0.s.pending ∧ (Io.failMute x0).s.hbm = x0.s.hbm ∧ (Io.failMute x0).s.sec = x0.s.sec ∧ (Io.failMute x0).s.owner = x0.s.owner ∧ (Io.failMute x0).s.tim = x0.s.tim ∧ (Io.failMute x0).s.pwr = x0.s.pwr := by
  unfold Io.failMute; simp

@[simp] theorem Io.caughtUp_frame (x0 : Io) (x1 : Store (Byte × Bool)) (x2 : Nat) :
    (Io.caughtUp x0 x1 x2).s.pending = x0.s.pending ∧ (Io.caughtUp x0 x1 x2).s.sec = x0.s.sec ∧ (Io.caughtUp x0 x1 x2).s.owner = x0.s.owner ∧ (Io.caughtUp x0 x1 x2).s.tim = x0.s.tim ∧ (Io.caughtUp x0 x1 x2).s.pwr = x0.s.pwr := by
  unfold Io.caughtUp; ((repeat' split) <;> simp)

@[simp] theorem Io.readByte_frame (x0 : Io) (x1 : Loc) :
    (Io.readByte x0 x1).2.s.pending = x0.s.pending ∧ (Io.readByte x0 x1).2.s.sec = x0.s.sec ∧ (Io.readByte x0 x1).2.s.owner = x0.s.owner ∧ (Io.readByte x0 x1).2.s.tim = x0.s.tim ∧ (Io.readByte x0 x1).2.s.pwr = x0.s.pwr := by
  unfold Io.readByte; ((repeat' split) <;> simp)

@[simp] theorem Io.readBytes_frame (x0 : Io) (x1 : Place) (x2 : Int) (x3 : Nat) :
    (Io.readBytes x0 x1 x2 x3).2.s.pending = x0.s.pending ∧ (Io.readBytes x0 x1 x2 x3).2.s.sec = x0.s.sec ∧ (Io.readBytes x0 x1 x2 x3).2.s.owner = x0.s.owner ∧ (Io.readBytes x0 x1 x2 x3).2.s.tim = x0.s.tim ∧ (Io.readBytes x0 x1 x2 x3).2.s.pwr = x0.s.pwr := by
  induction x3 generalizing x0 x2 with
  | zero => simp [Io.readBytes]
  | succ n ih => unfold Io.readBytes; simp [ih]

@[simp] theorem Io.readCode_frame (x0 : Io) (x1 : Ten) (x2 : Co) :
    (Io.readCode x0 x1 x2).2.s.pending = x0.s.pending ∧ (Io.readCode x0 x1 x2).2.s.sec = x0.s.sec ∧ (Io.readCode x0 x1 x2).2.s.owner = x0.s.owner ∧ (Io.readCode x0 x1 x2).2.s.tim = x0.s.tim ∧ (Io.readCode x0 x1 x2).2.s.pwr = x0.s.pwr := by
  unfold Io.readCode; ((repeat' split) <;> simp)

@[simp] theorem Io.readEl_frame (x0 : Io) (x1 : Ten) (x2 : Co) :
    (Io.readEl x0 x1 x2).2.s.pending = x0.s.pending ∧ (Io.readEl x0 x1 x2).2.s.sec = x0.s.sec ∧ (Io.readEl x0 x1 x2).2.s.owner = x0.s.owner ∧ (Io.readEl x0 x1 x2).2.s.tim = x0.s.tim ∧ (Io.readEl x0 x1 x2).2.s.pwr = x0.s.pwr := by
  unfold Io.readEl; ((repeat' split) <;> simp)

@[simp] theorem Io.checkWrite_frame (x0 : Io) (x1 : Loc) :
    (Io.checkWrite x0 x1).s.pending = x0.s.pending ∧ (Io.checkWrite x0 x1).s.hbm = x0.s.hbm ∧ (Io.checkWrite x0 x1).s.sec = x0.s.sec ∧ (Io.checkWrite x0 x1).s.owner = x0.s.owner ∧ (Io.checkWrite x0 x1).s.tim = x0.s.tim ∧ (Io.checkWrite x0 x1).s.pwr = x0.s.pwr := by
  unfold Io.checkWrite; ((repeat' split) <;> simp)

@[simp] theorem Io.putByte_frame (x0 : Io) (x1 : Ten) (x2 : Loc) (x3 : Byte × Bool) :
    (Io.putByte x0 x1 x2 x3).s.pending = x0.s.pending ∧ (Io.putByte x0 x1 x2 x3).s.hbm = x0.s.hbm ∧ (Io.putByte x0 x1 x2 x3).s.sec = x0.s.sec ∧ (Io.putByte x0 x1 x2 x3).s.owner = x0.s.owner ∧ (Io.putByte x0 x1 x2 x3).s.tim = x0.s.tim ∧ (Io.putByte x0 x1 x2 x3).s.pwr = x0.s.pwr := by
  unfold Io.putByte; ((repeat' split) <;> simp)

@[simp] theorem Io.foldl_pending {α : Type} (f : Io → α → Io) (h : ∀ o a, (f o a).s.pending = o.s.pending) (l : List α) (o : Io) :
    (l.foldl f o).s.pending = o.s.pending := by
  induction l generalizing o with
  | nil => rfl
  | cons a l ih => exact (ih (f o a)).trans (h o a)

@[simp] theorem Io.foldl_hbm {α : Type} (f : Io → α → Io) (h : ∀ o a, (f o a).s.hbm = o.s.hbm) (l : List α) (o : Io) :
    (l.foldl f o).s.hbm = o.s.hbm := by
  induction l generalizing o with
  | nil => rfl
  | cons a l ih => exact (ih (f o a)).trans (h o a)

@[simp] theorem Io.foldl_sec {α : Type} (f : Io → α → Io) (h : ∀ o a, (f o a).s.sec = o.s.sec) (l : List α) (o : Io) :
    (l.foldl f o).s.sec = o.s.sec := by
  induction l generalizing o with
  | nil => rfl
  | cons a l ih => exact (ih (f o a)).trans (h o a)

@[simp] theorem Io.foldl_owner {α : Type} (f : Io → α → Io) (h : ∀ o a, (f o a).s.owner = o.s.owner) (l : List α) (o : Io) :
    (l.foldl f o).s.owner = o.s.owner := by
  induction l generalizing o with
  | nil => rfl
  | cons a l ih => exact (ih (f o a)).trans (h o a)

@[simp] theorem Io.foldl_tim {α : Type} (f : Io → α → Io) (h : ∀ o a, (f o a).s.tim = o.s.tim) (l : List α) (o : Io) :
    (l.foldl f o).s.tim = o.s.tim := by
  induction l generalizing o with
  | nil => rfl
  | cons a l ih => exact (ih (f o a)).trans (h o a)

@[simp] theorem Io.foldl_pwr {α : Type} (f : Io → α → Io) (h : ∀ o a, (f o a).s.pwr = o.s.pwr) (l : List α) (o : Io) :
    (l.foldl f o).s.pwr = o.s.pwr := by
  induction l generalizing o with
  | nil => rfl
  | cons a l ih => exact (ih (f o a)).trans (h o a)

@[simp] theorem Io.writeBytes_frame (x0 : Io) (x1 : Ten) (x2 : Int) (x3 : List (Byte × Bool)) :
    (Io.writeBytes x0 x1 x2 x3).s.pending = x0.s.pending ∧ (Io.writeBytes x0 x1 x2 x3).s.hbm = x0.s.hbm ∧ (Io.writeBytes x0 x1 x2 x3).s.sec = x0.s.sec ∧ (Io.writeBytes x0 x1 x2 x3).s.owner = x0.s.owner ∧ (Io.writeBytes x0 x1 x2 x3).s.tim = x0.s.tim ∧ (Io.writeBytes x0 x1 x2 x3).s.pwr = x0.s.pwr := by
  unfold Io.writeBytes; simp; ((repeat' split) <;> simp)

@[simp] theorem Io.writeEls_frame (x0 : Io) (x1 : Ten) (x2 : Co) (x3 : List (Nat × Bool)) (x4 : List (Nat × Bool)) :
    (Io.writeEls x0 x1 x2 x3 x4).s.pending = x0.s.pending ∧ (Io.writeEls x0 x1 x2 x3 x4).s.hbm = x0.s.hbm ∧ (Io.writeEls x0 x1 x2 x3 x4).s.sec = x0.s.sec ∧ (Io.writeEls x0 x1 x2 x3 x4).s.owner = x0.s.owner ∧ (Io.writeEls x0 x1 x2 x3 x4).s.tim = x0.s.tim ∧ (Io.writeEls x0 x1 x2 x3 x4).s.pwr = x0.s.pwr := by
  unfold Io.writeEls; simp; ((repeat' split) <;> simp)

@[simp] theorem State.combine_frame (x0 : State) (x1 : Nat) (x2 : Nat) (x3 : Nat) (x4 : Nat) (x5 : List (Byte × Bool)) :
    (State.combine x0 x1 x2 x3 x4 x5).pending = x0.pending ∧ (State.combine x0 x1 x2 x3 x4 x5).sec = x0.sec ∧ (State.combine x0 x1 x2 x3 x4 x5).owner = x0.owner ∧ (State.combine x0 x1 x2 x3 x4 x5).tim = x0.tim ∧ (State.combine x0 x1 x2 x3 x4 x5).pwr = x0.pwr := by
  unfold State.combine; simp

@[simp] theorem State.combineAll_frame (x0 : State) (x1 : CoreId) (x2 : Nat) (x3 : Nat) (x4 : Nat) (x5 : Store (Byte × Bool)) :
    (State.combineAll x0 x1 x2 x3 x4 x5).pending = x0.pending ∧ (State.combineAll x0 x1 x2 x3 x4 x5).sec = x0.sec ∧ (State.combineAll x0 x1 x2 x3 x4 x5).owner = x0.owner ∧ (State.combineAll x0 x1 x2 x3 x4 x5).tim = x0.tim ∧ (State.combineAll x0 x1 x2 x3 x4 x5).pwr = x0.pwr := by
  unfold State.combineAll; ((repeat' split) <;> simp)

@[simp] theorem State.farWrites_frame (x0 : State) (x1 : ReqOwner) (x2 : Store (Byte × Bool)) (x3 : Nat) (x4 : Nat) (x5 : Nat) :
    (State.farWrites x0 x1 x2 x3 x4 x5).2.pending = x0.pending ∧ (State.farWrites x0 x1 x2 x3 x4 x5).2.hbm = x0.hbm ∧ (State.farWrites x0 x1 x2 x3 x4 x5).2.sec = x0.sec ∧ (State.farWrites x0 x1 x2 x3 x4 x5).2.owner = x0.owner ∧ (State.farWrites x0 x1 x2 x3 x4 x5).2.tim = x0.tim ∧ (State.farWrites x0 x1 x2 x3 x4 x5).2.pwr = x0.pwr := by
  unfold State.farWrites; simp

@[simp] theorem State.setPtr_frame (x0 : State) (x1 : CoreId) (x2 : Nat) :
    (State.setPtr x0 x1 x2).pending = x0.pending ∧ (State.setPtr x0 x1 x2).hbm = x0.hbm ∧ (State.setPtr x0 x1 x2).sec = x0.sec ∧ (State.setPtr x0 x1 x2).owner = x0.owner ∧ (State.setPtr x0 x1 x2).tim = x0.tim ∧ (State.setPtr x0 x1 x2).pwr = x0.pwr := by
  unfold State.setPtr; simp

@[simp] theorem State.markPiece_frame (x0 : State) (x1 : CoreId) (x2 : PieceState) :
    (State.markPiece x0 x1 x2).pending = x0.pending ∧ (State.markPiece x0 x1 x2).hbm = x0.hbm ∧ (State.markPiece x0 x1 x2).sec = x0.sec ∧ (State.markPiece x0 x1 x2).owner = x0.owner ∧ (State.markPiece x0 x1 x2).tim = x0.tim ∧ (State.markPiece x0 x1 x2).pwr = x0.pwr := by
  unfold State.markPiece; ((repeat' split) <;> simp)

@[simp] theorem State.descFault_frame (x0 : State) (x1 : CoreId) (x2 : Nat) (x3 : Nat) (x4 : Nat) (x5 : Nat) :
    (State.descFault x0 x1 x2 x3 x4 x5).pending = x0.pending ∧ (State.descFault x0 x1 x2 x3 x4 x5).hbm = x0.hbm ∧ (State.descFault x0 x1 x2 x3 x4 x5).sec = x0.sec ∧ (State.descFault x0 x1 x2 x3 x4 x5).owner = x0.owner ∧ (State.descFault x0 x1 x2 x3 x4 x5).tim = x0.tim ∧ (State.descFault x0 x1 x2 x3 x4 x5).pwr = x0.pwr := by
  unfold State.descFault; ((repeat' split) <;> simp)

@[simp] theorem State.completeEntry_frame (x0 : State) (x1 : CoreId) (x2 : UnitId) (x3 : InFlight) :
    (State.completeEntry x0 x1 x2 x3).pending = x0.pending ∧ (State.completeEntry x0 x1 x2 x3).hbm = x0.hbm ∧ (State.completeEntry x0 x1 x2 x3).sec = x0.sec ∧ (State.completeEntry x0 x1 x2 x3).owner = x0.owner ∧ (State.completeEntry x0 x1 x2 x3).tim = x0.tim ∧ (State.completeEntry x0 x1 x2 x3).pwr = x0.pwr := by
  unfold State.completeEntry; ((repeat' split) <;> simp)

@[simp] theorem State.fetchFar_frame (x0 : State) (x1 : ReqOwner) (x2 : List (Nat × Nat)) :
    (State.fetchFar x0 x1 x2).2.pending = x0.pending ∧ (State.fetchFar x0 x1 x2).2.hbm = x0.hbm ∧ (State.fetchFar x0 x1 x2).2.sec = x0.sec ∧ (State.fetchFar x0 x1 x2).2.owner = x0.owner ∧ (State.fetchFar x0 x1 x2).2.tim = x0.tim ∧ (State.fetchFar x0 x1 x2).2.pwr = x0.pwr := by
  unfold State.fetchFar; simp

@[simp] theorem State.openOuts_frame (x0 : State) (x1 : List (Nat × Nat)) :
    (State.openOuts x0 x1).pending = x0.pending ∧ (State.openOuts x0 x1).sec = x0.sec ∧ (State.openOuts x0 x1).owner = x0.owner ∧ (State.openOuts x0 x1).tim = x0.tim ∧ (State.openOuts x0 x1).pwr = x0.pwr := by
  unfold State.openOuts; (try dsimp only); (repeat' split); all_goals (try and_intros); all_goals (try simp); all_goals (repeat (first | rw [State.each_pending] | rw [State.each_hbm] | rw [State.each_sec] | rw [State.each_owner] | rw [State.each_tim] | rw [State.each_pwr])); all_goals (try intros); all_goals ((repeat' split) <;> (first | rfl | simp))

@[simp] theorem State.noteOuts_frame (x0 : State) (x1 : List (Nat × Nat)) (x2 : List Nat) :
    (State.noteOuts x0 x1 x2).pending = x0.pending ∧ (State.noteOuts x0 x1 x2).hbm = x0.hbm ∧ (State.noteOuts x0 x1 x2).sec = x0.sec ∧ (State.noteOuts x0 x1 x2).owner = x0.owner ∧ (State.noteOuts x0 x1 x2).tim = x0.tim ∧ (State.noteOuts x0 x1 x2).pwr = x0.pwr := by
  unfold State.noteOuts; (try dsimp only); (repeat' split); all_goals (try and_intros); all_goals (try simp); all_goals (repeat (first | rw [State.each_pending] | rw [State.each_hbm] | rw [State.each_sec] | rw [State.each_owner] | rw [State.each_tim] | rw [State.each_pwr])); all_goals (try intros); all_goals ((repeat' split) <;> (first | rfl | simp))

@[simp] theorem Io.commit_frame (x0 : Io) (x1 : Desc) (x2 : Blk) (x3 : List (Nat × Nat)) (x4 : Nat) (x5 : Nat) (x6 : Nat) :
    (Io.commit x0 x1 x2 x3 x4 x5 x6).2.pending = x0.s.pending ∧ (Io.commit x0 x1 x2 x3 x4 x5 x6).2.sec = x0.s.sec ∧ (Io.commit x0 x1 x2 x3 x4 x5 x6).2.owner = x0.s.owner ∧ (Io.commit x0 x1 x2 x3 x4 x5 x6).2.tim = x0.s.tim ∧ (Io.commit x0 x1 x2 x3 x4 x5 x6).2.pwr = x0.s.pwr := by
  unfold Io.commit; simp; ((repeat' split) <;> simp)

@[simp] theorem State.leaveBehind_frame (x0 : State) (x1 : Nat) (x2 : Nat) (x3 : List Nat) :
    (State.leaveBehind x0 x1 x2 x3).pending = x0.pending ∧ (State.leaveBehind x0 x1 x2 x3).hbm = x0.hbm ∧ (State.leaveBehind x0 x1 x2 x3).sec = x0.sec ∧ (State.leaveBehind x0 x1 x2 x3).owner = x0.owner ∧ (State.leaveBehind x0 x1 x2 x3).tim = x0.tim ∧ (State.leaveBehind x0 x1 x2 x3).pwr = x0.pwr := by
  unfold State.leaveBehind; simp

@[simp] theorem Io.commitLost_frame (x0 : Io) (x1 : Desc) (x2 : Blk) (x3 : List (Nat × Nat)) (x4 : Nat) (x5 : Nat) (x6 : Nat) :
    (Io.commitLost x0 x1 x2 x3 x4 x5 x6).pending = x0.s.pending ∧ (Io.commitLost x0 x1 x2 x3 x4 x5 x6).sec = x0.s.sec ∧ (Io.commitLost x0 x1 x2 x3 x4 x5 x6).owner = x0.s.owner ∧ (Io.commitLost x0 x1 x2 x3 x4 x5 x6).tim = x0.s.tim ∧ (Io.commitLost x0 x1 x2 x3 x4 x5 x6).pwr = x0.s.pwr := by
  unfold Io.commitLost; simp

@[simp] theorem State.flyFault_frame (x0 : State) (x1 : CoreId) (x2 : InFlight) (x3 : Nat) (x4 : Nat) :
    (State.flyFault x0 x1 x2 x3 x4).pending = x0.pending ∧ (State.flyFault x0 x1 x2 x3 x4).hbm = x0.hbm ∧ (State.flyFault x0 x1 x2 x3 x4).sec = x0.sec ∧ (State.flyFault x0 x1 x2 x3 x4).owner = x0.owner ∧ (State.flyFault x0 x1 x2 x3 x4).tim = x0.tim ∧ (State.flyFault x0 x1 x2 x3 x4).pwr = x0.pwr := by
  unfold State.flyFault; simp

@[simp] theorem Io.opdEl_frame (x0 : Io) (x1 : Opd) (x2 : Co) :
    (Io.opdEl x0 x1 x2).2.s.pending = x0.s.pending ∧ (Io.opdEl x0 x1 x2).2.s.sec = x0.s.sec ∧ (Io.opdEl x0 x1 x2).2.s.owner = x0.s.owner ∧ (Io.opdEl x0 x1 x2).2.s.tim = x0.s.tim ∧ (Io.opdEl x0 x1 x2).2.s.pwr = x0.s.pwr := by
  unfold Io.opdEl; simp; ((repeat' split) <;> simp)

@[simp] theorem Io.src_frame (x0 : Io) (x1 : Opd) (x2 : Nat) (x3 : Co) :
    (Io.src x0 x1 x2 x3).2.s.pending = x0.s.pending ∧ (Io.src x0 x1 x2 x3).2.s.sec = x0.s.sec ∧ (Io.src x0 x1 x2 x3).2.s.owner = x0.s.owner ∧ (Io.src x0 x1 x2 x3).2.s.tim = x0.s.tim ∧ (Io.src x0 x1 x2 x3).2.s.pwr = x0.s.pwr := by
  unfold Io.src; simp

@[simp] theorem Io.srcF_frame (x0 : Io) (x1 : Vop) (x2 : Opd) (x3 : Nat) (x4 : Co) :
    (Io.srcF x0 x1 x2 x3 x4).2.s.pending = x0.s.pending ∧ (Io.srcF x0 x1 x2 x3 x4).2.s.sec = x0.s.sec ∧ (Io.srcF x0 x1 x2 x3 x4).2.s.owner = x0.s.owner ∧ (Io.srcF x0 x1 x2 x3 x4).2.s.tim = x0.s.tim ∧ (Io.srcF x0 x1 x2 x3 x4).2.s.pwr = x0.s.pwr := by
  unfold Io.srcF; simp

@[simp] theorem Io.srcI_frame (x0 : Io) (x1 : Opd) (x2 : Nat) (x3 : Co) :
    (Io.srcI x0 x1 x2 x3).2.s.pending = x0.s.pending ∧ (Io.srcI x0 x1 x2 x3).2.s.sec = x0.s.sec ∧ (Io.srcI x0 x1 x2 x3).2.s.owner = x0.s.owner ∧ (Io.srcI x0 x1 x2 x3).2.s.tim = x0.s.tim ∧ (Io.srcI x0 x1 x2 x3).2.s.pwr = x0.s.pwr := by
  unfold Io.srcI; simp

@[simp] theorem State.normAdd_frame (x0 : State) (x1 : CoreId) (x2 : Nat) (x3 : Bool) (x4 : List (Word × Bool)) :
    (State.normAdd x0 x1 x2 x3 x4).pending = x0.pending ∧ (State.normAdd x0 x1 x2 x3 x4).hbm = x0.hbm ∧ (State.normAdd x0 x1 x2 x3 x4).sec = x0.sec ∧ (State.normAdd x0 x1 x2 x3 x4).owner = x0.owner ∧ (State.normAdd x0 x1 x2 x3 x4).tim = x0.tim ∧ (State.normAdd x0 x1 x2 x3 x4).pwr = x0.pwr := by
  unfold State.normAdd; simp

@[simp] theorem Io.putVals_frame (x0 : Io) (x1 : Bool) (x2 : (Co → Rnd)) (x3 : Opd) (x4 : Co) (x5 : List (Val × Bool)) :
    (Io.putVals x0 x1 x2 x3 x4 x5).s.pending = x0.s.pending ∧ (Io.putVals x0 x1 x2 x3 x4 x5).s.hbm = x0.s.hbm ∧ (Io.putVals x0 x1 x2 x3 x4 x5).s.sec = x0.s.sec ∧ (Io.putVals x0 x1 x2 x3 x4 x5).s.owner = x0.s.owner ∧ (Io.putVals x0 x1 x2 x3 x4 x5).s.tim = x0.s.tim ∧ (Io.putVals x0 x1 x2 x3 x4 x5).s.pwr = x0.s.pwr := by
  unfold Io.putVals; simp; ((repeat' split) <;> simp)

@[simp] theorem Io.beat_frame (x0 : Io) :
    (Io.beat x0).s.pending = x0.s.pending ∧ (Io.beat x0).s.hbm = x0.s.hbm ∧ (Io.beat x0).s.sec = x0.s.sec ∧ (Io.beat x0).s.owner = x0.s.owner ∧ (Io.beat x0).s.tim = x0.s.tim ∧ (Io.beat x0).s.pwr = x0.s.pwr := by
  unfold Io.beat; ((repeat' split) <;> simp)

@[simp] theorem Io.collect_pending {α β : Type} (f : Io → α → β × Io) (h : ∀ o a, (f o a).2.s.pending = o.s.pending) (l : List α)
    (o : Io) : (o.collect f l).2.s.pending = o.s.pending := by
  induction l generalizing o with
  | nil => rfl
  | cons a l ih => exact (ih (f o a).2).trans (h o a)

@[simp] theorem Io.collect_hbm {α β : Type} (f : Io → α → β × Io) (h : ∀ o a, (f o a).2.s.hbm = o.s.hbm) (l : List α)
    (o : Io) : (o.collect f l).2.s.hbm = o.s.hbm := by
  induction l generalizing o with
  | nil => rfl
  | cons a l ih => exact (ih (f o a).2).trans (h o a)

@[simp] theorem Io.collect_sec {α β : Type} (f : Io → α → β × Io) (h : ∀ o a, (f o a).2.s.sec = o.s.sec) (l : List α)
    (o : Io) : (o.collect f l).2.s.sec = o.s.sec := by
  induction l generalizing o with
  | nil => rfl
  | cons a l ih => exact (ih (f o a).2).trans (h o a)

@[simp] theorem Io.collect_owner {α β : Type} (f : Io → α → β × Io) (h : ∀ o a, (f o a).2.s.owner = o.s.owner) (l : List α)
    (o : Io) : (o.collect f l).2.s.owner = o.s.owner := by
  induction l generalizing o with
  | nil => rfl
  | cons a l ih => exact (ih (f o a).2).trans (h o a)

@[simp] theorem Io.collect_tim {α β : Type} (f : Io → α → β × Io) (h : ∀ o a, (f o a).2.s.tim = o.s.tim) (l : List α)
    (o : Io) : (o.collect f l).2.s.tim = o.s.tim := by
  induction l generalizing o with
  | nil => rfl
  | cons a l ih => exact (ih (f o a).2).trans (h o a)

@[simp] theorem Io.collect_pwr {α β : Type} (f : Io → α → β × Io) (h : ∀ o a, (f o a).2.s.pwr = o.s.pwr) (l : List α)
    (o : Io) : (o.collect f l).2.s.pwr = o.s.pwr := by
  induction l generalizing o with
  | nil => rfl
  | cons a l ih => exact (ih (f o a).2).trans (h o a)

@[simp] theorem Io.ewise_pending (o : Io) (v : Vop) (f : Io → Co → (Val × Bool) × Io)
    (h : ∀ o i, (f o i).2.s.pending = o.s.pending) : (o.ewise v f).s.pending = o.s.pending := by
  unfold Io.ewise
  apply Io.each_pending; intro o r
  apply Io.each_pending; intro o b
  exact (Io.beat_frame _).1.trans ((Io.putVals_frame _ _ _ _ _ _).1.trans (Io.collect_pending _ (fun o l => h o _) _ _))

@[simp] theorem Io.rowBeats_pending {β : Type} (o : Io) (f : Io → Nat → β × Io)
    (h : ∀ o i, (f o i).2.s.pending = o.s.pending) (n : Nat) : (o.rowBeats f n).2.s.pending = o.s.pending := by
  unfold Io.rowBeats
  exact Io.collect_pending _ (fun o b => (Io.beat_frame _).1.trans (Io.collect_pending f h _ _)) _ _

@[simp] theorem Io.ewise_hbm (o : Io) (v : Vop) (f : Io → Co → (Val × Bool) × Io)
    (h : ∀ o i, (f o i).2.s.hbm = o.s.hbm) : (o.ewise v f).s.hbm = o.s.hbm := by
  unfold Io.ewise
  apply Io.each_hbm; intro o r
  apply Io.each_hbm; intro o b
  exact (Io.beat_frame _).2.1.trans ((Io.putVals_frame _ _ _ _ _ _).2.1.trans (Io.collect_hbm _ (fun o l => h o _) _ _))

@[simp] theorem Io.rowBeats_hbm {β : Type} (o : Io) (f : Io → Nat → β × Io)
    (h : ∀ o i, (f o i).2.s.hbm = o.s.hbm) (n : Nat) : (o.rowBeats f n).2.s.hbm = o.s.hbm := by
  unfold Io.rowBeats
  exact Io.collect_hbm _ (fun o b => (Io.beat_frame _).2.1.trans (Io.collect_hbm f h _ _)) _ _

@[simp] theorem Io.ewise_sec (o : Io) (v : Vop) (f : Io → Co → (Val × Bool) × Io)
    (h : ∀ o i, (f o i).2.s.sec = o.s.sec) : (o.ewise v f).s.sec = o.s.sec := by
  unfold Io.ewise
  apply Io.each_sec; intro o r
  apply Io.each_sec; intro o b
  exact (Io.beat_frame _).2.2.1.trans ((Io.putVals_frame _ _ _ _ _ _).2.2.1.trans (Io.collect_sec _ (fun o l => h o _) _ _))

@[simp] theorem Io.rowBeats_sec {β : Type} (o : Io) (f : Io → Nat → β × Io)
    (h : ∀ o i, (f o i).2.s.sec = o.s.sec) (n : Nat) : (o.rowBeats f n).2.s.sec = o.s.sec := by
  unfold Io.rowBeats
  exact Io.collect_sec _ (fun o b => (Io.beat_frame _).2.2.1.trans (Io.collect_sec f h _ _)) _ _

@[simp] theorem Io.ewise_owner (o : Io) (v : Vop) (f : Io → Co → (Val × Bool) × Io)
    (h : ∀ o i, (f o i).2.s.owner = o.s.owner) : (o.ewise v f).s.owner = o.s.owner := by
  unfold Io.ewise
  apply Io.each_owner; intro o r
  apply Io.each_owner; intro o b
  exact (Io.beat_frame _).2.2.2.1.trans ((Io.putVals_frame _ _ _ _ _ _).2.2.2.1.trans (Io.collect_owner _ (fun o l => h o _) _ _))

@[simp] theorem Io.rowBeats_owner {β : Type} (o : Io) (f : Io → Nat → β × Io)
    (h : ∀ o i, (f o i).2.s.owner = o.s.owner) (n : Nat) : (o.rowBeats f n).2.s.owner = o.s.owner := by
  unfold Io.rowBeats
  exact Io.collect_owner _ (fun o b => (Io.beat_frame _).2.2.2.1.trans (Io.collect_owner f h _ _)) _ _

@[simp] theorem Io.ewise_tim (o : Io) (v : Vop) (f : Io → Co → (Val × Bool) × Io)
    (h : ∀ o i, (f o i).2.s.tim = o.s.tim) : (o.ewise v f).s.tim = o.s.tim := by
  unfold Io.ewise
  apply Io.each_tim; intro o r
  apply Io.each_tim; intro o b
  exact (Io.beat_frame _).2.2.2.2.1.trans ((Io.putVals_frame _ _ _ _ _ _).2.2.2.2.1.trans (Io.collect_tim _ (fun o l => h o _) _ _))

@[simp] theorem Io.rowBeats_tim {β : Type} (o : Io) (f : Io → Nat → β × Io)
    (h : ∀ o i, (f o i).2.s.tim = o.s.tim) (n : Nat) : (o.rowBeats f n).2.s.tim = o.s.tim := by
  unfold Io.rowBeats
  exact Io.collect_tim _ (fun o b => (Io.beat_frame _).2.2.2.2.1.trans (Io.collect_tim f h _ _)) _ _

@[simp] theorem Io.ewise_pwr (o : Io) (v : Vop) (f : Io → Co → (Val × Bool) × Io)
    (h : ∀ o i, (f o i).2.s.pwr = o.s.pwr) : (o.ewise v f).s.pwr = o.s.pwr := by
  unfold Io.ewise
  apply Io.each_pwr; intro o r
  apply Io.each_pwr; intro o b
  exact (Io.beat_frame _).2.2.2.2.2.trans ((Io.putVals_frame _ _ _ _ _ _).2.2.2.2.2.trans (Io.collect_pwr _ (fun o l => h o _) _ _))

@[simp] theorem Io.rowBeats_pwr {β : Type} (o : Io) (f : Io → Nat → β × Io)
    (h : ∀ o i, (f o i).2.s.pwr = o.s.pwr) (n : Nat) : (o.rowBeats f n).2.s.pwr = o.s.pwr := by
  unfold Io.rowBeats
  exact Io.collect_pwr _ (fun o b => (Io.beat_frame _).2.2.2.2.2.trans (Io.collect_pwr f h _ _)) _ _

@[simp] theorem Io.rowF_frame (x0 : Io) (x1 : Vop) (x2 : Opd) (x3 : Co) :
    (Io.rowF x0 x1 x2 x3).2.s.pending = x0.s.pending ∧ (Io.rowF x0 x1 x2 x3).2.s.sec = x0.s.sec ∧ (Io.rowF x0 x1 x2 x3).2.s.owner = x0.s.owner ∧ (Io.rowF x0 x1 x2 x3).2.s.tim = x0.s.tim ∧ (Io.rowF x0 x1 x2 x3).2.s.pwr = x0.s.pwr := by
  unfold Io.rowF; simp

@[simp] theorem Io.el1_frame (x0 : Io) (x1 : Vop) (x2 : (Word → Word)) :
    (Io.el1 x0 x1 x2).s.pending = x0.s.pending ∧ (Io.el1 x0 x1 x2).s.sec = x0.s.sec ∧ (Io.el1 x0 x1 x2).s.owner = x0.s.owner ∧ (Io.el1 x0 x1 x2).s.tim = x0.s.tim ∧ (Io.el1 x0 x1 x2).s.pwr = x0.s.pwr := by
  unfold Io.el1; simp

@[simp] theorem Io.el2_frame (x0 : Io) (x1 : Vop) (x2 : (Word → Word → Word)) :
    (Io.el2 x0 x1 x2).s.pending = x0.s.pending ∧ (Io.el2 x0 x1 x2).s.sec = x0.s.sec ∧ (Io.el2 x0 x1 x2).s.owner = x0.s.owner ∧ (Io.el2 x0 x1 x2).s.tim = x0.s.tim ∧ (Io.el2 x0 x1 x2).s.pwr = x0.s.pwr := by
  unfold Io.el2; simp

@[simp] theorem Io.elInt_frame (x0 : Io) (x1 : Vop) (x2 : (Word → Word → Word)) :
    (Io.elInt x0 x1 x2).s.pending = x0.s.pending ∧ (Io.elInt x0 x1 x2).s.sec = x0.s.sec ∧ (Io.elInt x0 x1 x2).s.owner = x0.s.owner ∧ (Io.elInt x0 x1 x2).s.tim = x0.s.tim ∧ (Io.elInt x0 x1 x2).s.pwr = x0.s.pwr := by
  unfold Io.elInt; simp

@[simp] theorem Io.move_frame (x0 : Io) (x1 : Vop) (x2 : Bool) (x3 : Opd) (x4 : Co) :
    (Io.move x0 x1 x2 x3 x4).2.s.pending = x0.s.pending ∧ (Io.move x0 x1 x2 x3 x4).2.s.sec = x0.s.sec ∧ (Io.move x0 x1 x2 x3 x4).2.s.owner = x0.s.owner ∧ (Io.move x0 x1 x2 x3 x4).2.s.tim = x0.s.tim ∧ (Io.move x0 x1 x2 x3 x4).2.s.pwr = x0.s.pwr := by
  unfold Io.move; simp

@[simp] theorem runCopy_frame (x0 : Vop) (x1 : Io) :
    (runCopy x0 x1).s.pending = x1.s.pending ∧ (runCopy x0 x1).s.sec = x1.s.sec ∧ (runCopy x0 x1).s.owner = x1.s.owner ∧ (runCopy x0 x1).s.tim = x1.s.tim ∧ (runCopy x0 x1).s.pwr = x1.s.pwr := by
  unfold runCopy; simp

@[simp] theorem runAdd_frame (x0 : Vop) (x1 : Io) :
    (runAdd x0 x1).s.pending = x1.s.pending ∧ (runAdd x0 x1).s.sec = x1.s.sec ∧ (runAdd x0 x1).s.owner = x1.s.owner ∧ (runAdd x0 x1).s.tim = x1.s.tim ∧ (runAdd x0 x1).s.pwr = x1.s.pwr := by
  unfold runAdd; simp

@[simp] theorem runSub_frame (x0 : Vop) (x1 : Io) :
    (runSub x0 x1).s.pending = x1.s.pending ∧ (runSub x0 x1).s.sec = x1.s.sec ∧ (runSub x0 x1).s.owner = x1.s.owner ∧ (runSub x0 x1).s.tim = x1.s.tim ∧ (runSub x0 x1).s.pwr = x1.s.pwr := by
  unfold runSub; simp

@[simp] theorem runMul_frame (x0 : Vop) (x1 : Io) :
    (runMul x0 x1).s.pending = x1.s.pending ∧ (runMul x0 x1).s.sec = x1.s.sec ∧ (runMul x0 x1).s.owner = x1.s.owner ∧ (runMul x0 x1).s.tim = x1.s.tim ∧ (runMul x0 x1).s.pwr = x1.s.pwr := by
  unfold runMul; simp

@[simp] theorem runFma_frame (x0 : Vop) (x1 : Io) :
    (runFma x0 x1).s.pending = x1.s.pending ∧ (runFma x0 x1).s.sec = x1.s.sec ∧ (runFma x0 x1).s.owner = x1.s.owner ∧ (runFma x0 x1).s.tim = x1.s.tim ∧ (runFma x0 x1).s.pwr = x1.s.pwr := by
  unfold runFma; simp

@[simp] theorem runMin_frame (x0 : Vop) (x1 : Io) :
    (runMin x0 x1).s.pending = x1.s.pending ∧ (runMin x0 x1).s.sec = x1.s.sec ∧ (runMin x0 x1).s.owner = x1.s.owner ∧ (runMin x0 x1).s.tim = x1.s.tim ∧ (runMin x0 x1).s.pwr = x1.s.pwr := by
  unfold runMin; simp

@[simp] theorem runMax_frame (x0 : Vop) (x1 : Io) :
    (runMax x0 x1).s.pending = x1.s.pending ∧ (runMax x0 x1).s.sec = x1.s.sec ∧ (runMax x0 x1).s.owner = x1.s.owner ∧ (runMax x0 x1).s.tim = x1.s.tim ∧ (runMax x0 x1).s.pwr = x1.s.pwr := by
  unfold runMax; simp

@[simp] theorem runAbs_frame (x0 : Vop) (x1 : Io) :
    (runAbs x0 x1).s.pending = x1.s.pending ∧ (runAbs x0 x1).s.sec = x1.s.sec ∧ (runAbs x0 x1).s.owner = x1.s.owner ∧ (runAbs x0 x1).s.tim = x1.s.tim ∧ (runAbs x0 x1).s.pwr = x1.s.pwr := by
  unfold runAbs; simp

@[simp] theorem runNeg_frame (x0 : Vop) (x1 : Io) :
    (runNeg x0 x1).s.pending = x1.s.pending ∧ (runNeg x0 x1).s.sec = x1.s.sec ∧ (runNeg x0 x1).s.owner = x1.s.owner ∧ (runNeg x0 x1).s.tim = x1.s.tim ∧ (runNeg x0 x1).s.pwr = x1.s.pwr := by
  unfold runNeg; simp

@[simp] theorem runSelect_frame (x0 : Vop) (x1 : Io) :
    (runSelect x0 x1).s.pending = x1.s.pending ∧ (runSelect x0 x1).s.sec = x1.s.sec ∧ (runSelect x0 x1).s.owner = x1.s.owner ∧ (runSelect x0 x1).s.tim = x1.s.tim ∧ (runSelect x0 x1).s.pwr = x1.s.pwr := by
  unfold runSelect; (try dsimp only); simp [apply_ite Prod.snd, apply_ite Prod.fst, apply_ite Io.s, apply_ite State.pending, apply_ite State.sec, apply_ite State.owner, apply_ite State.tim, apply_ite State.hbm, apply_ite State.pwr]

@[simp] theorem runCmp_frame (x0 : Vop) (x1 : Io) :
    (runCmp x0 x1).s.pending = x1.s.pending ∧ (runCmp x0 x1).s.sec = x1.s.sec ∧ (runCmp x0 x1).s.owner = x1.s.owner ∧ (runCmp x0 x1).s.tim = x1.s.tim ∧ (runCmp x0 x1).s.pwr = x1.s.pwr := by
  unfold runCmp; simp

@[simp] theorem runExp2_frame (x0 : Vop) (x1 : Io) :
    (runExp2 x0 x1).s.pending = x1.s.pending ∧ (runExp2 x0 x1).s.sec = x1.s.sec ∧ (runExp2 x0 x1).s.owner = x1.s.owner ∧ (runExp2 x0 x1).s.tim = x1.s.tim ∧ (runExp2 x0 x1).s.pwr = x1.s.pwr := by
  unfold runExp2; simp

@[simp] theorem runLog2_frame (x0 : Vop) (x1 : Io) :
    (runLog2 x0 x1).s.pending = x1.s.pending ∧ (runLog2 x0 x1).s.sec = x1.s.sec ∧ (runLog2 x0 x1).s.owner = x1.s.owner ∧ (runLog2 x0 x1).s.tim = x1.s.tim ∧ (runLog2 x0 x1).s.pwr = x1.s.pwr := by
  unfold runLog2; simp

@[simp] theorem runRecip_frame (x0 : Vop) (x1 : Io) :
    (runRecip x0 x1).s.pending = x1.s.pending ∧ (runRecip x0 x1).s.sec = x1.s.sec ∧ (runRecip x0 x1).s.owner = x1.s.owner ∧ (runRecip x0 x1).s.tim = x1.s.tim ∧ (runRecip x0 x1).s.pwr = x1.s.pwr := by
  unfold runRecip; simp

@[simp] theorem runRsqrt_frame (x0 : Vop) (x1 : Io) :
    (runRsqrt x0 x1).s.pending = x1.s.pending ∧ (runRsqrt x0 x1).s.sec = x1.s.sec ∧ (runRsqrt x0 x1).s.owner = x1.s.owner ∧ (runRsqrt x0 x1).s.tim = x1.s.tim ∧ (runRsqrt x0 x1).s.pwr = x1.s.pwr := by
  unfold runRsqrt; simp

@[simp] theorem runIadd_frame (x0 : Vop) (x1 : Io) :
    (runIadd x0 x1).s.pending = x1.s.pending ∧ (runIadd x0 x1).s.sec = x1.s.sec ∧ (runIadd x0 x1).s.owner = x1.s.owner ∧ (runIadd x0 x1).s.tim = x1.s.tim ∧ (runIadd x0 x1).s.pwr = x1.s.pwr := by
  unfold runIadd; simp

@[simp] theorem runIsub_frame (x0 : Vop) (x1 : Io) :
    (runIsub x0 x1).s.pending = x1.s.pending ∧ (runIsub x0 x1).s.sec = x1.s.sec ∧ (runIsub x0 x1).s.owner = x1.s.owner ∧ (runIsub x0 x1).s.tim = x1.s.tim ∧ (runIsub x0 x1).s.pwr = x1.s.pwr := by
  unfold runIsub; simp

@[simp] theorem runImul_frame (x0 : Vop) (x1 : Io) :
    (runImul x0 x1).s.pending = x1.s.pending ∧ (runImul x0 x1).s.sec = x1.s.sec ∧ (runImul x0 x1).s.owner = x1.s.owner ∧ (runImul x0 x1).s.tim = x1.s.tim ∧ (runImul x0 x1).s.pwr = x1.s.pwr := by
  unfold runImul; simp

@[simp] theorem runImin_frame (x0 : Vop) (x1 : Io) :
    (runImin x0 x1).s.pending = x1.s.pending ∧ (runImin x0 x1).s.sec = x1.s.sec ∧ (runImin x0 x1).s.owner = x1.s.owner ∧ (runImin x0 x1).s.tim = x1.s.tim ∧ (runImin x0 x1).s.pwr = x1.s.pwr := by
  unfold runImin; simp

@[simp] theorem runImax_frame (x0 : Vop) (x1 : Io) :
    (runImax x0 x1).s.pending = x1.s.pending ∧ (runImax x0 x1).s.sec = x1.s.sec ∧ (runImax x0 x1).s.owner = x1.s.owner ∧ (runImax x0 x1).s.tim = x1.s.tim ∧ (runImax x0 x1).s.pwr = x1.s.pwr := by
  unfold runImax; simp

@[simp] theorem runIand_frame (x0 : Vop) (x1 : Io) :
    (runIand x0 x1).s.pending = x1.s.pending ∧ (runIand x0 x1).s.sec = x1.s.sec ∧ (runIand x0 x1).s.owner = x1.s.owner ∧ (runIand x0 x1).s.tim = x1.s.tim ∧ (runIand x0 x1).s.pwr = x1.s.pwr := by
  unfold runIand; simp

@[simp] theorem runIor_frame (x0 : Vop) (x1 : Io) :
    (runIor x0 x1).s.pending = x1.s.pending ∧ (runIor x0 x1).s.sec = x1.s.sec ∧ (runIor x0 x1).s.owner = x1.s.owner ∧ (runIor x0 x1).s.tim = x1.s.tim ∧ (runIor x0 x1).s.pwr = x1.s.pwr := by
  unfold runIor; simp

@[simp] theorem runIxor_frame (x0 : Vop) (x1 : Io) :
    (runIxor x0 x1).s.pending = x1.s.pending ∧ (runIxor x0 x1).s.sec = x1.s.sec ∧ (runIxor x0 x1).s.owner = x1.s.owner ∧ (runIxor x0 x1).s.tim = x1.s.tim ∧ (runIxor x0 x1).s.pwr = x1.s.pwr := by
  unfold runIxor; simp

@[simp] theorem runIshift_frame (x0 : Vop) (x1 : Io) :
    (runIshift x0 x1).s.pending = x1.s.pending ∧ (runIshift x0 x1).s.sec = x1.s.sec ∧ (runIshift x0 x1).s.owner = x1.s.owner ∧ (runIshift x0 x1).s.tim = x1.s.tim ∧ (runIshift x0 x1).s.pwr = x1.s.pwr := by
  unfold runIshift; simp

@[simp] theorem runPerm_frame (x0 : Vop) (x1 : Io) :
    (runPerm x0 x1).s.pending = x1.s.pending ∧ (runPerm x0 x1).s.sec = x1.s.sec ∧ (runPerm x0 x1).s.owner = x1.s.owner ∧ (runPerm x0 x1).s.tim = x1.s.tim ∧ (runPerm x0 x1).s.pwr = x1.s.pwr := by
  unfold runPerm; (try dsimp only); simp [apply_ite Prod.snd, apply_ite Prod.fst, apply_ite Io.s, apply_ite State.pending, apply_ite State.sec, apply_ite State.owner, apply_ite State.tim, apply_ite State.hbm, apply_ite State.pwr]

@[simp] theorem runShuffle_frame (x0 : Vop) (x1 : Io) :
    (runShuffle x0 x1).s.pending = x1.s.pending ∧ (runShuffle x0 x1).s.sec = x1.s.sec ∧ (runShuffle x0 x1).s.owner = x1.s.owner ∧ (runShuffle x0 x1).s.tim = x1.s.tim ∧ (runShuffle x0 x1).s.pwr = x1.s.pwr := by
  unfold runShuffle; simp

@[simp] theorem runPack_frame (x0 : Vop) (x1 : Io) :
    (runPack x0 x1).s.pending = x1.s.pending ∧ (runPack x0 x1).s.sec = x1.s.sec ∧ (runPack x0 x1).s.owner = x1.s.owner ∧ (runPack x0 x1).s.tim = x1.s.tim ∧ (runPack x0 x1).s.pwr = x1.s.pwr := by
  unfold runPack; simp

@[simp] theorem runUnpack_frame (x0 : Vop) (x1 : Io) :
    (runUnpack x0 x1).s.pending = x1.s.pending ∧ (runUnpack x0 x1).s.sec = x1.s.sec ∧ (runUnpack x0 x1).s.owner = x1.s.owner ∧ (runUnpack x0 x1).s.tim = x1.s.tim ∧ (runUnpack x0 x1).s.pwr = x1.s.pwr := by
  unfold runUnpack; simp

@[simp] theorem runClass_frame (x0 : Vop) (x1 : Io) :
    (runClass x0 x1).s.pending = x1.s.pending ∧ (runClass x0 x1).s.sec = x1.s.sec ∧ (runClass x0 x1).s.owner = x1.s.owner ∧ (runClass x0 x1).s.tim = x1.s.tim ∧ (runClass x0 x1).s.pwr = x1.s.pwr := by
  unfold runClass; simp

@[simp] theorem runCount_frame (x0 : Vop) (x1 : Io) :
    (runCount x0 x1).s.pending = x1.s.pending ∧ (runCount x0 x1).s.sec = x1.s.sec ∧ (runCount x0 x1).s.owner = x1.s.owner ∧ (runCount x0 x1).s.tim = x1.s.tim ∧ (runCount x0 x1).s.pwr = x1.s.pwr := by
  unfold runCount; ((repeat' split) <;> simp)

@[simp] theorem Io.reduce_frame (x0 : Io) (x1 : Vop) (x2 : Nat) (x3 : (Word → Word)) :
    (Io.reduce x0 x1 x2 x3).s.pending = x0.s.pending ∧ (Io.reduce x0 x1 x2 x3).s.sec = x0.s.sec ∧ (Io.reduce x0 x1 x2 x3).s.owner = x0.s.owner ∧ (Io.reduce x0 x1 x2 x3).s.tim = x0.s.tim ∧ (Io.reduce x0 x1 x2 x3).s.pwr = x0.s.pwr := by
  unfold Io.reduce; ((repeat' split) <;> simp)

@[simp] theorem runRedSum_frame (x0 : Vop) (x1 : Io) :
    (runRedSum x0 x1).s.pending = x1.s.pending ∧ (runRedSum x0 x1).s.sec = x1.s.sec ∧ (runRedSum x0 x1).s.owner = x1.s.owner ∧ (runRedSum x0 x1).s.tim = x1.s.tim ∧ (runRedSum x0 x1).s.pwr = x1.s.pwr := by
  unfold runRedSum; simp

@[simp] theorem runRedMax_frame (x0 : Vop) (x1 : Io) :
    (runRedMax x0 x1).s.pending = x1.s.pending ∧ (runRedMax x0 x1).s.sec = x1.s.sec ∧ (runRedMax x0 x1).s.owner = x1.s.owner ∧ (runRedMax x0 x1).s.tim = x1.s.tim ∧ (runRedMax x0 x1).s.pwr = x1.s.pwr := by
  unfold runRedMax; simp

@[simp] theorem runRedMin_frame (x0 : Vop) (x1 : Io) :
    (runRedMin x0 x1).s.pending = x1.s.pending ∧ (runRedMin x0 x1).s.sec = x1.s.sec ∧ (runRedMin x0 x1).s.owner = x1.s.owner ∧ (runRedMin x0 x1).s.tim = x1.s.tim ∧ (runRedMin x0 x1).s.pwr = x1.s.pwr := by
  unfold runRedMin; simp

@[simp] theorem runRedSumsq_frame (x0 : Vop) (x1 : Io) :
    (runRedSumsq x0 x1).s.pending = x1.s.pending ∧ (runRedSumsq x0 x1).s.sec = x1.s.sec ∧ (runRedSumsq x0 x1).s.owner = x1.s.owner ∧ (runRedSumsq x0 x1).s.tim = x1.s.tim ∧ (runRedSumsq x0 x1).s.pwr = x1.s.pwr := by
  unfold runRedSumsq; simp

@[simp] theorem runTred_frame (x0 : Vop) (x1 : Io) :
    (runTred x0 x1).s.pending = x1.s.pending ∧ (runTred x0 x1).s.sec = x1.s.sec ∧ (runTred x0 x1).s.owner = x1.s.owner ∧ (runTred x0 x1).s.tim = x1.s.tim ∧ (runTred x0 x1).s.pwr = x1.s.pwr := by
  unfold runTred; simp; ((repeat' split) <;> simp)

@[simp] theorem Io.putRow_frame (x0 : Io) (x1 : Vop) (x2 : Co) (x3 : List (Val × Bool)) :
    (Io.putRow x0 x1 x2 x3).s.pending = x0.s.pending ∧ (Io.putRow x0 x1 x2 x3).s.hbm = x0.s.hbm ∧ (Io.putRow x0 x1 x2 x3).s.sec = x0.s.sec ∧ (Io.putRow x0 x1 x2 x3).s.owner = x0.s.owner ∧ (Io.putRow x0 x1 x2 x3).s.tim = x0.s.tim ∧ (Io.putRow x0 x1 x2 x3).s.pwr = x0.s.pwr := by
  unfold Io.putRow; simp

@[simp] theorem runSmxUpdate_frame (x0 : Vop) (x1 : Io) :
    (runSmxUpdate x0 x1).s.pending = x1.s.pending ∧ (runSmxUpdate x0 x1).s.sec = x1.s.sec ∧ (runSmxUpdate x0 x1).s.owner = x1.s.owner ∧ (runSmxUpdate x0 x1).s.tim = x1.s.tim ∧ (runSmxUpdate x0 x1).s.pwr = x1.s.pwr := by
  unfold runSmxUpdate; ((repeat' split) <;> simp)

@[simp] theorem runSmxFinal_frame (x0 : Vop) (x1 : Io) :
    (runSmxFinal x0 x1).s.pending = x1.s.pending ∧ (runSmxFinal x0 x1).s.sec = x1.s.sec ∧ (runSmxFinal x0 x1).s.owner = x1.s.owner ∧ (runSmxFinal x0 x1).s.tim = x1.s.tim ∧ (runSmxFinal x0 x1).s.pwr = x1.s.pwr := by
  unfold runSmxFinal
  split
  · simp
  · and_intros
    · refine Io.each_pending _ (fun o row => ?_) _ _
      simp
    · refine Io.each_sec _ (fun o row => ?_) _ _
      simp
    · refine Io.each_owner _ (fun o row => ?_) _ _
      simp
    · refine Io.each_tim _ (fun o row => ?_) _ _
      simp
    · refine Io.each_pwr _ (fun o row => ?_) _ _
      simp

@[simp] theorem runRowstats_frame (x0 : Vop) (x1 : Io) :
    (runRowstats x0 x1).s.pending = x1.s.pending ∧ (runRowstats x0 x1).s.sec = x1.s.sec ∧ (runRowstats x0 x1).s.owner = x1.s.owner ∧ (runRowstats x0 x1).s.tim = x1.s.tim ∧ (runRowstats x0 x1).s.pwr = x1.s.pwr := by
  unfold runRowstats; ((repeat' split) <;> simp)

@[simp] theorem runNormFin_frame (x0 : Vop) (x1 : Io) :
    (runNormFin x0 x1).s.pending = x1.s.pending ∧ (runNormFin x0 x1).s.sec = x1.s.sec ∧ (runNormFin x0 x1).s.owner = x1.s.owner ∧ (runNormFin x0 x1).s.tim = x1.s.tim ∧ (runNormFin x0 x1).s.pwr = x1.s.pwr := by
  unfold runNormFin; ((repeat' split) <;> simp)

@[simp] theorem runNormApply_frame (x0 : Vop) (x1 : Io) :
    (runNormApply x0 x1).s.pending = x1.s.pending ∧ (runNormApply x0 x1).s.sec = x1.s.sec ∧ (runNormApply x0 x1).s.owner = x1.s.owner ∧ (runNormApply x0 x1).s.tim = x1.s.tim ∧ (runNormApply x0 x1).s.pwr = x1.s.pwr := by
  unfold runNormApply; ((repeat' split) <;> simp)

@[simp] theorem runNaccStore_frame (x0 : Vop) (x1 : Io) :
    (runNaccStore x0 x1).s.pending = x1.s.pending ∧ (runNaccStore x0 x1).s.sec = x1.s.sec ∧ (runNaccStore x0 x1).s.owner = x1.s.owner ∧ (runNaccStore x0 x1).s.tim = x1.s.tim ∧ (runNaccStore x0 x1).s.pwr = x1.s.pwr := by
  unfold runNaccStore; (try dsimp only); simp [apply_ite Prod.snd, apply_ite Prod.fst, apply_ite Io.s, apply_ite State.pending, apply_ite State.sec, apply_ite State.owner, apply_ite State.tim, apply_ite State.hbm, apply_ite State.pwr]

@[simp] theorem runClipScale_frame (x0 : Vop) (x1 : Io) :
    (runClipScale x0 x1).s.pending = x1.s.pending ∧ (runClipScale x0 x1).s.sec = x1.s.sec ∧ (runClipScale x0 x1).s.owner = x1.s.owner ∧ (runClipScale x0 x1).s.tim = x1.s.tim ∧ (runClipScale x0 x1).s.pwr = x1.s.pwr := by
  unfold runClipScale; simp

@[simp] theorem vecRun_frame (x0 : Vop) (x1 : Io) :
    (vecRun x0 x1).s.pending = x1.s.pending ∧ (vecRun x0 x1).s.sec = x1.s.sec ∧ (vecRun x0 x1).s.owner = x1.s.owner ∧ (vecRun x0 x1).s.tim = x1.s.tim ∧ (vecRun x0 x1).s.pwr = x1.s.pwr := by
  fun_cases vecRun x0 <;> simp

@[simp] theorem State.countBeats_frame (x0 : State) (x1 : CoreId) (x2 : Nat) :
    (State.countBeats x0 x1 x2).pending = x0.pending ∧ (State.countBeats x0 x1 x2).hbm = x0.hbm ∧ (State.countBeats x0 x1 x2).sec = x0.sec ∧ (State.countBeats x0 x1 x2).owner = x0.owner ∧ (State.countBeats x0 x1 x2).tim = x0.tim ∧ (State.countBeats x0 x1 x2).pwr = x0.pwr := by
  unfold State.countBeats; simp

@[simp] theorem Io.readTile_frame (x0 : Io) (x1 : Tens) (x2 : Nat) (x3 : Nat) (x4 : Nat) (x5 : Nat) :
    (Io.readTile x0 x1 x2 x3 x4 x5).2.s.pending = x0.s.pending ∧ (Io.readTile x0 x1 x2 x3 x4 x5).2.s.sec = x0.s.sec ∧ (Io.readTile x0 x1 x2 x3 x4 x5).2.s.owner = x0.s.owner ∧ (Io.readTile x0 x1 x2 x3 x4 x5).2.s.tim = x0.s.tim ∧ (Io.readTile x0 x1 x2 x3 x4 x5).2.s.pwr = x0.s.pwr := by
  unfold Io.readTile; simp

@[simp] theorem Io.readOldC_frame (x0 : Io) (x1 : Mma) :
    (Io.readOldC x0 x1).2.s.pending = x0.s.pending ∧ (Io.readOldC x0 x1).2.s.sec = x0.s.sec ∧ (Io.readOldC x0 x1).2.s.owner = x0.s.owner ∧ (Io.readOldC x0 x1).2.s.tim = x0.s.tim ∧ (Io.readOldC x0 x1).2.s.pwr = x0.s.pwr := by
  unfold Io.readOldC; ((repeat' split) <;> simp)

@[simp] theorem Io.readStationary_frame (x0 : Io) (x1 : Mma) :
    (Io.readStationary x0 x1).2.s.pending = x0.s.pending ∧ (Io.readStationary x0 x1).2.s.sec = x0.s.sec ∧ (Io.readStationary x0 x1).2.s.owner = x0.s.owner ∧ (Io.readStationary x0 x1).2.s.tim = x0.s.tim ∧ (Io.readStationary x0 x1).2.s.pwr = x0.s.pwr := by
  unfold Io.readStationary; simp

@[simp] theorem Io.readStream_frame (x0 : Io) (x1 : Mma) (x2 : MmaIn) :
    (Io.readStream x0 x1 x2).2.s.pending = x0.s.pending ∧ (Io.readStream x0 x1 x2).2.s.sec = x0.s.sec ∧ (Io.readStream x0 x1 x2).2.s.owner = x0.s.owner ∧ (Io.readStream x0 x1 x2).2.s.tim = x0.s.tim ∧ (Io.readStream x0 x1 x2).2.s.pwr = x0.s.pwr := by
  unfold Io.readStream; simp

@[simp] theorem Io.putC_frame (x0 : Io) (x1 : Mma) (x2 : Bool) (x3 : List (Word × Bool) × Nat) :
    (Io.putC x0 x1 x2 x3).s.pending = x0.s.pending ∧ (Io.putC x0 x1 x2 x3).s.hbm = x0.s.hbm ∧ (Io.putC x0 x1 x2 x3).s.sec = x0.s.sec ∧ (Io.putC x0 x1 x2 x3).s.owner = x0.s.owner ∧ (Io.putC x0 x1 x2 x3).s.tim = x0.s.tim ∧ (Io.putC x0 x1 x2 x3).s.pwr = x0.s.pwr := by
  unfold Io.putC; simp

@[simp] theorem State.commitMma_frame (x0 : State) (x1 : CoreId) (x2 : Mma) (x3 : Res) (x4 : Nat) :
    (State.commitMma x0 x1 x2 x3 x4).pending = x0.pending ∧ (State.commitMma x0 x1 x2 x3 x4).sec = x0.sec ∧ (State.commitMma x0 x1 x2 x3 x4).owner = x0.owner ∧ (State.commitMma x0 x1 x2 x3 x4).tim = x0.tim ∧ (State.commitMma x0 x1 x2 x3 x4).pwr = x0.pwr := by
  unfold State.commitMma; ((repeat' split) <;> simp)

@[simp] theorem State.mmaIn_frame (x0 : State) (x1 : CoreId) (x2 : Mma) :
    (State.mmaIn x0 x1 x2).2.s.pending = x0.pending ∧ (State.mmaIn x0 x1 x2).2.s.sec = x0.sec ∧ (State.mmaIn x0 x1 x2).2.s.owner = x0.owner ∧ (State.mmaIn x0 x1 x2).2.s.tim = x0.tim ∧ (State.mmaIn x0 x1 x2).2.s.pwr = x0.pwr := by
  unfold State.mmaIn; simp

@[simp] theorem Io.noteSeen_frame (x0 : Io) (x1 : Bool) :
    (Io.noteSeen x0 x1).s.pending = x0.s.pending ∧ (Io.noteSeen x0 x1).s.hbm = x0.s.hbm ∧ (Io.noteSeen x0 x1).s.sec = x0.s.sec ∧ (Io.noteSeen x0 x1).s.owner = x0.s.owner ∧ (Io.noteSeen x0 x1).s.tim = x0.s.tim ∧ (Io.noteSeen x0 x1).s.pwr = x0.s.pwr := by
  unfold Io.noteSeen; ((repeat' split) <;> simp)

@[simp] theorem Io.copyEls_frame (x0 : Io) (x1 : Ten) (x2 : Ten) (x3 : Co) (x4 : Nat) :
    (Io.copyEls x0 x1 x2 x3 x4).s.pending = x0.s.pending ∧ (Io.copyEls x0 x1 x2 x3 x4).s.sec = x0.s.sec ∧ (Io.copyEls x0 x1 x2 x3 x4).s.owner = x0.s.owner ∧ (Io.copyEls x0 x1 x2 x3 x4).s.tim = x0.s.tim ∧ (Io.copyEls x0 x1 x2 x3 x4).s.pwr = x0.s.pwr := by
  unfold Io.copyEls; simp; ((repeat' split) <;> simp)

@[simp] theorem Io.copyScale_frame (x0 : Io) (x1 : Ten) (x2 : Ten) (x3 : Co) (x4 : Nat) :
    (Io.copyScale x0 x1 x2 x3 x4).s.pending = x0.s.pending ∧ (Io.copyScale x0 x1 x2 x3 x4).s.sec = x0.s.sec ∧ (Io.copyScale x0 x1 x2 x3 x4).s.owner = x0.s.owner ∧ (Io.copyScale x0 x1 x2 x3 x4).s.tim = x0.s.tim ∧ (Io.copyScale x0 x1 x2 x3 x4).s.pwr = x0.s.pwr := by
  unfold Io.copyScale; simp; ((repeat' split) <;> simp)

@[simp] theorem Io.copyRow_frame (x0 : Io) (x1 : Ten) (x2 : Ten) (x3 : Co) :
    (Io.copyRow x0 x1 x2 x3).s.pending = x0.s.pending ∧ (Io.copyRow x0 x1 x2 x3).s.sec = x0.s.sec ∧ (Io.copyRow x0 x1 x2 x3).s.owner = x0.s.owner ∧ (Io.copyRow x0 x1 x2 x3).s.tim = x0.s.tim ∧ (Io.copyRow x0 x1 x2 x3).s.pwr = x0.s.pwr := by
  unfold Io.copyRow; simp; ((repeat' split) <;> simp)

@[simp] theorem Io.copy_frame (x0 : Io) (x1 : Ten) (x2 : Ten) :
    (Io.copy x0 x1 x2).s.pending = x0.s.pending ∧ (Io.copy x0 x1 x2).s.sec = x0.s.sec ∧ (Io.copy x0 x1 x2).s.owner = x0.s.owner ∧ (Io.copy x0 x1 x2).s.tim = x0.s.tim ∧ (Io.copy x0 x1 x2).s.pwr = x0.s.pwr := by
  unfold Io.copy; ((repeat' split) <;> simp)

@[simp] theorem State.tagClean_frame (x0 : State) (x1 : CoreId) (x2 : Ten) (x3 : Ten) :
    (State.tagClean x0 x1 x2 x3).pending = x0.pending ∧ (State.tagClean x0 x1 x2 x3).hbm = x0.hbm ∧ (State.tagClean x0 x1 x2 x3).sec = x0.sec ∧ (State.tagClean x0 x1 x2 x3).owner = x0.owner ∧ (State.tagClean x0 x1 x2 x3).tim = x0.tim ∧ (State.tagClean x0 x1 x2 x3).pwr = x0.pwr := by
  unfold State.tagClean; simp; ((repeat' split) <;> simp)

@[simp] theorem State.upsetLines_frame (x0 : State) (x1 : CoreId) (x2 : List (BitVec 19)) :
    (State.upsetLines x0 x1 x2).pending = x0.pending ∧ (State.upsetLines x0 x1 x2).hbm = x0.hbm ∧ (State.upsetLines x0 x1 x2).sec = x0.sec ∧ (State.upsetLines x0 x1 x2).owner = x0.owner ∧ (State.upsetLines x0 x1 x2).tim = x0.tim ∧ (State.upsetLines x0 x1 x2).pwr = x0.pwr := by
  unfold State.upsetLines; ((repeat' split) <;> simp)

@[simp] theorem Io.fillRow_frame (x0 : Io) (x1 : Ten) (x2 : Nat) (x3 : Nat) (x4 : Co) :
    (Io.fillRow x0 x1 x2 x3 x4).s.pending = x0.s.pending ∧ (Io.fillRow x0 x1 x2 x3 x4).s.hbm = x0.s.hbm ∧ (Io.fillRow x0 x1 x2 x3 x4).s.sec = x0.s.sec ∧ (Io.fillRow x0 x1 x2 x3 x4).s.owner = x0.s.owner ∧ (Io.fillRow x0 x1 x2 x3 x4).s.tim = x0.s.tim ∧ (Io.fillRow x0 x1 x2 x3 x4).s.pwr = x0.s.pwr := by
  unfold Io.fillRow; simp

@[simp] theorem State.gatherShard_frame (x0 : State) (x1 : ReqOwner) (x2 : Nat) (x3 : Nat) (x4 : Shard) :
    (State.gatherShard x0 x1 x2 x3 x4).2.pending = x0.pending ∧ (State.gatherShard x0 x1 x2 x3 x4).2.hbm = x0.hbm ∧ (State.gatherShard x0 x1 x2 x3 x4).2.sec = x0.sec ∧ (State.gatherShard x0 x1 x2 x3 x4).2.owner = x0.owner ∧ (State.gatherShard x0 x1 x2 x3 x4).2.tim = x0.tim ∧ (State.gatherShard x0 x1 x2 x3 x4).2.pwr = x0.pwr := by
  unfold State.gatherShard; simp

@[simp] theorem Io.shardBytes_frame (x0 : Io) (x1 : Option Nat) (x2 : Shard) :
    (Io.shardBytes x0 x1 x2).2.s.pending = x0.s.pending ∧ (Io.shardBytes x0 x1 x2).2.s.sec = x0.s.sec ∧ (Io.shardBytes x0 x1 x2).2.s.owner = x0.s.owner ∧ (Io.shardBytes x0 x1 x2).2.s.tim = x0.s.tim ∧ (Io.shardBytes x0 x1 x2).2.s.pwr = x0.s.pwr := by
  unfold Io.shardBytes; simp

@[simp] theorem Io.putShard_frame (x0 : Io) (x1 : Ten) (x2 : Option Nat) (x3 : Shard) :
    (Io.putShard x0 x1 x2 x3).s.pending = x0.s.pending ∧ (Io.putShard x0 x1 x2 x3).s.sec = x0.s.sec ∧ (Io.putShard x0 x1 x2 x3).s.owner = x0.s.owner ∧ (Io.putShard x0 x1 x2 x3).s.tim = x0.s.tim ∧ (Io.putShard x0 x1 x2 x3).s.pwr = x0.s.pwr := by
  unfold Io.putShard; simp; ((repeat' split) <;> simp)

@[simp] theorem State.collMismatch_frame (x0 : State) (x1 : Word) (x2 : Nat) :
    (State.collMismatch x0 x1 x2).pending = x0.pending ∧ (State.collMismatch x0 x1 x2).hbm = x0.hbm ∧ (State.collMismatch x0 x1 x2).sec = x0.sec ∧ (State.collMismatch x0 x1 x2).owner = x0.owner ∧ (State.collMismatch x0 x1 x2).tim = x0.tim ∧ (State.collMismatch x0 x1 x2).pwr = x0.pwr := by
  unfold State.collMismatch; simp

@[simp] theorem State.colFault_frame (x0 : State) (x1 : CoreId) (x2 : Nat) (x3 : Nat) :
    (State.colFault x0 x1 x2 x3).pending = x0.pending ∧ (State.colFault x0 x1 x2 x3).hbm = x0.hbm ∧ (State.colFault x0 x1 x2 x3).sec = x0.sec ∧ (State.colFault x0 x1 x2 x3).owner = x0.owner ∧ (State.colFault x0 x1 x2 x3).tim = x0.tim ∧ (State.colFault x0 x1 x2 x3).pwr = x0.pwr := by
  unfold State.colFault; ((repeat' split) <;> simp)

@[simp] theorem State.colDone_frame (x0 : State) :
    (State.colDone x0).pending = x0.pending ∧ (State.colDone x0).hbm = x0.hbm ∧ (State.colDone x0).sec = x0.sec ∧ (State.colDone x0).owner = x0.owner ∧ (State.colDone x0).tim = x0.tim ∧ (State.colDone x0).pwr = x0.pwr := by
  unfold State.colDone; simp

@[simp] theorem State.localPut_frame (x0 : State) (x1 : Nat) (x2 : List (Byte × Bool)) :
    (State.localPut x0 x1 x2).1.pending = x0.pending ∧ (State.localPut x0 x1 x2).1.sec = x0.sec ∧ (State.localPut x0 x1 x2).1.owner = x0.owner ∧ (State.localPut x0 x1 x2).1.tim = x0.tim ∧ (State.localPut x0 x1 x2).1.pwr = x0.pwr := by
  unfold State.localPut; ((repeat' split) <;> simp)

@[simp] theorem State.localGet_frame (x0 : State) (x1 : Nat) (x2 : Nat) :
    (State.localGet x0 x1 x2).1.pending = x0.pending ∧ (State.localGet x0 x1 x2).1.sec = x0.sec ∧ (State.localGet x0 x1 x2).1.owner = x0.owner ∧ (State.localGet x0 x1 x2).1.tim = x0.tim ∧ (State.localGet x0 x1 x2).1.pwr = x0.pwr := by
  unfold State.localGet; ((repeat' split) <;> simp)

@[simp] theorem State.colSend_frame (x0 : State) (x1 : Collective) (x2 : Nat) (x3 : Nat) (x4 : Nat) (x5 : List (Byte × Bool)) :
    (State.colSend x0 x1 x2 x3 x4 x5).pending = x0.pending ∧ (State.colSend x0 x1 x2 x3 x4 x5).hbm = x0.hbm ∧ (State.colSend x0 x1 x2 x3 x4 x5).sec = x0.sec ∧ (State.colSend x0 x1 x2 x3 x4 x5).owner = x0.owner ∧ (State.colSend x0 x1 x2 x3 x4 x5).tim = x0.tim ∧ (State.colSend x0 x1 x2 x3 x4 x5).pwr = x0.pwr := by
  unfold State.colSend; simp

@[simp] theorem State.dropCol_frame (x0 : State) (x1 : Word) :
    (State.dropCol x0 x1).pending = x0.pending ∧ (State.dropCol x0 x1).hbm = x0.hbm ∧ (State.dropCol x0 x1).sec = x0.sec ∧ (State.dropCol x0 x1).owner = x0.owner ∧ (State.dropCol x0 x1).tim = x0.tim ∧ (State.dropCol x0 x1).pwr = x0.pwr := by
  unfold State.dropCol; simp

@[simp] theorem State.colCheck_frame (x0 : State) (x1 : Word) :
    (State.colCheck x0 x1).pending = x0.pending ∧ (State.colCheck x0 x1).hbm = x0.hbm ∧ (State.colCheck x0 x1).sec = x0.sec ∧ (State.colCheck x0 x1).owner = x0.owner ∧ (State.colCheck x0 x1).tim = x0.tim ∧ (State.colCheck x0 x1).pwr = x0.pwr := by
  unfold State.colCheck; ((repeat' split) <;> simp)

@[simp] theorem State.colCheckAll_frame (x0 : State) :
    (State.colCheckAll x0).pending = x0.pending ∧ (State.colCheckAll x0).hbm = x0.hbm ∧ (State.colCheckAll x0).sec = x0.sec ∧ (State.colCheckAll x0).owner = x0.owner ∧ (State.colCheckAll x0).tim = x0.tim ∧ (State.colCheckAll x0).pwr = x0.pwr := by
  unfold State.colCheckAll; simp

@[simp] theorem State.colFail_frame (x0 : State) (x1 : Collective) (x2 : Nat) :
    (State.colFail x0 x1 x2).pending = x0.pending ∧ (State.colFail x0 x1 x2).hbm = x0.hbm ∧ (State.colFail x0 x1 x2).sec = x0.sec ∧ (State.colFail x0 x1 x2).owner = x0.owner ∧ (State.colFail x0 x1 x2).tim = x0.tim ∧ (State.colFail x0 x1 x2).pwr = x0.pwr := by
  unfold State.colFail; simp

@[simp] theorem State.colWrite_frame (x0 : State) (x1 : Collective) (x2 : Nat) (x3 : List (Byte × Bool)) :
    (State.colWrite x0 x1 x2 x3).pending = x0.pending ∧ (State.colWrite x0 x1 x2 x3).sec = x0.sec ∧ (State.colWrite x0 x1 x2 x3).owner = x0.owner ∧ (State.colWrite x0 x1 x2 x3).tim = x0.tim ∧ (State.colWrite x0 x1 x2 x3).pwr = x0.pwr := by
  unfold State.colWrite; dsimp only; (repeat' split) <;> (try (simp; done)) <;>
    (rename_i h; have e0 := congrArg (fun q => q.1.pending) h; have e1 := congrArg (fun q => q.1.sec) h; have e2 := congrArg (fun q => q.1.owner) h; have e3 := congrArg (fun q => q.1.tim) h; have e4 := congrArg (fun q => q.1.pwr) h;
     simp [apply_ite State.pending, apply_ite State.hbm, apply_ite State.sec, apply_ite State.owner, apply_ite State.tim, apply_ite State.pwr] at e0 e1 e2 e3 e4; simp [*])

@[simp] theorem State.colSpread_frame (x0 : State) (x1 : Collective) (x2 : Nat) (x3 : List (Byte × Bool)) :
    (State.colSpread x0 x1 x2 x3).pending = x0.pending ∧ (State.colSpread x0 x1 x2 x3).sec = x0.sec ∧ (State.colSpread x0 x1 x2 x3).owner = x0.owner ∧ (State.colSpread x0 x1 x2 x3).tim = x0.tim ∧ (State.colSpread x0 x1 x2 x3).pwr = x0.pwr := by
  unfold State.colSpread; (try dsimp only); (repeat' split); all_goals (try and_intros); all_goals (try simp); all_goals (repeat (first | rw [State.each_pending] | rw [State.each_hbm] | rw [State.each_sec] | rw [State.each_owner] | rw [State.each_tim] | rw [State.each_pwr])); all_goals (try intros); all_goals ((repeat' split) <;> (first | rfl | simp))

@[simp] theorem State.colStep_frame (x0 : State) (x1 : Collective) (x2 : Nat) (x3 : List (Byte × Bool)) :
    (State.colStep x0 x1 x2 x3).pending = x0.pending ∧ (State.colStep x0 x1 x2 x3).sec = x0.sec ∧ (State.colStep x0 x1 x2 x3).owner = x0.owner ∧ (State.colStep x0 x1 x2 x3).tim = x0.tim ∧ (State.colStep x0 x1 x2 x3).pwr = x0.pwr := by
  unfold State.colStep; simp; ((repeat' split) <;> simp)

@[simp] theorem State.colSegment_frame (x0 : State) (x1 : Collective) (x2 : Fu) :
    (State.colSegment x0 x1 x2).pending = x0.pending ∧ (State.colSegment x0 x1 x2).sec = x0.sec ∧ (State.colSegment x0 x1 x2).owner = x0.owner ∧ (State.colSegment x0 x1 x2).tim = x0.tim ∧ (State.colSegment x0 x1 x2).pwr = x0.pwr := by
  unfold State.colSegment; dsimp only; (repeat' split) <;> (try (simp; done)) <;>
    (rename_i h; have e0 := congrArg (fun q => q.1.pending) h; have e1 := congrArg (fun q => q.1.sec) h; have e2 := congrArg (fun q => q.1.owner) h; have e3 := congrArg (fun q => q.1.tim) h; have e4 := congrArg (fun q => q.1.pwr) h; simp at e0 e1 e2 e3 e4; simp [*])

@[simp] theorem State.stage_frame (x0 : State) (x1 : Fu) :
    (State.stage x0 x1).pending = x0.pending ∧ (State.stage x0 x1).hbm = x0.hbm ∧ (State.stage x0 x1).sec = x0.sec ∧ (State.stage x0 x1).owner = x0.owner ∧ (State.stage x0 x1).tim = x0.tim ∧ (State.stage x0 x1).pwr = x0.pwr := by
  unfold State.stage; simp

@[simp] theorem State.payOwed_frame (x0 : State) :
    (State.payOwed x0).pending = x0.pending ∧ (State.payOwed x0).hbm = x0.hbm ∧ (State.payOwed x0).sec = x0.sec ∧ (State.payOwed x0).owner = x0.owner ∧ (State.payOwed x0).tim = x0.tim ∧ (State.payOwed x0).pwr = x0.pwr := by
  unfold State.payOwed; ((repeat' split) <;> simp)

@[simp] theorem State.wakeRings_frame (x0 : State) (x1 : Word) :
    (State.wakeRings x0 x1).pending = x0.pending ∧ (State.wakeRings x0 x1).hbm = x0.hbm ∧ (State.wakeRings x0 x1).sec = x0.sec ∧ (State.wakeRings x0 x1).owner = x0.owner ∧ (State.wakeRings x0 x1).tim = x0.tim ∧ (State.wakeRings x0 x1).pwr = x0.pwr := by
  unfold State.wakeRings; (try dsimp only); (repeat' split); all_goals (try and_intros); all_goals (try simp); all_goals (repeat (first | rw [State.each_pending] | rw [State.each_hbm] | rw [State.each_sec] | rw [State.each_owner] | rw [State.each_tim] | rw [State.each_pwr])); all_goals (try intros); all_goals ((repeat' split) <;> (first | rfl | simp))

@[simp] theorem State.ringPut_frame (x0 : State) (x1 : RingOp) (x2 : Nat) (x3 : Nat) (x4 : List (Byte × Bool)) :
    (State.ringPut x0 x1 x2 x3 x4).pending = x0.pending ∧ (State.ringPut x0 x1 x2 x3 x4).sec = x0.sec ∧ (State.ringPut x0 x1 x2 x3 x4).owner = x0.owner ∧ (State.ringPut x0 x1 x2 x3 x4).tim = x0.tim ∧ (State.ringPut x0 x1 x2 x3 x4).pwr = x0.pwr := by
  unfold State.ringPut; dsimp only; (repeat' split) <;> (try (simp; done)) <;>
    (rename_i h; have e0 := congrArg (fun q => q.1.pending) h; have e1 := congrArg (fun q => q.1.sec) h; have e2 := congrArg (fun q => q.1.owner) h; have e3 := congrArg (fun q => q.1.tim) h; have e4 := congrArg (fun q => q.1.pwr) h;
     simp [apply_ite State.pending, apply_ite State.hbm, apply_ite State.sec, apply_ite State.owner, apply_ite State.tim, apply_ite State.pwr] at e0 e1 e2 e3 e4; simp [*])

@[simp] theorem State.ringSend_frame (x0 : State) (x1 : Word) (x2 : Nat) (x3 : Nat) (x4 : List (Byte × Bool)) :
    (State.ringSend x0 x1 x2 x3 x4).pending = x0.pending ∧ (State.ringSend x0 x1 x2 x3 x4).hbm = x0.hbm ∧ (State.ringSend x0 x1 x2 x3 x4).sec = x0.sec ∧ (State.ringSend x0 x1 x2 x3 x4).owner = x0.owner ∧ (State.ringSend x0 x1 x2 x3 x4).tim = x0.tim ∧ (State.ringSend x0 x1 x2 x3 x4).pwr = x0.pwr := by
  unfold State.ringSend; simp

@[simp] theorem State.ringBlock_frame (x0 : State) (x1 : RingOp) (x2 : Fu) :
    (State.ringBlock x0 x1 x2).pending = x0.pending ∧ (State.ringBlock x0 x1 x2).sec = x0.sec ∧ (State.ringBlock x0 x1 x2).owner = x0.owner ∧ (State.ringBlock x0 x1 x2).tim = x0.tim ∧ (State.ringBlock x0 x1 x2).pwr = x0.pwr := by
  unfold State.ringBlock; simp; ((repeat' split) <;> simp)

@[simp] theorem State.colTake_frame (x0 : Word) (x1 : State) (x2 : Fu) :
    (State.colTake x0 x1 x2).pending = x1.pending ∧ (State.colTake x0 x1 x2).sec = x1.sec ∧ (State.colTake x0 x1 x2).owner = x1.owner ∧ (State.colTake x0 x1 x2).tim = x1.tim ∧ (State.colTake x0 x1 x2).pwr = x1.pwr := by
  unfold State.colTake; ((repeat' split) <;> simp)

@[simp] theorem State.ringTake_frame (x0 : Word) (x1 : State) (x2 : Fu) :
    (State.ringTake x0 x1 x2).pending = x1.pending ∧ (State.ringTake x0 x1 x2).sec = x1.sec ∧ (State.ringTake x0 x1 x2).owner = x1.owner ∧ (State.ringTake x0 x1 x2).tim = x1.tim ∧ (State.ringTake x0 x1 x2).pwr = x1.pwr := by
  unfold State.ringTake; ((repeat' split) <;> simp)

@[simp] theorem State.colStart_frame (x0 : State) (x1 : Collective) :
    (State.colStart x0 x1).pending = x0.pending ∧ (State.colStart x0 x1).sec = x0.sec ∧ (State.colStart x0 x1).owner = x0.owner ∧ (State.colStart x0 x1).tim = x0.tim ∧ (State.colStart x0 x1).pwr = x0.pwr := by
  unfold State.colStart; dsimp only; (repeat' split) <;> (try (simp; done)) <;>
    (rename_i h; have e0 := congrArg (fun q => q.1.pending) h; have e1 := congrArg (fun q => q.1.sec) h; have e2 := congrArg (fun q => q.1.owner) h; have e3 := congrArg (fun q => q.1.tim) h; have e4 := congrArg (fun q => q.1.pwr) h;
     simp at e0 e1 e2 e3 e4
     first
     | (simp [*]; done)
     | (rw [State.each_pending _ (fun s a => by split <;> simp), State.each_sec _ (fun s a => by split <;> simp), State.each_owner _ (fun s a => by split <;> simp), State.each_tim _ (fun s a => by split <;> simp), State.each_pwr _ (fun s a => by split <;> simp)]; simp [*]))

@[simp] theorem State.takeColData_frame (x0 : State) (x1 : Fu) :
    (State.takeColData x0 x1).pending = x0.pending ∧ (State.takeColData x0 x1).sec = x0.sec ∧ (State.takeColData x0 x1).owner = x0.owner ∧ (State.takeColData x0 x1).tim = x0.tim ∧ (State.takeColData x0 x1).pwr = x0.pwr := by
  unfold State.takeColData; simp; ((repeat' split) <;> simp)

@[simp] theorem State.takeRingBlock_frame (x0 : State) (x1 : Fu) :
    (State.takeRingBlock x0 x1).pending = x0.pending ∧ (State.takeRingBlock x0 x1).sec = x0.sec ∧ (State.takeRingBlock x0 x1).owner = x0.owner ∧ (State.takeRingBlock x0 x1).tim = x0.tim ∧ (State.takeRingBlock x0 x1).pwr = x0.pwr := by
  unfold State.takeRingBlock; simp; ((repeat' split) <;> simp)

end Sys2Proof.Machine
end

