-- ==== Sys2Proof/Laws/FrameRuns.lean ====
section
/-!
SUPPORT. What the tries of descriptors leave unchanged, whether they issue, are held back or take a fault.
-/

namespace Sys2Proof.Machine

open Sys2Proof

/-- Queue, security processor, ownership, time and power stand as they were. -/
structure Same (s t : State) : Prop where
  pending : t.pending = s.pending
  sec     : t.sec = s.sec
  owner   : t.owner = s.owner
  tim     : t.tim = s.tim
  pwr     : t.pwr = s.pwr

theorem Same.refl (s : State) : Same s s := ⟨rfl, rfl, rfl, rfl, rfl⟩

theorem Same.trans {s t u : State} (h : Same s t) (k : Same t u) : Same s u :=
  ⟨k.1.trans h.1, k.2.trans h.2, k.3.trans h.3, k.4.trans h.4, k.5.trans h.5⟩

/-- An outcome leaves them: the state `p` of an answer, or the state of a fault. -/
def Run?.Keeps {α : Type} (p : α → State) (s : State) : Run? α → Prop
  | .ok x => Same s (p x)
  | .error e => Same s e.s

theorem Run?.Keeps.bind {α β : Type} {q : α → State} {p : β → State} {s : State} {x : Run? α} {f : α → Run? β}
    (h : Run?.Keeps q s x) (k : ∀ a, Same s (q a) → Run?.Keeps p s (f a)) : Run?.Keeps p s (x >>= f) := by
  cases x with
  | error e => exact h
  | ok a => exact k a h

theorem Run?.Keeps.trans {α : Type} {p : α → State} {s t : State} {x : Run? α} (h : Same s t)
    (k : Run?.Keeps p t x) : Run?.Keeps p s x := by
  cases x with
  | error e => exact Same.trans h k
  | ok a => exact Same.trans h k

theorem Run?.Keeps.err {α : Type} {p : α → State} {s : State} {x : Run? α} {e : Stop} (h : Run?.Keeps p s x)
    (k : x = .error e) : Same s e.s := by subst k; exact h

theorem Run?.Keeps.ok {α : Type} {p : α → State} {s : State} {x : Run? α} {a : α} (h : Run?.Keeps p s x)
    (k : x = .ok a) : Same s (p a) := by subst k; exact h

theorem need_keeps (ok : Bool) (s : State) (bt : Nat) : Run?.Keeps (fun _ => s) s (need ok s bt) := by
  unfold need; split <;> exact Same.refl s

theorem Desc.check_keeps (d : Desc) (s : State) (a b : Bool) : Run?.Keeps (fun _ => s) s (d.check s a b) := by
  unfold Desc.check; (repeat' split) <;> exact Same.refl s

theorem Desc.pairCheck_keeps (d : Desc) (s : State) (a b c e : Bool) :
    Run?.Keeps (fun _ => s) s (d.pairCheck s a b c e) := by
  unfold Desc.pairCheck
  refine (d.check_keeps s a b).bind fun _ _ => ?_
  exact (need_keeps _ _ _).bind fun _ _ => need_keeps _ _ _

theorem Desc.vecCheck_keeps (d : Desc) (v : Vop) (s : State) : Run?.Keeps (fun _ => s) s (d.vecCheck v s) := by
  unfold Desc.vecCheck; dsimp only; (repeat' split) <;> exact Same.refl s

theorem Desc.mmaCheck_keeps (d : Desc) (x : Mma) (s : State) : Run?.Keeps (fun _ => s) s (d.mmaCheck x s) := by
  unfold Desc.mmaCheck; dsimp only; (repeat' split) <;> exact Same.refl s

theorem State.ctxStart_keeps (s : State) (k dir vs : Nat) (mb : Word) (l : Nat) :
    Run?.Keeps id s (s.ctxStart k dir vs mb l) := by
  unfold State.ctxStart; dsimp only
  (repeat' split) <;> (constructor <;> simp [State.ctxStateFault])

theorem State.ctxEnd_keeps (s : State) (k l : Nat) : Run?.Keeps id s (s.ctxEnd k l) := by
  unfold State.ctxEnd; dsimp only
  (repeat' split) <;> (constructor <;> simp [State.ctxStateFault])

theorem State.captured_keeps (s : State) (k i l : Nat) : Run?.Keeps (fun _ => s) s (s.captured k i l) := by
  unfold State.captured; dsimp only
  (repeat' split) <;> (constructor <;> simp)

theorem State.vcapture_keeps (s : State) (k l : Nat) : Run?.Keeps id s (s.vcapture k l) := by
  unfold State.vcapture; dsimp only
  (repeat' split) <;> (constructor <;> simp [State.ctxStateFault])

theorem State.vopen_keeps (s : State) (w : Weight) (v l : Nat) : Run?.Keeps id s (s.vopen w v l) := by
  unfold State.vopen; dsimp only
  (repeat' split) <;> (constructor <;> simp [State.publishFault])

theorem State.vpublish_keeps (s : State) (w : Weight) (v r l : Nat) : Run?.Keeps id s (s.vpublish w v r l) := by
  unfold State.vpublish
  (repeat' split) <;> (constructor <;> simp [State.publishFault])

theorem State.useQueue_keeps (s : State) (q k l : Nat) (w : Bool) :
    Run?.Keeps (fun _ => s) s (s.useQueue q k l w) := by
  unfold State.useQueue
  (repeat' split) <;> (constructor <;> simp [State.queueMisuse])

theorem State.queueCheck_keeps (s : State) (r : Queue) (k l : Nat) : Run?.Keeps id s (s.queueCheck r k l) := by
  unfold State.queueCheck; dsimp only
  (repeat' split) <;> (constructor <;> simp [State.lateRead, apply_ite State.pending, apply_ite State.sec,
    apply_ite State.owner, apply_ite State.tim, apply_ite State.pwr])

theorem State.resolveVersion_keeps (s : State) (t : Tens) (k l : Nat) (w : Bool) :
    Run?.Keeps Prod.fst s (s.resolveVersion t k l w) := by
  unfold State.resolveVersion; dsimp only
  split
  · exact Same.refl s
  · rename_i w' _
    have hc : Run?.Keeps (fun _ => s) s (if t.vsel = 1 then s.captured k w'.id l else .ok t.version) := by
      split
      · exact s.captured_keeps k w'.id l
      · exact Same.refl s
    (repeat' split) <;>
      first
      | exact Same.refl s
      | exact hc.err (by assumption)
      | (constructor <;> simp [State.versionFault, apply_ite Stop.s, apply_ite State.pending, apply_ite State.sec,
          apply_ite State.owner, apply_ite State.tim, apply_ite State.pwr])

theorem State.resolve_keeps (s : State) (t : Tens) (k l : Nat) (w : Bool) :
    Run?.Keeps Prod.fst s (s.resolve t k l w) := by
  unfold State.resolve; dsimp only
  (repeat' split) <;>
    first
    | exact Same.refl s
    | exact s.resolveVersion_keeps t k l _
    | exact (s.useQueue_keeps _ k l _).err (by assumption)
    | exact (s.queueCheck_keeps _ k l).err (by assumption)
    | exact (s.queueCheck_keeps _ k l).ok (by assumption)

theorem State.resolvePair_keeps (s : State) (a b : Tens) (k l : Nat) :
    Run?.Keeps Prod.fst s (s.resolvePair a b k l) := by
  unfold State.resolvePair
  split
  · exact Same.refl s
  · split
    · exact (s.resolve_keeps a k l false).err (by assumption)
    · rename_i t x h
      have h1 : Same s t := (s.resolve_keeps a k l false).ok h
      split
      · exact h1.trans ((t.resolve_keeps b k l true).err (by assumption))
      · exact h1.trans ((t.resolve_keeps b k l true).ok (by assumption))

theorem State.resolveOpd_keeps (s : State) (x : Opd) (k l : Nat) (w : Bool) :
    Run?.Keeps Prod.fst s (s.resolveOpd x k l w) := by
  unfold State.resolveOpd
  (repeat' split) <;>
    first
    | exact Same.refl s
    | exact (s.resolve_keeps _ k l w).err (by assumption)
    | exact (s.resolve_keeps _ k l w).ok (by assumption)

theorem State.resolveIf_keeps (s : State) (g : Bool) (x : Opd) (k l : Nat) (w : Bool) :
    Run?.Keeps Prod.fst s (s.resolveIf g x k l w) := by
  unfold State.resolveIf; split
  · exact s.resolveOpd_keeps x k l w
  · exact Same.refl s

theorem Vop.resolve_keeps (v : Vop) (s : State) (k l : Nat) : Run?.Keeps Prod.fst s (v.resolve s k l) := by
  unfold Vop.resolve
  refine (s.resolveIf_keeps _ _ k l _).bind fun a ha => ?_
  refine (Run?.Keeps.trans ha (a.1.resolveIf_keeps _ _ k l _)).bind fun b hb => ?_
  refine (Run?.Keeps.trans hb (b.1.resolveIf_keeps _ _ k l _)).bind fun c hc => ?_
  refine (Run?.Keeps.trans hc (c.1.resolveIf_keeps _ _ k l _)).bind fun e he => ?_
  refine (Run?.Keeps.trans he (e.1.resolveIf_keeps _ _ k l _)).bind fun f hf => ?_
  refine (Run?.Keeps.trans hf (f.1.resolveOpd_keeps _ k l _)).bind fun g hg => ?_
  exact hg

theorem State.finish_keeps (s0 : State) (o : Io) (d : Desc) (b : Blk) (outs : List (Nat × Nat)) (t op f : Nat)
    (h : Same s0 o.s) : Run?.Keeps Prod.fst s0 (s0.finish o d b outs t op f) := by
  obtain ⟨h1, h2, h3, h4, h5⟩ := h
  unfold State.finish; dsimp only
  (repeat' split) <;> (constructor <;> simp [*])

theorem Desc.vecStart_keeps (d : Desc) (c : CoreId) (l : Nat) (got : Store (Byte × Bool)) (s : State) :
    Run?.Keeps Prod.fst s (d.vecStart c l got s) := by
  unfold Desc.vecStart; dsimp only
  split
  · exact Same.refl s
  · split
    · exact ((d.vop s c).resolve_keeps s _ l).err (by assumption)
    · rename_i t v h
      have h1 : Same s t := ((d.vop s c).resolve_keeps s _ l).ok h
      refine State.finish_keeps _ _ _ _ _ _ _ _ (h1.trans ?_)
      constructor <;> simp

theorem asStart_keeps {s : State} {r : Run? (State × InFlight)} (h : Run?.Keeps Prod.fst s r) :
    Run?.Keeps Prod.fst s (asStart r) := by
  unfold asStart; split <;> exact h

theorem Desc.copyStart_keeps (d : Desc) (c : CoreId) (l : Nat) (got : Store (Byte × Bool)) (s : State) :
    Run?.Keeps Prod.fst s (d.copyStart c l got s) := by
  unfold Desc.copyStart; dsimp only
  split
  · exact (s.resolvePair_keeps _ _ _ l).err (by assumption)
  · rename_i t x y h
    have h1 : Same s t := (s.resolvePair_keeps _ _ _ l).ok h
    have h2 : Run?.Keeps Prod.fst s (s.finish (({ s := t, c := c, got := got, fwd := sameKind x y } : Io).copy x y) d (.cdma c) []) := by
      refine State.finish_keeps _ _ _ _ _ _ _ _ (h1.trans ?_)
      constructor <;> simp
    split
    · exact h2.err (by assumption)
    · rename_i u e k
      have h3 : Same s u := h2.ok k
      split
      · exact h3
      · exact h3.trans (by constructor <;> simp)

theorem Desc.fillStart_keeps (d : Desc) (c : CoreId) (l : Nat) (s : State) :
    Run?.Keeps Prod.fst s (d.fillStart c l s) := by
  unfold Desc.fillStart; dsimp only
  split
  · exact Same.refl s
  · split
    · exact (s.resolve_keeps _ _ l _).err (by assumption)
    · rename_i t y h
      have h1 : Same s t := (s.resolve_keeps _ _ l _).ok h
      split
      · rename_i e k
        refine (State.finish_keeps _ _ _ _ _ _ _ _ (h1.trans ?_)).err k
        constructor <;> simp
      · rename_i u e k
        have h3 : Same s u := by
          refine (State.finish_keeps _ _ _ _ _ _ _ _ (h1.trans ?_)).ok k
          constructor <;> simp
        exact h3.trans (by constructor <;> simp)

theorem Desc.qcopyStart_keeps (d : Desc) (c : CoreId) (l : Nat) (got : Store (Byte × Bool)) (s : State) :
    Run?.Keeps Prod.fst s (d.qcopyStart c l got s) := by
  unfold Desc.qcopyStart; dsimp only
  split
  · exact (s.resolvePair_keeps _ _ _ l).err (by assumption)
  · rename_i t x y h
    have h1 : Same s t := (s.resolvePair_keeps _ _ _ l).ok h
    refine State.finish_keeps _ _ _ _ _ _ _ _ (h1.trans ?_)
    constructor <;> simp

theorem Desc.remoteStart_keeps (d : Desc) (c : CoreId) (l : Nat) (got : Store (Byte × Bool)) (s : State) :
    Run?.Keeps Prod.fst s (d.remoteStart c l got s) := by
  unfold Desc.remoteStart; dsimp only
  split
  · exact (s.resolvePair_keeps _ _ _ l).err (by assumption)
  · rename_i t x y h
    have h1 : Same s t := (s.resolvePair_keeps _ _ _ l).ok h
    refine State.finish_keeps _ _ _ _ _ _ _ _ (h1.trans ?_)
    constructor <;> simp

theorem Desc.gatherVersion_keeps (d : Desc) (w : Weight) (l : Nat) (s : State) :
    Run?.Keeps (fun _ => s) s (d.gatherVersion w l s) := by
  unfold Desc.gatherVersion; split
  · exact s.captured_keeps _ _ l
  · exact Same.refl s

theorem Desc.gatherStart_keeps (d : Desc) (c : CoreId) (l : Nat) (got : Store (Byte × Bool)) (first : Bool)
    (s : State) : Run?.Keeps Prod.fst s (d.gatherStart c l got first s) := by
  unfold Desc.gatherStart; dsimp only
  split
  · exact Same.refl s
  · rename_i w _
    refine (d.gatherVersion_keeps w l s).bind fun v _ => ?_
    have tail : ∀ own : Option Nat, Run?.Keeps Prod.fst s
        (if first && !(((s.shardsOf w).filter (fun x => decide (0 < x.len))).filter
            (fun x => x.d != destAxis s.own 3)).isEmpty then
          (let r := (((s.shardsOf w).filter (fun x => decide (0 < x.len))).filter
              (fun x => x.d != destAxis s.own 3)).foldl (fun (r : List Nat × State) x =>
            let q := r.2.gatherShard (.core c .ver d.pos) w.id v x
            (r.1 ++ q.1, q.2)) ([], s)
          Except.ok (r.2.pump, { d.inFlight r.1 with phase := .fetch }))
        else
          s.finish (({ s := s, c := c, got := got } : Io).each ((s.shardsOf w).filter (fun x => decide (0 < x.len)))
            (fun o x => o.putShard { t := s.tensor (d.num 14 2)
                                     place := if (s.tensor (d.num 14 2)).space = 1 then .store else .glob }
              (if x.d = destAxis s.own 3 then own else none) x)) d (.core c) []) := by
      intro own
      split
      · constructor <;> simp
      · refine State.finish_keeps _ _ _ _ _ _ _ _ ?_
        constructor <;> simp
    split
    · split
      · (constructor <;> simp [State.versionFault, apply_ite Stop.s, apply_ite State.pending, apply_ite State.sec,
            apply_ite State.owner, apply_ite State.tim, apply_ite State.pwr])
      · exact tail _
    · exact tail _

/-- A try leaves them, whether it issues, is held back or faults. -/
abbrev Try.Keeps (s : State) (x : Try) : Prop := Run?.Keeps (fun y => (y.map Prod.fst).getD s) s x

/-- A descriptor that starts or waits leaves them, as its start does. -/
theorem Desc.enter_keeps (d : Desc) (c : CoreId) {s0 s : State} {f : State → Run? (State × Option InFlight)}
    (h : Same s0 s) (k : Run?.Keeps Prod.fst s (f s)) : Try.Keeps s0 (d.enter c s f) := by
  unfold Desc.enter
  split
  · exact h
  · split
    · exact h.trans (k.err (by assumption))
    · exact h.trans (k.ok (by assumption))

theorem Try.Keeps.after {s t : State} {e : Option InFlight} (h : Same s t) : Try.Keeps s (.ok (some (t, e))) := h

theorem Desc.nop_keeps (d : Desc) (s : State) : Try.Keeps s (d.nop s) := by
  unfold Desc.nop
  exact (d.check_keeps _ _ _).bind fun _ _ => Same.refl s

theorem Desc.fence_keeps (d : Desc) (c : CoreId) (s : State) : Try.Keeps s (d.fence c s) := by
  unfold Desc.fence
  refine (d.check_keeps _ _ _).bind fun _ _ => ?_
  (repeat' split) <;> (constructor <;> simp)

theorem Desc.endList_keeps (d : Desc) (c : CoreId) (s : State) : Try.Keeps s (d.endList c s) := by
  unfold Desc.endList
  refine (d.check_keeps _ _ _).bind fun _ _ => ?_
  (repeat' split) <;> (constructor <;> simp)

theorem Desc.vector_keeps (d : Desc) (c : CoreId) (l : Nat) (s : State) : Try.Keeps s (d.vector c l s) := by
  unfold Desc.vector; dsimp only
  refine (d.vecCheck_keeps _ _).bind fun _ _ => d.enter_keeps c ?_ (asStart_keeps (d.vecStart_keeps _ _ _ _))
  constructor <;> simp

theorem Desc.dmaCopy_keeps (d : Desc) (c : CoreId) (l : Nat) (s : State) : Try.Keeps s (d.dmaCopy c l s) := by
  unfold Desc.dmaCopy; dsimp only
  refine (d.pairCheck_keeps _ _ _ _ _).bind fun _ _ => d.enter_keeps c ?_ (asStart_keeps (d.copyStart_keeps _ _ _ _))
  constructor <;> simp

theorem Desc.dmaFill_keeps (d : Desc) (c : CoreId) (l : Nat) (s : State) : Try.Keeps s (d.dmaFill c l s) := by
  unfold Desc.dmaFill; dsimp only
  refine (d.check_keeps _ _ _).bind fun _ _ => ?_
  refine (need_keeps _ _ _).bind fun _ _ => ?_
  refine (need_keeps _ _ _).bind fun _ _ => d.enter_keeps c ?_ (asStart_keeps (d.fillStart_keeps _ _ _))
  constructor <;> simp

theorem Desc.ctxStartRun_keeps (d : Desc) (l : Nat) (s : State) :
    Run?.Keeps Prod.fst s (d.ctxStartRun l s) := (s.ctxStart_keeps _ _ _ _ l).bind fun t h => h

theorem Desc.ctxStart_keeps (d : Desc) (c : CoreId) (l : Nat) (s : State) : Try.Keeps s (d.ctxStart c l s) := by
  unfold Desc.ctxStart
  refine (d.check_keeps _ _ _).bind fun _ _ => ?_
  refine (need_keeps _ _ _).bind fun _ _ => d.enter_keeps c (Same.refl s) (d.ctxStartRun_keeps l s)

theorem Desc.ctxEndRun_keeps (d : Desc) (l : Nat) (s : State) :
    Run?.Keeps Prod.fst s (d.ctxEndRun l s) := (s.ctxEnd_keeps _ l).bind fun t h => h

theorem Desc.ctxEnd_keeps (d : Desc) (c : CoreId) (l : Nat) (s : State) : Try.Keeps s (d.ctxEnd c l s) := by
  unfold Desc.ctxEnd
  refine (d.check_keeps _ _ _).bind fun _ _ => ?_
  refine (need_keeps _ _ _).bind fun _ _ => d.enter_keeps c (Same.refl s) (d.ctxEndRun_keeps l s)

theorem Desc.qcheckRun_keeps (d : Desc) (l : Nat) (s : State) :
    Run?.Keeps Prod.fst s (d.qcheckRun l s) := (s.useQueue_keeps _ _ l _).bind fun q _ => (s.queueCheck_keeps _ _ l).bind fun t h => h

theorem Desc.qcheck_keeps (d : Desc) (c : CoreId) (l : Nat) (s : State) : Try.Keeps s (d.qcheck c l s) := by
  unfold Desc.qcheck
  refine (d.check_keeps _ _ _).bind fun _ _ => ?_
  refine (need_keeps _ _ _).bind fun _ _ => d.enter_keeps c (Same.refl s) (d.qcheckRun_keeps l s)

theorem Desc.qcopy_keeps (d : Desc) (c : CoreId) (l : Nat) (s : State) : Try.Keeps s (d.qcopy c l s) := by
  unfold Desc.qcopy; dsimp only
  exact (d.pairCheck_keeps _ _ _ _ _).bind fun _ _ => d.enter_keeps c (Same.refl s) (asStart_keeps (d.qcopyStart_keeps _ _ _ _))

theorem Desc.vcaptureRun_keeps (d : Desc) (l : Nat) (s : State) :
    Run?.Keeps Prod.fst s (d.vcaptureRun l s) := (s.vcapture_keeps _ l).bind fun t h => h

theorem Desc.vcapture_keeps (d : Desc) (c : CoreId) (l : Nat) (s : State) : Try.Keeps s (d.vcapture c l s) := by
  unfold Desc.vcapture
  refine (d.check_keeps _ _ _).bind fun _ _ => ?_
  refine (need_keeps _ _ _).bind fun _ _ => d.enter_keeps c (Same.refl s) (d.vcaptureRun_keeps l s)

theorem Desc.onWeight_keeps (d : Desc) (s : State) (f : Weight → Run? State) (h : ∀ w, Run?.Keeps id s (f w)) :
    Run?.Keeps Prod.fst s (d.onWeight s f) := by
  unfold Desc.onWeight
  split
  · exact Same.refl s
  · split
    · exact (h _).err (by assumption)
    · exact (h _).ok (by assumption)

theorem Desc.vopenRun_keeps (d : Desc) (l : Nat) (s : State) :
    Run?.Keeps Prod.fst s (d.vopenRun l s) := d.onWeight_keeps s _ fun w => s.vopen_keeps w _ l

theorem Desc.vopen_keeps (d : Desc) (c : CoreId) (l : Nat) (s : State) : Try.Keeps s (d.vopen c l s) := by
  unfold Desc.vopen
  refine (d.check_keeps _ _ _).bind fun _ _ => ?_
  exact (need_keeps _ _ _).bind fun _ _ =>
    d.enter_keeps c (Same.refl s) (d.vopenRun_keeps l s)

theorem Desc.vpublishRun_keeps (d : Desc) (l : Nat) (s : State) :
    Run?.Keeps Prod.fst s (d.vpublishRun l s) := d.onWeight_keeps s _ fun w => s.vpublish_keeps w _ _ l

theorem Desc.vpublish_keeps (d : Desc) (c : CoreId) (l : Nat) (s : State) : Try.Keeps s (d.vpublish c l s) := by
  unfold Desc.vpublish
  refine (d.check_keeps _ _ _).bind fun _ _ => ?_
  exact (need_keeps _ _ _).bind fun _ _ =>
    d.enter_keeps c (Same.refl s) (d.vpublishRun_keeps l s)

theorem Desc.vgather_keeps (d : Desc) (c : CoreId) (l : Nat) (s : State) : Try.Keeps s (d.vgather c l s) := by
  unfold Desc.vgather; dsimp only
  refine (d.check_keeps _ _ _).bind fun _ _ => ?_
  exact (need_keeps _ _ _).bind fun _ _ => d.enter_keeps c (Same.refl s) (asStart_keeps (d.gatherStart_keeps _ _ _ _ _))

theorem Desc.remote_keeps (d : Desc) (c : CoreId) (l : Nat) (s : State) : Try.Keeps s (d.remote c l s) := by
  unfold Desc.remote; dsimp only
  exact (d.pairCheck_keeps _ _ _ _ _).bind fun _ _ => d.enter_keeps c (Same.refl s) (asStart_keeps (d.remoteStart_keeps _ _ _ _))

theorem Desc.ringWaitRun_keeps (d : Desc) (s : State) :
    Run?.Keeps Prod.fst s (d.ringWaitRun s) := Same.refl s

theorem Desc.ringWait_keeps (d : Desc) (c : CoreId) (s : State) : Try.Keeps s (d.ringWait c s) := by
  unfold Desc.ringWait; dsimp only
  refine (d.check_keeps _ _ _).bind fun _ _ => ?_
  exact (need_keeps _ _ _).bind fun _ _ => d.enter_keeps c (Same.refl s) (d.ringWaitRun_keeps s)

@[simp] theorem State.takeStaged_pending (s : State) (ty : Nat) (id : Word) (f : State → Fu → State)
    (h : ∀ s a, (f s a).pending = s.pending) : (s.takeStaged ty id f).pending = s.pending := by
  unfold State.takeStaged; simp [h]

@[simp] theorem State.takeStaged_sec (s : State) (ty : Nat) (id : Word) (f : State → Fu → State)
    (h : ∀ s a, (f s a).sec = s.sec) : (s.takeStaged ty id f).sec = s.sec := by
  unfold State.takeStaged; simp [h]

@[simp] theorem State.takeStaged_owner (s : State) (ty : Nat) (id : Word) (f : State → Fu → State)
    (h : ∀ s a, (f s a).owner = s.owner) : (s.takeStaged ty id f).owner = s.owner := by
  unfold State.takeStaged; simp [h]

@[simp] theorem State.takeStaged_tim (s : State) (ty : Nat) (id : Word) (f : State → Fu → State)
    (h : ∀ s a, (f s a).tim = s.tim) : (s.takeStaged ty id f).tim = s.tim := by
  unfold State.takeStaged; simp [h]

@[simp] theorem State.takeStaged_pwr (s : State) (ty : Nat) (id : Word) (f : State → Fu → State)
    (h : ∀ s a, (f s a).pwr = s.pwr) : (s.takeStaged ty id f).pwr = s.pwr := by
  unfold State.takeStaged; simp [h]

theorem Desc.collectiveRun_keeps (d : Desc) (c : CoreId) (s : State) :
    Run?.Keeps Prod.fst s (d.collectiveRun c s) := by
  unfold Desc.collectiveRun
  constructor <;> simp

theorem Desc.collective_keeps (d : Desc) (c : CoreId) (s : State) : Try.Keeps s (d.collective c s) := by
  unfold Desc.collective; dsimp only
  refine (d.pairCheck_keeps _ _ _ _ _).bind fun _ _ => d.enter_keeps c (Same.refl s) (d.collectiveRun_keeps c s)

theorem Desc.ringStartRun_keeps (d : Desc) (c : CoreId) (l : Nat) (s : State) :
    Run?.Keeps Prod.fst s (d.ringStartRun c l s) := by
  unfold Desc.ringStartRun; dsimp only
  split
  · constructor <;> simp
  · split
    · rename_i t _ bt h
      have h1 := congrArg (fun q => q.1) h
      simp only at h1
      subst h1
      constructor <;> simp
    · rename_i t _ h
      have h1 := congrArg (fun q => q.1) h
      simp only at h1
      subst h1
      constructor <;> (split <;> simp)

theorem Desc.ringStart_keeps (d : Desc) (c : CoreId) (l : Nat) (s : State) : Try.Keeps s (d.ringStart c l s) := by
  unfold Desc.ringStart; dsimp only
  refine (d.pairCheck_keeps _ _ _ _ _).bind fun _ _ => d.enter_keeps c (Same.refl s) (d.ringStartRun_keeps c l s)

theorem State.loadShadow_keeps (s : State) (c : CoreId) (pos : Nat) (x : Mma) :
    Run?.Keeps id s (s.loadShadow c pos x) := by
  unfold State.loadShadow; dsimp only
  (repeat' split) <;> (constructor <;> simp)

theorem State.cycleZero_keeps (s : State) (c : CoreId) (e : InFlight) (x : Mma) :
    Run?.Keeps Prod.fst s (s.cycleZero c e x) := by
  unfold State.cycleZero; dsimp only
  split <;> (constructor <;> simp)

theorem State.arrStart_keeps (s : State) (c : CoreId) (e : InFlight) : Run?.Keeps Prod.fst s (s.arrStart c e) := by
  unfold State.arrStart; dsimp only
  split
  · exact Same.refl s
  · split
    · exact (s.loadShadow_keeps _ _ _).err (by assumption)
    · have h := (s.loadShadow_keeps c e.pos (e.toDesc.mma s)).ok (by assumption)
      split
      · exact h
      · exact Run?.Keeps.trans h (State.cycleZero_keeps _ _ _ _)

theorem Desc.runMma_keeps (d : Desc) (c : CoreId) (u : List Upset) (s : State) : Try.Keeps s (d.runMma c u s) := by
  unfold Desc.runMma; dsimp only
  refine (d.mmaCheck_keeps _ _).bind fun _ _ => ?_
  split
  · exact Same.refl s
  · split
    · exact Same.refl s
    · split
      · exact (s.arrStart_keeps _ _).err (by assumption)
      · exact (s.arrStart_keeps _ _).ok (by assumption)

/-- What the try of a core's next descriptor leaves unchanged, whatever becomes of it. -/
theorem State.issue_same (s : State) (c : CoreId) (op : Nat) (body : Desc → Nat → State → Try)
    (h : ∀ d l s, Try.Keeps s (body d l s)) : Same s (s.issue c op body) := by
  unfold State.issue; dsimp only
  split
  · exact Same.refl s
  · rename_i r _
    (repeat' split) <;>
      first
      | exact Same.refl s
      | (constructor <;> simp <;> done)
      | (rename_i e k
         refine Same.trans (Same.trans ?_ ((h _ _ _).err k)) ?_
         · constructor <;> simp
         · constructor <;> simp)
      | (rename_i t k
         refine Same.trans (Same.trans ?_ ((h _ _ _).ok k)) ?_
         · constructor <;> simp
         · constructor <;> simp)

end Sys2Proof.Machine
end

