-- ==== Sys2Proof/Laws/FrameBlocks.lean ====
section
/-!
SUPPORT. What the operations of repair, Flint, Geode, the hosts and the ports leave unchanged.
-/

namespace Sys2Proof.Machine

open Sys2Proof

@[simp] theorem State.tablePoison_frame (x0 : State) (x1 : Nat) :
    (State.tablePoison x0 x1).pending = x0.pending ∧ (State.tablePoison x0 x1).hbm = x0.hbm ∧ (State.tablePoison x0 x1).sec = x0.sec ∧ (State.tablePoison x0 x1).owner = x0.owner ∧ (State.tablePoison x0 x1).tim = x0.tim ∧ (State.tablePoison x0 x1).pwr = x0.pwr := by
  unfold State.tablePoison; simp

@[simp] theorem State.refuse_frame (x0 : State) (x1 : PieceRun) :
    (State.refuse x0 x1).pending = x0.pending ∧ (State.refuse x0 x1).hbm = x0.hbm ∧ (State.refuse x0 x1).sec = x0.sec ∧ (State.refuse x0 x1).owner = x0.owner ∧ (State.refuse x0 x1).tim = x0.tim ∧ (State.refuse x0 x1).pwr = x0.pwr := by
  unfold State.refuse; simp

@[simp] theorem State.replanPiece_frame (x0 : State) (x1 : Core) (x2 : Run) (x3 : List (Nat × Nat)) (x4 : PieceRun) :
    (State.replanPiece x0 x1 x2 x3 x4).pending = x0.pending ∧ (State.replanPiece x0 x1 x2 x3 x4).hbm = x0.hbm ∧ (State.replanPiece x0 x1 x2 x3 x4).sec = x0.sec ∧ (State.replanPiece x0 x1 x2 x3 x4).owner = x0.owner ∧ (State.replanPiece x0 x1 x2 x3 x4).tim = x0.tim ∧ (State.replanPiece x0 x1 x2 x3 x4).pwr = x0.pwr := by
  unfold State.replanPiece; simp; ((repeat' split) <;> simp)

@[simp] theorem State.requeue_frame (x0 : State) (x1 : Nat) (x2 : Bool) :
    (State.requeue x0 x1 x2).pending = x0.pending ∧ (State.requeue x0 x1 x2).hbm = x0.hbm ∧ (State.requeue x0 x1 x2).sec = x0.sec ∧ (State.requeue x0 x1 x2).owner = x0.owner ∧ (State.requeue x0 x1 x2).tim = x0.tim ∧ (State.requeue x0 x1 x2).pwr = x0.pwr := by
  unfold State.requeue; ((repeat' split) <;> simp)

@[simp] theorem State.replanList_pending (s : State) (l k : Nat) (j : State → PieceRun → State)
    (h : ∀ s p, (j s p).pending = s.pending) : (s.replanList l k j).pending = s.pending := by
  unfold State.replanList; (repeat' split) <;> simp [h]

@[simp] theorem State.replanList_hbm (s : State) (l k : Nat) (j : State → PieceRun → State)
    (h : ∀ s p, (j s p).hbm = s.hbm) : (s.replanList l k j).hbm = s.hbm := by
  unfold State.replanList; (repeat' split) <;> simp [h]

@[simp] theorem State.replanList_sec (s : State) (l k : Nat) (j : State → PieceRun → State)
    (h : ∀ s p, (j s p).sec = s.sec) : (s.replanList l k j).sec = s.sec := by
  unfold State.replanList; (repeat' split) <;> simp [h]

@[simp] theorem State.replanList_owner (s : State) (l k : Nat) (j : State → PieceRun → State)
    (h : ∀ s p, (j s p).owner = s.owner) : (s.replanList l k j).owner = s.owner := by
  unfold State.replanList; (repeat' split) <;> simp [h]

@[simp] theorem State.replanList_tim (s : State) (l k : Nat) (j : State → PieceRun → State)
    (h : ∀ s p, (j s p).tim = s.tim) : (s.replanList l k j).tim = s.tim := by
  unfold State.replanList; (repeat' split) <;> simp [h]

@[simp] theorem State.replanList_pwr (s : State) (l k : Nat) (j : State → PieceRun → State)
    (h : ∀ s p, (j s p).pwr = s.pwr) : (s.replanList l k j).pwr = s.pwr := by
  unfold State.replanList; (repeat' split) <;> simp [h]

@[simp] theorem State.replan_frame (x0 : State) (x1 : Core) :
    (State.replan x0 x1).pending = x0.pending ∧ (State.replan x0 x1).hbm = x0.hbm ∧ (State.replan x0 x1).sec = x0.sec ∧ (State.replan x0 x1).owner = x0.owner ∧ (State.replan x0 x1).tim = x0.tim ∧ (State.replan x0 x1).pwr = x0.pwr := by
  unfold State.replan
  generalize (65536 : Nat) = n
  (repeat' split) <;> simp

@[simp] theorem State.nextResolution_frame (x0 : State) (x1 : DieId) :
    (State.nextResolution x0 x1).pending = x0.pending ∧ (State.nextResolution x0 x1).hbm = x0.hbm ∧ (State.nextResolution x0 x1).sec = x0.sec ∧ (State.nextResolution x0 x1).owner = x0.owner ∧ (State.nextResolution x0 x1).tim = x0.tim ∧ (State.nextResolution x0 x1).pwr = x0.pwr := by
  unfold State.nextResolution; ((repeat' split) <;> simp)

@[simp] theorem State.endResolution_frame (x0 : State) (x1 : DieId) :
    (State.endResolution x0 x1).pending = x0.pending ∧ (State.endResolution x0 x1).hbm = x0.hbm ∧ (State.endResolution x0 x1).sec = x0.sec ∧ (State.endResolution x0 x1).owner = x0.owner ∧ (State.endResolution x0 x1).tim = x0.tim ∧ (State.endResolution x0 x1).pwr = x0.pwr := by
  unfold State.endResolution; simp

@[simp] theorem State.leaveFlint_frame (x0 : State) (x1 : CoreId) :
    (State.leaveFlint x0 x1).pending = x0.pending ∧ (State.leaveFlint x0 x1).hbm = x0.hbm ∧ (State.leaveFlint x0 x1).sec = x0.sec ∧ (State.leaveFlint x0 x1).owner = x0.owner ∧ (State.leaveFlint x0 x1).tim = x0.tim ∧ (State.leaveFlint x0 x1).pwr = x0.pwr := by
  unfold State.leaveFlint; simp; ((repeat' split) <;> simp)

@[simp] theorem State.leaveSweep_frame (x0 : State) (x1 : CoreId) :
    (State.leaveSweep x0 x1).pending = x0.pending ∧ (State.leaveSweep x0 x1).hbm = x0.hbm ∧ (State.leaveSweep x0 x1).sec = x0.sec ∧ (State.leaveSweep x0 x1).owner = x0.owner ∧ (State.leaveSweep x0 x1).tim = x0.tim ∧ (State.leaveSweep x0 x1).pwr = x0.pwr := by
  unfold State.leaveSweep; simp

@[simp] theorem State.dropUnsent_frame (x0 : State) (x1 : CoreId) :
    (State.dropUnsent x0 x1).pending = x0.pending ∧ (State.dropUnsent x0 x1).hbm = x0.hbm ∧ (State.dropUnsent x0 x1).sec = x0.sec ∧ (State.dropUnsent x0 x1).owner = x0.owner ∧ (State.dropUnsent x0 x1).tim = x0.tim ∧ (State.dropUnsent x0 x1).pwr = x0.pwr := by
  unfold State.dropUnsent; simp

@[simp] theorem State.checkFallback_frame (x0 : State) (x1 : CoreId) (x2 : Nat) :
    (State.checkFallback x0 x1 x2).pending = x0.pending ∧ (State.checkFallback x0 x1 x2).hbm = x0.hbm ∧ (State.checkFallback x0 x1 x2).sec = x0.sec ∧ (State.checkFallback x0 x1 x2).owner = x0.owner ∧ (State.checkFallback x0 x1 x2).tim = x0.tim ∧ (State.checkFallback x0 x1 x2).pwr = x0.pwr := by
  unfold State.checkFallback; ((repeat' split) <;> simp)

@[simp] theorem State.unmap_frame (x0 : State) (x1 : Core) :
    (State.unmap x0 x1).pending = x0.pending ∧ (State.unmap x0 x1).hbm = x0.hbm ∧ (State.unmap x0 x1).sec = x0.sec ∧ (State.unmap x0 x1).owner = x0.owner ∧ (State.unmap x0 x1).tim = x0.tim ∧ (State.unmap x0 x1).pwr = x0.pwr := by
  unfold State.unmap; ((repeat' split) <;> simp)

@[simp] theorem State.leaveCore_frame (x0 : State) (x1 : CoreId) :
    (State.leaveCore x0 x1).pending = x0.pending ∧ (State.leaveCore x0 x1).hbm = x0.hbm ∧ (State.leaveCore x0 x1).sec = x0.sec ∧ (State.leaveCore x0 x1).owner = x0.owner ∧ (State.leaveCore x0 x1).tim = x0.tim ∧ (State.leaveCore x0 x1).pwr = x0.pwr := by
  unfold State.leaveCore; simp

@[simp] theorem State.fence_frame (x0 : State) (x1 : CoreId) (x2 : Nat) :
    (State.fence x0 x1 x2).pending = x0.pending ∧ (State.fence x0 x1 x2).hbm = x0.hbm ∧ (State.fence x0 x1 x2).sec = x0.sec ∧ (State.fence x0 x1 x2).owner = x0.owner ∧ (State.fence x0 x1 x2).tim = x0.tim ∧ (State.fence x0 x1 x2).pwr = x0.pwr := by
  unfold State.fence; ((repeat' split) <;> simp)

@[simp] theorem State.fatalCore_frame (x0 : State) (x1 : CoreId) (x2 : CoreCause) :
    (State.fatalCore x0 x1 x2).pending = x0.pending ∧ (State.fatalCore x0 x1 x2).hbm = x0.hbm ∧ (State.fatalCore x0 x1 x2).sec = x0.sec ∧ (State.fatalCore x0 x1 x2).owner = x0.owner ∧ (State.fatalCore x0 x1 x2).tim = x0.tim ∧ (State.fatalCore x0 x1 x2).pwr = x0.pwr := by
  unfold State.fatalCore; ((repeat' split) <;> simp)

@[simp] theorem State.arrAbort_frame (x0 : State) (x1 : CoreId) :
    (State.arrAbort x0 x1).pending = x0.pending ∧ (State.arrAbort x0 x1).hbm = x0.hbm ∧ (State.arrAbort x0 x1).sec = x0.sec ∧ (State.arrAbort x0 x1).owner = x0.owner ∧ (State.arrAbort x0 x1).tim = x0.tim ∧ (State.arrAbort x0 x1).pwr = x0.pwr := by
  unfold State.arrAbort; simp

@[simp] theorem State.startPiece_frame (x0 : State) (x1 : CoreId) :
    (State.startPiece x0 x1).pending = x0.pending ∧ (State.startPiece x0 x1).hbm = x0.hbm ∧ (State.startPiece x0 x1).sec = x0.sec ∧ (State.startPiece x0 x1).owner = x0.owner ∧ (State.startPiece x0 x1).tim = x0.tim ∧ (State.startPiece x0 x1).pwr = x0.pwr := by
  unfold State.startPiece; simp; ((repeat' split) <;> simp)

@[simp] theorem State.fltCause_frame (x0 : State) (x1 : Nat) (x2 : Nat) (x3 : Nat) (x4 : CoreId) :
    (State.fltCause x0 x1 x2 x3 x4).pending = x0.pending ∧ (State.fltCause x0 x1 x2 x3 x4).hbm = x0.hbm ∧ (State.fltCause x0 x1 x2 x3 x4).sec = x0.sec ∧ (State.fltCause x0 x1 x2 x3 x4).owner = x0.owner ∧ (State.fltCause x0 x1 x2 x3 x4).tim = x0.tim ∧ (State.fltCause x0 x1 x2 x3 x4).pwr = x0.pwr := by
  unfold State.fltCause; simp

@[simp] theorem State.fltLog_frame (x0 : State) (x1 : LogBody) :
    (State.fltLog x0 x1).pending = x0.pending ∧ (State.fltLog x0 x1).sec = x0.sec ∧ (State.fltLog x0 x1).owner = x0.owner ∧ (State.fltLog x0 x1).tim = x0.tim ∧ (State.fltLog x0 x1).pwr = x0.pwr := by
  unfold State.fltLog; simp; ((repeat' split) <;> simp)

@[simp] theorem State.fltTrace_frame (x0 : State) (x1 : CoreId) (x2 : Nat) :
    (State.fltTrace x0 x1 x2).pending = x0.pending ∧ (State.fltTrace x0 x1 x2).hbm = x0.hbm ∧ (State.fltTrace x0 x1 x2).sec = x0.sec ∧ (State.fltTrace x0 x1 x2).owner = x0.owner ∧ (State.fltTrace x0 x1 x2).tim = x0.tim ∧ (State.fltTrace x0 x1 x2).pwr = x0.pwr := by
  unfold State.fltTrace; simp

@[simp] theorem State.watch_frame (x0 : State) (x1 : CoreId) :
    (State.watch x0 x1).pending = x0.pending ∧ (State.watch x0 x1).hbm = x0.hbm ∧ (State.watch x0 x1).sec = x0.sec ∧ (State.watch x0 x1).owner = x0.owner ∧ (State.watch x0 x1).tim = x0.tim ∧ (State.watch x0 x1).pwr = x0.pwr := by
  unfold State.watch; simp

@[simp] theorem State.blame_frame (x0 : State) (x1 : CoreId) :
    (State.blame x0 x1).pending = x0.pending ∧ (State.blame x0 x1).hbm = x0.hbm ∧ (State.blame x0 x1).sec = x0.sec ∧ (State.blame x0 x1).owner = x0.owner ∧ (State.blame x0 x1).tim = x0.tim ∧ (State.blame x0 x1).pwr = x0.pwr := by
  unfold State.blame; ((repeat' split) <;> simp)

@[simp] theorem State.countVerdict_frame (x0 : State) (x1 : CoreId) :
    (State.countVerdict x0 x1).pending = x0.pending ∧ (State.countVerdict x0 x1).hbm = x0.hbm ∧ (State.countVerdict x0 x1).sec = x0.sec ∧ (State.countVerdict x0 x1).owner = x0.owner ∧ (State.countVerdict x0 x1).tim = x0.tim ∧ (State.countVerdict x0 x1).pwr = x0.pwr := by
  unfold State.countVerdict; simp

@[simp] theorem State.release_frame (x0 : State) (x1 : CoreId) (x2 : Held) (x3 : Res) :
    (State.release x0 x1 x2 x3).pending = x0.pending ∧ (State.release x0 x1 x2 x3).sec = x0.sec ∧ (State.release x0 x1 x2 x3).owner = x0.owner ∧ (State.release x0 x1 x2 x3).tim = x0.tim ∧ (State.release x0 x1 x2 x3).pwr = x0.pwr := by
  unfold State.release; simp

@[simp] theorem State.commitPoint_frame (x0 : State) (x1 : CoreId) (x2 : Nat) :
    (State.commitPoint x0 x1 x2).pending = x0.pending ∧ (State.commitPoint x0 x1 x2).sec = x0.sec ∧ (State.commitPoint x0 x1 x2).owner = x0.owner ∧ (State.commitPoint x0 x1 x2).tim = x0.tim ∧ (State.commitPoint x0 x1 x2).pwr = x0.pwr := by
  unfold State.commitPoint; ((repeat' split) <;> simp)

@[simp] theorem State.descComplete_frame (x0 : State) (x1 : CoreId) (x2 : UnitId) :
    (State.descComplete x0 x1 x2).pending = x0.pending ∧ (State.descComplete x0 x1 x2).sec = x0.sec ∧ (State.descComplete x0 x1 x2).owner = x0.owner ∧ (State.descComplete x0 x1 x2).tim = x0.tim ∧ (State.descComplete x0 x1 x2).pwr = x0.pwr := by
  unfold State.descComplete; simp; ((repeat' split) <;> simp)

@[simp] theorem State.verdict_frame (x0 : State) (x1 : CoreId) (x2 : Option (BitVec 7)) :
    (State.verdict x0 x1 x2).pending = x0.pending ∧ (State.verdict x0 x1 x2).sec = x0.sec ∧ (State.verdict x0 x1 x2).owner = x0.owner ∧ (State.verdict x0 x1 x2).tim = x0.tim ∧ (State.verdict x0 x1 x2).pwr = x0.pwr := by
  unfold State.verdict; simp; ((repeat' split) <;> simp)

@[simp] theorem State.modResolution_frame (x0 : State) (x1 : DieId) (x2 : (Resolution → Resolution)) :
    (State.modResolution x0 x1 x2).pending = x0.pending ∧ (State.modResolution x0 x1 x2).hbm = x0.hbm ∧ (State.modResolution x0 x1 x2).sec = x0.sec ∧ (State.modResolution x0 x1 x2).owner = x0.owner ∧ (State.modResolution x0 x1 x2).tim = x0.tim ∧ (State.modResolution x0 x1 x2).pwr = x0.pwr := by
  unfold State.modResolution; simp

@[simp] theorem State.rerunS_frame (x0 : State) (x1 : DieId) (x2 : List Upset) (x3 : Option (BitVec 7)) :
    (State.rerunS x0 x1 x2 x3).pending = x0.pending ∧ (State.rerunS x0 x1 x2 x3).sec = x0.sec ∧ (State.rerunS x0 x1 x2 x3).owner = x0.owner ∧ (State.rerunS x0 x1 x2 x3).tim = x0.tim ∧ (State.rerunS x0 x1 x2 x3).pwr = x0.pwr := by
  unfold State.rerunS; ((repeat' split) <;> simp)

@[simp] theorem State.rerunX_frame (x0 : State) (x1 : DieId) (x2 : List Upset) (x3 : Option (BitVec 7)) :
    (State.rerunX x0 x1 x2 x3).pending = x0.pending ∧ (State.rerunX x0 x1 x2 x3).sec = x0.sec ∧ (State.rerunX x0 x1 x2 x3).owner = x0.owner ∧ (State.rerunX x0 x1 x2 x3).tim = x0.tim ∧ (State.rerunX x0 x1 x2 x3).pwr = x0.pwr := by
  unfold State.rerunX; ((repeat' split) <;> simp)

@[simp] theorem State.logOutcome_frame (x0 : State) (x1 : Resolution) (x2 : Verdict) :
    (State.logOutcome x0 x1 x2).pending = x0.pending ∧ (State.logOutcome x0 x1 x2).sec = x0.sec ∧ (State.logOutcome x0 x1 x2).owner = x0.owner ∧ (State.logOutcome x0 x1 x2).tim = x0.tim ∧ (State.logOutcome x0 x1 x2).pwr = x0.pwr := by
  unfold State.logOutcome; simp

@[simp] theorem State.reject_frame (x0 : State) (x1 : Resolution) :
    (State.reject x0 x1).pending = x0.pending ∧ (State.reject x0 x1).hbm = x0.hbm ∧ (State.reject x0 x1).sec = x0.sec ∧ (State.reject x0 x1).owner = x0.owner ∧ (State.reject x0 x1).tim = x0.tim ∧ (State.reject x0 x1).pwr = x0.pwr := by
  unfold State.reject; simp; ((repeat' split) <;> simp)

@[simp] theorem State.inBank_frame (x0 : State) (x1 : Resolution) :
    (State.inBank x0 x1).pending = x0.pending ∧ (State.inBank x0 x1).hbm = x0.hbm ∧ (State.inBank x0 x1).sec = x0.sec ∧ (State.inBank x0 x1).owner = x0.owner ∧ (State.inBank x0 x1).tim = x0.tim ∧ (State.inBank x0 x1).pwr = x0.pwr := by
  unfold State.inBank; simp

@[simp] theorem State.applyOutcome_frame (x0 : State) (x1 : DieId) (x2 : Resolution) (x3 : Verdict) (x4 : Bool) :
    (State.applyOutcome x0 x1 x2 x3 x4).pending = x0.pending ∧ (State.applyOutcome x0 x1 x2 x3 x4).sec = x0.sec ∧ (State.applyOutcome x0 x1 x2 x3 x4).owner = x0.owner ∧ (State.applyOutcome x0 x1 x2 x3 x4).tim = x0.tim ∧ (State.applyOutcome x0 x1 x2 x3 x4).pwr = x0.pwr := by
  unfold State.applyOutcome; ((repeat' split) <;> simp)

@[simp] theorem State.resolutionOutcome_frame (x0 : State) (x1 : DieId) :
    (State.resolutionOutcome x0 x1).pending = x0.pending ∧ (State.resolutionOutcome x0 x1).sec = x0.sec ∧ (State.resolutionOutcome x0 x1).owner = x0.owner ∧ (State.resolutionOutcome x0 x1).tim = x0.tim ∧ (State.resolutionOutcome x0 x1).pwr = x0.pwr := by
  unfold State.resolutionOutcome; ((repeat' split) <;> simp)

@[simp] theorem State.resbufParity_frame (x0 : State) (x1 : DieId) :
    (State.resbufParity x0 x1).pending = x0.pending ∧ (State.resbufParity x0 x1).sec = x0.sec ∧ (State.resbufParity x0 x1).owner = x0.owner ∧ (State.resbufParity x0 x1).tim = x0.tim ∧ (State.resbufParity x0 x1).pwr = x0.pwr := by
  unfold State.resbufParity; ((repeat' split) <;> simp)

@[simp] theorem State.groupFail_frame (x0 : State) (x1 : CoreId) (x2 : Nat) (x3 : Nat) (x4 : Nat) :
    (State.groupFail x0 x1 x2 x3 x4).pending = x0.pending ∧ (State.groupFail x0 x1 x2 x3 x4).sec = x0.sec ∧ (State.groupFail x0 x1 x2 x3 x4).owner = x0.owner ∧ (State.groupFail x0 x1 x2 x3 x4).tim = x0.tim ∧ (State.groupFail x0 x1 x2 x3 x4).pwr = x0.pwr := by
  unfold State.groupFail; simp

@[simp] theorem State.startSweep_frame (x0 : State) (x1 : Nat) (x2 : Bool) (x3 : Nat) :
    (State.startSweep x0 x1 x2 x3).pending = x0.pending ∧ (State.startSweep x0 x1 x2 x3).hbm = x0.hbm ∧ (State.startSweep x0 x1 x2 x3).sec = x0.sec ∧ (State.startSweep x0 x1 x2 x3).owner = x0.owner ∧ (State.startSweep x0 x1 x2 x3).tim = x0.tim ∧ (State.startSweep x0 x1 x2 x3).pwr = x0.pwr := by
  unfold State.startSweep; simp

@[simp] theorem State.sweepGroup_frame (x0 : State) (x1 : CoreId) (x2 : Bool) :
    (State.sweepGroup x0 x1 x2).pending = x0.pending ∧ (State.sweepGroup x0 x1 x2).sec = x0.sec ∧ (State.sweepGroup x0 x1 x2).owner = x0.owner ∧ (State.sweepGroup x0 x1 x2).tim = x0.tim ∧ (State.sweepGroup x0 x1 x2).pwr = x0.pwr := by
  unfold State.sweepGroup; ((repeat' split) <;> simp)

@[simp] theorem State.stopSweep_frame (x0 : State) :
    (State.stopSweep x0).pending = x0.pending ∧ (State.stopSweep x0).hbm = x0.hbm ∧ (State.stopSweep x0).sec = x0.sec ∧ (State.stopSweep x0).owner = x0.owner ∧ (State.stopSweep x0).tim = x0.tim ∧ (State.stopSweep x0).pwr = x0.pwr := by
  unfold State.stopSweep; ((repeat' split) <;> simp)

@[simp] theorem State.sweepDone_frame (x0 : State) :
    (State.sweepDone x0).pending = x0.pending ∧ (State.sweepDone x0).hbm = x0.hbm ∧ (State.sweepDone x0).sec = x0.sec ∧ (State.sweepDone x0).owner = x0.owner ∧ (State.sweepDone x0).tim = x0.tim ∧ (State.sweepDone x0).pwr = x0.pwr := by
  unfold State.sweepDone; simp; ((repeat' split) <;> simp)

theorem Desc.kat_keeps (d : Desc) (c : CoreId) (f : Nat) (s : State) : Try.Keeps s (d.kat c f s) := by
  unfold Desc.kat
  refine (d.check_keeps _ _ _).bind fun _ _ => ?_
  refine (need_keeps _ _ _).bind fun _ _ => ?_
  (repeat' split) <;> (constructor <;> simp <;> (try split) <;> simp)

@[simp] theorem State.geoCause_frame (x0 : State) (x1 : Nat) (x2 : Nat) (x3 : Nat) :
    (State.geoCause x0 x1 x2 x3).pending = x0.pending ∧ (State.geoCause x0 x1 x2 x3).hbm = x0.hbm ∧ (State.geoCause x0 x1 x2 x3).sec = x0.sec ∧ (State.geoCause x0 x1 x2 x3).owner = x0.owner ∧ (State.geoCause x0 x1 x2 x3).tim = x0.tim ∧ (State.geoCause x0 x1 x2 x3).pwr = x0.pwr := by
  unfold State.geoCause; simp

@[simp] theorem State.enterArea_frame (x0 : State) (x1 : Nat) (x2 : Nat) (x3 : Nat) :
    (State.enterArea x0 x1 x2 x3).pending = x0.pending ∧ (State.enterArea x0 x1 x2 x3).hbm = x0.hbm ∧ (State.enterArea x0 x1 x2 x3).sec = x0.sec ∧ (State.enterArea x0 x1 x2 x3).owner = x0.owner ∧ (State.enterArea x0 x1 x2 x3).tim = x0.tim ∧ (State.enterArea x0 x1 x2 x3).pwr = x0.pwr := by
  unfold State.enterArea; simp

@[simp] theorem State.areaWrite_frame (x0 : State) (x1 : Nat) (x2 : Nat) (x3 : List (Byte × Bool)) :
    (State.areaWrite x0 x1 x2 x3).pending = x0.pending ∧ (State.areaWrite x0 x1 x2 x3).sec = x0.sec ∧ (State.areaWrite x0 x1 x2 x3).owner = x0.owner ∧ (State.areaWrite x0 x1 x2 x3).tim = x0.tim ∧ (State.areaWrite x0 x1 x2 x3).pwr = x0.pwr := by
  unfold State.areaWrite; (try dsimp only); (repeat' split); all_goals (try and_intros); all_goals (try simp); all_goals (repeat (first | rw [State.each_pending] | rw [State.each_hbm] | rw [State.each_sec] | rw [State.each_owner] | rw [State.each_tim] | rw [State.each_pwr])); all_goals (try intros); all_goals ((repeat' split) <;> (first | rfl | simp))

@[simp] theorem State.areaCheck_frame (x0 : State) (x1 : Nat) (x2 : Nat) (x3 : Nat) :
    (State.areaCheck x0 x1 x2 x3).pending = x0.pending ∧ (State.areaCheck x0 x1 x2 x3).sec = x0.sec ∧ (State.areaCheck x0 x1 x2 x3).owner = x0.owner ∧ (State.areaCheck x0 x1 x2 x3).tim = x0.tim ∧ (State.areaCheck x0 x1 x2 x3).pwr = x0.pwr := by
  unfold State.areaCheck; simp

@[simp] theorem State.checkPoint_frame (x0 : State) (x1 : Nat) :
    (State.checkPoint x0 x1).pending = x0.pending ∧ (State.checkPoint x0 x1).sec = x0.sec ∧ (State.checkPoint x0 x1).owner = x0.owner ∧ (State.checkPoint x0 x1).tim = x0.tim ∧ (State.checkPoint x0 x1).pwr = x0.pwr := by
  unfold State.checkPoint; simp

@[simp] theorem State.setPoint_frame (x0 : State) (x1 : Nat) (x2 : Point) :
    (State.setPoint x0 x1 x2).pending = x0.pending ∧ (State.setPoint x0 x1 x2).hbm = x0.hbm ∧ (State.setPoint x0 x1 x2).sec = x0.sec ∧ (State.setPoint x0 x1 x2).owner = x0.owner ∧ (State.setPoint x0 x1 x2).tim = x0.tim ∧ (State.setPoint x0 x1 x2).pwr = x0.pwr := by
  unfold State.setPoint; simp

@[simp] theorem State.zeroRecords_frame (x0 : State) (x1 : Nat) :
    (State.zeroRecords x0 x1).pending = x0.pending ∧ (State.zeroRecords x0 x1).sec = x0.sec ∧ (State.zeroRecords x0 x1).owner = x0.owner ∧ (State.zeroRecords x0 x1).tim = x0.tim ∧ (State.zeroRecords x0 x1).pwr = x0.pwr := by
  unfold State.zeroRecords
  generalize List.replicate 512 ((0 : Byte), false) = l
  generalize List.range 4 = m
  simp

@[simp] theorem State.snapStart_frame (x0 : State) (x1 : Nat) :
    (State.snapStart x0 x1).pending = x0.pending ∧ (State.snapStart x0 x1).sec = x0.sec ∧ (State.snapStart x0 x1).owner = x0.owner ∧ (State.snapStart x0 x1).tim = x0.tim ∧ (State.snapStart x0 x1).pwr = x0.pwr := by
  unfold State.snapStart; simp; ((repeat' split) <;> simp)

@[simp] theorem State.copyAgent_frame (x0 : State) (x1 : DieId) :
    (State.copyAgent x0 x1).pending = x0.pending ∧ (State.copyAgent x0 x1).sec = x0.sec ∧ (State.copyAgent x0 x1).owner = x0.owner ∧ (State.copyAgent x0 x1).tim = x0.tim ∧ (State.copyAgent x0 x1).pwr = x0.pwr := by
  unfold State.copyAgent; ((repeat' split) <;> simp)

@[simp] theorem State.snapEnd_frame (x0 : State) (x1 : Nat) :
    (State.snapEnd x0 x1).pending = x0.pending ∧ (State.snapEnd x0 x1).hbm = x0.hbm ∧ (State.snapEnd x0 x1).sec = x0.sec ∧ (State.snapEnd x0 x1).owner = x0.owner ∧ (State.snapEnd x0 x1).tim = x0.tim ∧ (State.snapEnd x0 x1).pwr = x0.pwr := by
  unfold State.snapEnd; simp

@[simp] theorem State.snapWindow_frame (x0 : State) :
    (State.snapWindow x0).pending = x0.pending ∧ (State.snapWindow x0).sec = x0.sec ∧ (State.snapWindow x0).owner = x0.owner ∧ (State.snapWindow x0).tim = x0.tim ∧ (State.snapWindow x0).pwr = x0.pwr := by
  unfold State.snapWindow; ((repeat' split) <;> simp)

@[simp] theorem State.snapCommit_frame (x0 : State) :
    (State.snapCommit x0).pending = x0.pending ∧ (State.snapCommit x0).hbm = x0.hbm ∧ (State.snapCommit x0).sec = x0.sec ∧ (State.snapCommit x0).owner = x0.owner ∧ (State.snapCommit x0).tim = x0.tim ∧ (State.snapCommit x0).pwr = x0.pwr := by
  unfold State.snapCommit; ((repeat' split) <;> simp)

@[simp] theorem State.sendGeoHello_frame (x0 : State) (x1 : PortId) :
    (State.sendGeoHello x0 x1).pending = x0.pending ∧ (State.sendGeoHello x0 x1).hbm = x0.hbm ∧ (State.sendGeoHello x0 x1).sec = x0.sec ∧ (State.sendGeoHello x0 x1).owner = x0.owner ∧ (State.sendGeoHello x0 x1).tim = x0.tim ∧ (State.sendGeoHello x0 x1).pwr = x0.pwr := by
  unfold State.sendGeoHello; simp

@[simp] theorem State.geoHelloTimer_frame (x0 : State) :
    (State.geoHelloTimer x0).pending = x0.pending ∧ (State.geoHelloTimer x0).hbm = x0.hbm ∧ (State.geoHelloTimer x0).sec = x0.sec ∧ (State.geoHelloTimer x0).owner = x0.owner ∧ (State.geoHelloTimer x0).tim = x0.tim ∧ (State.geoHelloTimer x0).pwr = x0.pwr := by
  unfold State.geoHelloTimer; simp; ((repeat' split) <;> simp)

@[simp] theorem State.noteMismatch_frame (x0 : State) (x1 : PortId) (x2 : Bool) :
    (State.noteMismatch x0 x1 x2).pending = x0.pending ∧ (State.noteMismatch x0 x1 x2).hbm = x0.hbm ∧ (State.noteMismatch x0 x1 x2).sec = x0.sec ∧ (State.noteMismatch x0 x1 x2).owner = x0.owner ∧ (State.noteMismatch x0 x1 x2).tim = x0.tim ∧ (State.noteMismatch x0 x1 x2).pwr = x0.pwr := by
  unfold State.noteMismatch; simp; ((repeat' split) <;> simp)

@[simp] theorem State.noteFeed_frame (x0 : State) (x1 : PortId) (x2 : Bool) :
    (State.noteFeed x0 x1 x2).pending = x0.pending ∧ (State.noteFeed x0 x1 x2).hbm = x0.hbm ∧ (State.noteFeed x0 x1 x2).sec = x0.sec ∧ (State.noteFeed x0 x1 x2).owner = x0.owner ∧ (State.noteFeed x0 x1 x2).tim = x0.tim ∧ (State.noteFeed x0 x1 x2).pwr = x0.pwr := by
  unfold State.noteFeed; simp; ((repeat' split) <;> simp)

@[simp] theorem State.drainQuit_frame (x0 : State) (x1 : Nat) :
    (State.drainQuit x0 x1).pending = x0.pending ∧ (State.drainQuit x0 x1).hbm = x0.hbm ∧ (State.drainQuit x0 x1).sec = x0.sec ∧ (State.drainQuit x0 x1).owner = x0.owner ∧ (State.drainQuit x0 x1).tim = x0.tim ∧ (State.drainQuit x0 x1).pwr = x0.pwr := by
  unfold State.drainQuit; ((repeat' split) <;> simp)

@[simp] theorem State.inDrainQuit_frame (x0 : State) (x1 : Nat) :
    (State.inDrainQuit x0 x1).pending = x0.pending ∧ (State.inDrainQuit x0 x1).hbm = x0.hbm ∧ (State.inDrainQuit x0 x1).sec = x0.sec ∧ (State.inDrainQuit x0 x1).owner = x0.owner ∧ (State.inDrainQuit x0 x1).tim = x0.tim ∧ (State.inDrainQuit x0 x1).pwr = x0.pwr := by
  unfold State.inDrainQuit; ((repeat' split) <;> simp)

@[simp] theorem State.policeDrains_frame (x0 : State) :
    (State.policeDrains x0).pending = x0.pending ∧ (State.policeDrains x0).hbm = x0.hbm ∧ (State.policeDrains x0).sec = x0.sec ∧ (State.policeDrains x0).owner = x0.owner ∧ (State.policeDrains x0).tim = x0.tim ∧ (State.policeDrains x0).pwr = x0.pwr := by
  unfold State.policeDrains; simp; ((repeat' split) <;> simp)

@[simp] theorem State.noteInRead_frame (x0 : State) (x1 : Nat) :
    (State.noteInRead x0 x1).pending = x0.pending ∧ (State.noteInRead x0 x1).hbm = x0.hbm ∧ (State.noteInRead x0 x1).sec = x0.sec ∧ (State.noteInRead x0 x1).owner = x0.owner ∧ (State.noteInRead x0 x1).tim = x0.tim ∧ (State.noteInRead x0 x1).pwr = x0.pwr := by
  unfold State.noteInRead; simp; ((repeat' split) <;> simp)

@[simp] theorem State.takeGeoHello_frame (x0 : State) (x1 : PortId) (x2 : Fu) :
    (State.takeGeoHello x0 x1 x2).pending = x0.pending ∧ (State.takeGeoHello x0 x1 x2).hbm = x0.hbm ∧ (State.takeGeoHello x0 x1 x2).sec = x0.sec ∧ (State.takeGeoHello x0 x1 x2).owner = x0.owner ∧ (State.takeGeoHello x0 x1 x2).tim = x0.tim ∧ (State.takeGeoHello x0 x1 x2).pwr = x0.pwr := by
  unfold State.takeGeoHello; simp; ((repeat' split) <;> simp)

@[simp] theorem State.modDrain_frame (x0 : State) (x1 : (Drain → Drain)) :
    (State.modDrain x0 x1).pending = x0.pending ∧ (State.modDrain x0 x1).hbm = x0.hbm ∧ (State.modDrain x0 x1).sec = x0.sec ∧ (State.modDrain x0 x1).owner = x0.owner ∧ (State.modDrain x0 x1).tim = x0.tim ∧ (State.modDrain x0 x1).pwr = x0.pwr := by
  unfold State.modDrain; simp

@[simp] theorem State.drainStart_frame (x0 : State) :
    (State.drainStart x0).pending = x0.pending ∧ (State.drainStart x0).hbm = x0.hbm ∧ (State.drainStart x0).sec = x0.sec ∧ (State.drainStart x0).owner = x0.owner ∧ (State.drainStart x0).tim = x0.tim ∧ (State.drainStart x0).pwr = x0.pwr := by
  unfold State.drainStart; simp; ((repeat' split) <;> simp)

@[simp] theorem State.drainFail_frame (x0 : State) (x1 : Nat) :
    (State.drainFail x0 x1).pending = x0.pending ∧ (State.drainFail x0 x1).hbm = x0.hbm ∧ (State.drainFail x0 x1).sec = x0.sec ∧ (State.drainFail x0 x1).owner = x0.owner ∧ (State.drainFail x0 x1).tim = x0.tim ∧ (State.drainFail x0 x1).pwr = x0.pwr := by
  unfold State.drainFail; simp

@[simp] theorem State.buddyWrite_frame (x0 : State) (x1 : Buddy) (x2 : Nat) (x3 : Nat) (x4 : List (Byte × Bool)) :
    (State.buddyWrite x0 x1 x2 x3 x4).2.pending = x0.pending ∧ (State.buddyWrite x0 x1 x2 x3 x4).2.hbm = x0.hbm ∧ (State.buddyWrite x0 x1 x2 x3 x4).2.sec = x0.sec ∧ (State.buddyWrite x0 x1 x2 x3 x4).2.owner = x0.owner ∧ (State.buddyWrite x0 x1 x2 x3 x4).2.tim = x0.tim ∧ (State.buddyWrite x0 x1 x2 x3 x4).2.pwr = x0.pwr := by
  unfold State.buddyWrite; simp

@[simp] theorem State.buddyWrites_frame (x0 : State) (x1 : Buddy) (x2 : Nat) (x3 : (Nat → List (Byte × Bool))) :
    (State.buddyWrites x0 x1 x2 x3).pending = x0.pending ∧ (State.buddyWrites x0 x1 x2 x3).hbm = x0.hbm ∧ (State.buddyWrites x0 x1 x2 x3).sec = x0.sec ∧ (State.buddyWrites x0 x1 x2 x3).owner = x0.owner ∧ (State.buddyWrites x0 x1 x2 x3).tim = x0.tim ∧ (State.buddyWrites x0 x1 x2 x3).pwr = x0.pwr := by
  unfold State.buddyWrites; simp

@[simp] theorem State.drainNext_frame (x0 : State) :
    (State.drainNext x0).pending = x0.pending ∧ (State.drainNext x0).sec = x0.sec ∧ (State.drainNext x0).owner = x0.owner ∧ (State.drainNext x0).tim = x0.tim ∧ (State.drainNext x0).pwr = x0.pwr := by
  unfold State.drainNext; simp; ((repeat' split) <;> simp)

@[simp] theorem State.drainPush_frame (x0 : State) :
    (State.drainPush x0).pending = x0.pending ∧ (State.drainPush x0).sec = x0.sec ∧ (State.drainPush x0).owner = x0.owner ∧ (State.drainPush x0).tim = x0.tim ∧ (State.drainPush x0).pwr = x0.pwr := by
  unfold State.drainPush; simp; ((repeat' split) <;> simp)

@[simp] theorem State.takeGrant_frame (x0 : State) (x1 : PortId) (x2 : Fu) :
    (State.takeGrant x0 x1 x2).pending = x0.pending ∧ (State.takeGrant x0 x1 x2).sec = x0.sec ∧ (State.takeGrant x0 x1 x2).owner = x0.owner ∧ (State.takeGrant x0 x1 x2).tim = x0.tim ∧ (State.takeGrant x0 x1 x2).pwr = x0.pwr := by
  unfold State.takeGrant; ((repeat' split) <;> simp)

@[simp] theorem State.grantTimeout_frame (x0 : State) :
    (State.grantTimeout x0).pending = x0.pending ∧ (State.grantTimeout x0).hbm = x0.hbm ∧ (State.grantTimeout x0).sec = x0.sec ∧ (State.grantTimeout x0).owner = x0.owner ∧ (State.grantTimeout x0).tim = x0.tim ∧ (State.grantTimeout x0).pwr = x0.pwr := by
  unfold State.grantTimeout; ((repeat' split) <;> simp)

@[simp] theorem State.drainRetry_frame (x0 : State) :
    (State.drainRetry x0).pending = x0.pending ∧ (State.drainRetry x0).hbm = x0.hbm ∧ (State.drainRetry x0).sec = x0.sec ∧ (State.drainRetry x0).owner = x0.owner ∧ (State.drainRetry x0).tim = x0.tim ∧ (State.drainRetry x0).pwr = x0.pwr := by
  unfold State.drainRetry; ((repeat' split) <;> simp)

@[simp] theorem State.drainAck_frame (x0 : State) (x1 : Nat) (x2 : Nat) :
    (State.drainAck x0 x1 x2).pending = x0.pending ∧ (State.drainAck x0 x1 x2).sec = x0.sec ∧ (State.drainAck x0 x1 x2).owner = x0.owner ∧ (State.drainAck x0 x1 x2).tim = x0.tim ∧ (State.drainAck x0 x1 x2).pwr = x0.pwr := by
  unfold State.drainAck; simp

@[simp] theorem State.sendGrant_frame (x0 : State) (x1 : PortId) (x2 : Nat) (x3 : Nat) :
    (State.sendGrant x0 x1 x2 x3).pending = x0.pending ∧ (State.sendGrant x0 x1 x2 x3).hbm = x0.hbm ∧ (State.sendGrant x0 x1 x2 x3).sec = x0.sec ∧ (State.sendGrant x0 x1 x2 x3).owner = x0.owner ∧ (State.sendGrant x0 x1 x2 x3).tim = x0.tim ∧ (State.sendGrant x0 x1 x2 x3).pwr = x0.pwr := by
  unfold State.sendGrant; simp

@[simp] theorem State.takeOpen_frame (x0 : State) (x1 : PortId) (x2 : Fu) :
    (State.takeOpen x0 x1 x2).pending = x0.pending ∧ (State.takeOpen x0 x1 x2).sec = x0.sec ∧ (State.takeOpen x0 x1 x2).owner = x0.owner ∧ (State.takeOpen x0 x1 x2).tim = x0.tim ∧ (State.takeOpen x0 x1 x2).pwr = x0.pwr := by
  unfold State.takeOpen; simp; ((repeat' split) <;> simp)

@[simp] theorem State.takeDone_frame (x0 : State) (x1 : PortId) (x2 : Fu) :
    (State.takeDone x0 x1 x2).pending = x0.pending ∧ (State.takeDone x0 x1 x2).sec = x0.sec ∧ (State.takeDone x0 x1 x2).owner = x0.owner ∧ (State.takeDone x0 x1 x2).tim = x0.tim ∧ (State.takeDone x0 x1 x2).pwr = x0.pwr := by
  unfold State.takeDone; simp; ((repeat' split) <;> simp)

@[simp] theorem State.takeAbort_frame (x0 : State) (x1 : PortId) (x2 : Fu) :
    (State.takeAbort x0 x1 x2).pending = x0.pending ∧ (State.takeAbort x0 x1 x2).hbm = x0.hbm ∧ (State.takeAbort x0 x1 x2).sec = x0.sec ∧ (State.takeAbort x0 x1 x2).owner = x0.owner ∧ (State.takeAbort x0 x1 x2).tim = x0.tim ∧ (State.takeAbort x0 x1 x2).pwr = x0.pwr := by
  unfold State.takeAbort; simp; ((repeat' split) <;> simp)

@[simp] theorem State.poisonHost_frame (x0 : State) :
    (State.poisonHost x0).pending = x0.pending ∧ (State.poisonHost x0).hbm = x0.hbm ∧ (State.poisonHost x0).sec = x0.sec ∧ (State.poisonHost x0).owner = x0.owner ∧ (State.poisonHost x0).tim = x0.tim ∧ (State.poisonHost x0).pwr = x0.pwr := by
  unfold State.poisonHost; simp

@[simp] theorem State.modHostDrain_frame (x0 : State) (x1 : (HostDrain → HostDrain)) :
    (State.modHostDrain x0 x1).pending = x0.pending ∧ (State.modHostDrain x0 x1).hbm = x0.hbm ∧ (State.modHostDrain x0 x1).sec = x0.sec ∧ (State.modHostDrain x0 x1).owner = x0.owner ∧ (State.modHostDrain x0 x1).tim = x0.tim ∧ (State.modHostDrain x0 x1).pwr = x0.pwr := by
  unfold State.modHostDrain; simp

@[simp] theorem State.hostFail_frame (x0 : State) (x1 : Nat) :
    (State.hostFail x0 x1).pending = x0.pending ∧ (State.hostFail x0 x1).hbm = x0.hbm ∧ (State.hostFail x0 x1).sec = x0.sec ∧ (State.hostFail x0 x1).owner = x0.owner ∧ (State.hostFail x0 x1).tim = x0.tim ∧ (State.hostFail x0 x1).pwr = x0.pwr := by
  unfold State.hostFail; simp

@[simp] theorem State.hostBegin_frame (x0 : State) :
    (State.hostBegin x0).pending = x0.pending ∧ (State.hostBegin x0).hbm = x0.hbm ∧ (State.hostBegin x0).sec = x0.sec ∧ (State.hostBegin x0).owner = x0.owner ∧ (State.hostBegin x0).tim = x0.tim ∧ (State.hostBegin x0).pwr = x0.pwr := by
  unfold State.hostBegin; simp; ((repeat' split) <;> simp)

@[simp] theorem State.hostDrainGo_frame (x0 : State) (x1 : Bool) (x2 : Nat) :
    (State.hostDrainGo x0 x1 x2).pending = x0.pending ∧ (State.hostDrainGo x0 x1 x2).hbm = x0.hbm ∧ (State.hostDrainGo x0 x1 x2).sec = x0.sec ∧ (State.hostDrainGo x0 x1 x2).owner = x0.owner ∧ (State.hostDrainGo x0 x1 x2).tim = x0.tim ∧ (State.hostDrainGo x0 x1 x2).pwr = x0.pwr := by
  unfold State.hostDrainGo; ((repeat' split) <;> simp)

@[simp] theorem State.durableCommit_frame (x0 : State) :
    (State.durableCommit x0).pending = x0.pending ∧ (State.durableCommit x0).hbm = x0.hbm ∧ (State.durableCommit x0).sec = x0.sec ∧ (State.durableCommit x0).owner = x0.owner ∧ (State.durableCommit x0).tim = x0.tim ∧ (State.durableCommit x0).pwr = x0.pwr := by
  unfold State.durableCommit; simp; ((repeat' split) <;> simp)

@[simp] theorem State.durAbandon_frame (x0 : State) :
    (State.durAbandon x0).pending = x0.pending ∧ (State.durAbandon x0).hbm = x0.hbm ∧ (State.durAbandon x0).sec = x0.sec ∧ (State.durAbandon x0).owner = x0.owner ∧ (State.durAbandon x0).tim = x0.tim ∧ (State.durAbandon x0).pwr = x0.pwr := by
  unfold State.durAbandon; simp; ((repeat' split) <;> simp)

@[simp] theorem State.hostAbort_frame (x0 : State) :
    (State.hostAbort x0).pending = x0.pending ∧ (State.hostAbort x0).hbm = x0.hbm ∧ (State.hostAbort x0).sec = x0.sec ∧ (State.hostAbort x0).owner = x0.owner ∧ (State.hostAbort x0).tim = x0.tim ∧ (State.hostAbort x0).pwr = x0.pwr := by
  unfold State.hostAbort; ((repeat' split) <;> simp)

@[simp] theorem sendBlock_frame (x0 : Nat) (x1 : Nat) (x2 : List (Nat × Nat)) (x3 : State) (x4 : List Byte × Nat) :
    (sendBlock x0 x1 x2 x3 x4).pending = x3.pending ∧ (sendBlock x0 x1 x2 x3 x4).hbm = x3.hbm ∧ (sendBlock x0 x1 x2 x3 x4).sec = x3.sec ∧ (sendBlock x0 x1 x2 x3 x4).owner = x3.owner ∧ (sendBlock x0 x1 x2 x3 x4).tim = x3.tim ∧ (sendBlock x0 x1 x2 x3 x4).pwr = x3.pwr := by
  unfold sendBlock; simp; ((repeat' split) <;> simp)

@[simp] theorem State.checkFile_frame (x0 : State) (x1 : Bool) (x2 : Nat) :
    (State.checkFile x0 x1 x2).pending = x0.pending ∧ (State.checkFile x0 x1 x2).sec = x0.sec ∧ (State.checkFile x0 x1 x2).owner = x0.owner ∧ (State.checkFile x0 x1 x2).tim = x0.tim ∧ (State.checkFile x0 x1 x2).pwr = x0.pwr := by
  unfold State.checkFile; ((repeat' split) <;> simp)

@[simp] theorem State.hostDone_frame (x0 : State) :
    (State.hostDone x0).pending = x0.pending ∧ (State.hostDone x0).sec = x0.sec ∧ (State.hostDone x0).owner = x0.owner ∧ (State.hostDone x0).tim = x0.tim ∧ (State.hostDone x0).pwr = x0.pwr := by
  unfold State.hostDone; simp; ((repeat' split) <;> simp)

@[simp] theorem State.modRestore_frame (x0 : State) (x1 : (Restore → Restore)) :
    (State.modRestore x0 x1).pending = x0.pending ∧ (State.modRestore x0 x1).hbm = x0.hbm ∧ (State.modRestore x0 x1).sec = x0.sec ∧ (State.modRestore x0 x1).owner = x0.owner ∧ (State.modRestore x0 x1).tim = x0.tim ∧ (State.modRestore x0 x1).pwr = x0.pwr := by
  unfold State.modRestore; simp

@[simp] theorem State.restoreFail_frame (x0 : State) (x1 : Nat) :
    (State.restoreFail x0 x1).pending = x0.pending ∧ (State.restoreFail x0 x1).hbm = x0.hbm ∧ (State.restoreFail x0 x1).sec = x0.sec ∧ (State.restoreFail x0 x1).owner = x0.owner ∧ (State.restoreFail x0 x1).tim = x0.tim ∧ (State.restoreFail x0 x1).pwr = x0.pwr := by
  unfold State.restoreFail; simp

@[simp] theorem State.unshard_frame (x0 : State) (x1 : Nat) (x2 : Nat) (x3 : List (Byte × Bool)) :
    (State.unshard x0 x1 x2 x3).pending = x0.pending ∧ (State.unshard x0 x1 x2 x3).sec = x0.sec ∧ (State.unshard x0 x1 x2 x3).owner = x0.owner ∧ (State.unshard x0 x1 x2 x3).tim = x0.tim ∧ (State.unshard x0 x1 x2 x3).pwr = x0.pwr := by
  unfold State.unshard; simp

@[simp] theorem State.restoreShard_frame (x0 : State) (x1 : Nat) (x2 : Nat) (x3 : Nat) (x4 : List Byte) :
    (State.restoreShard x0 x1 x2 x3 x4).2.pending = x0.pending ∧ (State.restoreShard x0 x1 x2 x3 x4).2.sec = x0.sec ∧ (State.restoreShard x0 x1 x2 x3 x4).2.owner = x0.owner ∧ (State.restoreShard x0 x1 x2 x3 x4).2.tim = x0.tim ∧ (State.restoreShard x0 x1 x2 x3 x4).2.pwr = x0.pwr := by
  unfold State.restoreShard; simp; ((repeat' split) <;> simp)

@[simp] theorem State.restoreShards_frame (x0 : State) (x1 : Nat) (x2 : List Byte) (x3 : List Nat) :
    (State.restoreShards x0 x1 x2 x3).pending = x0.pending ∧ (State.restoreShards x0 x1 x2 x3).sec = x0.sec ∧ (State.restoreShards x0 x1 x2 x3).owner = x0.owner ∧ (State.restoreShards x0 x1 x2 x3).tim = x0.tim ∧ (State.restoreShards x0 x1 x2 x3).pwr = x0.pwr := by
  induction x3 generalizing x0 with
  | nil => simp [State.restoreShards]
  | cons n l ih => unfold State.restoreShards; dsimp only; split <;> simp [ih]

@[simp] theorem State.buddyRead_frame (x0 : State) (x1 : Buddy) (x2 : Nat) (x3 : Nat) (x4 : Nat) :
    (State.buddyRead x0 x1 x2 x3 x4).pending = x0.pending ∧ (State.buddyRead x0 x1 x2 x3 x4).hbm = x0.hbm ∧ (State.buddyRead x0 x1 x2 x3 x4).sec = x0.sec ∧ (State.buddyRead x0 x1 x2 x3 x4).owner = x0.owner ∧ (State.buddyRead x0 x1 x2 x3 x4).tim = x0.tim ∧ (State.buddyRead x0 x1 x2 x3 x4).pwr = x0.pwr := by
  unfold State.buddyRead; simp

@[simp] theorem State.restoreStart_frame (x0 : State) (x1 : Nat) :
    (State.restoreStart x0 x1).pending = x0.pending ∧ (State.restoreStart x0 x1).sec = x0.sec ∧ (State.restoreStart x0 x1).owner = x0.owner ∧ (State.restoreStart x0 x1).tim = x0.tim ∧ (State.restoreStart x0 x1).pwr = x0.pwr := by
  unfold State.restoreStart; simp; ((repeat' split) <;> simp)

@[simp] theorem State.restoreNext_frame (x0 : State) :
    (State.restoreNext x0).pending = x0.pending ∧ (State.restoreNext x0).hbm = x0.hbm ∧ (State.restoreNext x0).sec = x0.sec ∧ (State.restoreNext x0).owner = x0.owner ∧ (State.restoreNext x0).tim = x0.tim ∧ (State.restoreNext x0).pwr = x0.pwr := by
  unfold State.restoreNext; simp; ((repeat' split) <;> simp)

@[simp] theorem State.restoreData_frame (x0 : State) (x1 : Nat) (x2 : List (Byte × Bool)) :
    (State.restoreData x0 x1 x2).pending = x0.pending ∧ (State.restoreData x0 x1 x2).sec = x0.sec ∧ (State.restoreData x0 x1 x2).owner = x0.owner ∧ (State.restoreData x0 x1 x2).tim = x0.tim ∧ (State.restoreData x0 x1 x2).pwr = x0.pwr := by
  unfold State.restoreData; simp; ((repeat' split) <;> simp)

@[simp] theorem State.restoreDone_frame (x0 : State) :
    (State.restoreDone x0).pending = x0.pending ∧ (State.restoreDone x0).hbm = x0.hbm ∧ (State.restoreDone x0).sec = x0.sec ∧ (State.restoreDone x0).owner = x0.owner ∧ (State.restoreDone x0).tim = x0.tim ∧ (State.restoreDone x0).pwr = x0.pwr := by
  unfold State.restoreDone; simp; ((repeat' split) <;> simp)

@[simp] theorem State.resumeGeode_frame (x0 : State) :
    (State.resumeGeode x0).pending = x0.pending ∧ (State.resumeGeode x0).sec = x0.sec ∧ (State.resumeGeode x0).owner = x0.owner ∧ (State.resumeGeode x0).tim = x0.tim ∧ (State.resumeGeode x0).pwr = x0.pwr := by
  unfold State.resumeGeode; simp; ((repeat' split) <;> simp)

@[simp] theorem State.stepTick_frame (x0 : State) (x1 : Bool) :
    (State.stepTick x0 x1).pending = x0.pending ∧ (State.stepTick x0 x1).hbm = x0.hbm ∧ (State.stepTick x0 x1).sec = x0.sec ∧ (State.stepTick x0 x1).owner = x0.owner ∧ (State.stepTick x0 x1).tim = x0.tim ∧ (State.stepTick x0 x1).pwr = x0.pwr := by
  unfold State.stepTick; ((repeat' split) <;> simp)

@[simp] theorem State.abandonGeode_frame (x0 : State) :
    (State.abandonGeode x0).pending = x0.pending ∧ (State.abandonGeode x0).hbm = x0.hbm ∧ (State.abandonGeode x0).sec = x0.sec ∧ (State.abandonGeode x0).owner = x0.owner ∧ (State.abandonGeode x0).tim = x0.tim ∧ (State.abandonGeode x0).pwr = x0.pwr := by
  unfold State.abandonGeode; simp; ((repeat' split) <;> simp)

@[simp] theorem State.clearGeode_frame (x0 : State) :
    (State.clearGeode x0).pending = x0.pending ∧ (State.clearGeode x0).hbm = x0.hbm ∧ (State.clearGeode x0).sec = x0.sec ∧ (State.clearGeode x0).owner = x0.owner ∧ (State.clearGeode x0).tim = x0.tim ∧ (State.clearGeode x0).pwr = x0.pwr := by
  unfold State.clearGeode; simp

@[simp] theorem State.imageRecord_frame (x0 : State) (x1 : Nat) (x2 : Nat) (x3 : Nat) :
    (State.imageRecord x0 x1 x2 x3).pending = x0.pending ∧ (State.imageRecord x0 x1 x2 x3).hbm = x0.hbm ∧ (State.imageRecord x0 x1 x2 x3).sec = x0.sec ∧ (State.imageRecord x0 x1 x2 x3).owner = x0.owner ∧ (State.imageRecord x0 x1 x2 x3).tim = x0.tim ∧ (State.imageRecord x0 x1 x2 x3).pwr = x0.pwr := by
  unfold State.imageRecord; ((repeat' split) <;> simp)

@[simp] theorem State.bar2Refuse_frame (x0 : State) (x1 : HostId) (x2 : Nat) (x3 : Bool) :
    (State.bar2Refuse x0 x1 x2 x3).pending = x0.pending ∧ (State.bar2Refuse x0 x1 x2 x3).hbm = x0.hbm ∧ (State.bar2Refuse x0 x1 x2 x3).sec = x0.sec ∧ (State.bar2Refuse x0 x1 x2 x3).owner = x0.owner ∧ (State.bar2Refuse x0 x1 x2 x3).tim = x0.tim ∧ (State.bar2Refuse x0 x1 x2 x3).pwr = x0.pwr := by
  unfold State.bar2Refuse; ((repeat' split) <;> simp)

@[simp] theorem State.pciRejects_frame (x0 : State) (x1 : HostId) (x2 : Bool) :
    (State.pciRejects x0 x1 x2).pending = x0.pending ∧ (State.pciRejects x0 x1 x2).hbm = x0.hbm ∧ (State.pciRejects x0 x1 x2).sec = x0.sec ∧ (State.pciRejects x0 x1 x2).owner = x0.owner ∧ (State.pciRejects x0 x1 x2).tim = x0.tim ∧ (State.pciRejects x0 x1 x2).pwr = x0.pwr := by
  unfold State.pciRejects; simp; ((repeat' split) <;> simp)

@[simp] theorem State.poisonRx_frame (x0 : State) (x1 : HostId) (x2 : Nat) :
    (State.poisonRx x0 x1 x2).pending = x0.pending ∧ (State.poisonRx x0 x1 x2).hbm = x0.hbm ∧ (State.poisonRx x0 x1 x2).sec = x0.sec ∧ (State.poisonRx x0 x1 x2).owner = x0.owner ∧ (State.poisonRx x0 x1 x2).tim = x0.tim ∧ (State.poisonRx x0 x1 x2).pwr = x0.pwr := by
  unfold State.poisonRx; simp

@[simp] theorem State.bar2Answer_frame (x0 : State) (x1 : HostId) (x2 : Nat) (x3 : List (Byte × Bool)) :
    (State.bar2Answer x0 x1 x2 x3).pending = x0.pending ∧ (State.bar2Answer x0 x1 x2 x3).hbm = x0.hbm ∧ (State.bar2Answer x0 x1 x2 x3).sec = x0.sec ∧ (State.bar2Answer x0 x1 x2 x3).owner = x0.owner ∧ (State.bar2Answer x0 x1 x2 x3).tim = x0.tim ∧ (State.bar2Answer x0 x1 x2 x3).pwr = x0.pwr := by
  unfold State.bar2Answer; simp; ((repeat' split) <;> simp)

@[simp] theorem State.bar2Read_frame (x0 : State) (x1 : HostId) (x2 : Nat) (x3 : Nat) :
    (State.bar2Read x0 x1 x2 x3).pending = x0.pending ∧ (State.bar2Read x0 x1 x2 x3).sec = x0.sec ∧ (State.bar2Read x0 x1 x2 x3).owner = x0.owner ∧ (State.bar2Read x0 x1 x2 x3).tim = x0.tim ∧ (State.bar2Read x0 x1 x2 x3).pwr = x0.pwr := by
  unfold State.bar2Read; simp; ((repeat' split) <;> simp)

@[simp] theorem State.bar2Write_frame (x0 : State) (x1 : HostId) (x2 : Nat) (x3 : List Byte) (x4 : Bool) :
    (State.bar2Write x0 x1 x2 x3 x4).pending = x0.pending ∧ (State.bar2Write x0 x1 x2 x3 x4).sec = x0.sec ∧ (State.bar2Write x0 x1 x2 x3 x4).owner = x0.owner ∧ (State.bar2Write x0 x1 x2 x3 x4).tim = x0.tim ∧ (State.bar2Write x0 x1 x2 x3 x4).pwr = x0.pwr := by
  unfold State.bar2Write; simp; ((repeat' split) <;> simp)

@[simp] theorem State.bar2Resp_frame (x0 : State) (x1 : HostId) (x2 : Nat) (x3 : Nat) (x4 : Nat) (x5 : List (Byte × Bool)) :
    (State.bar2Resp x0 x1 x2 x3 x4 x5).pending = x0.pending ∧ (State.bar2Resp x0 x1 x2 x3 x4 x5).hbm = x0.hbm ∧ (State.bar2Resp x0 x1 x2 x3 x4 x5).sec = x0.sec ∧ (State.bar2Resp x0 x1 x2 x3 x4 x5).owner = x0.owner ∧ (State.bar2Resp x0 x1 x2 x3 x4 x5).tim = x0.tim ∧ (State.bar2Resp x0 x1 x2 x3 x4 x5).pwr = x0.pwr := by
  unfold State.bar2Resp; simp; ((repeat' split) <;> simp)

@[simp] theorem State.bar2Error_frame (x0 : State) (x1 : HostId) (x2 : Nat) (x3 : Bool) :
    (State.bar2Error x0 x1 x2 x3).pending = x0.pending ∧ (State.bar2Error x0 x1 x2 x3).hbm = x0.hbm ∧ (State.bar2Error x0 x1 x2 x3).sec = x0.sec ∧ (State.bar2Error x0 x1 x2 x3).owner = x0.owner ∧ (State.bar2Error x0 x1 x2 x3).tim = x0.tim ∧ (State.bar2Error x0 x1 x2 x3).pwr = x0.pwr := by
  unfold State.bar2Error; ((repeat' split) <;> simp)

@[simp] theorem State.bar2WriteError_frame (x0 : State) (x1 : HostId) (x2 : Nat) (x3 : Bool) :
    (State.bar2WriteError x0 x1 x2 x3).pending = x0.pending ∧ (State.bar2WriteError x0 x1 x2 x3).hbm = x0.hbm ∧ (State.bar2WriteError x0 x1 x2 x3).sec = x0.sec ∧ (State.bar2WriteError x0 x1 x2 x3).owner = x0.owner ∧ (State.bar2WriteError x0 x1 x2 x3).tim = x0.tim ∧ (State.bar2WriteError x0 x1 x2 x3).pwr = x0.pwr := by
  unfold State.bar2WriteError; ((repeat' split) <;> simp)

@[simp] theorem State.bar2Wrote_frame (x0 : State) (x1 : HostId) (x2 : Nat) :
    (State.bar2Wrote x0 x1 x2).pending = x0.pending ∧ (State.bar2Wrote x0 x1 x2).hbm = x0.hbm ∧ (State.bar2Wrote x0 x1 x2).sec = x0.sec ∧ (State.bar2Wrote x0 x1 x2).owner = x0.owner ∧ (State.bar2Wrote x0 x1 x2).tim = x0.tim ∧ (State.bar2Wrote x0 x1 x2).pwr = x0.pwr := by
  unfold State.bar2Wrote; ((repeat' split) <;> simp)

@[simp] theorem State.dmaRecord_frame (x0 : State) (x1 : ChanId) (x2 : Word) (x3 : Nat) (x4 : Nat) :
    (State.dmaRecord x0 x1 x2 x3 x4).pending = x0.pending ∧ (State.dmaRecord x0 x1 x2 x3 x4).hbm = x0.hbm ∧ (State.dmaRecord x0 x1 x2 x3 x4).sec = x0.sec ∧ (State.dmaRecord x0 x1 x2 x3 x4).owner = x0.owner ∧ (State.dmaRecord x0 x1 x2 x3 x4).tim = x0.tim ∧ (State.dmaRecord x0 x1 x2 x3 x4).pwr = x0.pwr := by
  unfold State.dmaRecord; simp

@[simp] theorem State.dmaComplete_frame (x0 : State) (x1 : ChanId) (x2 : Word) (x3 : Nat) (x4 : Nat) (x5 : Bool) :
    (State.dmaComplete x0 x1 x2 x3 x4 x5).pending = x0.pending ∧ (State.dmaComplete x0 x1 x2 x3 x4 x5).hbm = x0.hbm ∧ (State.dmaComplete x0 x1 x2 x3 x4 x5).sec = x0.sec ∧ (State.dmaComplete x0 x1 x2 x3 x4 x5).owner = x0.owner ∧ (State.dmaComplete x0 x1 x2 x3 x4 x5).tim = x0.tim ∧ (State.dmaComplete x0 x1 x2 x3 x4 x5).pwr = x0.pwr := by
  unfold State.dmaComplete; ((repeat' split) <;> simp)

@[simp] theorem State.dmaToHost_frame (x0 : State) (x1 : ChanId) (x2 : DmaJob) :
    (State.dmaToHost x0 x1 x2).pending = x0.pending ∧ (State.dmaToHost x0 x1 x2).hbm = x0.hbm ∧ (State.dmaToHost x0 x1 x2).sec = x0.sec ∧ (State.dmaToHost x0 x1 x2).owner = x0.owner ∧ (State.dmaToHost x0 x1 x2).tim = x0.tim ∧ (State.dmaToHost x0 x1 x2).pwr = x0.pwr := by
  unfold State.dmaToHost; (try dsimp only); (repeat' split); all_goals (try and_intros); all_goals (try simp); all_goals (repeat (first | rw [State.each_pending] | rw [State.each_hbm] | rw [State.each_sec] | rw [State.each_owner] | rw [State.each_tim] | rw [State.each_pwr])); all_goals (try intros); all_goals ((repeat' split) <;> (first | rfl | simp))

@[simp] theorem State.dmaFinish_frame (x0 : State) (x1 : ChanId) (x2 : DmaJob) :
    (State.dmaFinish x0 x1 x2).pending = x0.pending ∧ (State.dmaFinish x0 x1 x2).hbm = x0.hbm ∧ (State.dmaFinish x0 x1 x2).sec = x0.sec ∧ (State.dmaFinish x0 x1 x2).owner = x0.owner ∧ (State.dmaFinish x0 x1 x2).tim = x0.tim ∧ (State.dmaFinish x0 x1 x2).pwr = x0.pwr := by
  unfold State.dmaFinish; ((repeat' split) <;> simp)

@[simp] theorem State.dmaLocal_frame (x0 : State) (x1 : ChanId) (x2 : DmaJob) (x3 : List Byte) :
    (State.dmaLocal x0 x1 x2 x3).pending = x0.pending ∧ (State.dmaLocal x0 x1 x2 x3).sec = x0.sec ∧ (State.dmaLocal x0 x1 x2 x3).owner = x0.owner ∧ (State.dmaLocal x0 x1 x2 x3).tim = x0.tim ∧ (State.dmaLocal x0 x1 x2 x3).pwr = x0.pwr := by
  unfold State.dmaLocal; simp; ((repeat' split) <;> simp)

@[simp] theorem State.dmaRemote_frame (x0 : State) (x1 : ChanId) (x2 : DmaJob) (x3 : List Byte) :
    (State.dmaRemote x0 x1 x2 x3).pending = x0.pending ∧ (State.dmaRemote x0 x1 x2 x3).hbm = x0.hbm ∧ (State.dmaRemote x0 x1 x2 x3).sec = x0.sec ∧ (State.dmaRemote x0 x1 x2 x3).owner = x0.owner ∧ (State.dmaRemote x0 x1 x2 x3).tim = x0.tim ∧ (State.dmaRemote x0 x1 x2 x3).pwr = x0.pwr := by
  unfold State.dmaRemote; ((repeat' split) <;> simp)

@[simp] theorem State.dmaStep_frame (x0 : State) (x1 : ChanId) (x2 : DmaInput) :
    (State.dmaStep x0 x1 x2).pending = x0.pending ∧ (State.dmaStep x0 x1 x2).sec = x0.sec ∧ (State.dmaStep x0 x1 x2).owner = x0.owner ∧ (State.dmaStep x0 x1 x2).tim = x0.tim ∧ (State.dmaStep x0 x1 x2).pwr = x0.pwr := by
  unfold State.dmaStep; simp; ((repeat' split) <;> simp)

@[simp] theorem State.dmaSettle_frame (x0 : State) (x1 : ChanId) :
    (State.dmaSettle x0 x1).pending = x0.pending ∧ (State.dmaSettle x0 x1).hbm = x0.hbm ∧ (State.dmaSettle x0 x1).sec = x0.sec ∧ (State.dmaSettle x0 x1).owner = x0.owner ∧ (State.dmaSettle x0 x1).tim = x0.tim ∧ (State.dmaSettle x0 x1).pwr = x0.pwr := by
  unfold State.dmaSettle; simp; ((repeat' split) <;> simp)

@[simp] theorem State.dmaResp_frame (x0 : State) (x1 : ChanId) (x2 : Nat) (x3 : Nat) (x4 : Nat) (x5 : List (Byte × Bool)) (x6 : Bool) :
    (State.dmaResp x0 x1 x2 x3 x4 x5 x6).pending = x0.pending ∧ (State.dmaResp x0 x1 x2 x3 x4 x5 x6).hbm = x0.hbm ∧ (State.dmaResp x0 x1 x2 x3 x4 x5 x6).sec = x0.sec ∧ (State.dmaResp x0 x1 x2 x3 x4 x5 x6).owner = x0.owner ∧ (State.dmaResp x0 x1 x2 x3 x4 x5 x6).tim = x0.tim ∧ (State.dmaResp x0 x1 x2 x3 x4 x5 x6).pwr = x0.pwr := by
  unfold State.dmaResp; simp

@[simp] theorem State.chanStop_frame (x0 : State) (x1 : ChanId) :
    (State.chanStop x0 x1).pending = x0.pending ∧ (State.chanStop x0 x1).hbm = x0.hbm ∧ (State.chanStop x0 x1).sec = x0.sec ∧ (State.chanStop x0 x1).owner = x0.owner ∧ (State.chanStop x0 x1).tim = x0.tim ∧ (State.chanStop x0 x1).pwr = x0.pwr := by
  unfold State.chanStop; simp; ((repeat' split) <;> simp)

@[simp] theorem State.chanStart_frame (x0 : State) (x1 : ChanId) :
    (State.chanStart x0 x1).pending = x0.pending ∧ (State.chanStart x0 x1).hbm = x0.hbm ∧ (State.chanStart x0 x1).sec = x0.sec ∧ (State.chanStart x0 x1).owner = x0.owner ∧ (State.chanStart x0 x1).tim = x0.tim ∧ (State.chanStart x0 x1).pwr = x0.pwr := by
  unfold State.chanStart; simp

@[simp] theorem State.doorbell_frame (x0 : State) (x1 : HostId) (x2 : ChanId) (x3 : Nat) :
    (State.doorbell x0 x1 x2 x3).pending = x0.pending ∧ (State.doorbell x0 x1 x2 x3).hbm = x0.hbm ∧ (State.doorbell x0 x1 x2 x3).sec = x0.sec ∧ (State.doorbell x0 x1 x2 x3).owner = x0.owner ∧ (State.doorbell x0 x1 x2 x3).tim = x0.tim ∧ (State.doorbell x0 x1 x2 x3).pwr = x0.pwr := by
  unfold State.doorbell; ((repeat' split) <;> simp)

@[simp] theorem State.setOwner_frame (x0 : State) (x1 : Option HostId) :
    (State.setOwner x0 x1).pending = x0.pending ∧ (State.setOwner x0 x1).hbm = x0.hbm ∧ (State.setOwner x0 x1).sec = x0.sec ∧ (State.setOwner x0 x1).tim = x0.tim ∧ (State.setOwner x0 x1).pwr = x0.pwr := by
  unfold State.setOwner; ((repeat' split) <;> simp)

@[simp] theorem State.lapse_frame (x0 : State) :
    (State.lapse x0).pending = x0.pending ∧ (State.lapse x0).hbm = x0.hbm ∧ (State.lapse x0).sec = x0.sec ∧ (State.lapse x0).tim = x0.tim ∧ (State.lapse x0).pwr = x0.pwr := by
  unfold State.lapse; ((repeat' split) <;> simp)

@[simp] theorem State.ownershipCheck_frame (x0 : State) :
    (State.ownershipCheck x0).pending = x0.pending ∧ (State.ownershipCheck x0).hbm = x0.hbm ∧ (State.ownershipCheck x0).sec = x0.sec ∧ (State.ownershipCheck x0).tim = x0.tim ∧ (State.ownershipCheck x0).pwr = x0.pwr := by
  unfold State.ownershipCheck; simp

@[simp] theorem State.hostGone_frame (x0 : State) (x1 : HostId) :
    (State.hostGone x0 x1).pending = x0.pending ∧ (State.hostGone x0 x1).hbm = x0.hbm ∧ (State.hostGone x0 x1).sec = x0.sec ∧ (State.hostGone x0 x1).tim = x0.tim ∧ (State.hostGone x0 x1).pwr = x0.pwr := by
  unfold State.hostGone; simp

@[simp] theorem State.resetPage_frame (x0 : State) (x1 : Blk) (x2 : (Nat → Bool)) :
    (State.resetPage x0 x1 x2).pending = x0.pending ∧ (State.resetPage x0 x1 x2).hbm = x0.hbm ∧ (State.resetPage x0 x1 x2).sec = x0.sec ∧ (State.resetPage x0 x1 x2).owner = x0.owner ∧ (State.resetPage x0 x1 x2).tim = x0.tim ∧ (State.resetPage x0 x1 x2).pwr = x0.pwr := by
  unfold State.resetPage; simp

@[simp] theorem State.portReset_frame (x0 : State) (x1 : HostId) :
    (State.portReset x0 x1).pending = x0.pending ∧ (State.portReset x0 x1).hbm = x0.hbm ∧ (State.portReset x0 x1).sec = x0.sec ∧ (State.portReset x0 x1).tim = x0.tim ∧ (State.portReset x0 x1).pwr = x0.pwr := by
  unfold State.portReset; simp

@[simp] theorem State.pcieDown_frame (x0 : State) (x1 : HostId) :
    (State.pcieDown x0 x1).pending = x0.pending ∧ (State.pcieDown x0 x1).hbm = x0.hbm ∧ (State.pcieDown x0 x1).sec = x0.sec ∧ (State.pcieDown x0 x1).tim = x0.tim ∧ (State.pcieDown x0 x1).pwr = x0.pwr := by
  unfold State.pcieDown; ((repeat' split) <;> simp)

theorem InFlight.again_keeps (e : InFlight) (c : CoreId) (l : Nat) (s : State) :
    Run?.Keeps Prod.fst s (e.again c l s) := by
  unfold InFlight.again; dsimp only
  (repeat' split) <;>
    first
    | exact Desc.copyStart_keeps _ _ _ _ _
    | exact Desc.fillStart_keeps _ _ _ _
    | exact Desc.qcopyStart_keeps _ _ _ _ _
    | exact Desc.gatherStart_keeps _ _ _ _ _ _
    | exact Desc.remoteStart_keeps _ _ _ _ _
    | exact Desc.vecStart_keeps _ _ _ _ _

@[simp] theorem State.resumeFly_frame (x0 : State) (x1 : CoreId) (x2 : UnitId) (x3 : Nat) :
    (State.resumeFly x0 x1 x2 x3).pending = x0.pending ∧ (State.resumeFly x0 x1 x2 x3).sec = x0.sec ∧ (State.resumeFly x0 x1 x2 x3).owner = x0.owner ∧ (State.resumeFly x0 x1 x2 x3).tim = x0.tim ∧ (State.resumeFly x0 x1 x2 x3).pwr = x0.pwr := by
  unfold State.resumeFly
  split
  · simp
  · rename_i e _
    split
    · split
      · rename_i x h
        obtain ⟨h1, h2, h3, h4, h5⟩ := (e.again_keeps x1 (x0.logicalOf x1) x0).err h
        simp [*]
      · rename_i t n h
        obtain ⟨h1, h2, h3, h4, h5⟩ := (e.again_keeps x1 (x0.logicalOf x1) x0).ok h
        simp at h1 h2 h3 h4 h5
        simp [*]
    · simp

theorem InFlight.begin_keeps (e : InFlight) (c : CoreId) (l : Nat) (s : State) :
    Run?.Keeps Prod.fst s (e.begin c l s) := by
  unfold InFlight.begin; dsimp only
  split <;>
    first
    | exact Desc.ctxStartRun_keeps _ _ _
    | exact Desc.ctxEndRun_keeps _ _ _
    | exact Desc.qcheckRun_keeps _ _ _
    | exact Desc.vcaptureRun_keeps _ _ _
    | exact Desc.vopenRun_keeps _ _ _
    | exact Desc.vpublishRun_keeps _ _ _
    | exact Desc.collectiveRun_keeps _ _ _
    | exact Desc.ringStartRun_keeps _ _ _ _
    | exact Desc.ringWaitRun_keeps _ _
    | exact asStart_keeps (e.again_keeps _ _ _)

@[simp] theorem State.startNext_frame (x0 : State) (x1 : CoreId) (x2 : UnitId) :
    (State.startNext x0 x1 x2).pending = x0.pending ∧ (State.startNext x0 x1 x2).sec = x0.sec ∧ (State.startNext x0 x1 x2).owner = x0.owner ∧ (State.startNext x0 x1 x2).tim = x0.tim ∧ (State.startNext x0 x1 x2).pwr = x0.pwr := by
  unfold State.startNext
  split
  · simp
  · rename_i e _
    dsimp only
    split
    · split
      · rename_i h
        obtain ⟨h1, h2, h3, h4, h5⟩ := (x0.arrStart_keeps x1 e).err h
        simp [*]
      · rename_i h
        obtain ⟨h1, h2, h3, h4, h5⟩ := (x0.arrStart_keeps x1 e).ok h
        simp [*]
    · split
      · simp
      · split
        · rename_i h
          obtain ⟨h1, h2, h3, h4, h5⟩ := (e.begin_keeps x1 (x0.logicalOf x1) x0).err h
          simp [*]
        · rename_i h
          obtain ⟨h1, h2, h3, h4, h5⟩ := (e.begin_keeps x1 (x0.logicalOf x1) x0).ok h
          simp [*]

@[simp] theorem State.startUnit_frame (x0 : CoreId) (x1 : UnitId) (x2 : Nat) (x3 : State) :
    (State.startUnit x0 x1 x2 x3).pending = x3.pending ∧ (State.startUnit x0 x1 x2 x3).sec = x3.sec ∧ (State.startUnit x0 x1 x2 x3).owner = x3.owner ∧ (State.startUnit x0 x1 x2 x3).tim = x3.tim ∧ (State.startUnit x0 x1 x2 x3).pwr = x3.pwr := by
  induction x2 generalizing x3 with
  | zero => simp [State.startUnit]
  | succ n ih => unfold State.startUnit; split <;> simp [ih]

@[simp] theorem State.startCore_frame (x0 : State) (x1 : CoreId) :
    (State.startCore x0 x1).pending = x0.pending ∧ (State.startCore x0 x1).sec = x0.sec ∧ (State.startCore x0 x1).owner = x0.owner ∧ (State.startCore x0 x1).tim = x0.tim ∧ (State.startCore x0 x1).pwr = x0.pwr := by
  unfold State.startCore; ((repeat' split) <;> simp)

@[simp] theorem State.startWaiting_frame (x0 : State) :
    (State.startWaiting x0).pending = x0.pending ∧ (State.startWaiting x0).sec = x0.sec ∧ (State.startWaiting x0).owner = x0.owner ∧ (State.startWaiting x0).tim = x0.tim ∧ (State.startWaiting x0).pwr = x0.pwr := by
  unfold State.startWaiting; (try dsimp only); (repeat' split); all_goals (try and_intros); all_goals (try simp); all_goals (repeat (first | rw [State.each_pending] | rw [State.each_hbm] | rw [State.each_sec] | rw [State.each_owner] | rw [State.each_tim] | rw [State.each_pwr])); all_goals (try intros); all_goals ((repeat' split) <;> (first | rfl | simp))

@[simp] theorem State.dropOutTag_frame (x0 : State) (x1 : Nat) :
    (State.dropOutTag x0 x1).pending = x0.pending ∧ (State.dropOutTag x0 x1).hbm = x0.hbm ∧ (State.dropOutTag x0 x1).sec = x0.sec ∧ (State.dropOutTag x0 x1).owner = x0.owner ∧ (State.dropOutTag x0 x1).tim = x0.tim ∧ (State.dropOutTag x0 x1).pwr = x0.pwr := by
  unfold State.dropOutTag; simp

@[simp] theorem State.statusVer_frame (x0 : State) (x1 : Tracker) (x2 : Nat) (x3 : Nat) :
    (State.statusVer x0 x1 x2 x3).pending = x0.pending ∧ (State.statusVer x0 x1 x2 x3).hbm = x0.hbm ∧ (State.statusVer x0 x1 x2 x3).sec = x0.sec ∧ (State.statusVer x0 x1 x2 x3).owner = x0.owner ∧ (State.statusVer x0 x1 x2 x3).tim = x0.tim ∧ (State.statusVer x0 x1 x2 x3).pwr = x0.pwr := by
  unfold State.statusVer; ((repeat' split) <;> simp)

@[simp] theorem State.ownerError_frame (x0 : State) (x1 : Tracker) (x2 : Nat) (x3 : Bool) :
    (State.ownerError x0 x1 x2 x3).pending = x0.pending ∧ (State.ownerError x0 x1 x2 x3).hbm = x0.hbm ∧ (State.ownerError x0 x1 x2 x3).sec = x0.sec ∧ (State.ownerError x0 x1 x2 x3).owner = x0.owner ∧ (State.ownerError x0 x1 x2 x3).tim = x0.tim ∧ (State.ownerError x0 x1 x2 x3).pwr = x0.pwr := by
  unfold State.ownerError; simp; ((repeat' split) <;> simp)

@[simp] theorem State.ownerData_frame (x0 : State) (x1 : Tracker) (x2 : List (Byte × Bool)) :
    (State.ownerData x0 x1 x2).pending = x0.pending ∧ (State.ownerData x0 x1 x2).sec = x0.sec ∧ (State.ownerData x0 x1 x2).owner = x0.owner ∧ (State.ownerData x0 x1 x2).tim = x0.tim ∧ (State.ownerData x0 x1 x2).pwr = x0.pwr := by
  unfold State.ownerData; ((repeat' split) <;> simp)

@[simp] theorem State.ownerAck_frame (x0 : State) (x1 : Tracker) :
    (State.ownerAck x0 x1).pending = x0.pending ∧ (State.ownerAck x0 x1).sec = x0.sec ∧ (State.ownerAck x0 x1).owner = x0.owner ∧ (State.ownerAck x0 x1).tim = x0.tim ∧ (State.ownerAck x0 x1).pwr = x0.pwr := by
  unfold State.ownerAck; ((repeat' split) <;> simp)

@[simp] theorem State.afterResponse_frame (x0 : State) :
    (State.afterResponse x0).pending = x0.pending ∧ (State.afterResponse x0).sec = x0.sec ∧ (State.afterResponse x0).owner = x0.owner ∧ (State.afterResponse x0).tim = x0.tim ∧ (State.afterResponse x0).pwr = x0.pwr := by
  unfold State.afterResponse; simp

@[simp] theorem State.takeResponse_frame (x0 : State) (x1 : Fu) :
    (State.takeResponse x0 x1).pending = x0.pending ∧ (State.takeResponse x0 x1).sec = x0.sec ∧ (State.takeResponse x0 x1).owner = x0.owner ∧ (State.takeResponse x0 x1).tim = x0.tim ∧ (State.takeResponse x0 x1).pwr = x0.pwr := by
  unfold State.takeResponse; simp; ((repeat' split) <;> simp)

@[simp] theorem State.settleN_frame (x0 : State) (x1 : Nat) :
    (State.settleN x0 x1).pending = x0.pending ∧ (State.settleN x0 x1).sec = x0.sec ∧ (State.settleN x0 x1).owner = x0.owner ∧ (State.settleN x0 x1).tim = x0.tim ∧ (State.settleN x0 x1).pwr = x0.pwr := by
  induction x1 generalizing x0 with
  | zero => simp [State.settleN]
  | succ n ih =>
    unfold State.settleN
    split
    · simp
    · dsimp only
      split <;> simp [ih]

@[simp] theorem State.settleOnce_frame (x0 : State) :
    (State.settleOnce x0).pending = x0.pending ∧ (State.settleOnce x0).sec = x0.sec ∧ (State.settleOnce x0).owner = x0.owner ∧ (State.settleOnce x0).tim = x0.tim ∧ (State.settleOnce x0).pwr = x0.pwr := by
  unfold State.settleOnce; simp

@[simp] theorem State.settle_frame (x0 : State) :
    (State.settle x0).pending = x0.pending ∧ (State.settle x0).sec = x0.sec ∧ (State.settle x0).owner = x0.owner ∧ (State.settle x0).tim = x0.tim ∧ (State.settle x0).pwr = x0.pwr := by
  unfold State.settle; simp; ((repeat' split) <;> simp)

@[simp] theorem State.respTimeout_frame (x0 : State) (x1 : Nat) :
    (State.respTimeout x0 x1).pending = x0.pending ∧ (State.respTimeout x0 x1).sec = x0.sec ∧ (State.respTimeout x0 x1).owner = x0.owner ∧ (State.respTimeout x0 x1).tim = x0.tim ∧ (State.respTimeout x0 x1).pwr = x0.pwr := by
  unfold State.respTimeout; ((repeat' split) <;> simp)

@[simp] theorem State.respond_frame (x0 : State) (x1 : Fu) (x2 : Nat) (x3 : Nat) (x4 : Nat) (x5 : List Byte) :
    (State.respond x0 x1 x2 x3 x4 x5).pending = x0.pending ∧ (State.respond x0 x1 x2 x3 x4 x5).sec = x0.sec ∧ (State.respond x0 x1 x2 x3 x4 x5).owner = x0.owner ∧ (State.respond x0 x1 x2 x3 x4 x5).tim = x0.tim ∧ (State.respond x0 x1 x2 x3 x4 x5).pwr = x0.pwr := by
  unfold State.respond; simp; ((repeat' split) <;> simp)

@[simp] theorem State.rejectFu_frame (x0 : State) (x1 : Fu) (x2 : Nat) (x3 : Nat) :
    (State.rejectFu x0 x1 x2 x3).pending = x0.pending ∧ (State.rejectFu x0 x1 x2 x3).sec = x0.sec ∧ (State.rejectFu x0 x1 x2 x3).owner = x0.owner ∧ (State.rejectFu x0 x1 x2 x3).tim = x0.tim ∧ (State.rejectFu x0 x1 x2 x3).pwr = x0.pwr := by
  unfold State.rejectFu; simp

@[simp] theorem State.serveRead_frame (x0 : State) (x1 : Fu) (x2 : Nat) (x3 : Nat) :
    (State.serveRead x0 x1 x2 x3).pending = x0.pending ∧ (State.serveRead x0 x1 x2 x3).sec = x0.sec ∧ (State.serveRead x0 x1 x2 x3).owner = x0.owner ∧ (State.serveRead x0 x1 x2 x3).tim = x0.tim ∧ (State.serveRead x0 x1 x2 x3).pwr = x0.pwr := by
  unfold State.serveRead; ((repeat' split) <;> simp)

@[simp] theorem State.serveReadReq_frame (x0 : State) (x1 : Fu) :
    (State.serveReadReq x0 x1).pending = x0.pending ∧ (State.serveReadReq x0 x1).sec = x0.sec ∧ (State.serveReadReq x0 x1).owner = x0.owner ∧ (State.serveReadReq x0 x1).tim = x0.tim ∧ (State.serveReadReq x0 x1).pwr = x0.pwr := by
  unfold State.serveReadReq; ((repeat' split) <;> simp)

@[simp] theorem State.serveWrite_frame (x0 : State) (x1 : Fu) :
    (State.serveWrite x0 x1).pending = x0.pending ∧ (State.serveWrite x0 x1).sec = x0.sec ∧ (State.serveWrite x0 x1).owner = x0.owner ∧ (State.serveWrite x0 x1).tim = x0.tim ∧ (State.serveWrite x0 x1).pwr = x0.pwr := by
  unfold State.serveWrite; simp; ((repeat' split) <;> simp)

@[simp] theorem State.serveGather_frame (x0 : State) (x1 : Fu) :
    (State.serveGather x0 x1).pending = x0.pending ∧ (State.serveGather x0 x1).sec = x0.sec ∧ (State.serveGather x0 x1).owner = x0.owner ∧ (State.serveGather x0 x1).tim = x0.tim ∧ (State.serveGather x0 x1).pwr = x0.pwr := by
  unfold State.serveGather; simp; ((repeat' split) <;> simp)

@[simp] theorem State.opArrived_pending (s : State) (p : PortId) (x : Fu) (g : State → Fu → State)
    (h : ∀ s a, (g s a).pending = s.pending) : (s.opArrived p x g).pending = s.pending := by
  unfold State.opArrived; dsimp only; split <;> simp [h]

@[simp] theorem State.opArrived_sec (s : State) (p : PortId) (x : Fu) (g : State → Fu → State)
    (h : ∀ s a, (g s a).sec = s.sec) : (s.opArrived p x g).sec = s.sec := by
  unfold State.opArrived; dsimp only; split <;> simp [h]

@[simp] theorem State.opArrived_owner (s : State) (p : PortId) (x : Fu) (g : State → Fu → State)
    (h : ∀ s a, (g s a).owner = s.owner) : (s.opArrived p x g).owner = s.owner := by
  unfold State.opArrived; dsimp only; split <;> simp [h]

@[simp] theorem State.opArrived_tim (s : State) (p : PortId) (x : Fu) (g : State → Fu → State)
    (h : ∀ s a, (g s a).tim = s.tim) : (s.opArrived p x g).tim = s.tim := by
  unfold State.opArrived; dsimp only; split <;> simp [h]

@[simp] theorem State.opArrived_pwr (s : State) (p : PortId) (x : Fu) (g : State → Fu → State)
    (h : ∀ s a, (g s a).pwr = s.pwr) : (s.opArrived p x g).pwr = s.pwr := by
  unfold State.opArrived; dsimp only; split <;> simp [h]

@[simp] theorem State.onFu_pending (s : State) (p : PortId) (x : Fu) (k : Bool) (g : State → Fu → State)
    (h : ∀ s a, (g s a).pending = s.pending) : (s.onFu p x k g).pending = s.pending := by
  unfold State.onFu
  have ha := (State.arrive_frame s p x false)
  split
  · rfl
  · split <;> rename_i t e <;> rw [e] at ha <;> simp at ha <;> simp [h, ha]

@[simp] theorem State.onFu_sec (s : State) (p : PortId) (x : Fu) (k : Bool) (g : State → Fu → State)
    (h : ∀ s a, (g s a).sec = s.sec) : (s.onFu p x k g).sec = s.sec := by
  unfold State.onFu
  have ha := (State.arrive_frame s p x false)
  split
  · rfl
  · split <;> rename_i t e <;> rw [e] at ha <;> simp at ha <;> simp [h, ha]

@[simp] theorem State.onFu_owner (s : State) (p : PortId) (x : Fu) (k : Bool) (g : State → Fu → State)
    (h : ∀ s a, (g s a).owner = s.owner) : (s.onFu p x k g).owner = s.owner := by
  unfold State.onFu
  have ha := (State.arrive_frame s p x false)
  split
  · rfl
  · split <;> rename_i t e <;> rw [e] at ha <;> simp at ha <;> simp [h, ha]

@[simp] theorem State.onFu_tim (s : State) (p : PortId) (x : Fu) (k : Bool) (g : State → Fu → State)
    (h : ∀ s a, (g s a).tim = s.tim) : (s.onFu p x k g).tim = s.tim := by
  unfold State.onFu
  have ha := (State.arrive_frame s p x false)
  split
  · rfl
  · split <;> rename_i t e <;> rw [e] at ha <;> simp at ha <;> simp [h, ha]

@[simp] theorem State.onFu_pwr (s : State) (p : PortId) (x : Fu) (k : Bool) (g : State → Fu → State)
    (h : ∀ s a, (g s a).pwr = s.pwr) : (s.onFu p x k g).pwr = s.pwr := by
  unfold State.onFu
  have ha := (State.arrive_frame s p x false)
  split
  · rfl
  · split <;> rename_i t e <;> rw [e] at ha <;> simp at ha <;> simp [h, ha]

@[simp] theorem State.onOp_pending (s : State) (p : PortId) (x : Fu) (k : Nat) (g : State → Fu → State)
    (h : ∀ s a, (g s a).pending = s.pending) : (s.onOp p x k g).pending = s.pending := by
  unfold State.onOp; simp [h]

@[simp] theorem State.onOp_sec (s : State) (p : PortId) (x : Fu) (k : Nat) (g : State → Fu → State)
    (h : ∀ s a, (g s a).sec = s.sec) : (s.onOp p x k g).sec = s.sec := by
  unfold State.onOp; simp [h]

@[simp] theorem State.onOp_owner (s : State) (p : PortId) (x : Fu) (k : Nat) (g : State → Fu → State)
    (h : ∀ s a, (g s a).owner = s.owner) : (s.onOp p x k g).owner = s.owner := by
  unfold State.onOp; simp [h]

@[simp] theorem State.onOp_tim (s : State) (p : PortId) (x : Fu) (k : Nat) (g : State → Fu → State)
    (h : ∀ s a, (g s a).tim = s.tim) : (s.onOp p x k g).tim = s.tim := by
  unfold State.onOp; simp [h]

@[simp] theorem State.onOp_pwr (s : State) (p : PortId) (x : Fu) (k : Nat) (g : State → Fu → State)
    (h : ∀ s a, (g s a).pwr = s.pwr) : (s.onOp p x k g).pwr = s.pwr := by
  unfold State.onOp; simp [h]

@[simp] theorem State.onDiscovery_pending (s : State) (p : PortId) (x : Fu) (k : Nat) (g : State → Fu → State)
    (h : ∀ s a, (g s a).pending = s.pending) : (s.onDiscovery p x k g).pending = s.pending := by
  unfold State.onDiscovery; simp [h]

@[simp] theorem State.onDiscovery_sec (s : State) (p : PortId) (x : Fu) (k : Nat) (g : State → Fu → State)
    (h : ∀ s a, (g s a).sec = s.sec) : (s.onDiscovery p x k g).sec = s.sec := by
  unfold State.onDiscovery; simp [h]

@[simp] theorem State.onDiscovery_owner (s : State) (p : PortId) (x : Fu) (k : Nat) (g : State → Fu → State)
    (h : ∀ s a, (g s a).owner = s.owner) : (s.onDiscovery p x k g).owner = s.owner := by
  unfold State.onDiscovery; simp [h]

@[simp] theorem State.onDiscovery_tim (s : State) (p : PortId) (x : Fu) (k : Nat) (g : State → Fu → State)
    (h : ∀ s a, (g s a).tim = s.tim) : (s.onDiscovery p x k g).tim = s.tim := by
  unfold State.onDiscovery; simp [h]

@[simp] theorem State.onDiscovery_pwr (s : State) (p : PortId) (x : Fu) (k : Nat) (g : State → Fu → State)
    (h : ∀ s a, (g s a).pwr = s.pwr) : (s.onDiscovery p x k g).pwr = s.pwr := by
  unfold State.onDiscovery; simp [h]

@[simp] theorem State.onSegment_pending (s : State) (p : PortId) (x : Fu) (k : Nat) (g : State → Fu → State)
    (h : ∀ s a, (g s a).pending = s.pending) : (s.onSegment p x k g).pending = s.pending := by
  unfold State.onSegment; apply State.onFu_pending; intro s a; dsimp only; (repeat' split) <;> simp [h]

@[simp] theorem State.onSegment_sec (s : State) (p : PortId) (x : Fu) (k : Nat) (g : State → Fu → State)
    (h : ∀ s a, (g s a).sec = s.sec) : (s.onSegment p x k g).sec = s.sec := by
  unfold State.onSegment; apply State.onFu_sec; intro s a; dsimp only; (repeat' split) <;> simp [h]

@[simp] theorem State.onSegment_owner (s : State) (p : PortId) (x : Fu) (k : Nat) (g : State → Fu → State)
    (h : ∀ s a, (g s a).owner = s.owner) : (s.onSegment p x k g).owner = s.owner := by
  unfold State.onSegment; apply State.onFu_owner; intro s a; dsimp only; (repeat' split) <;> simp [h]

@[simp] theorem State.onSegment_tim (s : State) (p : PortId) (x : Fu) (k : Nat) (g : State → Fu → State)
    (h : ∀ s a, (g s a).tim = s.tim) : (s.onSegment p x k g).tim = s.tim := by
  unfold State.onSegment; apply State.onFu_tim; intro s a; dsimp only; (repeat' split) <;> simp [h]

@[simp] theorem State.onSegment_pwr (s : State) (p : PortId) (x : Fu) (k : Nat) (g : State → Fu → State)
    (h : ∀ s a, (g s a).pwr = s.pwr) : (s.onSegment p x k g).pwr = s.pwr := by
  unfold State.onSegment; apply State.onFu_pwr; intro s a; dsimp only; (repeat' split) <;> simp [h]

@[simp] theorem State.trainFail_frame (x0 : State) (x1 : PortId) (x2 : Nat) :
    (State.trainFail x0 x1 x2).pending = x0.pending ∧ (State.trainFail x0 x1 x2).hbm = x0.hbm ∧ (State.trainFail x0 x1 x2).sec = x0.sec ∧ (State.trainFail x0 x1 x2).owner = x0.owner ∧ (State.trainFail x0 x1 x2).tim = x0.tim ∧ (State.trainFail x0 x1 x2).pwr = x0.pwr := by
  unfold State.trainFail; simp

@[simp] theorem State.train_frame (x0 : State) (x1 : PortId) (x2 : TrainAttempt) :
    (State.train x0 x1 x2).pending = x0.pending ∧ (State.train x0 x1 x2).hbm = x0.hbm ∧ (State.train x0 x1 x2).sec = x0.sec ∧ (State.train x0 x1 x2).owner = x0.owner ∧ (State.train x0 x1 x2).tim = x0.tim ∧ (State.train x0 x1 x2).pwr = x0.pwr := by
  unfold State.train; ((repeat' split) <;> simp)

@[simp] theorem State.trainAttempt_frame (x0 : State) (x1 : PortId) (x2 : TrainAttempt) :
    (State.trainAttempt x0 x1 x2).pending = x0.pending ∧ (State.trainAttempt x0 x1 x2).hbm = x0.hbm ∧ (State.trainAttempt x0 x1 x2).sec = x0.sec ∧ (State.trainAttempt x0 x1 x2).owner = x0.owner ∧ (State.trainAttempt x0 x1 x2).tim = x0.tim ∧ (State.trainAttempt x0 x1 x2).pwr = x0.pwr := by
  unfold State.trainAttempt; simp; ((repeat' split) <;> simp)

@[simp] theorem State.trainRetry_frame (x0 : State) (x1 : PortId) (x2 : TrainAttempt) :
    (State.trainRetry x0 x1 x2).pending = x0.pending ∧ (State.trainRetry x0 x1 x2).hbm = x0.hbm ∧ (State.trainRetry x0 x1 x2).sec = x0.sec ∧ (State.trainRetry x0 x1 x2).owner = x0.owner ∧ (State.trainRetry x0 x1 x2).tim = x0.tim ∧ (State.trainRetry x0 x1 x2).pwr = x0.pwr := by
  unfold State.trainRetry; simp; ((repeat' split) <;> simp)

@[simp] theorem State.trainTimeout_frame (x0 : State) (x1 : PortId) :
    (State.trainTimeout x0 x1).pending = x0.pending ∧ (State.trainTimeout x0 x1).hbm = x0.hbm ∧ (State.trainTimeout x0 x1).sec = x0.sec ∧ (State.trainTimeout x0 x1).owner = x0.owner ∧ (State.trainTimeout x0 x1).tim = x0.tim ∧ (State.trainTimeout x0 x1).pwr = x0.pwr := by
  unfold State.trainTimeout; ((repeat' split) <;> simp)

@[simp] theorem State.trainEnd_frame (x0 : State) (x1 : PortId) :
    (State.trainEnd x0 x1).pending = x0.pending ∧ (State.trainEnd x0 x1).hbm = x0.hbm ∧ (State.trainEnd x0 x1).sec = x0.sec ∧ (State.trainEnd x0 x1).owner = x0.owner ∧ (State.trainEnd x0 x1).tim = x0.tim ∧ (State.trainEnd x0 x1).pwr = x0.pwr := by
  unfold State.trainEnd; simp; ((repeat' split) <;> simp)

@[simp] theorem State.initTimer_frame (x0 : State) (x1 : PortId) :
    (State.initTimer x0 x1).pending = x0.pending ∧ (State.initTimer x0 x1).hbm = x0.hbm ∧ (State.initTimer x0 x1).sec = x0.sec ∧ (State.initTimer x0 x1).owner = x0.owner ∧ (State.initTimer x0 x1).tim = x0.tim ∧ (State.initTimer x0 x1).pwr = x0.pwr := by
  unfold State.initTimer; simp; ((repeat' split) <;> simp)

@[simp] theorem State.takeInit_frame (x0 : State) (x1 : PortId) (x2 : Fu) :
    (State.takeInit x0 x1 x2).pending = x0.pending ∧ (State.takeInit x0 x1 x2).hbm = x0.hbm ∧ (State.takeInit x0 x1 x2).sec = x0.sec ∧ (State.takeInit x0 x1 x2).owner = x0.owner ∧ (State.takeInit x0 x1 x2).tim = x0.tim ∧ (State.takeInit x0 x1 x2).pwr = x0.pwr := by
  unfold State.takeInit; ((repeat' split) <;> simp)

@[simp] theorem State.fall_frame (x0 : State) (x1 : PortId) (x2 : Nat) :
    (State.fall x0 x1 x2).pending = x0.pending ∧ (State.fall x0 x1 x2).hbm = x0.hbm ∧ (State.fall x0 x1 x2).sec = x0.sec ∧ (State.fall x0 x1 x2).owner = x0.owner ∧ (State.fall x0 x1 x2).tim = x0.tim ∧ (State.fall x0 x1 x2).pwr = x0.pwr := by
  unfold State.fall; ((repeat' split) <;> simp)

@[simp] theorem State.replayExpiry_frame (x0 : State) (x1 : PortId) :
    (State.replayExpiry x0 x1).pending = x0.pending ∧ (State.replayExpiry x0 x1).hbm = x0.hbm ∧ (State.replayExpiry x0 x1).sec = x0.sec ∧ (State.replayExpiry x0 x1).owner = x0.owner ∧ (State.replayExpiry x0 x1).tim = x0.tim ∧ (State.replayExpiry x0 x1).pwr = x0.pwr := by
  unfold State.replayExpiry; simp; ((repeat' split) <;> simp)

@[simp] theorem State.retrainDone_frame (x0 : State) (x1 : PortId) :
    (State.retrainDone x0 x1).pending = x0.pending ∧ (State.retrainDone x0 x1).hbm = x0.hbm ∧ (State.retrainDone x0 x1).sec = x0.sec ∧ (State.retrainDone x0 x1).owner = x0.owner ∧ (State.retrainDone x0 x1).tim = x0.tim ∧ (State.retrainDone x0 x1).pwr = x0.pwr := by
  unfold State.retrainDone; simp; ((repeat' split) <;> simp)

@[simp] theorem State.relockTimeout_frame (x0 : State) (x1 : PortId) :
    (State.relockTimeout x0 x1).pending = x0.pending ∧ (State.relockTimeout x0 x1).hbm = x0.hbm ∧ (State.relockTimeout x0 x1).sec = x0.sec ∧ (State.relockTimeout x0 x1).owner = x0.owner ∧ (State.relockTimeout x0 x1).tim = x0.tim ∧ (State.relockTimeout x0 x1).pwr = x0.pwr := by
  unfold State.relockTimeout; ((repeat' split) <;> simp)

@[simp] theorem State.askRetrain_frame (x0 : State) (x1 : PortId) :
    (State.askRetrain x0 x1).pending = x0.pending ∧ (State.askRetrain x0 x1).hbm = x0.hbm ∧ (State.askRetrain x0 x1).sec = x0.sec ∧ (State.askRetrain x0 x1).owner = x0.owner ∧ (State.askRetrain x0 x1).tim = x0.tim ∧ (State.askRetrain x0 x1).pwr = x0.pwr := by
  unfold State.askRetrain; ((repeat' split) <;> simp)

@[simp] theorem State.replayParity_frame (x0 : State) (x1 : PortId) :
    (State.replayParity x0 x1).pending = x0.pending ∧ (State.replayParity x0 x1).hbm = x0.hbm ∧ (State.replayParity x0 x1).sec = x0.sec ∧ (State.replayParity x0 x1).owner = x0.owner ∧ (State.replayParity x0 x1).tim = x0.tim ∧ (State.replayParity x0 x1).pwr = x0.pwr := by
  unfold State.replayParity; simp; ((repeat' split) <;> simp)

@[simp] theorem State.laneParity_frame (x0 : State) (x1 : PortId) :
    (State.laneParity x0 x1).pending = x0.pending ∧ (State.laneParity x0 x1).hbm = x0.hbm ∧ (State.laneParity x0 x1).sec = x0.sec ∧ (State.laneParity x0 x1).owner = x0.owner ∧ (State.laneParity x0 x1).tim = x0.tim ∧ (State.laneParity x0 x1).pwr = x0.pwr := by
  unfold State.laneParity; simp; ((repeat' split) <;> simp)

@[simp] theorem State.signalLost_frame (x0 : State) (x1 : PortId) :
    (State.signalLost x0 x1).pending = x0.pending ∧ (State.signalLost x0 x1).hbm = x0.hbm ∧ (State.signalLost x0 x1).sec = x0.sec ∧ (State.signalLost x0 x1).owner = x0.owner ∧ (State.signalLost x0 x1).tim = x0.tim ∧ (State.signalLost x0 x1).pwr = x0.pwr := by
  unfold State.signalLost; simp

@[simp] theorem State.linkDisable_frame (x0 : State) (x1 : PortId) :
    (State.linkDisable x0 x1).pending = x0.pending ∧ (State.linkDisable x0 x1).hbm = x0.hbm ∧ (State.linkDisable x0 x1).sec = x0.sec ∧ (State.linkDisable x0 x1).owner = x0.owner ∧ (State.linkDisable x0 x1).tim = x0.tim ∧ (State.linkDisable x0 x1).pwr = x0.pwr := by
  unfold State.linkDisable; simp; ((repeat' split) <;> simp)

@[simp] theorem State.linkEnable_frame (x0 : State) (x1 : PortId) :
    (State.linkEnable x0 x1).pending = x0.pending ∧ (State.linkEnable x0 x1).hbm = x0.hbm ∧ (State.linkEnable x0 x1).sec = x0.sec ∧ (State.linkEnable x0 x1).owner = x0.owner ∧ (State.linkEnable x0 x1).tim = x0.tim ∧ (State.linkEnable x0 x1).pwr = x0.pwr := by
  unfold State.linkEnable; simp; ((repeat' split) <;> simp)

@[simp] theorem State.fabRetrain_frame (x0 : State) (x1 : PortId) :
    (State.fabRetrain x0 x1).pending = x0.pending ∧ (State.fabRetrain x0 x1).hbm = x0.hbm ∧ (State.fabRetrain x0 x1).sec = x0.sec ∧ (State.fabRetrain x0 x1).owner = x0.owner ∧ (State.fabRetrain x0 x1).tim = x0.tim ∧ (State.fabRetrain x0 x1).pwr = x0.pwr := by
  unfold State.fabRetrain; ((repeat' split) <;> simp)

@[simp] theorem State.stampTimer_frame (x0 : State) :
    (State.stampTimer x0).pending = x0.pending ∧ (State.stampTimer x0).hbm = x0.hbm ∧ (State.stampTimer x0).sec = x0.sec ∧ (State.stampTimer x0).owner = x0.owner ∧ (State.stampTimer x0).tim = x0.tim ∧ (State.stampTimer x0).pwr = x0.pwr := by
  unfold State.stampTimer; (try dsimp only); (repeat' split); all_goals (try and_intros); all_goals (try simp); all_goals (repeat (first | rw [State.each_pending] | rw [State.each_hbm] | rw [State.each_sec] | rw [State.each_owner] | rw [State.each_tim] | rw [State.each_pwr])); all_goals (try intros); all_goals ((repeat' split) <;> (first | rfl | simp))

@[simp] theorem State.takeStamp_frame (x0 : State) (x1 : PortId) (x2 : Fu) (x3 : Int) :
    (State.takeStamp x0 x1 x2 x3).pending = x0.pending ∧ (State.takeStamp x0 x1 x2 x3).hbm = x0.hbm ∧ (State.takeStamp x0 x1 x2 x3).sec = x0.sec ∧ (State.takeStamp x0 x1 x2 x3).owner = x0.owner ∧ (State.takeStamp x0 x1 x2 x3).pwr = x0.pwr := by
  unfold State.takeStamp; simp

@[simp] theorem State.reportDelay_frame (x0 : State) (x1 : PortId) :
    (State.reportDelay x0 x1).pending = x0.pending ∧ (State.reportDelay x0 x1).hbm = x0.hbm ∧ (State.reportDelay x0 x1).sec = x0.sec ∧ (State.reportDelay x0 x1).owner = x0.owner ∧ (State.reportDelay x0 x1).tim = x0.tim ∧ (State.reportDelay x0 x1).pwr = x0.pwr := by
  unfold State.reportDelay; ((repeat' split) <;> simp)

@[simp] theorem State.takeReport_frame (x0 : State) (x1 : PortId) (x2 : Fu) :
    (State.takeReport x0 x1 x2).pending = x0.pending ∧ (State.takeReport x0 x1 x2).hbm = x0.hbm ∧ (State.takeReport x0 x1 x2).sec = x0.sec ∧ (State.takeReport x0 x1 x2).owner = x0.owner ∧ (State.takeReport x0 x1 x2).tim = x0.tim ∧ (State.takeReport x0 x1 x2).pwr = x0.pwr := by
  unfold State.takeReport; simp; ((repeat' split) <;> simp)

@[simp] theorem State.helloTimer_frame (x0 : State) :
    (State.helloTimer x0).pending = x0.pending ∧ (State.helloTimer x0).hbm = x0.hbm ∧ (State.helloTimer x0).sec = x0.sec ∧ (State.helloTimer x0).owner = x0.owner ∧ (State.helloTimer x0).tim = x0.tim ∧ (State.helloTimer x0).pwr = x0.pwr := by
  unfold State.helloTimer; simp

@[simp] theorem State.takeHello_frame (x0 : State) (x1 : PortId) (x2 : Fu) :
    (State.takeHello x0 x1 x2).pending = x0.pending ∧ (State.takeHello x0 x1 x2).hbm = x0.hbm ∧ (State.takeHello x0 x1 x2).sec = x0.sec ∧ (State.takeHello x0 x1 x2).owner = x0.owner ∧ (State.takeHello x0 x1 x2).tim = x0.tim ∧ (State.takeHello x0 x1 x2).pwr = x0.pwr := by
  unfold State.takeHello; simp; ((repeat' split) <;> simp)

@[simp] theorem State.relayRing_frame (x0 : State) (x1 : PortId) (x2 : Fu) (x3 : Nat) :
    (State.relayRing x0 x1 x2 x3).pending = x0.pending ∧ (State.relayRing x0 x1 x2 x3).hbm = x0.hbm ∧ (State.relayRing x0 x1 x2 x3).sec = x0.sec ∧ (State.relayRing x0 x1 x2 x3).owner = x0.owner ∧ (State.relayRing x0 x1 x2 x3).tim = x0.tim ∧ (State.relayRing x0 x1 x2 x3).pwr = x0.pwr := by
  unfold State.relayRing; simp; ((repeat' split) <;> simp)

@[simp] theorem State.takeRingState_frame (x0 : State) (x1 : PortId) (x2 : Fu) :
    (State.takeRingState x0 x1 x2).pending = x0.pending ∧ (State.takeRingState x0 x1 x2).hbm = x0.hbm ∧ (State.takeRingState x0 x1 x2).sec = x0.sec ∧ (State.takeRingState x0 x1 x2).owner = x0.owner ∧ (State.takeRingState x0 x1 x2).tim = x0.tim ∧ (State.takeRingState x0 x1 x2).pwr = x0.pwr := by
  unfold State.takeRingState; simp; ((repeat' split) <;> simp)

@[simp] theorem State.ringTimer_frame (x0 : State) :
    (State.ringTimer x0).pending = x0.pending ∧ (State.ringTimer x0).hbm = x0.hbm ∧ (State.ringTimer x0).sec = x0.sec ∧ (State.ringTimer x0).owner = x0.owner ∧ (State.ringTimer x0).tim = x0.tim ∧ (State.ringTimer x0).pwr = x0.pwr := by
  unfold State.ringTimer; simp

@[simp] theorem State.ringExpiry_frame (x0 : State) (x1 : Nat) (x2 : Nat) :
    (State.ringExpiry x0 x1 x2).pending = x0.pending ∧ (State.ringExpiry x0 x1 x2).hbm = x0.hbm ∧ (State.ringExpiry x0 x1 x2).sec = x0.sec ∧ (State.ringExpiry x0 x1 x2).owner = x0.owner ∧ (State.ringExpiry x0 x1 x2).tim = x0.tim ∧ (State.ringExpiry x0 x1 x2).pwr = x0.pwr := by
  unfold State.ringExpiry; simp

@[simp] theorem State.takeHaltBcast_frame (x0 : State) (x1 : PortId) (x2 : Fu) :
    (State.takeHaltBcast x0 x1 x2).pending = x0.pending ∧ (State.takeHaltBcast x0 x1 x2).hbm = x0.hbm ∧ (State.takeHaltBcast x0 x1 x2).sec = x0.sec ∧ (State.takeHaltBcast x0 x1 x2).owner = x0.owner ∧ (State.takeHaltBcast x0 x1 x2).tim = x0.tim ∧ (State.takeHaltBcast x0 x1 x2).pwr = x0.pwr := by
  unfold State.takeHaltBcast; simp; ((repeat' split) <;> simp)

end Sys2Proof.Machine
end

