-- ==== Sys2Proof/Laws/FrameSystem.lean ====
section
/-!
SUPPORT. What the operations of time, the job, security and power leave unchanged.
-/

namespace Sys2Proof.Machine

open Sys2Proof

@[simp] theorem State.advanceFine_frame (x0 : State) (x1 : Nat) :
    (State.advanceFine x0 x1).pending = x0.pending ∧ (State.advanceFine x0 x1).hbm = x0.hbm ∧ (State.advanceFine x0 x1).sec = x0.sec ∧ (State.advanceFine x0 x1).owner = x0.owner ∧ (State.advanceFine x0 x1).pwr = x0.pwr := by
  unfold State.advanceFine; ((repeat' split) <;> simp)

@[simp] theorem State.advance_frame (x0 : State) (x1 : Nat) :
    (State.advance x0 x1).pending = x0.pending ∧ (State.advance x0 x1).hbm = x0.hbm ∧ (State.advance x0 x1).sec = x0.sec ∧ (State.advance x0 x1).owner = x0.owner ∧ (State.advance x0 x1).pwr = x0.pwr := by
  unfold State.advance; ((repeat' split) <;> simp)

@[simp] theorem State.loopAdvance_frame (x0 : State) :
    (State.loopAdvance x0).pending = x0.pending ∧ (State.loopAdvance x0).hbm = x0.hbm ∧ (State.loopAdvance x0).sec = x0.sec ∧ (State.loopAdvance x0).owner = x0.owner ∧ (State.loopAdvance x0).pwr = x0.pwr := by
  unfold State.loopAdvance; simp

@[simp] theorem State.setLock_frame (x0 : State) (x1 : LockState) :
    (State.setLock x0 x1).pending = x0.pending ∧ (State.setLock x0 x1).hbm = x0.hbm ∧ (State.setLock x0 x1).sec = x0.sec ∧ (State.setLock x0 x1).owner = x0.owner ∧ (State.setLock x0 x1).pwr = x0.pwr := by
  unfold State.setLock; ((repeat' split) <;> simp)

@[simp] theorem State.lockLost_frame (x0 : State) :
    (State.lockLost x0).pending = x0.pending ∧ (State.lockLost x0).hbm = x0.hbm ∧ (State.lockLost x0).sec = x0.sec ∧ (State.lockLost x0).owner = x0.owner ∧ (State.lockLost x0).pwr = x0.pwr := by
  unfold State.lockLost; simp

@[simp] theorem State.enterHoldover_frame (x0 : State) :
    (State.enterHoldover x0).pending = x0.pending ∧ (State.enterHoldover x0).hbm = x0.hbm ∧ (State.enterHoldover x0).sec = x0.sec ∧ (State.enterHoldover x0).owner = x0.owner ∧ (State.enterHoldover x0).pwr = x0.pwr := by
  unfold State.enterHoldover; simp

@[simp] theorem State.lockStep_frame (x0 : State) (x1 : Option Int) :
    (State.lockStep x0 x1).pending = x0.pending ∧ (State.lockStep x0 x1).hbm = x0.hbm ∧ (State.lockStep x0 x1).sec = x0.sec ∧ (State.lockStep x0 x1).owner = x0.owner ∧ (State.lockStep x0 x1).pwr = x0.pwr := by
  unfold State.lockStep; simp; ((repeat' split) <;> simp)

@[simp] theorem State.stepTime_frame (x0 : State) (x1 : Int) :
    (State.stepTime x0 x1).pending = x0.pending ∧ (State.stepTime x0 x1).hbm = x0.hbm ∧ (State.stepTime x0 x1).sec = x0.sec ∧ (State.stepTime x0 x1).owner = x0.owner ∧ (State.stepTime x0 x1).pwr = x0.pwr := by
  unfold State.stepTime; simp

@[simp] theorem State.disciplineLoop_frame (x0 : State) :
    (State.disciplineLoop x0).pending = x0.pending ∧ (State.disciplineLoop x0).hbm = x0.hbm ∧ (State.disciplineLoop x0).sec = x0.sec ∧ (State.disciplineLoop x0).owner = x0.owner ∧ (State.disciplineLoop x0).pwr = x0.pwr := by
  unfold State.disciplineLoop; simp; ((repeat' split) <;> simp)

@[simp] theorem State.holdoverExpiry_frame (x0 : State) :
    (State.holdoverExpiry x0).pending = x0.pending ∧ (State.holdoverExpiry x0).hbm = x0.hbm ∧ (State.holdoverExpiry x0).sec = x0.sec ∧ (State.holdoverExpiry x0).owner = x0.owner ∧ (State.holdoverExpiry x0).pwr = x0.pwr := by
  unfold State.holdoverExpiry; ((repeat' split) <;> simp)

@[simp] theorem State.ppsEdge_frame (x0 : State) (x1 : BitVec 64) :
    (State.ppsEdge x0 x1).pending = x0.pending ∧ (State.ppsEdge x0 x1).hbm = x0.hbm ∧ (State.ppsEdge x0 x1).sec = x0.sec ∧ (State.ppsEdge x0 x1).owner = x0.owner ∧ (State.ppsEdge x0 x1).pwr = x0.pwr := by
  unfold State.ppsEdge; simp; ((repeat' split) <;> simp)

@[simp] theorem State.wholeSecond_frame (x0 : State) :
    (State.wholeSecond x0).pending = x0.pending ∧ (State.wholeSecond x0).hbm = x0.hbm ∧ (State.wholeSecond x0).sec = x0.sec ∧ (State.wholeSecond x0).owner = x0.owner ∧ (State.wholeSecond x0).pwr = x0.pwr := by
  unfold State.wholeSecond; simp; ((repeat' split) <;> simp)

@[simp] theorem State.onPtp_frame (x0 : State) (x1 : PtpMsg) (x2 : (Ptp → Ptp)) :
    (State.onPtp x0 x1 x2).pending = x0.pending ∧ (State.onPtp x0 x1 x2).hbm = x0.hbm ∧ (State.onPtp x0 x1 x2).sec = x0.sec ∧ (State.onPtp x0 x1 x2).owner = x0.owner ∧ (State.onPtp x0 x1 x2).pwr = x0.pwr := by
  unfold State.onPtp; ((repeat' split) <;> simp)

@[simp] theorem State.ptpSync_frame (x0 : State) (x1 : PtpMsg) :
    (State.ptpSync x0 x1).pending = x0.pending ∧ (State.ptpSync x0 x1).hbm = x0.hbm ∧ (State.ptpSync x0 x1).sec = x0.sec ∧ (State.ptpSync x0 x1).owner = x0.owner ∧ (State.ptpSync x0 x1).pwr = x0.pwr := by
  unfold State.ptpSync; simp

@[simp] theorem State.ptpFollowUp_frame (x0 : State) (x1 : PtpMsg) :
    (State.ptpFollowUp x0 x1).pending = x0.pending ∧ (State.ptpFollowUp x0 x1).hbm = x0.hbm ∧ (State.ptpFollowUp x0 x1).sec = x0.sec ∧ (State.ptpFollowUp x0 x1).owner = x0.owner ∧ (State.ptpFollowUp x0 x1).pwr = x0.pwr := by
  unfold State.ptpFollowUp; simp

@[simp] theorem State.ptpAnnounce_frame (x0 : State) (x1 : PtpMsg) :
    (State.ptpAnnounce x0 x1).pending = x0.pending ∧ (State.ptpAnnounce x0 x1).hbm = x0.hbm ∧ (State.ptpAnnounce x0 x1).sec = x0.sec ∧ (State.ptpAnnounce x0 x1).owner = x0.owner ∧ (State.ptpAnnounce x0 x1).pwr = x0.pwr := by
  unfold State.ptpAnnounce; simp

@[simp] theorem State.ptpDelayResp_frame (x0 : State) (x1 : PtpMsg) :
    (State.ptpDelayResp x0 x1).pending = x0.pending ∧ (State.ptpDelayResp x0 x1).hbm = x0.hbm ∧ (State.ptpDelayResp x0 x1).sec = x0.sec ∧ (State.ptpDelayResp x0 x1).owner = x0.owner ∧ (State.ptpDelayResp x0 x1).pwr = x0.pwr := by
  unfold State.ptpDelayResp; simp

@[simp] theorem State.ptpDelayReq_frame (x0 : State) (x1 : BitVec 64) :
    (State.ptpDelayReq x0 x1).pending = x0.pending ∧ (State.ptpDelayReq x0 x1).hbm = x0.hbm ∧ (State.ptpDelayReq x0 x1).sec = x0.sec ∧ (State.ptpDelayReq x0 x1).owner = x0.owner ∧ (State.ptpDelayReq x0 x1).pwr = x0.pwr := by
  unfold State.ptpDelayReq; ((repeat' split) <;> simp)

@[simp] theorem State.ptpTimeout_frame (x0 : State) :
    (State.ptpTimeout x0).pending = x0.pending ∧ (State.ptpTimeout x0).hbm = x0.hbm ∧ (State.ptpTimeout x0).sec = x0.sec ∧ (State.ptpTimeout x0).owner = x0.owner ∧ (State.ptpTimeout x0).pwr = x0.pwr := by
  unfold State.ptpTimeout; simp

@[simp] theorem State.refclkLost_frame (x0 : State) :
    (State.refclkLost x0).pending = x0.pending ∧ (State.refclkLost x0).hbm = x0.hbm ∧ (State.refclkLost x0).sec = x0.sec ∧ (State.refclkLost x0).owner = x0.owner ∧ (State.refclkLost x0).pwr = x0.pwr := by
  unfold State.refclkLost; ((repeat' split) <;> simp)

@[simp] theorem State.refclkBack_frame (x0 : State) :
    (State.refclkBack x0).pending = x0.pending ∧ (State.refclkBack x0).hbm = x0.hbm ∧ (State.refclkBack x0).sec = x0.sec ∧ (State.refclkBack x0).owner = x0.owner ∧ (State.refclkBack x0).pwr = x0.pwr := by
  unfold State.refclkBack; simp

@[simp] theorem State.windowOpen_frame (x0 : State) :
    (State.windowOpen x0).pending = x0.pending ∧ (State.windowOpen x0).sec = x0.sec ∧ (State.windowOpen x0).owner = x0.owner ∧ (State.windowOpen x0).pwr = x0.pwr := by
  unfold State.windowOpen; simp; ((repeat' split) <;> simp)

@[simp] theorem State.unclaimed_frame (x0 : State) :
    (State.unclaimed x0).pending = x0.pending ∧ (State.unclaimed x0).hbm = x0.hbm ∧ (State.unclaimed x0).sec = x0.sec ∧ (State.unclaimed x0).owner = x0.owner ∧ (State.unclaimed x0).tim = x0.tim ∧ (State.unclaimed x0).pwr = x0.pwr := by
  unfold State.unclaimed; simp

@[simp] theorem State.commitDeadline_frame (x0 : State) :
    (State.commitDeadline x0).pending = x0.pending ∧ (State.commitDeadline x0).sec = x0.sec ∧ (State.commitDeadline x0).owner = x0.owner ∧ (State.commitDeadline x0).pwr = x0.pwr := by
  unfold State.commitDeadline; simp; ((repeat' split) <;> simp)

@[simp] theorem State.slotCauses_frame (x0 : State) :
    (State.slotCauses x0).pending = x0.pending ∧ (State.slotCauses x0).hbm = x0.hbm ∧ (State.slotCauses x0).sec = x0.sec ∧ (State.slotCauses x0).owner = x0.owner ∧ (State.slotCauses x0).tim = x0.tim ∧ (State.slotCauses x0).pwr = x0.pwr := by
  unfold State.slotCauses; simp; ((repeat' split) <;> simp)

@[simp] theorem State.abandonRequests_frame (x0 : State) :
    (State.abandonRequests x0).pending = x0.pending ∧ (State.abandonRequests x0).hbm = x0.hbm ∧ (State.abandonRequests x0).sec = x0.sec ∧ (State.abandonRequests x0).owner = x0.owner ∧ (State.abandonRequests x0).tim = x0.tim ∧ (State.abandonRequests x0).pwr = x0.pwr := by
  unfold State.abandonRequests; simp

@[simp] theorem State.blocksAtTick_frame (x0 : State) (x1 : Bool) :
    (State.blocksAtTick x0 x1).pending = x0.pending ∧ (State.blocksAtTick x0 x1).hbm = x0.hbm ∧ (State.blocksAtTick x0 x1).sec = x0.sec ∧ (State.blocksAtTick x0 x1).owner = x0.owner ∧ (State.blocksAtTick x0 x1).tim = x0.tim ∧ (State.blocksAtTick x0 x1).pwr = x0.pwr := by
  unfold State.blocksAtTick; ((repeat' split) <;> simp)

@[simp] theorem State.durable_frame (x0 : State) :
    (State.durable x0).pending = x0.pending ∧ (State.durable x0).hbm = x0.hbm ∧ (State.durable x0).sec = x0.sec ∧ (State.durable x0).owner = x0.owner ∧ (State.durable x0).tim = x0.tim ∧ (State.durable x0).pwr = x0.pwr := by
  unfold State.durable; simp; ((repeat' split) <;> simp)

@[simp] theorem State.endSlot_frame (x0 : State) (x1 : Nat) :
    (State.endSlot x0 x1).pending = x0.pending ∧ (State.endSlot x0 x1).sec = x0.sec ∧ (State.endSlot x0 x1).owner = x0.owner ∧ (State.endSlot x0 x1).tim = x0.tim ∧ (State.endSlot x0 x1).pwr = x0.pwr := by
  unfold State.endSlot; ((repeat' split) <;> simp)

@[simp] theorem State.endStep_frame (x0 : State) (x1 : Bool) (x2 : Bool) :
    (State.endStep x0 x1 x2).pending = x0.pending ∧ (State.endStep x0 x1 x2).hbm = x0.hbm ∧ (State.endStep x0 x1 x2).sec = x0.sec ∧ (State.endStep x0 x1 x2).owner = x0.owner ∧ (State.endStep x0 x1 x2).tim = x0.tim ∧ (State.endStep x0 x1 x2).pwr = x0.pwr := by
  unfold State.endStep; ((repeat' split) <;> simp)

@[simp] theorem State.dispatchFail_frame (x0 : State) (x1 : Nat) :
    (State.dispatchFail x0 x1).pending = x0.pending ∧ (State.dispatchFail x0 x1).hbm = x0.hbm ∧ (State.dispatchFail x0 x1).sec = x0.sec ∧ (State.dispatchFail x0 x1).owner = x0.owner ∧ (State.dispatchFail x0 x1).tim = x0.tim ∧ (State.dispatchFail x0 x1).pwr = x0.pwr := by
  unfold State.dispatchFail; simp

@[simp] theorem State.startList_frame (x0 : State) (x1 : Nat) :
    (State.startList x0 x1).pending = x0.pending ∧ (State.startList x0 x1).hbm = x0.hbm ∧ (State.startList x0 x1).sec = x0.sec ∧ (State.startList x0 x1).owner = x0.owner ∧ (State.startList x0 x1).tim = x0.tim ∧ (State.startList x0 x1).pwr = x0.pwr := by
  unfold State.startList; ((repeat' split) <;> simp)

@[simp] theorem State.queueOrphan_frame (x0 : State) (x1 : Nat) :
    (State.queueOrphan x0 x1).pending = x0.pending ∧ (State.queueOrphan x0 x1).hbm = x0.hbm ∧ (State.queueOrphan x0 x1).sec = x0.sec ∧ (State.queueOrphan x0 x1).owner = x0.owner ∧ (State.queueOrphan x0 x1).tim = x0.tim ∧ (State.queueOrphan x0 x1).pwr = x0.pwr := by
  unfold State.queueOrphan; ((repeat' split) <;> simp)

@[simp] theorem State.dispatch_frame (x0 : State) (x1 : Nat) :
    (State.dispatch x0 x1).pending = x0.pending ∧ (State.dispatch x0 x1).sec = x0.sec ∧ (State.dispatch x0 x1).owner = x0.owner ∧ (State.dispatch x0 x1).tim = x0.tim ∧ (State.dispatch x0 x1).pwr = x0.pwr := by
  unfold State.dispatch; simp; ((repeat' split) <;> simp)

@[simp] theorem State.tickOver_frame (x0 : State) :
    (State.tickOver x0).pending = x0.pending ∧ (State.tickOver x0).hbm = x0.hbm ∧ (State.tickOver x0).sec = x0.sec ∧ (State.tickOver x0).owner = x0.owner ∧ (State.tickOver x0).pwr = x0.pwr := by
  unfold State.tickOver; simp

@[simp] theorem State.tickNow_frame (x0 : State) :
    (State.tickNow x0).pending = x0.pending ∧ (State.tickNow x0).sec = x0.sec ∧ (State.tickNow x0).owner = x0.owner ∧ (State.tickNow x0).pwr = x0.pwr := by
  unfold State.tickNow; simp; ((repeat' split) <;> simp)

@[simp] theorem State.setHalt_frame (x0 : State) (x1 : HaltReq) :
    (State.setHalt x0 x1).pending = x0.pending ∧ (State.setHalt x0 x1).hbm = x0.hbm ∧ (State.setHalt x0 x1).sec = x0.sec ∧ (State.setHalt x0 x1).owner = x0.owner ∧ (State.setHalt x0 x1).tim = x0.tim ∧ (State.setHalt x0 x1).pwr = x0.pwr := by
  unfold State.setHalt; simp

@[simp] theorem State.jobHalt_frame (x0 : State) :
    (State.jobHalt x0).pending = x0.pending ∧ (State.jobHalt x0).hbm = x0.hbm ∧ (State.jobHalt x0).sec = x0.sec ∧ (State.jobHalt x0).owner = x0.owner ∧ (State.jobHalt x0).tim = x0.tim ∧ (State.jobHalt x0).pwr = x0.pwr := by
  unfold State.jobHalt; simp; ((repeat' split) <;> simp)

@[simp] theorem State.jobStarts_frame (x0 : State) :
    (State.jobStarts x0).pending = x0.pending ∧ (State.jobStarts x0).sec = x0.sec ∧ (State.jobStarts x0).owner = x0.owner ∧ (State.jobStarts x0).tim = x0.tim ∧ (State.jobStarts x0).pwr = x0.pwr := by
  unfold State.jobStarts; ((repeat' split) <;> simp)

@[simp] theorem State.pauseNow_frame (x0 : State) :
    (State.pauseNow x0).pending = x0.pending ∧ (State.pauseNow x0).hbm = x0.hbm ∧ (State.pauseNow x0).sec = x0.sec ∧ (State.pauseNow x0).owner = x0.owner ∧ (State.pauseNow x0).tim = x0.tim ∧ (State.pauseNow x0).pwr = x0.pwr := by
  unfold State.pauseNow; ((repeat' split) <;> simp)

@[simp] theorem State.resumeNow_frame (x0 : State) :
    (State.resumeNow x0).pending = x0.pending ∧ (State.resumeNow x0).sec = x0.sec ∧ (State.resumeNow x0).owner = x0.owner ∧ (State.resumeNow x0).tim = x0.tim ∧ (State.resumeNow x0).pwr = x0.pwr := by
  unfold State.resumeNow; ((repeat' split) <;> simp)

@[simp] theorem State.shaleRecord_frame (x0 : State) (x1 : ShaleRecord) :
    (State.shaleRecord x0 x1).pending = x0.pending ∧ (State.shaleRecord x0 x1).hbm = x0.hbm ∧ (State.shaleRecord x0 x1).sec = x0.sec ∧ (State.shaleRecord x0 x1).owner = x0.owner ∧ (State.shaleRecord x0 x1).tim = x0.tim ∧ (State.shaleRecord x0 x1).pwr = x0.pwr := by
  unfold State.shaleRecord; ((repeat' split) <;> simp)

@[simp] theorem State.applyShale_frame (x0 : State) (x1 : (Blk → Nat → Bool)) :
    (State.applyShale x0 x1).pending = x0.pending ∧ (State.applyShale x0 x1).hbm = x0.hbm ∧ (State.applyShale x0 x1).sec = x0.sec ∧ (State.applyShale x0 x1).owner = x0.owner ∧ (State.applyShale x0 x1).tim = x0.tim ∧ (State.applyShale x0 x1).pwr = x0.pwr := by
  unfold State.applyShale; ((repeat' split) <;> simp)

@[simp] theorem State.cfgCause_frame (x0 : State) (x1 : Nat) :
    (State.cfgCause x0 x1).pending = x0.pending ∧ (State.cfgCause x0 x1).hbm = x0.hbm ∧ (State.cfgCause x0 x1).sec = x0.sec ∧ (State.cfgCause x0 x1).owner = x0.owner ∧ (State.cfgCause x0 x1).tim = x0.tim ∧ (State.cfgCause x0 x1).pwr = x0.pwr := by
  unfold State.cfgCause; simp

@[simp] theorem State.chooseShale_frame (x0 : State) :
    (State.chooseShale x0).pending = x0.pending ∧ (State.chooseShale x0).hbm = x0.hbm ∧ (State.chooseShale x0).sec = x0.sec ∧ (State.chooseShale x0).owner = x0.owner ∧ (State.chooseShale x0).tim = x0.tim ∧ (State.chooseShale x0).pwr = x0.pwr := by
  unfold State.chooseShale; simp; ((repeat' split) <;> simp)

@[simp] theorem State.d2dCause_frame (x0 : State) (x1 : LinkId) (x2 : Nat) (x3 : Nat) (x4 : Bool) :
    (State.d2dCause x0 x1 x2 x3 x4).pending = x0.pending ∧ (State.d2dCause x0 x1 x2 x3 x4).hbm = x0.hbm ∧ (State.d2dCause x0 x1 x2 x3 x4).sec = x0.sec ∧ (State.d2dCause x0 x1 x2 x3 x4).owner = x0.owner ∧ (State.d2dCause x0 x1 x2 x3 x4).tim = x0.tim ∧ (State.d2dCause x0 x1 x2 x3 x4).pwr = x0.pwr := by
  unfold State.d2dCause; simp

@[simp] theorem State.setLinkState_frame (x0 : State) (x1 : LinkId) (x2 : LinkState) :
    (State.setLinkState x0 x1 x2).pending = x0.pending ∧ (State.setLinkState x0 x1 x2).hbm = x0.hbm ∧ (State.setLinkState x0 x1 x2).sec = x0.sec ∧ (State.setLinkState x0 x1 x2).owner = x0.owner ∧ (State.setLinkState x0 x1 x2).tim = x0.tim ∧ (State.setLinkState x0 x1 x2).pwr = x0.pwr := by
  unfold State.setLinkState; ((repeat' split) <;> simp)

@[simp] theorem State.linkFall_frame (x0 : State) (x1 : LinkId) :
    (State.linkFall x0 x1).pending = x0.pending ∧ (State.linkFall x0 x1).hbm = x0.hbm ∧ (State.linkFall x0 x1).sec = x0.sec ∧ (State.linkFall x0 x1).owner = x0.owner ∧ (State.linkFall x0 x1).tim = x0.tim ∧ (State.linkFall x0 x1).pwr = x0.pwr := by
  unfold State.linkFall; simp; ((repeat' split) <;> simp)

@[simp] theorem State.pwrCause_frame (x0 : State) (x1 : Nat) (x2 : Nat) (x3 : Nat) :
    (State.pwrCause x0 x1 x2 x3).pending = x0.pending ∧ (State.pwrCause x0 x1 x2 x3).hbm = x0.hbm ∧ (State.pwrCause x0 x1 x2 x3).sec = x0.sec ∧ (State.pwrCause x0 x1 x2 x3).owner = x0.owner ∧ (State.pwrCause x0 x1 x2 x3).tim = x0.tim ∧ (State.pwrCause x0 x1 x2 x3).pwr = x0.pwr := by
  unfold State.pwrCause; simp

@[simp] theorem State.stopStacks_frame (x0 : State) (x1 : DieId) (x2 : Bool) :
    (State.stopStacks x0 x1 x2).pending = x0.pending ∧ (State.stopStacks x0 x1 x2).sec = x0.sec ∧ (State.stopStacks x0 x1 x2).owner = x0.owner ∧ (State.stopStacks x0 x1 x2).tim = x0.tim ∧ (State.stopStacks x0 x1 x2).pwr = x0.pwr := by
  unfold State.stopStacks; ((repeat' split) <;> simp)

@[simp] theorem State.linkQuiet_frame (x0 : State) (x1 : LinkId) :
    (State.linkQuiet x0 x1).pending = x0.pending ∧ (State.linkQuiet x0 x1).hbm = x0.hbm ∧ (State.linkQuiet x0 x1).sec = x0.sec ∧ (State.linkQuiet x0 x1).owner = x0.owner ∧ (State.linkQuiet x0 x1).tim = x0.tim ∧ (State.linkQuiet x0 x1).pwr = x0.pwr := by
  unfold State.linkQuiet; simp

@[simp] theorem State.dropDie_pending (s : State) (d : DieId) (k : Bool) (g : State → LinkId → State)
    (h : ∀ s l, (g s l).pending = s.pending) : (s.dropDie d k g).pending = s.pending := by
  unfold State.dropDie; dsimp only; simp [h]

@[simp] theorem State.dropDie_sec (s : State) (d : DieId) (k : Bool) (g : State → LinkId → State)
    (h : ∀ s l, (g s l).sec = s.sec) : (s.dropDie d k g).sec = s.sec := by
  unfold State.dropDie; dsimp only; simp [h]

@[simp] theorem State.dropDie_owner (s : State) (d : DieId) (k : Bool) (g : State → LinkId → State)
    (h : ∀ s l, (g s l).owner = s.owner) : (s.dropDie d k g).owner = s.owner := by
  unfold State.dropDie; dsimp only; simp [h]

@[simp] theorem State.dropDie_tim (s : State) (d : DieId) (k : Bool) (g : State → LinkId → State)
    (h : ∀ s l, (g s l).tim = s.tim) : (s.dropDie d k g).tim = s.tim := by
  unfold State.dropDie; dsimp only; simp [h]

@[simp] theorem State.dropDie_pwr (s : State) (d : DieId) (k : Bool) (g : State → LinkId → State)
    (h : ∀ s l, (g s l).pwr = s.pwr) : (s.dropDie d k g).pwr = s.pwr := by
  unfold State.dropDie; dsimp only; simp [h]

@[simp] theorem State.isolate_frame (x0 : State) (x1 : DieId) (x2 : Nat) :
    (State.isolate x0 x1 x2).pending = x0.pending ∧ (State.isolate x0 x1 x2).sec = x0.sec ∧ (State.isolate x0 x1 x2).owner = x0.owner ∧ (State.isolate x0 x1 x2).tim = x0.tim ∧ (State.isolate x0 x1 x2).pwr = x0.pwr := by
  unfold State.isolate; dsimp only; and_intros <;> (repeat' split) <;> simp

@[simp] theorem State.bridgeDown_frame (x0 : State) (x1 : LinkId) :
    (State.bridgeDown x0 x1).pending = x0.pending ∧ (State.bridgeDown x0 x1).sec = x0.sec ∧ (State.bridgeDown x0 x1).owner = x0.owner ∧ (State.bridgeDown x0 x1).tim = x0.tim ∧ (State.bridgeDown x0 x1).pwr = x0.pwr := by
  unfold State.bridgeDown; simp; ((repeat' split) <;> simp)

@[simp] theorem State.bridgeTrain_frame (x0 : State) (x1 : LinkId) (x2 : BitVec 16) (x3 : BitVec 16) :
    (State.bridgeTrain x0 x1 x2 x3).pending = x0.pending ∧ (State.bridgeTrain x0 x1 x2 x3).hbm = x0.hbm ∧ (State.bridgeTrain x0 x1 x2 x3).sec = x0.sec ∧ (State.bridgeTrain x0 x1 x2 x3).owner = x0.owner ∧ (State.bridgeTrain x0 x1 x2 x3).tim = x0.tim ∧ (State.bridgeTrain x0 x1 x2 x3).pwr = x0.pwr := by
  unfold State.bridgeTrain; simp; ((repeat' split) <;> simp)

@[simp] theorem State.linkUp_frame (x0 : State) (x1 : LinkId) (x2 : Width) :
    (State.linkUp x0 x1 x2).pending = x0.pending ∧ (State.linkUp x0 x1 x2).hbm = x0.hbm ∧ (State.linkUp x0 x1 x2).sec = x0.sec ∧ (State.linkUp x0 x1 x2).owner = x0.owner ∧ (State.linkUp x0 x1 x2).tim = x0.tim ∧ (State.linkUp x0 x1 x2).pwr = x0.pwr := by
  unfold State.linkUp; ((repeat' split) <;> simp)

@[simp] theorem State.d2dTrain_frame (x0 : State) (x1 : LinkId) (x2 : BitVec 16) (x3 : BitVec 16) :
    (State.d2dTrain x0 x1 x2 x3).pending = x0.pending ∧ (State.d2dTrain x0 x1 x2 x3).hbm = x0.hbm ∧ (State.d2dTrain x0 x1 x2 x3).sec = x0.sec ∧ (State.d2dTrain x0 x1 x2 x3).owner = x0.owner ∧ (State.d2dTrain x0 x1 x2 x3).tim = x0.tim ∧ (State.d2dTrain x0 x1 x2 x3).pwr = x0.pwr := by
  unfold State.d2dTrain; ((repeat' split) <;> simp)

@[simp] theorem State.d2dRetry_frame (x0 : State) (x1 : LinkId) (x2 : BitVec 16) (x3 : BitVec 16) :
    (State.d2dRetry x0 x1 x2 x3).pending = x0.pending ∧ (State.d2dRetry x0 x1 x2 x3).hbm = x0.hbm ∧ (State.d2dRetry x0 x1 x2 x3).sec = x0.sec ∧ (State.d2dRetry x0 x1 x2 x3).owner = x0.owner ∧ (State.d2dRetry x0 x1 x2 x3).tim = x0.tim ∧ (State.d2dRetry x0 x1 x2 x3).pwr = x0.pwr := by
  unfold State.d2dRetry; ((repeat' split) <;> simp)

@[simp] theorem State.sendNew_frame (x0 : State) (x1 : LinkId) :
    (State.sendNew x0 x1).pending = x0.pending ∧ (State.sendNew x0 x1).hbm = x0.hbm ∧ (State.sendNew x0 x1).sec = x0.sec ∧ (State.sendNew x0 x1).owner = x0.owner ∧ (State.sendNew x0 x1).tim = x0.tim ∧ (State.sendNew x0 x1).pwr = x0.pwr := by
  unfold State.sendNew; simp; ((repeat' split) <;> simp)

@[simp] theorem State.sendTurn_frame (x0 : State) (x1 : LinkId) :
    (State.sendTurn x0 x1).pending = x0.pending ∧ (State.sendTurn x0 x1).hbm = x0.hbm ∧ (State.sendTurn x0 x1).sec = x0.sec ∧ (State.sendTurn x0 x1).owner = x0.owner ∧ (State.sendTurn x0 x1).tim = x0.tim ∧ (State.sendTurn x0 x1).pwr = x0.pwr := by
  unfold State.sendTurn; simp; ((repeat' split) <;> simp)

@[simp] theorem State.unitCrcFail_frame (x0 : State) (x1 : LinkId) (x2 : D2dUnit) :
    (State.unitCrcFail x0 x1 x2).pending = x0.pending ∧ (State.unitCrcFail x0 x1 x2).hbm = x0.hbm ∧ (State.unitCrcFail x0 x1 x2).sec = x0.sec ∧ (State.unitCrcFail x0 x1 x2).owner = x0.owner ∧ (State.unitCrcFail x0 x1 x2).tim = x0.tim ∧ (State.unitCrcFail x0 x1 x2).pwr = x0.pwr := by
  unfold State.unitCrcFail; simp; ((repeat' split) <;> simp)

@[simp] theorem State.takeWidth_frame (x0 : State) (x1 : LinkId) (x2 : D2dUnit) :
    (State.takeWidth x0 x1 x2).pending = x0.pending ∧ (State.takeWidth x0 x1 x2).sec = x0.sec ∧ (State.takeWidth x0 x1 x2).owner = x0.owner ∧ (State.takeWidth x0 x1 x2).tim = x0.tim ∧ (State.takeWidth x0 x1 x2).pwr = x0.pwr := by
  unfold State.takeWidth; simp; ((repeat' split) <;> simp)

@[simp] theorem State.widthTimer_frame (x0 : State) (x1 : LinkId) :
    (State.widthTimer x0 x1).pending = x0.pending ∧ (State.widthTimer x0 x1).hbm = x0.hbm ∧ (State.widthTimer x0 x1).sec = x0.sec ∧ (State.widthTimer x0 x1).owner = x0.owner ∧ (State.widthTimer x0 x1).tim = x0.tim ∧ (State.widthTimer x0 x1).pwr = x0.pwr := by
  unfold State.widthTimer; simp; ((repeat' split) <;> simp)

@[simp] theorem State.handshakeTimeout_frame (x0 : State) (x1 : LinkId) :
    (State.handshakeTimeout x0 x1).pending = x0.pending ∧ (State.handshakeTimeout x0 x1).sec = x0.sec ∧ (State.handshakeTimeout x0 x1).owner = x0.owner ∧ (State.handshakeTimeout x0 x1).tim = x0.tim ∧ (State.handshakeTimeout x0 x1).pwr = x0.pwr := by
  unfold State.handshakeTimeout; ((repeat' split) <;> simp)

@[simp] theorem State.clockLost_frame (x0 : State) (x1 : LinkId) :
    (State.clockLost x0 x1).pending = x0.pending ∧ (State.clockLost x0 x1).sec = x0.sec ∧ (State.clockLost x0 x1).owner = x0.owner ∧ (State.clockLost x0 x1).tim = x0.tim ∧ (State.clockLost x0 x1).pwr = x0.pwr := by
  unfold State.clockLost; ((repeat' split) <;> simp)

@[simp] theorem State.linkRetrain_frame (x0 : State) (x1 : LinkId) :
    (State.linkRetrain x0 x1).pending = x0.pending ∧ (State.linkRetrain x0 x1).hbm = x0.hbm ∧ (State.linkRetrain x0 x1).sec = x0.sec ∧ (State.linkRetrain x0 x1).owner = x0.owner ∧ (State.linkRetrain x0 x1).tim = x0.tim ∧ (State.linkRetrain x0 x1).pwr = x0.pwr := by
  unfold State.linkRetrain; simp

@[simp] theorem State.linkRetrainFailed_frame (x0 : State) (x1 : LinkId) :
    (State.linkRetrainFailed x0 x1).pending = x0.pending ∧ (State.linkRetrainFailed x0 x1).sec = x0.sec ∧ (State.linkRetrainFailed x0 x1).owner = x0.owner ∧ (State.linkRetrainFailed x0 x1).tim = x0.tim ∧ (State.linkRetrainFailed x0 x1).pwr = x0.pwr := by
  unfold State.linkRetrainFailed; simp; ((repeat' split) <;> simp)

@[simp] theorem State.linkWantRetrain_frame (x0 : State) (x1 : LinkId) :
    (State.linkWantRetrain x0 x1).pending = x0.pending ∧ (State.linkWantRetrain x0 x1).sec = x0.sec ∧ (State.linkWantRetrain x0 x1).owner = x0.owner ∧ (State.linkWantRetrain x0 x1).tim = x0.tim ∧ (State.linkWantRetrain x0 x1).pwr = x0.pwr := by
  unfold State.linkWantRetrain; ((repeat' split) <;> simp)

@[simp] theorem State.d2dRetrain_frame (x0 : State) (x1 : LinkId) :
    (State.d2dRetrain x0 x1).pending = x0.pending ∧ (State.d2dRetrain x0 x1).hbm = x0.hbm ∧ (State.d2dRetrain x0 x1).sec = x0.sec ∧ (State.d2dRetrain x0 x1).owner = x0.owner ∧ (State.d2dRetrain x0 x1).tim = x0.tim ∧ (State.d2dRetrain x0 x1).pwr = x0.pwr := by
  unfold State.d2dRetrain; ((repeat' split) <;> simp)

@[simp] theorem State.d2dRelockTimeout_frame (x0 : State) (x1 : LinkId) :
    (State.d2dRelockTimeout x0 x1).pending = x0.pending ∧ (State.d2dRelockTimeout x0 x1).sec = x0.sec ∧ (State.d2dRelockTimeout x0 x1).owner = x0.owner ∧ (State.d2dRelockTimeout x0 x1).tim = x0.tim ∧ (State.d2dRelockTimeout x0 x1).pwr = x0.pwr := by
  unfold State.d2dRelockTimeout; ((repeat' split) <;> simp)

@[simp] theorem State.sendMark_frame (x0 : State) (x1 : LinkId) :
    (State.sendMark x0 x1).pending = x0.pending ∧ (State.sendMark x0 x1).hbm = x0.hbm ∧ (State.sendMark x0 x1).sec = x0.sec ∧ (State.sendMark x0 x1).owner = x0.owner ∧ (State.sendMark x0 x1).tim = x0.tim ∧ (State.sendMark x0 x1).pwr = x0.pwr := by
  unfold State.sendMark; simp

@[simp] theorem State.d2dExpiry_frame (x0 : State) (x1 : LinkId) :
    (State.d2dExpiry x0 x1).pending = x0.pending ∧ (State.d2dExpiry x0 x1).sec = x0.sec ∧ (State.d2dExpiry x0 x1).owner = x0.owner ∧ (State.d2dExpiry x0 x1).tim = x0.tim ∧ (State.d2dExpiry x0 x1).pwr = x0.pwr := by
  unfold State.d2dExpiry; simp; ((repeat' split) <;> simp)

@[simp] theorem State.takeUnitAck_frame (x0 : State) (x1 : LinkId) (x2 : Nat) :
    (State.takeUnitAck x0 x1 x2).pending = x0.pending ∧ (State.takeUnitAck x0 x1 x2).sec = x0.sec ∧ (State.takeUnitAck x0 x1 x2).owner = x0.owner ∧ (State.takeUnitAck x0 x1 x2).tim = x0.tim ∧ (State.takeUnitAck x0 x1 x2).pwr = x0.pwr := by
  unfold State.takeUnitAck; simp; ((repeat' split) <;> simp)

@[simp] theorem State.onUnit_pending (s : State) (l : LinkId) (u : D2dUnit) (k : Byte) (g : State → State)
    (h : ∀ s, (g s).pending = s.pending) : (s.onUnit l u k g).pending = s.pending := by
  unfold State.onUnit; (repeat' split) <;> simp [h]

@[simp] theorem State.onUnit_sec (s : State) (l : LinkId) (u : D2dUnit) (k : Byte) (g : State → State)
    (h : ∀ s, (g s).sec = s.sec) : (s.onUnit l u k g).sec = s.sec := by
  unfold State.onUnit; (repeat' split) <;> simp [h]

@[simp] theorem State.onUnit_owner (s : State) (l : LinkId) (u : D2dUnit) (k : Byte) (g : State → State)
    (h : ∀ s, (g s).owner = s.owner) : (s.onUnit l u k g).owner = s.owner := by
  unfold State.onUnit; (repeat' split) <;> simp [h]

@[simp] theorem State.onUnit_tim (s : State) (l : LinkId) (u : D2dUnit) (k : Byte) (g : State → State)
    (h : ∀ s, (g s).tim = s.tim) : (s.onUnit l u k g).tim = s.tim := by
  unfold State.onUnit; (repeat' split) <;> simp [h]

@[simp] theorem State.onUnit_pwr (s : State) (l : LinkId) (u : D2dUnit) (k : Byte) (g : State → State)
    (h : ∀ s, (g s).pwr = s.pwr) : (s.onUnit l u k g).pwr = s.pwr := by
  unfold State.onUnit; (repeat' split) <;> simp [h]

@[simp] theorem State.takeCtrl_frame (x0 : State) (x1 : LinkId) (x2 : D2dUnit) :
    (State.takeCtrl x0 x1 x2).pending = x0.pending ∧ (State.takeCtrl x0 x1 x2).sec = x0.sec ∧ (State.takeCtrl x0 x1 x2).owner = x0.owner ∧ (State.takeCtrl x0 x1 x2).tim = x0.tim ∧ (State.takeCtrl x0 x1 x2).pwr = x0.pwr := by
  unfold State.takeCtrl; dsimp only; and_intros
  · apply State.onUnit_pending; intro s; split <;> simp
  · apply State.onUnit_sec; intro s; split <;> simp
  · apply State.onUnit_owner; intro s; split <;> simp
  · apply State.onUnit_tim; intro s; split <;> simp
  · apply State.onUnit_pwr; intro s; split <;> simp

@[simp] theorem State.takeUnitMark_frame (x0 : State) (x1 : LinkId) (x2 : D2dUnit) :
    (State.takeUnitMark x0 x1 x2).pending = x0.pending ∧ (State.takeUnitMark x0 x1 x2).sec = x0.sec ∧ (State.takeUnitMark x0 x1 x2).owner = x0.owner ∧ (State.takeUnitMark x0 x1 x2).tim = x0.tim ∧ (State.takeUnitMark x0 x1 x2).pwr = x0.pwr := by
  unfold State.takeUnitMark; simp; ((repeat' split) <;> simp)

@[simp] theorem State.takeUnit_frame (x0 : State) (x1 : LinkId) :
    (State.takeUnit x0 x1).pending = x0.pending ∧ (State.takeUnit x0 x1).sec = x0.sec ∧ (State.takeUnit x0 x1).owner = x0.owner ∧ (State.takeUnit x0 x1).tim = x0.tim ∧ (State.takeUnit x0 x1).pwr = x0.pwr := by
  unfold State.takeUnit; simp; ((repeat' split) <;> simp)

@[simp] theorem State.sidebandError_frame (x0 : State) (x1 : LinkId) (x2 : Nat) :
    (State.sidebandError x0 x1 x2).pending = x0.pending ∧ (State.sidebandError x0 x1 x2).sec = x0.sec ∧ (State.sidebandError x0 x1 x2).owner = x0.owner ∧ (State.sidebandError x0 x1 x2).tim = x0.tim ∧ (State.sidebandError x0 x1 x2).pwr = x0.pwr := by
  unfold State.sidebandError; ((repeat' split) <;> simp)

@[simp] theorem State.resetDiePages_frame (x0 : State) (x1 : DieId) :
    (State.resetDiePages x0 x1).pending = x0.pending ∧ (State.resetDiePages x0 x1).hbm = x0.hbm ∧ (State.resetDiePages x0 x1).sec = x0.sec ∧ (State.resetDiePages x0 x1).owner = x0.owner ∧ (State.resetDiePages x0 x1).tim = x0.tim ∧ (State.resetDiePages x0 x1).pwr = x0.pwr := by
  unfold State.resetDiePages; simp

@[simp] theorem State.dieIdFail_frame (x0 : State) (x1 : DieId) :
    (State.dieIdFail x0 x1).pending = x0.pending ∧ (State.dieIdFail x0 x1).sec = x0.sec ∧ (State.dieIdFail x0 x1).owner = x0.owner ∧ (State.dieIdFail x0 x1).tim = x0.tim ∧ (State.dieIdFail x0 x1).pwr = x0.pwr := by
  unfold State.dieIdFail; simp

@[simp] theorem State.testCore_frame (x0 : State) (x1 : CoreId) (x2 : Bool) :
    (State.testCore x0 x1 x2).pending = x0.pending ∧ (State.testCore x0 x1 x2).hbm = x0.hbm ∧ (State.testCore x0 x1 x2).sec = x0.sec ∧ (State.testCore x0 x1 x2).owner = x0.owner ∧ (State.testCore x0 x1 x2).tim = x0.tim ∧ (State.testCore x0 x1 x2).pwr = x0.pwr := by
  unfold State.testCore; simp; ((repeat' split) <;> simp)

@[simp] theorem State.dieUp_frame (x0 : State) (x1 : DieId) :
    (State.dieUp x0 x1).pending = x0.pending ∧ (State.dieUp x0 x1).hbm = x0.hbm ∧ (State.dieUp x0 x1).sec = x0.sec ∧ (State.dieUp x0 x1).owner = x0.owner ∧ (State.dieUp x0 x1).tim = x0.tim ∧ (State.dieUp x0 x1).pwr = x0.pwr := by
  unfold State.dieUp; simp

@[simp] theorem State.startStacks_frame (x0 : State) (x1 : DieId) (x2 : Bool) :
    (State.startStacks x0 x1 x2).pending = x0.pending ∧ (State.startStacks x0 x1 x2).sec = x0.sec ∧ (State.startStacks x0 x1 x2).owner = x0.owner ∧ (State.startStacks x0 x1 x2).tim = x0.tim ∧ (State.startStacks x0 x1 x2).pwr = x0.pwr := by
  unfold State.startStacks; simp; ((repeat' split) <;> simp)

@[simp] theorem State.stackFails_frame (x0 : State) (x1 : DieId) (x2 : List (Fin 4)) :
    (State.stackFails x0 x1 x2).pending = x0.pending ∧ (State.stackFails x0 x1 x2).sec = x0.sec ∧ (State.stackFails x0 x1 x2).owner = x0.owner ∧ (State.stackFails x0 x1 x2).tim = x0.tim ∧ (State.stackFails x0 x1 x2).pwr = x0.pwr := by
  unfold State.stackFails; simp; ((repeat' split) <;> simp)

@[simp] theorem State.trainOwn_frame (x0 : State) (x1 : DieId) (x2 : DieBringUp) :
    (State.trainOwn x0 x1 x2).2.pending = x0.pending ∧ (State.trainOwn x0 x1 x2).2.hbm = x0.hbm ∧ (State.trainOwn x0 x1 x2).2.sec = x0.sec ∧ (State.trainOwn x0 x1 x2).2.owner = x0.owner ∧ (State.trainOwn x0 x1 x2).2.tim = x0.tim ∧ (State.trainOwn x0 x1 x2).2.pwr = x0.pwr := by
  unfold State.trainOwn; simp

@[simp] theorem State.bringUp_frame (x0 : State) (x1 : DieId) (x2 : DieBringUp) (x3 : Bool) :
    (State.bringUp x0 x1 x2 x3).2.pending = x0.pending ∧ (State.bringUp x0 x1 x2 x3).2.sec = x0.sec ∧ (State.bringUp x0 x1 x2 x3).2.owner = x0.owner ∧ (State.bringUp x0 x1 x2 x3).2.tim = x0.tim ∧ (State.bringUp x0 x1 x2 x3).2.pwr = x0.pwr := by
  unfold State.bringUp; (try dsimp only); (repeat' split); all_goals (try and_intros); all_goals (try simp); all_goals (repeat (first | rw [State.each_pending] | rw [State.each_hbm] | rw [State.each_sec] | rw [State.each_owner] | rw [State.each_tim] | rw [State.each_pwr])); all_goals (try intros); all_goals ((repeat' split) <;> (first | rfl | simp))

@[simp] theorem State.dieReset_frame (x0 : State) (x1 : DieId) :
    (State.dieReset x0 x1).pending = x0.pending ∧ (State.dieReset x0 x1).sec = x0.sec ∧ (State.dieReset x0 x1).owner = x0.owner ∧ (State.dieReset x0 x1).tim = x0.tim ∧ (State.dieReset x0 x1).pwr = x0.pwr := by
  unfold State.dieReset; simp

@[simp] theorem State.dieResetDone_frame (x0 : State) (x1 : DieId) (x2 : DieBringUp) :
    (State.dieResetDone x0 x1 x2).pending = x0.pending ∧ (State.dieResetDone x0 x1 x2).sec = x0.sec ∧ (State.dieResetDone x0 x1 x2).owner = x0.owner ∧ (State.dieResetDone x0 x1 x2).tim = x0.tim ∧ (State.dieResetDone x0 x1 x2).pwr = x0.pwr := by
  unfold State.dieResetDone; simp; ((repeat' split) <;> simp)

@[simp] theorem State.clearWords_frame (x0 : State) (x1 : Blk) (x2 : List Nat) :
    (State.clearWords x0 x1 x2).pending = x0.pending ∧ (State.clearWords x0 x1 x2).hbm = x0.hbm ∧ (State.clearWords x0 x1 x2).sec = x0.sec ∧ (State.clearWords x0 x1 x2).owner = x0.owner ∧ (State.clearWords x0 x1 x2).tim = x0.tim ∧ (State.clearWords x0 x1 x2).pwr = x0.pwr := by
  unfold State.clearWords; simp

@[simp] theorem State.setMeas_frame (x0 : State) (x1 : Nat) (x2 : List Byte) :
    (State.setMeas x0 x1 x2).pending = x0.pending ∧ (State.setMeas x0 x1 x2).hbm = x0.hbm ∧ (State.setMeas x0 x1 x2).owner = x0.owner ∧ (State.setMeas x0 x1 x2).tim = x0.tim ∧ (State.setMeas x0 x1 x2).pwr = x0.pwr := by
  unfold State.setMeas; simp

@[simp] theorem State.clearEffects_frame (x0 : State) (x1 : Bool) :
    (State.clearEffects x0 x1).pending = x0.pending ∧ (State.clearEffects x0 x1).owner = x0.owner ∧ (State.clearEffects x0 x1).tim = x0.tim ∧ (State.clearEffects x0 x1).pwr = x0.pwr := by
  unfold State.clearEffects; ((repeat' split) <;> simp)

@[simp] theorem State.clearJob_frame (x0 : State) (x1 : Bool) :
    (State.clearJob x0 x1).pending = x0.pending ∧ (State.clearJob x0 x1).owner = x0.owner ∧ (State.clearJob x0 x1).tim = x0.tim ∧ (State.clearJob x0 x1).pwr = x0.pwr := by
  unfold State.clearJob; simp

@[simp] theorem State.clearDone_frame (x0 : State) :
    (State.clearDone x0).pending = x0.pending ∧ (State.clearDone x0).hbm = x0.hbm ∧ (State.clearDone x0).sec = x0.sec ∧ (State.clearDone x0).owner = x0.owner ∧ (State.clearDone x0).tim = x0.tim ∧ (State.clearDone x0).pwr = x0.pwr := by
  unfold State.clearDone; ((repeat' split) <;> simp)

@[simp] theorem State.fetchErr_frame (x0 : State) (x1 : Nat) :
    (State.fetchErr x0 x1).pending = x0.pending ∧ (State.fetchErr x0 x1).hbm = x0.hbm ∧ (State.fetchErr x0 x1).sec = x0.sec ∧ (State.fetchErr x0 x1).owner = x0.owner ∧ (State.fetchErr x0 x1).tim = x0.tim ∧ (State.fetchErr x0 x1).pwr = x0.pwr := by
  unfold State.fetchErr; simp; ((repeat' split) <;> simp)

@[simp] theorem State.fetchBlock_frame (x0 : List HostBlock) (x1 : HostId) (x2 : Nat) (x3 : Nat) (x4 : Nat) (x5 : State) :
    (State.fetchBlock x0 x1 x2 x3 x4 x5).pending = x5.pending ∧ (State.fetchBlock x0 x1 x2 x3 x4 x5).sec = x5.sec ∧ (State.fetchBlock x0 x1 x2 x3 x4 x5).owner = x5.owner ∧ (State.fetchBlock x0 x1 x2 x3 x4 x5).tim = x5.tim ∧ (State.fetchBlock x0 x1 x2 x3 x4 x5).pwr = x5.pwr := by
  unfold State.fetchBlock; simp; ((repeat' split) <;> simp)

@[simp] theorem State.fetchDone_frame (x0 : State) (x1 : List HostBlock) :
    (State.fetchDone x0 x1).pending = x0.pending ∧ (State.fetchDone x0 x1).sec = x0.sec ∧ (State.fetchDone x0 x1).owner = x0.owner ∧ (State.fetchDone x0 x1).tim = x0.tim ∧ (State.fetchDone x0 x1).pwr = x0.pwr := by
  unfold State.fetchDone; ((repeat' split) <;> simp)

@[simp] theorem State.secCause_frame (x0 : State) (x1 : Nat) (x2 : Nat) :
    (State.secCause x0 x1 x2).pending = x0.pending ∧ (State.secCause x0 x1 x2).hbm = x0.hbm ∧ (State.secCause x0 x1 x2).sec = x0.sec ∧ (State.secCause x0 x1 x2).owner = x0.owner ∧ (State.secCause x0 x1 x2).tim = x0.tim ∧ (State.secCause x0 x1 x2).pwr = x0.pwr := by
  unfold State.secCause; simp

@[simp] theorem State.spFault_frame (x0 : State) :
    (State.spFault x0).pending = x0.pending ∧ (State.spFault x0).hbm = x0.hbm ∧ (State.spFault x0).sec = x0.sec ∧ (State.spFault x0).owner = x0.owner ∧ (State.spFault x0).tim = x0.tim ∧ (State.spFault x0).pwr = x0.pwr := by
  unfold State.spFault; simp

@[simp] theorem State.modSec_frame (x0 : State) (x1 : (Sec → Sec)) :
    (State.modSec x0 x1).pending = x0.pending ∧ (State.modSec x0 x1).hbm = x0.hbm ∧ (State.modSec x0 x1).owner = x0.owner ∧ (State.modSec x0 x1).tim = x0.tim ∧ (State.modSec x0 x1).pwr = x0.pwr := by
  unfold State.modSec; simp

@[simp] theorem State.measure_frame (x0 : State) (x1 : Nat) (x2 : List Byte) :
    (State.measure x0 x1 x2).pending = x0.pending ∧ (State.measure x0 x1 x2).hbm = x0.hbm ∧ (State.measure x0 x1 x2).owner = x0.owner ∧ (State.measure x0 x1 x2).tim = x0.tim ∧ (State.measure x0 x1 x2).pwr = x0.pwr := by
  unfold State.measure; simp

@[simp] theorem State.measureLife_frame (x0 : State) :
    (State.measureLife x0).pending = x0.pending ∧ (State.measureLife x0).hbm = x0.hbm ∧ (State.measureLife x0).owner = x0.owner ∧ (State.measureLife x0).tim = x0.tim ∧ (State.measureLife x0).pwr = x0.pwr := by
  unfold State.measureLife; simp

@[simp] theorem State.measureLevel_frame (x0 : State) (x1 : List Byte) :
    (State.measureLevel x0 x1).pending = x0.pending ∧ (State.measureLevel x0 x1).hbm = x0.hbm ∧ (State.measureLevel x0 x1).owner = x0.owner ∧ (State.measureLevel x0 x1).tim = x0.tim ∧ (State.measureLevel x0 x1).pwr = x0.pwr := by
  unfold State.measureLevel; simp

@[simp] theorem State.bootFirmware_frame (x0 : State) :
    (State.bootFirmware x0).2.pending = x0.pending ∧ (State.bootFirmware x0).2.hbm = x0.hbm ∧ (State.bootFirmware x0).2.owner = x0.owner ∧ (State.bootFirmware x0).2.tim = x0.tim ∧ (State.bootFirmware x0).2.pwr = x0.pwr := by
  unfold State.bootFirmware; simp; ((repeat' split) <;> simp)

@[simp] theorem State.deriveIdentity_frame (x0 : State) :
    (State.deriveIdentity x0).pending = x0.pending ∧ (State.deriveIdentity x0).hbm = x0.hbm ∧ (State.deriveIdentity x0).owner = x0.owner ∧ (State.deriveIdentity x0).tim = x0.tim ∧ (State.deriveIdentity x0).pwr = x0.pwr := by
  unfold State.deriveIdentity; simp

@[simp] theorem State.releaseCores_frame (x0 : State) :
    (State.releaseCores x0).pending = x0.pending ∧ (State.releaseCores x0).hbm = x0.hbm ∧ (State.releaseCores x0).sec = x0.sec ∧ (State.releaseCores x0).owner = x0.owner ∧ (State.releaseCores x0).tim = x0.tim ∧ (State.releaseCores x0).pwr = x0.pwr := by
  unfold State.releaseCores; simp

@[simp] theorem State.setLevel_frame (x0 : State) (x1 : Nat) (x2 : List Byte) :
    (State.setLevel x0 x1 x2).pending = x0.pending ∧ (State.setLevel x0 x1 x2).hbm = x0.hbm ∧ (State.setLevel x0 x1 x2).owner = x0.owner ∧ (State.setLevel x0 x1 x2).tim = x0.tim ∧ (State.setLevel x0 x1 x2).pwr = x0.pwr := by
  unfold State.setLevel; simp; ((repeat' split) <;> simp)

@[simp] theorem State.relock_frame (x0 : State) :
    (State.relock x0).pending = x0.pending ∧ (State.relock x0).hbm = x0.hbm ∧ (State.relock x0).owner = x0.owner ∧ (State.relock x0).tim = x0.tim ∧ (State.relock x0).pwr = x0.pwr := by
  unfold State.relock; simp

@[simp] theorem State.startZero_frame (x0 : State) (x1 : Nat) :
    (State.startZero x0 x1).pending = x0.pending ∧ (State.startZero x0 x1).owner = x0.owner ∧ (State.startZero x0 x1).tim = x0.tim ∧ (State.startZero x0 x1).pwr = x0.pwr := by
  unfold State.startZero; simp; ((repeat' split) <;> simp)

@[simp] theorem State.setMail_frame (x0 : State) (x1 : Carrier) (x2 : Mail) :
    (State.setMail x0 x1 x2).pending = x0.pending ∧ (State.setMail x0 x1 x2).hbm = x0.hbm ∧ (State.setMail x0 x1 x2).owner = x0.owner ∧ (State.setMail x0 x1 x2).tim = x0.tim ∧ (State.setMail x0 x1 x2).pwr = x0.pwr := by
  unfold State.setMail; ((repeat' split) <;> simp)

@[simp] theorem State.answer_frame (x0 : State) (x1 : Carrier) (x2 : Reply) :
    (State.answer x0 x1 x2).pending = x0.pending ∧ (State.answer x0 x1 x2).hbm = x0.hbm ∧ (State.answer x0 x1 x2).owner = x0.owner ∧ (State.answer x0 x1 x2).tim = x0.tim ∧ (State.answer x0 x1 x2).pwr = x0.pwr := by
  unfold State.answer; simp

@[simp] theorem State.onCarrier_pending (s : State) (k : Carrier) (n : Nat) (g : State → State)
    (h : ∀ s, (g s).pending = s.pending) : (s.onCarrier k n g).pending = s.pending := by
  unfold State.onCarrier; (repeat' split) <;> simp [h]

@[simp] theorem State.onCarrier_hbm (s : State) (k : Carrier) (n : Nat) (g : State → State)
    (h : ∀ s, (g s).hbm = s.hbm) : (s.onCarrier k n g).hbm = s.hbm := by
  unfold State.onCarrier; (repeat' split) <;> simp [h]

@[simp] theorem State.onCarrier_owner (s : State) (k : Carrier) (n : Nat) (g : State → State)
    (h : ∀ s, (g s).owner = s.owner) : (s.onCarrier k n g).owner = s.owner := by
  unfold State.onCarrier; (repeat' split) <;> simp [h]

@[simp] theorem State.onCarrier_tim (s : State) (k : Carrier) (n : Nat) (g : State → State)
    (h : ∀ s, (g s).tim = s.tim) : (s.onCarrier k n g).tim = s.tim := by
  unfold State.onCarrier; (repeat' split) <;> simp [h]

@[simp] theorem State.onCarrier_pwr (s : State) (k : Carrier) (n : Nat) (g : State → State)
    (h : ∀ s, (g s).pwr = s.pwr) : (s.onCarrier k n g).pwr = s.pwr := by
  unfold State.onCarrier; (repeat' split) <;> simp [h]

@[simp] theorem State.withIdentity_pending (s : State) (k : Carrier) (n : Nat) (g : State → State)
    (h : ∀ s, (g s).pending = s.pending) : (s.withIdentity k n g).pending = s.pending := by
  unfold State.withIdentity; apply State.onCarrier_pending; intro s; split <;> simp [h]

@[simp] theorem State.withIdentity_hbm (s : State) (k : Carrier) (n : Nat) (g : State → State)
    (h : ∀ s, (g s).hbm = s.hbm) : (s.withIdentity k n g).hbm = s.hbm := by
  unfold State.withIdentity; apply State.onCarrier_hbm; intro s; split <;> simp [h]

@[simp] theorem State.withIdentity_owner (s : State) (k : Carrier) (n : Nat) (g : State → State)
    (h : ∀ s, (g s).owner = s.owner) : (s.withIdentity k n g).owner = s.owner := by
  unfold State.withIdentity; apply State.onCarrier_owner; intro s; split <;> simp [h]

@[simp] theorem State.withIdentity_tim (s : State) (k : Carrier) (n : Nat) (g : State → State)
    (h : ∀ s, (g s).tim = s.tim) : (s.withIdentity k n g).tim = s.tim := by
  unfold State.withIdentity; apply State.onCarrier_tim; intro s; split <;> simp [h]

@[simp] theorem State.withIdentity_pwr (s : State) (k : Carrier) (n : Nat) (g : State → State)
    (h : ∀ s, (g s).pwr = s.pwr) : (s.withIdentity k n g).pwr = s.pwr := by
  unfold State.withIdentity; apply State.onCarrier_pwr; intro s; split <;> simp [h]

@[simp] theorem State.getIdentity_frame (x0 : State) (x1 : Carrier) :
    (State.getIdentity x0 x1).pending = x0.pending ∧ (State.getIdentity x0 x1).hbm = x0.hbm ∧ (State.getIdentity x0 x1).owner = x0.owner ∧ (State.getIdentity x0 x1).tim = x0.tim ∧ (State.getIdentity x0 x1).pwr = x0.pwr := by
  unfold State.getIdentity
  and_intros
  · apply State.withIdentity_pending; intro s; simp
  · apply State.withIdentity_hbm; intro s; simp
  · apply State.withIdentity_owner; intro s; simp
  · apply State.withIdentity_tim; intro s; simp
  · apply State.withIdentity_pwr; intro s; simp

@[simp] theorem State.getReport_frame (x0 : State) (x1 : Carrier) (x2 : List Byte) :
    (State.getReport x0 x1 x2).pending = x0.pending ∧ (State.getReport x0 x1 x2).hbm = x0.hbm ∧ (State.getReport x0 x1 x2).owner = x0.owner ∧ (State.getReport x0 x1 x2).tim = x0.tim ∧ (State.getReport x0 x1 x2).pwr = x0.pwr := by
  unfold State.getReport
  and_intros
  · apply State.withIdentity_pending; intro s; dsimp only; split <;> simp
  · apply State.withIdentity_hbm; intro s; dsimp only; split <;> simp
  · apply State.withIdentity_owner; intro s; dsimp only; split <;> simp
  · apply State.withIdentity_tim; intro s; dsimp only; split <;> simp
  · apply State.withIdentity_pwr; intro s; dsimp only; split <;> simp

@[simp] theorem State.extend_frame (x0 : State) (x1 : Carrier) (x2 : Nat) (x3 : List Byte) :
    (State.extend x0 x1 x2 x3).pending = x0.pending ∧ (State.extend x0 x1 x2 x3).hbm = x0.hbm ∧ (State.extend x0 x1 x2 x3).owner = x0.owner ∧ (State.extend x0 x1 x2 x3).tim = x0.tim ∧ (State.extend x0 x1 x2 x3).pwr = x0.pwr := by
  unfold State.extend
  and_intros
  · apply State.onCarrier_pending; intro s; (repeat' split) <;> simp
  · apply State.onCarrier_hbm; intro s; (repeat' split) <;> simp
  · apply State.onCarrier_owner; intro s; (repeat' split) <;> simp
  · apply State.onCarrier_tim; intro s; (repeat' split) <;> simp
  · apply State.onCarrier_pwr; intro s; (repeat' split) <;> simp

@[simp] theorem State.getChallenge_frame (x0 : State) (x1 : Carrier) :
    (State.getChallenge x0 x1).pending = x0.pending ∧ (State.getChallenge x0 x1).hbm = x0.hbm ∧ (State.getChallenge x0 x1).owner = x0.owner ∧ (State.getChallenge x0 x1).tim = x0.tim ∧ (State.getChallenge x0 x1).pwr = x0.pwr := by
  unfold State.getChallenge
  and_intros
  · apply State.onCarrier_pending; intro s; simp
  · apply State.onCarrier_hbm; intro s; simp
  · apply State.onCarrier_owner; intro s; simp
  · apply State.onCarrier_tim; intro s; simp
  · apply State.onCarrier_pwr; intro s; simp

@[simp] theorem State.nonceExpiry_frame (x0 : State) :
    (State.nonceExpiry x0).pending = x0.pending ∧ (State.nonceExpiry x0).hbm = x0.hbm ∧ (State.nonceExpiry x0).owner = x0.owner ∧ (State.nonceExpiry x0).tim = x0.tim ∧ (State.nonceExpiry x0).pwr = x0.pwr := by
  unfold State.nonceExpiry; simp

@[simp] theorem State.tokenResult_frame (x0 : State) (x1 : Option Carrier) (x2 : Nat) :
    (State.tokenResult x0 x1 x2).pending = x0.pending ∧ (State.tokenResult x0 x1 x2).hbm = x0.hbm ∧ (State.tokenResult x0 x1 x2).owner = x0.owner ∧ (State.tokenResult x0 x1 x2).tim = x0.tim ∧ (State.tokenResult x0 x1 x2).pwr = x0.pwr := by
  unfold State.tokenResult; ((repeat' split) <;> simp)

@[simp] theorem State.tokenAccepted_frame (x0 : State) (x1 : Option Carrier) (x2 : Token) :
    (State.tokenAccepted x0 x1 x2).pending = x0.pending ∧ (State.tokenAccepted x0 x1 x2).hbm = x0.hbm ∧ (State.tokenAccepted x0 x1 x2).owner = x0.owner ∧ (State.tokenAccepted x0 x1 x2).tim = x0.tim ∧ (State.tokenAccepted x0 x1 x2).pwr = x0.pwr := by
  unfold State.tokenAccepted; simp

@[simp] theorem State.enterControl_frame (x0 : State) (x1 : Token) :
    (State.enterControl x0 x1).pending = x0.pending ∧ (State.enterControl x0 x1).hbm = x0.hbm ∧ (State.enterControl x0 x1).owner = x0.owner ∧ (State.enterControl x0 x1).tim = x0.tim ∧ (State.enterControl x0 x1).pwr = x0.pwr := by
  unfold State.enterControl; simp

@[simp] theorem State.submitToken_frame (x0 : State) (x1 : Carrier) (x2 : Token) (x3 : Bool) :
    (State.submitToken x0 x1 x2 x3).pending = x0.pending ∧ (State.submitToken x0 x1 x2 x3).owner = x0.owner ∧ (State.submitToken x0 x1 x2 x3).tim = x0.tim ∧ (State.submitToken x0 x1 x2 x3).pwr = x0.pwr := by
  unfold State.submitToken
  and_intros
  · apply State.onCarrier_pending; intro s; dsimp only; (repeat' split) <;> simp
  · apply State.onCarrier_owner; intro s; dsimp only; (repeat' split) <;> simp
  · apply State.onCarrier_tim; intro s; dsimp only; (repeat' split) <;> simp
  · apply State.onCarrier_pwr; intro s; dsimp only; (repeat' split) <;> simp

@[simp] theorem State.enterLife_frame (x0 : State) (x1 : Token) :
    (State.enterLife x0 x1).pending = x0.pending ∧ (State.enterLife x0 x1).hbm = x0.hbm ∧ (State.enterLife x0 x1).owner = x0.owner ∧ (State.enterLife x0 x1).tim = x0.tim ∧ (State.enterLife x0 x1).pwr = x0.pwr := by
  unfold State.enterLife; simp

@[simp] theorem State.finishToken_frame (x0 : State) (x1 : Option Carrier × Token × Bool) :
    (State.finishToken x0 x1).pending = x0.pending ∧ (State.finishToken x0 x1).hbm = x0.hbm ∧ (State.finishToken x0 x1).owner = x0.owner ∧ (State.finishToken x0 x1).tim = x0.tim ∧ (State.finishToken x0 x1).pwr = x0.pwr := by
  unfold State.finishToken; simp; ((repeat' split) <;> simp)

@[simp] theorem State.zeroDone_frame (x0 : State) :
    (State.zeroDone x0).pending = x0.pending ∧ (State.zeroDone x0).hbm = x0.hbm ∧ (State.zeroDone x0).owner = x0.owner ∧ (State.zeroDone x0).tim = x0.tim ∧ (State.zeroDone x0).pwr = x0.pwr := by
  unfold State.zeroDone; ((repeat' split) <;> simp)

@[simp] theorem State.doeAbort_frame (x0 : State) (x1 : HostId) :
    (State.doeAbort x0 x1).pending = x0.pending ∧ (State.doeAbort x0 x1).hbm = x0.hbm ∧ (State.doeAbort x0 x1).owner = x0.owner ∧ (State.doeAbort x0 x1).tim = x0.tim ∧ (State.doeAbort x0 x1).pwr = x0.pwr := by
  unfold State.doeAbort; simp

@[simp] theorem State.responseReady_frame (x0 : State) (x1 : Carrier) :
    (State.responseReady x0 x1).pending = x0.pending ∧ (State.responseReady x0 x1).hbm = x0.hbm ∧ (State.responseReady x0 x1).owner = x0.owner ∧ (State.responseReady x0 x1).tim = x0.tim ∧ (State.responseReady x0 x1).pwr = x0.pwr := by
  unfold State.responseReady; simp; ((repeat' split) <;> simp)

@[simp] theorem State.setNext_frame (x0 : State) (x1 : List Byte) :
    (State.setNext x0 x1).pending = x0.pending ∧ (State.setNext x0 x1).hbm = x0.hbm ∧ (State.setNext x0 x1).sec = x0.sec ∧ (State.setNext x0 x1).owner = x0.owner ∧ (State.setNext x0 x1).tim = x0.tim ∧ (State.setNext x0 x1).pwr = x0.pwr := by
  unfold State.setNext; simp

@[simp] theorem State.msgWrite_frame (x0 : State) (x1 : Nat) (x2 : List Byte) :
    (State.msgWrite x0 x1 x2).pending = x0.pending ∧ (State.msgWrite x0 x1 x2).hbm = x0.hbm ∧ (State.msgWrite x0 x1 x2).sec = x0.sec ∧ (State.msgWrite x0 x1 x2).owner = x0.owner ∧ (State.msgWrite x0 x1 x2).tim = x0.tim ∧ (State.msgWrite x0 x1 x2).pwr = x0.pwr := by
  unfold State.msgWrite; ((repeat' split) <;> simp)

@[simp] theorem State.msgSubmit_frame (x0 : State) :
    (State.msgSubmit x0).pending = x0.pending ∧ (State.msgSubmit x0).owner = x0.owner ∧ (State.msgSubmit x0).tim = x0.tim ∧ (State.msgSubmit x0).pwr = x0.pwr := by
  unfold State.msgSubmit; simp; ((repeat' split) <;> simp)

@[simp] theorem State.msgRead_frame (x0 : State) (x1 : Nat) :
    (State.msgRead x0 x1).pending = x0.pending ∧ (State.msgRead x0 x1).hbm = x0.hbm ∧ (State.msgRead x0 x1).sec = x0.sec ∧ (State.msgRead x0 x1).owner = x0.owner ∧ (State.msgRead x0 x1).tim = x0.tim ∧ (State.msgRead x0 x1).pwr = x0.pwr := by
  unfold State.msgRead; ((repeat' split) <;> simp)

@[simp] theorem State.msgState_frame (x0 : State) :
    (State.msgState x0).pending = x0.pending ∧ (State.msgState x0).hbm = x0.hbm ∧ (State.msgState x0).sec = x0.sec ∧ (State.msgState x0).owner = x0.owner ∧ (State.msgState x0).tim = x0.tim ∧ (State.msgState x0).pwr = x0.pwr := by
  unfold State.msgState; ((repeat' split) <;> simp)

@[simp] theorem State.fwUpdateDone_frame (x0 : State) (x1 : Option FwImage) (x2 : Bool) :
    (State.fwUpdateDone x0 x1 x2).pending = x0.pending ∧ (State.fwUpdateDone x0 x1 x2).hbm = x0.hbm ∧ (State.fwUpdateDone x0 x1 x2).owner = x0.owner ∧ (State.fwUpdateDone x0 x1 x2).tim = x0.tim ∧ (State.fwUpdateDone x0 x1 x2).pwr = x0.pwr := by
  unfold State.fwUpdateDone; simp; ((repeat' split) <;> simp)

@[simp] theorem State.shaleUpdateDone_frame (x0 : State) (x1 : Option ShaleImage) (x2 : Bool) :
    (State.shaleUpdateDone x0 x1 x2).pending = x0.pending ∧ (State.shaleUpdateDone x0 x1 x2).hbm = x0.hbm ∧ (State.shaleUpdateDone x0 x1 x2).owner = x0.owner ∧ (State.shaleUpdateDone x0 x1 x2).tim = x0.tim ∧ (State.shaleUpdateDone x0 x1 x2).pwr = x0.pwr := by
  unfold State.shaleUpdateDone; simp; ((repeat' split) <;> simp)

@[simp] theorem State.modPwr_frame (x0 : State) (x1 : (Pwr → Pwr)) :
    (State.modPwr x0 x1).pending = x0.pending ∧ (State.modPwr x0 x1).hbm = x0.hbm ∧ (State.modPwr x0 x1).sec = x0.sec ∧ (State.modPwr x0 x1).owner = x0.owner ∧ (State.modPwr x0 x1).tim = x0.tim := by
  unfold State.modPwr; simp

@[simp] theorem State.telemetry_frame (x0 : State) (x1 : DieId) (x2 : DieTelemetry) :
    (State.telemetry x0 x1 x2).pending = x0.pending ∧ (State.telemetry x0 x1 x2).hbm = x0.hbm ∧ (State.telemetry x0 x1 x2).sec = x0.sec ∧ (State.telemetry x0 x1 x2).owner = x0.owner ∧ (State.telemetry x0 x1 x2).tim = x0.tim ∧ (State.telemetry x0 x1 x2).pwr = x0.pwr := by
  unfold State.telemetry; (try dsimp only); (repeat' split); all_goals (try and_intros); all_goals (try simp); all_goals (repeat (first | rw [State.each_pending] | rw [State.each_hbm] | rw [State.each_sec] | rw [State.each_owner] | rw [State.each_tim] | rw [State.each_pwr])); all_goals (try intros); all_goals ((repeat' split) <;> (first | rfl | simp))

@[simp] theorem State.missed_frame (x0 : State) (x1 : DieId) :
    (State.missed x0 x1).pending = x0.pending ∧ (State.missed x0 x1).sec = x0.sec ∧ (State.missed x0 x1).owner = x0.owner ∧ (State.missed x0 x1).tim = x0.tim ∧ (State.missed x0 x1).pwr = x0.pwr := by
  unfold State.missed; simp; ((repeat' split) <;> simp)

@[simp] theorem State.hearDie_frame (x0 : State) (x1 : DieId) :
    (State.hearDie x0 x1).pending = x0.pending ∧ (State.hearDie x0 x1).sec = x0.sec ∧ (State.hearDie x0 x1).owner = x0.owner ∧ (State.hearDie x0 x1).tim = x0.tim ∧ (State.hearDie x0 x1).pwr = x0.pwr := by
  unfold State.hearDie; simp; ((repeat' split) <;> simp)

@[simp] theorem State.putReadings_frame (x0 : State) (x1 : PowerReadings) :
    (State.putReadings x0 x1).pending = x0.pending ∧ (State.putReadings x0 x1).hbm = x0.hbm ∧ (State.putReadings x0 x1).sec = x0.sec ∧ (State.putReadings x0 x1).owner = x0.owner ∧ (State.putReadings x0 x1).tim = x0.tim ∧ (State.putReadings x0 x1).pwr = x0.pwr := by
  unfold State.putReadings; simp; ((repeat' split) <;> simp)

@[simp] theorem State.setMhz_frame (x0 : State) (x1 : DieId) (x2 : Nat) :
    (State.setMhz x0 x1 x2).pending = x0.pending ∧ (State.setMhz x0 x1 x2).hbm = x0.hbm ∧ (State.setMhz x0 x1 x2).sec = x0.sec ∧ (State.setMhz x0 x1 x2).owner = x0.owner ∧ (State.setMhz x0 x1 x2).tim = x0.tim ∧ (State.setMhz x0 x1 x2).pwr = x0.pwr := by
  unfold State.setMhz; ((repeat' split) <;> simp)

@[simp] theorem State.stepDie_frame (x0 : State) (x1 : DieId) (x2 : Bool) (x3 : Bool) :
    (State.stepDie x0 x1 x2 x3).2.pending = x0.pending ∧ (State.stepDie x0 x1 x2 x3).2.hbm = x0.hbm ∧ (State.stepDie x0 x1 x2 x3).2.sec = x0.sec ∧ (State.stepDie x0 x1 x2 x3).2.owner = x0.owner ∧ (State.stepDie x0 x1 x2 x3).2.tim = x0.tim ∧ (State.stepDie x0 x1 x2 x3).2.pwr = x0.pwr := by
  unfold State.stepDie; simp; ((repeat' split) <;> simp)

@[simp] theorem State.avsRetry_frame (x0 : State) (x1 : List (Fin 5)) :
    (State.avsRetry x0 x1).pending = x0.pending ∧ (State.avsRetry x0 x1).hbm = x0.hbm ∧ (State.avsRetry x0 x1).sec = x0.sec ∧ (State.avsRetry x0 x1).owner = x0.owner ∧ (State.avsRetry x0 x1).tim = x0.tim ∧ (State.avsRetry x0 x1).pwr = x0.pwr := by
  unfold State.avsRetry; simp

@[simp] theorem State.stepDies_frame (a b : Bool) (l : List DieId) (r : Bool × State) :
    (State.stepDies a b l r).2.pending = r.2.pending ∧ (State.stepDies a b l r).2.hbm = r.2.hbm ∧ (State.stepDies a b l r).2.sec = r.2.sec ∧ (State.stepDies a b l r).2.owner = r.2.owner ∧ (State.stepDies a b l r).2.tim = r.2.tim ∧ (State.stepDies a b l r).2.pwr = r.2.pwr := by
  induction l generalizing r with
  | nil => simp [State.stepDies]
  | cons d l ih => unfold State.stepDies; dsimp only; simp [ih]

@[simp] theorem State.controlStep_frame (x0 : State) (x1 : PowerReadings) :
    (State.controlStep x0 x1).pending = x0.pending ∧ (State.controlStep x0 x1).sec = x0.sec ∧ (State.controlStep x0 x1).owner = x0.owner ∧ (State.controlStep x0 x1).tim = x0.tim := by
  unfold State.controlStep; dsimp only
  generalize allFin 4 = l
  and_intros <;> (repeat' split) <;> simp

@[simp] theorem State.voltageAck_frame (x0 : State) (x1 : DieId) :
    (State.voltageAck x0 x1).pending = x0.pending ∧ (State.voltageAck x0 x1).hbm = x0.hbm ∧ (State.voltageAck x0 x1).sec = x0.sec ∧ (State.voltageAck x0 x1).owner = x0.owner ∧ (State.voltageAck x0 x1).tim = x0.tim ∧ (State.voltageAck x0 x1).pwr = x0.pwr := by
  unfold State.voltageAck; ((repeat' split) <;> simp)

@[simp] theorem State.forceThrottle_frame (x0 : State) :
    (State.forceThrottle x0).pending = x0.pending ∧ (State.forceThrottle x0).hbm = x0.hbm ∧ (State.forceThrottle x0).sec = x0.sec ∧ (State.forceThrottle x0).owner = x0.owner ∧ (State.forceThrottle x0).tim = x0.tim := by
  unfold State.forceThrottle; (try dsimp only); (repeat' split); all_goals (try and_intros); all_goals (try simp); all_goals (repeat (first | rw [State.each_pending] | rw [State.each_hbm] | rw [State.each_sec] | rw [State.each_owner] | rw [State.each_tim] | rw [State.each_pwr])); all_goals (try intros); all_goals ((repeat' split) <;> (first | rfl | simp))

@[simp] theorem State.forceRelease_frame (x0 : State) :
    (State.forceRelease x0).pending = x0.pending ∧ (State.forceRelease x0).hbm = x0.hbm ∧ (State.forceRelease x0).sec = x0.sec ∧ (State.forceRelease x0).owner = x0.owner ∧ (State.forceRelease x0).tim = x0.tim := by
  unfold State.forceRelease; simp

@[simp] theorem State.thermalTrip_frame (x0 : State) :
    (State.thermalTrip x0).pending = x0.pending ∧ (State.thermalTrip x0).sec = x0.sec ∧ (State.thermalTrip x0).owner = x0.owner ∧ (State.thermalTrip x0).tim = x0.tim := by
  unfold State.thermalTrip; ((repeat' split) <;> simp)

@[simp] theorem State.regulatorFault_frame (x0 : State) (x1 : Nat) :
    (State.regulatorFault x0 x1).pending = x0.pending ∧ (State.regulatorFault x0 x1).sec = x0.sec ∧ (State.regulatorFault x0 x1).owner = x0.owner ∧ (State.regulatorFault x0 x1).tim = x0.tim ∧ (State.regulatorFault x0 x1).pwr = x0.pwr := by
  unfold State.regulatorFault; ((repeat' split) <;> simp)

@[simp] theorem State.stackTrainFail_frame (x0 : State) (x1 : StackId) :
    (State.stackTrainFail x0 x1).pending = x0.pending ∧ (State.stackTrainFail x0 x1).sec = x0.sec ∧ (State.stackTrainFail x0 x1).owner = x0.owner ∧ (State.stackTrainFail x0 x1).tim = x0.tim ∧ (State.stackTrainFail x0 x1).pwr = x0.pwr := by
  unfold State.stackTrainFail; ((repeat' split) <;> simp)

@[simp] theorem State.setPower_frame (x0 : State) (x1 : PowerState) :
    (State.setPower x0 x1).pending = x0.pending ∧ (State.setPower x0 x1).hbm = x0.hbm ∧ (State.setPower x0 x1).sec = x0.sec ∧ (State.setPower x0 x1).owner = x0.owner ∧ (State.setPower x0 x1).tim = x0.tim := by
  unfold State.setPower; simp; ((repeat' split) <;> simp)

@[simp] theorem State.setPhase_frame (x0 : State) (x1 : Nat) :
    (State.setPhase x0 x1).pending = x0.pending ∧ (State.setPhase x0 x1).hbm = x0.hbm ∧ (State.setPhase x0 x1).sec = x0.sec ∧ (State.setPhase x0 x1).owner = x0.owner ∧ (State.setPhase x0 x1).tim = x0.tim := by
  unfold State.setPhase; ((repeat' split) <;> simp)

@[simp] theorem State.startPort_frame (x0 : State) (x1 : PortId) :
    (State.startPort x0 x1).pending = x0.pending ∧ (State.startPort x0 x1).hbm = x0.hbm ∧ (State.startPort x0 x1).sec = x0.sec ∧ (State.startPort x0 x1).owner = x0.owner ∧ (State.startPort x0 x1).tim = x0.tim ∧ (State.startPort x0 x1).pwr = x0.pwr := by
  unfold State.startPort; ((repeat' split) <;> simp)

@[simp] theorem State.startDie_frame (x0 : BoardStart) (x1 : State) (x2 : DieId) :
    (State.startDie x0 x1 x2).pending = x1.pending ∧ (State.startDie x0 x1 x2).sec = x1.sec ∧ (State.startDie x0 x1 x2).owner = x1.owner ∧ (State.startDie x0 x1 x2).tim = x1.tim ∧ (State.startDie x0 x1 x2).pwr = x1.pwr := by
  unfold State.startDie; simp

@[simp] theorem State.startRing_frame (x0 : BoardStart) (x1 : State) (x2 : LinkId) :
    (State.startRing x0 x1 x2).pending = x1.pending ∧ (State.startRing x0 x1 x2).hbm = x1.hbm ∧ (State.startRing x0 x1 x2).sec = x1.sec ∧ (State.startRing x0 x1 x2).owner = x1.owner ∧ (State.startRing x0 x1 x2).tim = x1.tim ∧ (State.startRing x0 x1 x2).pwr = x1.pwr := by
  unfold State.startRing; simp; ((repeat' split) <;> simp)

@[simp] theorem State.reachReady_frame (x0 : State) :
    (State.reachReady x0).pending = x0.pending ∧ (State.reachReady x0).hbm = x0.hbm ∧ (State.reachReady x0).sec = x0.sec ∧ (State.reachReady x0).owner = x0.owner ∧ (State.reachReady x0).tim = x0.tim := by
  unfold State.reachReady; simp

@[simp] theorem State.mainStart_frame (x0 : State) (x1 : BoardStart) :
    (State.mainStart x0 x1).pending = x0.pending ∧ (State.mainStart x0 x1).sec = x0.sec ∧ (State.mainStart x0 x1).owner = x0.owner ∧ (State.mainStart x0 x1).tim = x0.tim := by
  unfold State.mainStart; simp

@[simp] theorem State.startUp_frame (x0 : State) (x1 : BoardStart) :
    (State.startUp x0 x1).pending = x0.pending ∧ (State.startUp x0 x1).owner = x0.owner ∧ (State.startUp x0 x1).tim = x0.tim := by
  unfold State.startUp; simp; ((repeat' split) <;> simp)

@[simp] theorem State.secOff_frame (x0 : State) :
    (State.secOff x0).pending = x0.pending ∧ (State.secOff x0).hbm = x0.hbm ∧ (State.secOff x0).owner = x0.owner ∧ (State.secOff x0).tim = x0.tim ∧ (State.secOff x0).pwr = x0.pwr := by
  unfold State.secOff
  generalize zero32 = z
  dsimp only
  and_intros <;> (repeat' split) <;> simp

@[simp] theorem State.updatesFail_frame (x0 : State) :
    (State.updatesFail x0).pending = x0.pending ∧ (State.updatesFail x0).hbm = x0.hbm ∧ (State.updatesFail x0).owner = x0.owner ∧ (State.updatesFail x0).tim = x0.tim ∧ (State.updatesFail x0).pwr = x0.pwr := by
  unfold State.updatesFail; simp

@[simp] theorem State.exitOff_frame (x0 : State) (x1 : BoardStart) :
    (State.exitOff x0 x1).pending = x0.pending ∧ (State.exitOff x0 x1).owner = x0.owner ∧ (State.exitOff x0 x1).tim = x0.tim := by
  unfold State.exitOff; ((repeat' split) <;> simp)

@[simp] theorem State.wakeDie_frame (x0 : List DieBringUp) (x1 : State) (x2 : DieId) :
    (State.wakeDie x0 x1 x2).pending = x1.pending ∧ (State.wakeDie x0 x1 x2).sec = x1.sec ∧ (State.wakeDie x0 x1 x2).owner = x1.owner ∧ (State.wakeDie x0 x1 x2).tim = x1.tim ∧ (State.wakeDie x0 x1 x2).pwr = x1.pwr := by
  unfold State.wakeDie; simp

@[simp] theorem State.resetDies_frame (x0 : State) :
    (State.resetDies x0).pending = x0.pending ∧ (State.resetDies x0).sec = x0.sec ∧ (State.resetDies x0).owner = x0.owner ∧ (State.resetDies x0).tim = x0.tim ∧ (State.resetDies x0).pwr = x0.pwr := by
  unfold State.resetDies; simp

@[simp] theorem State.afterHalt_frame (x0 : State) :
    (State.afterHalt x0).pending = x0.pending ∧ (State.afterHalt x0).sec = x0.sec ∧ (State.afterHalt x0).owner = x0.owner ∧ (State.afterHalt x0).tim = x0.tim ∧ (State.afterHalt x0).pwr = x0.pwr := by
  unfold State.afterHalt; ((repeat' split) <;> simp)

@[simp] theorem State.resetX_frame (x0 : State) :
    (State.resetX x0).pending = x0.pending ∧ (State.resetX x0).hbm = x0.hbm ∧ (State.resetX x0).sec = x0.sec ∧ (State.resetX x0).tim = x0.tim ∧ (State.resetX x0).pwr = x0.pwr := by
  unfold State.resetX; simp

@[simp] theorem State.warmDie_frame (x0 : List DieBringUp) (x1 : State) (x2 : DieId) :
    (State.warmDie x0 x1 x2).pending = x1.pending ∧ (State.warmDie x0 x1 x2).sec = x1.sec ∧ (State.warmDie x0 x1 x2).owner = x1.owner ∧ (State.warmDie x0 x1 x2).tim = x1.tim ∧ (State.warmDie x0 x1 x2).pwr = x1.pwr := by
  unfold State.warmDie; simp; ((repeat' split) <;> simp)

@[simp] theorem State.warmDone_frame (x0 : State) (x1 : List DieBringUp) :
    (State.warmDone x0 x1).pending = x0.pending ∧ (State.warmDone x0 x1).tim = x0.tim := by
  unfold State.warmDone; ((repeat' split) <;> simp)

@[simp] theorem State.resetDone_frame (x0 : State) (x1 : DieId) (x2 : DieBringUp) :
    (State.resetDone x0 x1 x2).pending = x0.pending ∧ (State.resetDone x0 x1 x2).sec = x0.sec ∧ (State.resetDone x0 x1 x2).owner = x0.owner ∧ (State.resetDone x0 x1 x2).tim = x0.tim ∧ (State.resetDone x0 x1 x2).pwr = x0.pwr := by
  unfold State.resetDone; simp

@[simp] theorem State.functionReset_frame (x0 : State) (x1 : HostId) :
    (State.functionReset x0 x1).pending = x0.pending ∧ (State.functionReset x0 x1).hbm = x0.hbm ∧ (State.functionReset x0 x1).tim = x0.tim ∧ (State.functionReset x0 x1).pwr = x0.pwr := by
  unfold State.functionReset; simp

@[simp] theorem State.conventionalReset_frame (x0 : State) (x1 : HostId) :
    (State.conventionalReset x0 x1).pending = x0.pending ∧ (State.conventionalReset x0 x1).hbm = x0.hbm ∧ (State.conventionalReset x0 x1).tim = x0.tim ∧ (State.conventionalReset x0 x1).pwr = x0.pwr := by
  unfold State.conventionalReset; ((repeat' split) <;> simp)

@[simp] theorem State.firePending_frame (x0 : State) (x1 : HostId) :
    (State.firePending x0 x1).pending = x0.pending ∧ (State.firePending x0 x1).hbm = x0.hbm ∧ (State.firePending x0 x1).sec = x0.sec ∧ (State.firePending x0 x1).owner = x0.owner ∧ (State.firePending x0 x1).tim = x0.tim ∧ (State.firePending x0 x1).pwr = x0.pwr := by
  unfold State.firePending; (try dsimp only); (repeat' split); all_goals (try and_intros); all_goals (try simp); all_goals (repeat (first | rw [State.each_pending] | rw [State.each_hbm] | rw [State.each_sec] | rw [State.each_owner] | rw [State.each_tim] | rw [State.each_pwr])); all_goals (try intros); all_goals ((repeat' split) <;> (first | rfl | simp))

@[simp] theorem State.portTrains_frame (x0 : State) (x1 : HostId) (x2 : Nat) (x3 : Nat) :
    (State.portTrains x0 x1 x2 x3).pending = x0.pending ∧ (State.portTrains x0 x1 x2 x3).hbm = x0.hbm ∧ (State.portTrains x0 x1 x2 x3).sec = x0.sec ∧ (State.portTrains x0 x1 x2 x3).owner = x0.owner ∧ (State.portTrains x0 x1 x2 x3).tim = x0.tim ∧ (State.portTrains x0 x1 x2 x3).pwr = x0.pwr := by
  unfold State.portTrains; ((repeat' split) <;> simp)

@[simp] theorem State.functionLevelReset_frame (x0 : State) (x1 : HostId) :
    (State.functionLevelReset x0 x1).pending = x0.pending ∧ (State.functionLevelReset x0 x1).hbm = x0.hbm ∧ (State.functionLevelReset x0 x1).tim = x0.tim ∧ (State.functionLevelReset x0 x1).pwr = x0.pwr := by
  unfold State.functionLevelReset; ((repeat' split) <;> simp)

@[simp] theorem State.flrDone_frame (x0 : State) (x1 : HostId) :
    (State.flrDone x0 x1).pending = x0.pending ∧ (State.flrDone x0 x1).hbm = x0.hbm ∧ (State.flrDone x0 x1).sec = x0.sec ∧ (State.flrDone x0 x1).owner = x0.owner ∧ (State.flrDone x0 x1).tim = x0.tim ∧ (State.flrDone x0 x1).pwr = x0.pwr := by
  unfold State.flrDone; ((repeat' split) <;> simp)

@[simp] theorem State.setD3_frame (x0 : State) (x1 : HostId) (x2 : Bool) :
    (State.setD3 x0 x1 x2).pending = x0.pending ∧ (State.setD3 x0 x1 x2).hbm = x0.hbm ∧ (State.setD3 x0 x1 x2).sec = x0.sec ∧ (State.setD3 x0 x1 x2).owner = x0.owner ∧ (State.setD3 x0 x1 x2).tim = x0.tim ∧ (State.setD3 x0 x1 x2).pwr = x0.pwr := by
  unfold State.setD3; ((repeat' split) <;> simp)

@[simp] theorem State.pcieRefclkLost_frame (x0 : State) (x1 : HostId) :
    (State.pcieRefclkLost x0 x1).pending = x0.pending ∧ (State.pcieRefclkLost x0 x1).hbm = x0.hbm ∧ (State.pcieRefclkLost x0 x1).tim = x0.tim ∧ (State.pcieRefclkLost x0 x1).pwr = x0.pwr := by
  unfold State.pcieRefclkLost; ((repeat' split) <;> simp)

@[simp] theorem State.fabRefclkLost_frame (x0 : State) :
    (State.fabRefclkLost x0).pending = x0.pending ∧ (State.fabRefclkLost x0).sec = x0.sec ∧ (State.fabRefclkLost x0).owner = x0.owner ∧ (State.fabRefclkLost x0).pwr = x0.pwr := by
  unfold State.fabRefclkLost; simp; ((repeat' split) <;> simp)

theorem State.armJob_some (s : State) (t : State)
    (h : State.armJob s = some t) : t.pending = s.pending ∧ t.hbm = s.hbm ∧ t.sec = s.sec ∧ t.owner = s.owner ∧ t.tim = s.tim ∧ t.pwr = s.pwr := by
  unfold State.armJob at h; (try dsimp only at h)
  (repeat' split at h) <;> first | (have h := Option.some.inj h; subst h; simp; done) | (cases h; done)

theorem State.waitJob_some (s : State) (a : JobState) (c : JobCmd) (t : State)
    (h : State.waitJob s a c = some t) : t.pending = s.pending ∧ t.hbm = s.hbm ∧ t.sec = s.sec ∧ t.owner = s.owner ∧ t.tim = s.tim ∧ t.pwr = s.pwr := by
  unfold State.waitJob at h; (try dsimp only at h)
  (repeat' split at h) <;> first | (have h := Option.some.inj h; subst h; simp; done) | (cases h; done)

theorem State.haltJob_some (s : State) (b : Bool) (t : State)
    (h : State.haltJob s b = some t) : t.pending = s.pending ∧ t.hbm = s.hbm ∧ t.sec = s.sec ∧ t.owner = s.owner ∧ t.tim = s.tim ∧ t.pwr = s.pwr := by
  unfold State.haltJob at h; (try dsimp only at h)
  (repeat' split at h) <;> first | (have h := Option.some.inj h; subst h; simp; done) | (cases h; done)

theorem State.startFetch_some (s : State) (t : State)
    (h : State.startFetch s = some t) : t.pending = s.pending ∧ t.hbm = s.hbm ∧ t.sec = s.sec ∧ t.owner = s.owner ∧ t.tim = s.tim ∧ t.pwr = s.pwr := by
  unfold State.startFetch at h; (try dsimp only at h)
  (repeat' split at h) <;> first | (have h := Option.some.inj h; subst h; simp; done) | (cases h; done)

theorem State.startFw_some (s : State) (t : State)
    (h : State.startFw s = some t) : t.pending = s.pending ∧ t.hbm = s.hbm ∧ t.owner = s.owner ∧ t.tim = s.tim ∧ t.pwr = s.pwr := by
  unfold State.startFw at h; (try dsimp only at h)
  (repeat' split at h) <;> first | (have h := Option.some.inj h; subst h; simp; done) | (cases h; done)

theorem State.startShale_some (s : State) (t : State)
    (h : State.startShale s = some t) : t.pending = s.pending ∧ t.hbm = s.hbm ∧ t.sec = s.sec ∧ t.owner = s.owner ∧ t.tim = s.tim ∧ t.pwr = s.pwr := by
  unfold State.startShale at h; (try dsimp only at h)
  (repeat' split at h) <;> first | (have h := Option.some.inj h; subst h; simp; done) | (cases h; done)

theorem State.requestPower_some (s : State) (n : Nat) (t : State)
    (h : State.requestPower s n = some t) : t.pending = s.pending ∧ t.hbm = s.hbm ∧ t.owner = s.owner ∧ t.tim = s.tim := by
  unfold State.requestPower at h; generalize zero32 = z at h
  (repeat' split at h) <;> first | (have h := Option.some.inj h; subst h; simp; done) | (have h := Option.some.inj h; subst h; and_intros <;> (repeat' split) <;> simp) | (cases h; done)

theorem State.startWarm_some (s : State) (t : State)
    (h : State.startWarm s = some t) : t.pending = s.pending ∧ t.sec = s.sec ∧ t.owner = s.owner ∧ t.tim = s.tim := by
  unfold State.startWarm at h; generalize allFin 16 = l at h; (try dsimp only at h)
  (repeat' split at h) <;> first | (have h := Option.some.inj h; subst h; and_intros <;> simp; done) | (cases h; done)

end Sys2Proof.Machine
end

