-- ==== Sys2Proof/Laws/FrameAccess.lean ====
section
/-!
SUPPORT. What register accesses and LOAD leave unchanged.
-/

namespace Sys2Proof.Machine

open Sys2Proof

@[simp] theorem Wrote.then_snd (r : Wrote) (f : State → State) : (r.then f).2 = f r.2 := rfl

@[simp] theorem Wrote.then_fst (r : Wrote) (f : State → State) : (r.then f).1 = r.1 := rfl

@[simp] theorem State.plain_frame (x0 : State) (x1 : Writer) (x2 : Blk) (x3 : RegRow) (x4 : Word) :
    (State.plain x0 x1 x2 x3 x4).2.pending = x0.pending ∧ (State.plain x0 x1 x2 x3 x4).2.hbm = x0.hbm ∧ (State.plain x0 x1 x2 x3 x4).2.sec = x0.sec ∧ (State.plain x0 x1 x2 x3 x4).2.owner = x0.owner ∧ (State.plain x0 x1 x2 x3 x4).2.tim = x0.tim ∧ (State.plain x0 x1 x2 x3 x4).2.pwr = x0.pwr := by
  unfold State.plain; simp; ((repeat' split) <;> simp)

@[simp] theorem State.plainIf_frame (x0 : State) (x1 : Bool) (x2 : Writer) (x3 : Blk) (x4 : RegRow) (x5 : Word) :
    (State.plainIf x0 x1 x2 x3 x4 x5).2.pending = x0.pending ∧ (State.plainIf x0 x1 x2 x3 x4 x5).2.hbm = x0.hbm ∧ (State.plainIf x0 x1 x2 x3 x4 x5).2.sec = x0.sec ∧ (State.plainIf x0 x1 x2 x3 x4 x5).2.owner = x0.owner ∧ (State.plainIf x0 x1 x2 x3 x4 x5).2.tim = x0.tim ∧ (State.plainIf x0 x1 x2 x3 x4 x5).2.pwr = x0.pwr := by
  unfold State.plainIf; ((repeat' split) <;> simp)

@[simp] theorem State.cleanMask_frame (x0 : State) (x1 : Blk) :
    (State.cleanMask x0 x1).pending = x0.pending ∧ (State.cleanMask x0 x1).hbm = x0.hbm ∧ (State.cleanMask x0 x1).sec = x0.sec ∧ (State.cleanMask x0 x1).owner = x0.owner ∧ (State.cleanMask x0 x1).tim = x0.tim ∧ (State.cleanMask x0 x1).pwr = x0.pwr := by
  unfold State.cleanMask; simp

@[simp] theorem State.clearErrors_frame (x0 : State) (x1 : Blk) (x2 : Word) :
    (State.clearErrors x0 x1 x2).pending = x0.pending ∧ (State.clearErrors x0 x1 x2).hbm = x0.hbm ∧ (State.clearErrors x0 x1 x2).sec = x0.sec ∧ (State.clearErrors x0 x1 x2).owner = x0.owner ∧ (State.clearErrors x0 x1 x2).tim = x0.tim ∧ (State.clearErrors x0 x1 x2).pwr = x0.pwr := by
  unfold State.clearErrors; simp

@[simp] theorem State.writeDmaIrq_frame (x0 : State) (x1 : Writer) (x2 : Nat) (x3 : Word) :
    (State.writeDmaIrq x0 x1 x2 x3).2.pending = x0.pending ∧ (State.writeDmaIrq x0 x1 x2 x3).2.hbm = x0.hbm ∧ (State.writeDmaIrq x0 x1 x2 x3).2.sec = x0.sec ∧ (State.writeDmaIrq x0 x1 x2 x3).2.owner = x0.owner ∧ (State.writeDmaIrq x0 x1 x2 x3).2.tim = x0.tim ∧ (State.writeDmaIrq x0 x1 x2 x3).2.pwr = x0.pwr := by
  unfold State.writeDmaIrq; simp

@[simp] theorem State.coreReset_frame (x0 : State) (x1 : CoreId) :
    (State.coreReset x0 x1).pending = x0.pending ∧ (State.coreReset x0 x1).hbm = x0.hbm ∧ (State.coreReset x0 x1).sec = x0.sec ∧ (State.coreReset x0 x1).owner = x0.owner ∧ (State.coreReset x0 x1).tim = x0.tim ∧ (State.coreReset x0 x1).pwr = x0.pwr := by
  unfold State.coreReset; simp

@[simp] theorem State.softState_frame (x0 : State) (x1 : Blk) :
    (State.softState x0 x1).pending = x0.pending ∧ (State.softState x0 x1).hbm = x0.hbm ∧ (State.softState x0 x1).sec = x0.sec ∧ (State.softState x0 x1).owner = x0.owner ∧ (State.softState x0 x1).pwr = x0.pwr := by
  unfold State.softState; ((repeat' split) <;> simp)

@[simp] theorem State.softReset_frame (x0 : State) (x1 : Blk) :
    (State.softReset x0 x1).pending = x0.pending ∧ (State.softReset x0 x1).hbm = x0.hbm ∧ (State.softReset x0 x1).sec = x0.sec ∧ (State.softReset x0 x1).owner = x0.owner ∧ (State.softReset x0 x1).pwr = x0.pwr := by
  unfold State.softReset; ((repeat' split) <;> simp)

@[simp] theorem State.writeBlkCtl_frame (x0 : State) (x1 : Writer) (x2 : Blk) (x3 : Word) :
    (State.writeBlkCtl x0 x1 x2 x3).2.pending = x0.pending ∧ (State.writeBlkCtl x0 x1 x2 x3).2.hbm = x0.hbm ∧ (State.writeBlkCtl x0 x1 x2 x3).2.sec = x0.sec ∧ (State.writeBlkCtl x0 x1 x2 x3).2.owner = x0.owner ∧ (State.writeBlkCtl x0 x1 x2 x3).2.pwr = x0.pwr := by
  unfold State.writeBlkCtl; simp; ((repeat' split) <;> simp)

theorem ite_proj {α β : Type} (c : Prop) [Decidable c] (f : α → β) {a b : α} {y : β} (h1 : f a = y) (h2 : f b = y) :
    f (if c then a else b) = y := by split <;> assumption

theorem State.requestOwner_some (s : State) (x : Writer) (n : Nat) (t : State)
    (h : State.requestOwner s x n = some t) : t.pending = s.pending ∧ t.hbm = s.hbm ∧ t.sec = s.sec ∧ t.tim = s.tim ∧ t.pwr = s.pwr := by
  unfold State.requestOwner at h; (try dsimp only at h)
  (repeat' split at h) <;> first | (have h := Option.some.inj h; subst h; simp; done) | (cases h; done)

@[simp] theorem State.timCtlChanged_frame (a s : State) :
    (a.timCtlChanged s).pending = s.pending ∧ (a.timCtlChanged s).hbm = s.hbm ∧ (a.timCtlChanged s).sec = s.sec ∧ (a.timCtlChanged s).owner = s.owner ∧ (a.timCtlChanged s).pwr = s.pwr := by
  unfold State.timCtlChanged; dsimp only; and_intros
  · have k (c : Bool) : (if c then s.setHeld [] else s).pending = s.pending := by split <;> rfl
    exact ite_proj _ State.pending ((State.setLock_frame _ _).1.trans (ite_proj _ State.pending (k _) (k _)))
      (ite_proj _ State.pending (k _) (k _))
  · have k (c : Bool) : (if c then s.setHeld [] else s).hbm = s.hbm := by split <;> rfl
    exact ite_proj _ State.hbm ((State.setLock_frame _ _).2.1.trans (ite_proj _ State.hbm (k _) (k _)))
      (ite_proj _ State.hbm (k _) (k _))
  · have k (c : Bool) : (if c then s.setHeld [] else s).sec = s.sec := by split <;> rfl
    exact ite_proj _ State.sec ((State.setLock_frame _ _).2.2.1.trans (ite_proj _ State.sec (k _) (k _)))
      (ite_proj _ State.sec (k _) (k _))
  · have k (c : Bool) : (if c then s.setHeld [] else s).owner = s.owner := by split <;> rfl
    exact ite_proj _ State.owner ((State.setLock_frame _ _).2.2.2.1.trans (ite_proj _ State.owner (k _) (k _)))
      (ite_proj _ State.owner (k _) (k _))
  · have k (c : Bool) : (if c then s.setHeld [] else s).pwr = s.pwr := by split <;> rfl
    exact ite_proj _ State.pwr ((State.setLock_frame _ _).2.2.2.2.trans (ite_proj _ State.pwr (k _) (k _)))
      (ite_proj _ State.pwr (k _) (k _))

theorem State.hostCmd_some (s : State) (w : Word) (t : State)
    (h : State.hostCmd s w = some t) : t.pending = s.pending ∧ t.hbm = s.hbm ∧ t.sec = s.sec ∧ t.owner = s.owner ∧ t.tim = s.tim ∧ t.pwr = s.pwr := by
  unfold State.hostCmd at h; (try dsimp only at h)
  (repeat' split at h) <;> first | (have h := Option.some.inj h; subst h; simp; done) | (cases h; done)

theorem State.restoreCmd_some (s : State) (w : Word) (t : State)
    (h : State.restoreCmd s w = some t) : t.pending = s.pending ∧ t.sec = s.sec ∧ t.owner = s.owner ∧ t.tim = s.tim ∧ t.pwr = s.pwr := by
  unfold State.restoreCmd at h; (try dsimp only at h)
  (repeat' split at h) <;> first | (have h := Option.some.inj h; subst h; simp; done) | (cases h; done)

theorem State.sweepCmd_some (s : State) (w : Word) (t : State)
    (h : State.sweepCmd s w = some t) : t.pending = s.pending ∧ t.hbm = s.hbm ∧ t.sec = s.sec ∧ t.owner = s.owner ∧ t.tim = s.tim ∧ t.pwr = s.pwr := by
  unfold State.sweepCmd at h; (try dsimp only at h)
  (repeat' split at h) <;> first | (have h := Option.some.inj h; subst h; simp; done) | (cases h; done)

theorem State.startBy_pending (s : State) (x : Writer) (b : Bool) (g : State → Option State)
    (h : ∀ a t, g a = some t → t.pending = a.pending) : (s.startBy x b g).2.pending = s.pending := by
  unfold State.startBy
  split
  · rfl
  · split
    · rfl
    · split
      · rename_i e; exact h _ _ e
      · rfl

theorem State.withGo_pending (s : State) (x : Writer) (b : Blk) (r : RegRow) (w : Word) (go : Bool)
    (g : State → Option State) (h : ∀ a t, g a = some t → t.pending = a.pending) : (s.withGo x b r w go g).2.pending = s.pending := by
  unfold State.withGo
  dsimp only
  split
  · simp
  · split
    · rename_i e; exact (h _ _ e).trans (by simp)
    · rfl

theorem State.startBy_hbm (s : State) (x : Writer) (b : Bool) (g : State → Option State)
    (h : ∀ a t, g a = some t → t.hbm = a.hbm) : (s.startBy x b g).2.hbm = s.hbm := by
  unfold State.startBy
  split
  · rfl
  · split
    · rfl
    · split
      · rename_i e; exact h _ _ e
      · rfl

theorem State.withGo_hbm (s : State) (x : Writer) (b : Blk) (r : RegRow) (w : Word) (go : Bool)
    (g : State → Option State) (h : ∀ a t, g a = some t → t.hbm = a.hbm) : (s.withGo x b r w go g).2.hbm = s.hbm := by
  unfold State.withGo
  dsimp only
  split
  · simp
  · split
    · rename_i e; exact (h _ _ e).trans (by simp)
    · rfl

theorem State.startBy_sec (s : State) (x : Writer) (b : Bool) (g : State → Option State)
    (h : ∀ a t, g a = some t → t.sec = a.sec) : (s.startBy x b g).2.sec = s.sec := by
  unfold State.startBy
  split
  · rfl
  · split
    · rfl
    · split
      · rename_i e; exact h _ _ e
      · rfl

theorem State.withGo_sec (s : State) (x : Writer) (b : Blk) (r : RegRow) (w : Word) (go : Bool)
    (g : State → Option State) (h : ∀ a t, g a = some t → t.sec = a.sec) : (s.withGo x b r w go g).2.sec = s.sec := by
  unfold State.withGo
  dsimp only
  split
  · simp
  · split
    · rename_i e; exact (h _ _ e).trans (by simp)
    · rfl

theorem State.startBy_owner (s : State) (x : Writer) (b : Bool) (g : State → Option State)
    (h : ∀ a t, g a = some t → t.owner = a.owner) : (s.startBy x b g).2.owner = s.owner := by
  unfold State.startBy
  split
  · rfl
  · split
    · rfl
    · split
      · rename_i e; exact h _ _ e
      · rfl

theorem State.withGo_owner (s : State) (x : Writer) (b : Blk) (r : RegRow) (w : Word) (go : Bool)
    (g : State → Option State) (h : ∀ a t, g a = some t → t.owner = a.owner) : (s.withGo x b r w go g).2.owner = s.owner := by
  unfold State.withGo
  dsimp only
  split
  · simp
  · split
    · rename_i e; exact (h _ _ e).trans (by simp)
    · rfl

theorem State.startBy_tim (s : State) (x : Writer) (b : Bool) (g : State → Option State)
    (h : ∀ a t, g a = some t → t.tim = a.tim) : (s.startBy x b g).2.tim = s.tim := by
  unfold State.startBy
  split
  · rfl
  · split
    · rfl
    · split
      · rename_i e; exact h _ _ e
      · rfl

theorem State.withGo_tim (s : State) (x : Writer) (b : Blk) (r : RegRow) (w : Word) (go : Bool)
    (g : State → Option State) (h : ∀ a t, g a = some t → t.tim = a.tim) : (s.withGo x b r w go g).2.tim = s.tim := by
  unfold State.withGo
  dsimp only
  split
  · simp
  · split
    · rename_i e; exact (h _ _ e).trans (by simp)
    · rfl

theorem State.startBy_pwr (s : State) (x : Writer) (b : Bool) (g : State → Option State)
    (h : ∀ a t, g a = some t → t.pwr = a.pwr) : (s.startBy x b g).2.pwr = s.pwr := by
  unfold State.startBy
  split
  · rfl
  · split
    · rfl
    · split
      · rename_i e; exact h _ _ e
      · rfl

theorem State.withGo_pwr (s : State) (x : Writer) (b : Blk) (r : RegRow) (w : Word) (go : Bool)
    (g : State → Option State) (h : ∀ a t, g a = some t → t.pwr = a.pwr) : (s.withGo x b r w go g).2.pwr = s.pwr := by
  unfold State.withGo
  dsimp only
  split
  · simp
  · split
    · rename_i e; exact (h _ _ e).trans (by simp)
    · rfl

@[simp] theorem State.writeHead_frame (x0 : State) (x1 : Writer) (x2 : Blk) (x3 : RegRow) (x4 : Word) :
    (State.writeHead x0 x1 x2 x3 x4).2.pending = x0.pending ∧ (State.writeHead x0 x1 x2 x3 x4).2.hbm = x0.hbm ∧ (State.writeHead x0 x1 x2 x3 x4).2.sec = x0.sec ∧ (State.writeHead x0 x1 x2 x3 x4).2.owner = x0.owner ∧ (State.writeHead x0 x1 x2 x3 x4).2.pwr = x0.pwr := by
  unfold State.writeHead; (repeat' split) <;> simp

@[simp] theorem State.writeHeartbeat_frame (x0 : State) (x1 : Writer) (x2 : HostId) (x3 : RegRow) (x4 : Word) :
    (State.writeHeartbeat x0 x1 x2 x3 x4).2.pending = x0.pending ∧ (State.writeHeartbeat x0 x1 x2 x3 x4).2.hbm = x0.hbm ∧ (State.writeHeartbeat x0 x1 x2 x3 x4).2.sec = x0.sec ∧ (State.writeHeartbeat x0 x1 x2 x3 x4).2.owner = x0.owner ∧ (State.writeHeartbeat x0 x1 x2 x3 x4).2.tim = x0.tim ∧ (State.writeHeartbeat x0 x1 x2 x3 x4).2.pwr = x0.pwr := by
  unfold State.writeHeartbeat; ((repeat' split) <;> simp)

@[simp] theorem State.writeGlb_frame (x0 : State) (x1 : Writer) (x2 : RegRow) (x3 : Word) :
    (State.writeGlb x0 x1 x2 x3).2.pending = x0.pending ∧ (State.writeGlb x0 x1 x2 x3).2.hbm = x0.hbm ∧ (State.writeGlb x0 x1 x2 x3).2.sec = x0.sec ∧ (State.writeGlb x0 x1 x2 x3).2.tim = x0.tim ∧ (State.writeGlb x0 x1 x2 x3).2.pwr = x0.pwr := by
  unfold State.writeGlb
  (repeat' split) <;> first | (simp; done) | (rename_i h; have := State.requestOwner_some _ _ _ _ h; simp [this])

@[simp] theorem State.writePowerReq_frame (x0 : State) (x1 : Writer) (x2 : Word) :
    (State.writePowerReq x0 x1 x2).2.pending = x0.pending ∧ (State.writePowerReq x0 x1 x2).2.owner = x0.owner ∧ (State.writePowerReq x0 x1 x2).2.tim = x0.tim := by
  unfold State.writePowerReq
  split
  · simp
  · split
    · simp
    · rename_i h
      have h1 := State.requestPower_some _ _ _ h
      (repeat' split) <;> first | (simp [h1]; done) | (rename_i h; have h2 := State.startWarm_some _ _ h; simp [h1, h2])

@[simp] theorem State.writePwr_frame (x0 : State) (x1 : Writer) (x2 : RegRow) (x3 : Word) :
    (State.writePwr x0 x1 x2 x3).2.pending = x0.pending ∧ (State.writePwr x0 x1 x2 x3).2.owner = x0.owner ∧ (State.writePwr x0 x1 x2 x3).2.tim = x0.tim := by
  unfold State.writePwr; ((repeat' split) <;> simp)

@[simp] theorem State.setHeld_frame (x0 : State) (x1 : List (Requester × Word)) :
    (State.setHeld x0 x1).pending = x0.pending ∧ (State.setHeld x0 x1).hbm = x0.hbm ∧ (State.setHeld x0 x1).sec = x0.sec ∧ (State.setHeld x0 x1).owner = x0.owner ∧ (State.setHeld x0 x1).pwr = x0.pwr := by
  unfold State.setHeld; simp

@[simp] theorem State.writeNow_frame (x0 : State) (x1 : Writer) (x2 : Nat) (x3 : Word) :
    (State.writeNow x0 x1 x2 x3).2.pending = x0.pending ∧ (State.writeNow x0 x1 x2 x3).2.hbm = x0.hbm ∧ (State.writeNow x0 x1 x2 x3).2.sec = x0.sec ∧ (State.writeNow x0 x1 x2 x3).2.owner = x0.owner ∧ (State.writeNow x0 x1 x2 x3).2.pwr = x0.pwr := by
  unfold State.writeNow; ((repeat' split) <;> simp)

@[simp] theorem State.writeTim_frame (x0 : State) (x1 : Writer) (x2 : RegRow) (x3 : Word) :
    (State.writeTim x0 x1 x2 x3).2.pending = x0.pending ∧ (State.writeTim x0 x1 x2 x3).2.hbm = x0.hbm ∧ (State.writeTim x0 x1 x2 x3).2.sec = x0.sec ∧ (State.writeTim x0 x1 x2 x3).2.owner = x0.owner ∧ (State.writeTim x0 x1 x2 x3).2.pwr = x0.pwr := by
  unfold State.writeTim; dsimp only; (repeat' split) <;> simp

@[simp] theorem State.readImage_frame (x0 : State) (x1 : Writer) (x2 : Blk) (x3 : Nat) (x4 : Nat) :
    (State.readImage x0 x1 x2 x3 x4).pending = x0.pending ∧ (State.readImage x0 x1 x2 x3 x4).hbm = x0.hbm ∧ (State.readImage x0 x1 x2 x3 x4).sec = x0.sec ∧ (State.readImage x0 x1 x2 x3 x4).owner = x0.owner ∧ (State.readImage x0 x1 x2 x3 x4).tim = x0.tim ∧ (State.readImage x0 x1 x2 x3 x4).pwr = x0.pwr := by
  unfold State.readImage; ((repeat' split) <;> simp)

@[simp] theorem State.writeSec_frame (x0 : State) (x1 : Writer) (x2 : RegRow) (x3 : Word) :
    (State.writeSec x0 x1 x2 x3).2.pending = x0.pending ∧ (State.writeSec x0 x1 x2 x3).2.owner = x0.owner ∧ (State.writeSec x0 x1 x2 x3).2.tim = x0.tim ∧ (State.writeSec x0 x1 x2 x3).2.pwr = x0.pwr := by
  unfold State.writeSec
  split
  · and_intros
    · refine State.startBy_pending _ _ _ _ fun a t h => ?_
      cases h; simp
    · refine State.startBy_owner _ _ _ _ fun a t h => ?_
      cases h; simp
    · refine State.startBy_tim _ _ _ _ fun a t h => ?_
      cases h; simp
    · refine State.startBy_pwr _ _ _ _ fun a t h => ?_
      cases h; simp
  · split
    · and_intros
      · refine ite_proj _ (fun s => State.pending s) rfl ((State.startBy_pending _ _ _ _ fun a t h => ?_).trans (by split <;> simp))
        split at h
        · have h := Option.some.inj h; subst h; simp
        · cases h
      · refine ite_proj _ (fun s => State.owner s) rfl ((State.startBy_owner _ _ _ _ fun a t h => ?_).trans (by split <;> simp))
        split at h
        · have h := Option.some.inj h; subst h; simp
        · cases h
      · refine ite_proj _ (fun s => State.tim s) rfl ((State.startBy_tim _ _ _ _ fun a t h => ?_).trans (by split <;> simp))
        split at h
        · have h := Option.some.inj h; subst h; simp
        · cases h
      · refine ite_proj _ (fun s => State.pwr s) rfl ((State.startBy_pwr _ _ _ _ fun a t h => ?_).trans (by split <;> simp))
        split at h
        · have h := Option.some.inj h; subst h; simp
        · cases h
    · split
      · and_intros
        · refine ite_proj _ (fun s => State.pending s) rfl ((State.startBy_pending _ _ _ _ fun a t h => ?_).trans (by split <;> simp))
          cases e : a.startFw with
          | none => rw [e] at h; cases h
          | some u => rw [e] at h; cases h; simpa using (State.startFw_some _ _ e).1
        · refine ite_proj _ (fun s => State.owner s) rfl ((State.startBy_owner _ _ _ _ fun a t h => ?_).trans (by split <;> simp))
          cases e : a.startFw with
          | none => rw [e] at h; cases h
          | some u => rw [e] at h; cases h; simpa using (State.startFw_some _ _ e).2.2.1
        · refine ite_proj _ (fun s => State.tim s) rfl ((State.startBy_tim _ _ _ _ fun a t h => ?_).trans (by split <;> simp))
          cases e : a.startFw with
          | none => rw [e] at h; cases h
          | some u => rw [e] at h; cases h; simpa using (State.startFw_some _ _ e).2.2.2.1
        · refine ite_proj _ (fun s => State.pwr s) rfl ((State.startBy_pwr _ _ _ _ fun a t h => ?_).trans (by split <;> simp))
          cases e : a.startFw with
          | none => rw [e] at h; cases h
          | some u => rw [e] at h; cases h; simpa using (State.startFw_some _ _ e).2.2.2.2
      · simp

@[simp] theorem State.writeCfg_frame (x0 : State) (x1 : Writer) (x2 : RegRow) (x3 : Word) :
    (State.writeCfg x0 x1 x2 x3).2.pending = x0.pending ∧ (State.writeCfg x0 x1 x2 x3).2.hbm = x0.hbm ∧ (State.writeCfg x0 x1 x2 x3).2.sec = x0.sec ∧ (State.writeCfg x0 x1 x2 x3).2.owner = x0.owner ∧ (State.writeCfg x0 x1 x2 x3).2.tim = x0.tim ∧ (State.writeCfg x0 x1 x2 x3).2.pwr = x0.pwr := by
  unfold State.writeCfg
  split
  · split <;> simp
  · split
    · and_intros
      · refine State.startBy_pending _ _ _ _ fun a t h => ?_
        cases e : a.startShale with
        | none => rw [e] at h; cases h
        | some u => rw [e] at h; cases h; simpa using (State.startShale_some _ _ e).1
      · refine State.startBy_hbm _ _ _ _ fun a t h => ?_
        cases e : a.startShale with
        | none => rw [e] at h; cases h
        | some u => rw [e] at h; cases h; simpa using (State.startShale_some _ _ e).2.1
      · refine State.startBy_sec _ _ _ _ fun a t h => ?_
        cases e : a.startShale with
        | none => rw [e] at h; cases h
        | some u => rw [e] at h; cases h; simpa using (State.startShale_some _ _ e).2.2.1
      · refine State.startBy_owner _ _ _ _ fun a t h => ?_
        cases e : a.startShale with
        | none => rw [e] at h; cases h
        | some u => rw [e] at h; cases h; simpa using (State.startShale_some _ _ e).2.2.2.1
      · refine State.startBy_tim _ _ _ _ fun a t h => ?_
        cases e : a.startShale with
        | none => rw [e] at h; cases h
        | some u => rw [e] at h; cases h; simpa using (State.startShale_some _ _ e).2.2.2.2.1
      · refine State.startBy_pwr _ _ _ _ fun a t h => ?_
        cases e : a.startShale with
        | none => rw [e] at h; cases h
        | some u => rw [e] at h; cases h; simpa using (State.startShale_some _ _ e).2.2.2.2.2
    · simp

@[simp] theorem State.writeRas_frame (x0 : State) (x1 : Writer) (x2 : RegRow) (x3 : Word) :
    (State.writeRas x0 x1 x2 x3).2.pending = x0.pending ∧ (State.writeRas x0 x1 x2 x3).2.hbm = x0.hbm ∧ (State.writeRas x0 x1 x2 x3).2.sec = x0.sec ∧ (State.writeRas x0 x1 x2 x3).2.owner = x0.owner ∧ (State.writeRas x0 x1 x2 x3).2.tim = x0.tim ∧ (State.writeRas x0 x1 x2 x3).2.pwr = x0.pwr := by
  unfold State.writeRas; simp

@[simp] theorem State.writeTel_frame (x0 : State) (x1 : Writer) (x2 : RegRow) (x3 : Word) :
    (State.writeTel x0 x1 x2 x3).2.pending = x0.pending ∧ (State.writeTel x0 x1 x2 x3).2.hbm = x0.hbm ∧ (State.writeTel x0 x1 x2 x3).2.sec = x0.sec ∧ (State.writeTel x0 x1 x2 x3).2.owner = x0.owner ∧ (State.writeTel x0 x1 x2 x3).2.tim = x0.tim ∧ (State.writeTel x0 x1 x2 x3).2.pwr = x0.pwr := by
  unfold State.writeTel; simp; ((repeat' split) <;> simp)

@[simp] theorem State.writeHalts_frame (x0 : State) (x1 : Writer) (x2 : Nat) (x3 : Word) :
    (State.writeHalts x0 x1 x2 x3).2.pending = x0.pending ∧ (State.writeHalts x0 x1 x2 x3).2.hbm = x0.hbm ∧ (State.writeHalts x0 x1 x2 x3).2.sec = x0.sec ∧ (State.writeHalts x0 x1 x2 x3).2.owner = x0.owner ∧ (State.writeHalts x0 x1 x2 x3).2.tim = x0.tim ∧ (State.writeHalts x0 x1 x2 x3).2.pwr = x0.pwr := by
  unfold State.writeHalts; ((repeat' split) <;> simp)

@[simp] theorem State.writeDbg_frame (x0 : State) (x1 : Writer) (x2 : RegRow) (x3 : Word) :
    (State.writeDbg x0 x1 x2 x3).2.pending = x0.pending ∧ (State.writeDbg x0 x1 x2 x3).2.hbm = x0.hbm ∧ (State.writeDbg x0 x1 x2 x3).2.sec = x0.sec ∧ (State.writeDbg x0 x1 x2 x3).2.owner = x0.owner ∧ (State.writeDbg x0 x1 x2 x3).2.tim = x0.tim ∧ (State.writeDbg x0 x1 x2 x3).2.pwr = x0.pwr := by
  unfold State.writeDbg; (repeat' split) <;> first | (simp; done) | (dsimp only; and_intros <;> simp <;> split <;> simp)

@[simp] theorem State.writeChanCtl_frame (x0 : State) (x1 : Writer) (x2 : ChanId) (x3 : Word) :
    (State.writeChanCtl x0 x1 x2 x3).2.pending = x0.pending ∧ (State.writeChanCtl x0 x1 x2 x3).2.hbm = x0.hbm ∧ (State.writeChanCtl x0 x1 x2 x3).2.sec = x0.sec ∧ (State.writeChanCtl x0 x1 x2 x3).2.owner = x0.owner ∧ (State.writeChanCtl x0 x1 x2 x3).2.tim = x0.tim ∧ (State.writeChanCtl x0 x1 x2 x3).2.pwr = x0.pwr := by
  unfold State.writeChanCtl; simp; ((repeat' split) <;> simp)

@[simp] theorem State.writeDma_frame (x0 : State) (x1 : Writer) (x2 : RegRow) (x3 : Word) :
    (State.writeDma x0 x1 x2 x3).2.pending = x0.pending ∧ (State.writeDma x0 x1 x2 x3).2.hbm = x0.hbm ∧ (State.writeDma x0 x1 x2 x3).2.sec = x0.sec ∧ (State.writeDma x0 x1 x2 x3).2.owner = x0.owner ∧ (State.writeDma x0 x1 x2 x3).2.tim = x0.tim ∧ (State.writeDma x0 x1 x2 x3).2.pwr = x0.pwr := by
  unfold State.writeDma; ((repeat' split) <;> simp)

@[simp] theorem State.writeFab_frame (x0 : State) (x1 : Writer) (x2 : PortId) (x3 : RegRow) (x4 : Word) :
    (State.writeFab x0 x1 x2 x3 x4).2.pending = x0.pending ∧ (State.writeFab x0 x1 x2 x3 x4).2.hbm = x0.hbm ∧ (State.writeFab x0 x1 x2 x3 x4).2.sec = x0.sec ∧ (State.writeFab x0 x1 x2 x3 x4).2.owner = x0.owner ∧ (State.writeFab x0 x1 x2 x3 x4).2.tim = x0.tim ∧ (State.writeFab x0 x1 x2 x3 x4).2.pwr = x0.pwr := by
  unfold State.writeFab; ((repeat' split) <;> simp)

@[simp] theorem State.writeD2d_frame (x0 : State) (x1 : Writer) (x2 : LinkId) (x3 : RegRow) (x4 : Word) :
    (State.writeD2d x0 x1 x2 x3 x4).2.pending = x0.pending ∧ (State.writeD2d x0 x1 x2 x3 x4).2.hbm = x0.hbm ∧ (State.writeD2d x0 x1 x2 x3 x4).2.sec = x0.sec ∧ (State.writeD2d x0 x1 x2 x3 x4).2.owner = x0.owner ∧ (State.writeD2d x0 x1 x2 x3 x4).2.tim = x0.tim ∧ (State.writeD2d x0 x1 x2 x3 x4).2.pwr = x0.pwr := by
  unfold State.writeD2d; simp; and_intros <;> split <;> simp

@[simp] theorem State.hbmRetrain_frame (x0 : State) (x1 : StackId) :
    (State.hbmRetrain x0 x1).pending = x0.pending ∧ (State.hbmRetrain x0 x1).hbm = x0.hbm ∧ (State.hbmRetrain x0 x1).sec = x0.sec ∧ (State.hbmRetrain x0 x1).owner = x0.owner ∧ (State.hbmRetrain x0 x1).tim = x0.tim ∧ (State.hbmRetrain x0 x1).pwr = x0.pwr := by
  unfold State.hbmRetrain; simp

@[simp] theorem State.hbmRetrainDone_frame (x0 : State) (x1 : StackId) (x2 : Bool) :
    (State.hbmRetrainDone x0 x1 x2).pending = x0.pending ∧ (State.hbmRetrainDone x0 x1 x2).sec = x0.sec ∧ (State.hbmRetrainDone x0 x1 x2).owner = x0.owner ∧ (State.hbmRetrainDone x0 x1 x2).tim = x0.tim ∧ (State.hbmRetrainDone x0 x1 x2).pwr = x0.pwr := by
  unfold State.hbmRetrainDone; ((repeat' split) <;> simp)

@[simp] theorem State.writeHbm_frame (x0 : State) (x1 : Writer) (x2 : StackId) (x3 : RegRow) (x4 : Word) :
    (State.writeHbm x0 x1 x2 x3 x4).2.pending = x0.pending ∧ (State.writeHbm x0 x1 x2 x3 x4).2.hbm = x0.hbm ∧ (State.writeHbm x0 x1 x2 x3 x4).2.sec = x0.sec ∧ (State.writeHbm x0 x1 x2 x3 x4).2.owner = x0.owner ∧ (State.writeHbm x0 x1 x2 x3 x4).2.tim = x0.tim ∧ (State.writeHbm x0 x1 x2 x3 x4).2.pwr = x0.pwr := by
  unfold State.writeHbm; (repeat' split) <;> first | (simp; done) | (dsimp only; (repeat' split) <;> first | (simp; done) | (simp; and_intros <;> split <;> simp))

@[simp] theorem State.writeFrt_frame (x0 : State) (x1 : Writer) (x2 : RegRow) (x3 : Word) :
    (State.writeFrt x0 x1 x2 x3).2.pending = x0.pending ∧ (State.writeFrt x0 x1 x2 x3).2.hbm = x0.hbm ∧ (State.writeFrt x0 x1 x2 x3).2.sec = x0.sec ∧ (State.writeFrt x0 x1 x2 x3).2.owner = x0.owner ∧ (State.writeFrt x0 x1 x2 x3).2.tim = x0.tim ∧ (State.writeFrt x0 x1 x2 x3).2.pwr = x0.pwr := by
  unfold State.writeFrt; ((repeat' split) <;> simp)

@[simp] theorem State.writeVer_frame (x0 : State) (x1 : Writer) (x2 : RegRow) (x3 : Word) :
    (State.writeVer x0 x1 x2 x3).2.pending = x0.pending ∧ (State.writeVer x0 x1 x2 x3).2.hbm = x0.hbm ∧ (State.writeVer x0 x1 x2 x3).2.sec = x0.sec ∧ (State.writeVer x0 x1 x2 x3).2.owner = x0.owner ∧ (State.writeVer x0 x1 x2 x3).2.tim = x0.tim ∧ (State.writeVer x0 x1 x2 x3).2.pwr = x0.pwr := by
  unfold State.writeVer
  split
  · and_intros
    · exact State.withGo_pending _ _ _ _ _ _ _ fun a t h => (State.startFetch_some a t h).1
    · exact State.withGo_hbm _ _ _ _ _ _ _ fun a t h => (State.startFetch_some a t h).2.1
    · exact State.withGo_sec _ _ _ _ _ _ _ fun a t h => (State.startFetch_some a t h).2.2.1
    · exact State.withGo_owner _ _ _ _ _ _ _ fun a t h => (State.startFetch_some a t h).2.2.2.1
    · exact State.withGo_tim _ _ _ _ _ _ _ fun a t h => (State.startFetch_some a t h).2.2.2.2.1
    · exact State.withGo_pwr _ _ _ _ _ _ _ fun a t h => (State.startFetch_some a t h).2.2.2.2.2
  · split <;> simp

@[simp] theorem State.setStepHeld_frame (x0 : State) (x1 : List (Requester × Word)) :
    (State.setStepHeld x0 x1).pending = x0.pending ∧ (State.setStepHeld x0 x1).hbm = x0.hbm ∧ (State.setStepHeld x0 x1).sec = x0.sec ∧ (State.setStepHeld x0 x1).owner = x0.owner ∧ (State.setStepHeld x0 x1).tim = x0.tim ∧ (State.setStepHeld x0 x1).pwr = x0.pwr := by
  unfold State.setStepHeld; simp

theorem State.withGeo_pending (s : State) (g : Geo) : ({ s with geo := g } : State).pending = s.pending := rfl

theorem State.withGeo_hbm (s : State) (g : Geo) : ({ s with geo := g } : State).hbm = s.hbm := rfl

theorem State.withGeo_sec (s : State) (g : Geo) : ({ s with geo := g } : State).sec = s.sec := rfl

theorem State.withGeo_owner (s : State) (g : Geo) : ({ s with geo := g } : State).owner = s.owner := rfl

theorem State.withGeo_tim (s : State) (g : Geo) : ({ s with geo := g } : State).tim = s.tim := rfl

theorem State.withGeo_pwr (s : State) (g : Geo) : ({ s with geo := g } : State).pwr = s.pwr := rfl

@[simp] theorem State.writeStep_frame (x0 : State) (x1 : Writer) (x2 : Nat) (x3 : Word) :
    (State.writeStep x0 x1 x2 x3).2.pending = x0.pending ∧ (State.writeStep x0 x1 x2 x3).2.hbm = x0.hbm ∧ (State.writeStep x0 x1 x2 x3).2.sec = x0.sec ∧ (State.writeStep x0 x1 x2 x3).2.owner = x0.owner ∧ (State.writeStep x0 x1 x2 x3).2.tim = x0.tim ∧ (State.writeStep x0 x1 x2 x3).2.pwr = x0.pwr := by
  unfold State.writeStep
  and_intros
  · refine ite_proj _ (fun q : Wrote => q.2.pending) rfl (ite_proj _ (fun q : Wrote => q.2.pending) rfl
      (ite_proj _ (fun q : Wrote => q.2.pending) rfl ?_))
    cases heldOf x0.geo.loHeld x1.who with
    | none => rfl
    | some l => exact State.withGeo_pending _ _
  · refine ite_proj _ (fun q : Wrote => q.2.hbm) rfl (ite_proj _ (fun q : Wrote => q.2.hbm) rfl
      (ite_proj _ (fun q : Wrote => q.2.hbm) rfl ?_))
    cases heldOf x0.geo.loHeld x1.who with
    | none => rfl
    | some l => exact State.withGeo_hbm _ _
  · refine ite_proj _ (fun q : Wrote => q.2.sec) rfl (ite_proj _ (fun q : Wrote => q.2.sec) rfl
      (ite_proj _ (fun q : Wrote => q.2.sec) rfl ?_))
    cases heldOf x0.geo.loHeld x1.who with
    | none => rfl
    | some l => exact State.withGeo_sec _ _
  · refine ite_proj _ (fun q : Wrote => q.2.owner) rfl (ite_proj _ (fun q : Wrote => q.2.owner) rfl
      (ite_proj _ (fun q : Wrote => q.2.owner) rfl ?_))
    cases heldOf x0.geo.loHeld x1.who with
    | none => rfl
    | some l => exact State.withGeo_owner _ _
  · refine ite_proj _ (fun q : Wrote => q.2.tim) rfl (ite_proj _ (fun q : Wrote => q.2.tim) rfl
      (ite_proj _ (fun q : Wrote => q.2.tim) rfl ?_))
    cases heldOf x0.geo.loHeld x1.who with
    | none => rfl
    | some l => exact State.withGeo_tim _ _
  · refine ite_proj _ (fun q : Wrote => q.2.pwr) rfl (ite_proj _ (fun q : Wrote => q.2.pwr) rfl
      (ite_proj _ (fun q : Wrote => q.2.pwr) rfl ?_))
    cases heldOf x0.geo.loHeld x1.who with
    | none => rfl
    | some l => exact State.withGeo_pwr _ _

@[simp] theorem State.writeGeo_frame (x0 : State) (x1 : Writer) (x2 : RegRow) (x3 : Word) :
    (State.writeGeo x0 x1 x2 x3).2.pending = x0.pending ∧ (State.writeGeo x0 x1 x2 x3).2.sec = x0.sec ∧ (State.writeGeo x0 x1 x2 x3).2.owner = x0.owner ∧ (State.writeGeo x0 x1 x2 x3).2.tim = x0.tim ∧ (State.writeGeo x0 x1 x2 x3).2.pwr = x0.pwr := by
  unfold State.writeGeo
  split
  · simp
  · split
    · simp
    · split
      · dsimp only; and_intros <;> simp <;> split <;> simp
      · split
        · simp
        · split
          · and_intros
            · have k : (x0.withGo x1 .geo x2 x3 (wbit x3 31) (fun s => s.hostCmd x3)).2.pending = x0.pending :=
        State.withGo_pending _ _ _ _ _ _ _ fun a t h => (State.hostCmd_some a _ t h).1
              rw [Wrote.then_snd]; refine ite_proj _ (fun s => State.pending s) ?_ k; simpa using k
            · have k : (x0.withGo x1 .geo x2 x3 (wbit x3 31) (fun s => s.hostCmd x3)).2.sec = x0.sec :=
        State.withGo_sec _ _ _ _ _ _ _ fun a t h => (State.hostCmd_some a _ t h).2.2.1
              rw [Wrote.then_snd]; refine ite_proj _ (fun s => State.sec s) ?_ k; simpa using k
            · have k : (x0.withGo x1 .geo x2 x3 (wbit x3 31) (fun s => s.hostCmd x3)).2.owner = x0.owner :=
        State.withGo_owner _ _ _ _ _ _ _ fun a t h => (State.hostCmd_some a _ t h).2.2.2.1
              rw [Wrote.then_snd]; refine ite_proj _ (fun s => State.owner s) ?_ k; simpa using k
            · have k : (x0.withGo x1 .geo x2 x3 (wbit x3 31) (fun s => s.hostCmd x3)).2.tim = x0.tim :=
        State.withGo_tim _ _ _ _ _ _ _ fun a t h => (State.hostCmd_some a _ t h).2.2.2.2.1
              rw [Wrote.then_snd]; refine ite_proj _ (fun s => State.tim s) ?_ k; simpa using k
            · have k : (x0.withGo x1 .geo x2 x3 (wbit x3 31) (fun s => s.hostCmd x3)).2.pwr = x0.pwr :=
        State.withGo_pwr _ _ _ _ _ _ _ fun a t h => (State.hostCmd_some a _ t h).2.2.2.2.2
              rw [Wrote.then_snd]; refine ite_proj _ (fun s => State.pwr s) ?_ k; simpa using k
          · split
            · and_intros
              · exact State.withGo_pending _ _ _ _ _ _ _ fun a t h => (State.restoreCmd_some a _ t h).1
              · exact State.withGo_sec _ _ _ _ _ _ _ fun a t h => (State.restoreCmd_some a _ t h).2.1
              · exact State.withGo_owner _ _ _ _ _ _ _ fun a t h => (State.restoreCmd_some a _ t h).2.2.1
              · exact State.withGo_tim _ _ _ _ _ _ _ fun a t h => (State.restoreCmd_some a _ t h).2.2.2.1
              · exact State.withGo_pwr _ _ _ _ _ _ _ fun a t h => (State.restoreCmd_some a _ t h).2.2.2.2
            · split
              · dsimp only; and_intros <;> split <;> simp
              · simp

@[simp] theorem State.writeFlt_frame (x0 : State) (x1 : Writer) (x2 : RegRow) (x3 : Word) :
    (State.writeFlt x0 x1 x2 x3).2.pending = x0.pending ∧ (State.writeFlt x0 x1 x2 x3).2.hbm = x0.hbm ∧ (State.writeFlt x0 x1 x2 x3).2.sec = x0.sec ∧ (State.writeFlt x0 x1 x2 x3).2.owner = x0.owner ∧ (State.writeFlt x0 x1 x2 x3).2.tim = x0.tim ∧ (State.writeFlt x0 x1 x2 x3).2.pwr = x0.pwr := by
  unfold State.writeFlt
  split
  · dsimp only; and_intros <;> simp <;> split <;> simp
  · split
    · and_intros
      · have k : (x0.withGo x1 .flt x2 x3 (wbit x3 31) (fun s => s.sweepCmd x3)).2.pending = x0.pending :=
        State.withGo_pending _ _ _ _ _ _ _ fun a t h => (State.sweepCmd_some a _ t h).1
        rw [Wrote.then_snd]; refine ite_proj _ (fun s => State.pending s) ?_ k; simpa using k
      · have k : (x0.withGo x1 .flt x2 x3 (wbit x3 31) (fun s => s.sweepCmd x3)).2.hbm = x0.hbm :=
        State.withGo_hbm _ _ _ _ _ _ _ fun a t h => (State.sweepCmd_some a _ t h).2.1
        rw [Wrote.then_snd]; refine ite_proj _ (fun s => State.hbm s) ?_ k; simpa using k
      · have k : (x0.withGo x1 .flt x2 x3 (wbit x3 31) (fun s => s.sweepCmd x3)).2.sec = x0.sec :=
        State.withGo_sec _ _ _ _ _ _ _ fun a t h => (State.sweepCmd_some a _ t h).2.2.1
        rw [Wrote.then_snd]; refine ite_proj _ (fun s => State.sec s) ?_ k; simpa using k
      · have k : (x0.withGo x1 .flt x2 x3 (wbit x3 31) (fun s => s.sweepCmd x3)).2.owner = x0.owner :=
        State.withGo_owner _ _ _ _ _ _ _ fun a t h => (State.sweepCmd_some a _ t h).2.2.2.1
        rw [Wrote.then_snd]; refine ite_proj _ (fun s => State.owner s) ?_ k; simpa using k
      · have k : (x0.withGo x1 .flt x2 x3 (wbit x3 31) (fun s => s.sweepCmd x3)).2.tim = x0.tim :=
        State.withGo_tim _ _ _ _ _ _ _ fun a t h => (State.sweepCmd_some a _ t h).2.2.2.2.1
        rw [Wrote.then_snd]; refine ite_proj _ (fun s => State.tim s) ?_ k; simpa using k
      · have k : (x0.withGo x1 .flt x2 x3 (wbit x3 31) (fun s => s.sweepCmd x3)).2.pwr = x0.pwr :=
        State.withGo_pwr _ _ _ _ _ _ _ fun a t h => (State.sweepCmd_some a _ t h).2.2.2.2.2
        rw [Wrote.then_snd]; refine ite_proj _ (fun s => State.pwr s) ?_ k; simpa using k
    · split <;> simp

@[simp] theorem State.unfence_frame (x0 : State) (x1 : CoreId) :
    (State.unfence x0 x1).pending = x0.pending ∧ (State.unfence x0 x1).hbm = x0.hbm ∧ (State.unfence x0 x1).sec = x0.sec ∧ (State.unfence x0 x1).owner = x0.owner ∧ (State.unfence x0 x1).tim = x0.tim ∧ (State.unfence x0 x1).pwr = x0.pwr := by
  unfold State.unfence; ((repeat' split) <;> simp)

@[simp] theorem State.unfenceDone_frame (x0 : State) (x1 : CoreId) (x2 : Nat) :
    (State.unfenceDone x0 x1 x2).pending = x0.pending ∧ (State.unfenceDone x0 x1 x2).hbm = x0.hbm ∧ (State.unfenceDone x0 x1 x2).sec = x0.sec ∧ (State.unfenceDone x0 x1 x2).owner = x0.owner ∧ (State.unfenceDone x0 x1 x2).tim = x0.tim ∧ (State.unfenceDone x0 x1 x2).pwr = x0.pwr := by
  unfold State.unfenceDone; simp; ((repeat' split) <;> simp)

@[simp] theorem State.writeFence_frame (x0 : State) (x1 : Writer) (x2 : CoreId) (x3 : Word) :
    (State.writeFence x0 x1 x2 x3).2.pending = x0.pending ∧ (State.writeFence x0 x1 x2 x3).2.hbm = x0.hbm ∧ (State.writeFence x0 x1 x2 x3).2.sec = x0.sec ∧ (State.writeFence x0 x1 x2 x3).2.owner = x0.owner ∧ (State.writeFence x0 x1 x2 x3).2.tim = x0.tim ∧ (State.writeFence x0 x1 x2 x3).2.pwr = x0.pwr := by
  unfold State.writeFence; ((repeat' split) <;> simp)

@[simp] theorem State.writeArr_frame (x0 : State) (x1 : Writer) (x2 : CoreId) (x3 : RegRow) (x4 : Word) :
    (State.writeArr x0 x1 x2 x3 x4).2.pending = x0.pending ∧ (State.writeArr x0 x1 x2 x3 x4).2.hbm = x0.hbm ∧ (State.writeArr x0 x1 x2 x3 x4).2.sec = x0.sec ∧ (State.writeArr x0 x1 x2 x3 x4).2.owner = x0.owner ∧ (State.writeArr x0 x1 x2 x3 x4).2.tim = x0.tim ∧ (State.writeArr x0 x1 x2 x3 x4).2.pwr = x0.pwr := by
  unfold State.writeArr
  split
  · simp
  · split
    · dsimp only; and_intros <;> split <;> simp
    · split
      · and_intros
        · refine State.startBy_pending _ _ _ _ fun a t h => ?_
          split at h
          · cases h
          · cases h; simp
        · refine State.startBy_hbm _ _ _ _ fun a t h => ?_
          split at h
          · cases h
          · cases h; simp
        · refine State.startBy_sec _ _ _ _ fun a t h => ?_
          split at h
          · cases h
          · cases h; simp
        · refine State.startBy_owner _ _ _ _ fun a t h => ?_
          split at h
          · cases h
          · cases h; simp
        · refine State.startBy_tim _ _ _ _ fun a t h => ?_
          split at h
          · cases h
          · cases h; simp
        · refine State.startBy_pwr _ _ _ _ fun a t h => ?_
          split at h
          · cases h
          · cases h; simp
      · simp

@[simp] theorem State.writeReg_frame (x0 : State) (x1 : Writer) (x2 : Blk) (x3 : RegRow) (x4 : Word) :
    (State.writeReg x0 x1 x2 x3 x4).2.pending = x0.pending := by
  unfold State.writeReg; ((repeat' split) <;> simp)

@[simp] theorem State.noteSections_frame (x0 : State) :
    (State.noteSections x0).pending = x0.pending ∧ (State.noteSections x0).hbm = x0.hbm ∧ (State.noteSections x0).sec = x0.sec ∧ (State.noteSections x0).owner = x0.owner ∧ (State.noteSections x0).tim = x0.tim ∧ (State.noteSections x0).pwr = x0.pwr := by
  unfold State.noteSections; simp

@[simp] theorem State.loadRegs_frame (x0 : State) :
    (State.loadRegs x0).pending = x0.pending ∧ (State.loadRegs x0).hbm = x0.hbm ∧ (State.loadRegs x0).sec = x0.sec ∧ (State.loadRegs x0).owner = x0.owner ∧ (State.loadRegs x0).tim = x0.tim ∧ (State.loadRegs x0).pwr = x0.pwr := by
  unfold State.loadRegs; simp

@[simp] theorem State.clearQueue_frame (x0 : State) (x1 : Queue) :
    (State.clearQueue x0 x1).pending = x0.pending ∧ (State.clearQueue x0 x1).sec = x0.sec ∧ (State.clearQueue x0 x1).owner = x0.owner ∧ (State.clearQueue x0 x1).tim = x0.tim ∧ (State.clearQueue x0 x1).pwr = x0.pwr := by
  unfold State.clearQueue; (try dsimp only); (repeat' split); all_goals (try and_intros); all_goals (try simp); all_goals (repeat (first | rw [State.each_pending] | rw [State.each_hbm] | rw [State.each_sec] | rw [State.each_owner] | rw [State.each_tim] | rw [State.each_pwr])); all_goals (try intros); all_goals ((repeat' split) <;> (first | rfl | simp))

@[simp] theorem State.loadTables_frame (x0 : State) :
    (State.loadTables x0).pending = x0.pending ∧ (State.loadTables x0).sec = x0.sec ∧ (State.loadTables x0).owner = x0.owner ∧ (State.loadTables x0).tim = x0.tim ∧ (State.loadTables x0).pwr = x0.pwr := by
  unfold State.loadTables; simp

@[simp] theorem State.loadGeode_frame (x0 : State) :
    (State.loadGeode x0).pending = x0.pending ∧ (State.loadGeode x0).sec = x0.sec ∧ (State.loadGeode x0).owner = x0.owner ∧ (State.loadGeode x0).tim = x0.tim ∧ (State.loadGeode x0).pwr = x0.pwr := by
  unfold State.loadGeode; ((repeat' split) <;> simp)

theorem State.preset_some (s : State) (r : Requester) (l : List Byte) (t : State)
    (h : State.preset s r l = some t) : t.pending = s.pending := by
  unfold State.preset at h; dsimp only at h
  (repeat' split at h) <;> first | (have h := Option.some.inj h; subst h; simp; done) | (cases h; done)

@[simp] theorem State.presets_frame (x0 : Requester) (x1 : State) (x2 : List (List Byte)) :
    (State.presets x0 x1 x2).2.pending = x1.pending := by
  induction x2 generalizing x1 with
  | nil => rfl
  | cons l ls ih =>
    unfold State.presets
    split
    · rfl
    · rename_i h; exact (ih _).trans (State.preset_some _ _ _ _ h)

@[simp] theorem State.presetStep_frame (x0 : State) (x1 : Requester) :
    (State.presetStep x0 x1).2.pending = x0.pending := by
  unfold State.presetStep; ((repeat' split) <;> simp)

@[simp] theorem State.measureImage_frame (x0 : State) :
    (State.measureImage x0).pending = x0.pending ∧ (State.measureImage x0).hbm = x0.hbm ∧ (State.measureImage x0).owner = x0.owner ∧ (State.measureImage x0).tim = x0.tim ∧ (State.measureImage x0).pwr = x0.pwr := by
  unfold State.measureImage; simp

@[simp] theorem State.imagePoison_frame (x0 : State) :
    (State.imagePoison x0).pending = x0.pending ∧ (State.imagePoison x0).hbm = x0.hbm ∧ (State.imagePoison x0).sec = x0.sec ∧ (State.imagePoison x0).owner = x0.owner ∧ (State.imagePoison x0).tim = x0.tim ∧ (State.imagePoison x0).pwr = x0.pwr := by
  unfold State.imagePoison; simp

theorem State.runLoad_pending (l : List LoadStep) (h : ∀ e ∈ l, ∀ s, (e.act s).pending = s.pending) (s : State) :
    (s.runLoad l).2.pending = s.pending := by
  induction l generalizing s with
  | nil => rfl
  | cons e l ih =>
    unfold State.runLoad
    dsimp only
    split
    · simp
    · split
      · simp
      · split
        · rw [ih (fun e he => h e (by simp [he])), h e (by simp)]; simp
        · simp

theorem State.runLoad_sec (l : List LoadStep) (h : ∀ e ∈ l, ∀ s, (e.act s).sec = s.sec) (s : State) :
    (s.runLoad l).2.sec = s.sec := by
  induction l generalizing s with
  | nil => rfl
  | cons e l ih =>
    unfold State.runLoad
    dsimp only
    split
    · simp
    · split
      · simp
      · split
        · rw [ih (fun e he => h e (by simp [he])), h e (by simp)]; simp
        · simp

theorem State.runLoad_owner (l : List LoadStep) (h : ∀ e ∈ l, ∀ s, (e.act s).owner = s.owner) (s : State) :
    (s.runLoad l).2.owner = s.owner := by
  induction l generalizing s with
  | nil => rfl
  | cons e l ih =>
    unfold State.runLoad
    dsimp only
    split
    · simp
    · split
      · simp
      · split
        · rw [ih (fun e he => h e (by simp [he])), h e (by simp)]; simp
        · simp

theorem State.runLoad_tim (l : List LoadStep) (h : ∀ e ∈ l, ∀ s, (e.act s).tim = s.tim) (s : State) :
    (s.runLoad l).2.tim = s.tim := by
  induction l generalizing s with
  | nil => rfl
  | cons e l ih =>
    unfold State.runLoad
    dsimp only
    split
    · simp
    · split
      · simp
      · split
        · rw [ih (fun e he => h e (by simp [he])), h e (by simp)]; simp
        · simp

theorem State.runLoad_pwr (l : List LoadStep) (h : ∀ e ∈ l, ∀ s, (e.act s).pwr = s.pwr) (s : State) :
    (s.runLoad l).2.pwr = s.pwr := by
  induction l generalizing s with
  | nil => rfl
  | cons e l ih =>
    unfold State.runLoad
    dsimp only
    split
    · simp
    · split
      · simp
      · split
        · rw [ih (fun e he => h e (by simp [he])), h e (by simp)]; simp
        · simp

theorem State.loadAll_some (s : State) (t : State)
    (h : State.loadAll s = some t) : t.pending = s.pending ∧ t.sec = s.sec ∧ t.owner = s.owner ∧ t.tim = s.tim ∧ t.pwr = s.pwr := by
  unfold State.loadAll at h; (try dsimp only at h)
  (repeat' split at h) <;> first | (have h := Option.some.inj h; subst h; simp; done) | (cases h; done)

@[simp] theorem State.loadImage_frame (x0 : State) (x1 : Requester) :
    (State.loadImage x0 x1).2.pending = x0.pending := by
  unfold State.loadImage
  have h (s : State) : (s.runLoad loadSteps).2.pending = s.pending :=
    State.runLoad_pending _ (by simp [loadSteps]) s
  dsimp only
  refine ite_proj _ (fun q : Nat × State => q.2.pending) rfl (ite_proj _ (fun q : Nat × State => q.2.pending) ?_ ?_)
  · simp [h]
  · split
    · simp [h]
    · rename_i e; simp [State.loadAll_some _ _ e, h]

theorem State.startLoad_some (s : State) (r : Requester) (t : State) (h : s.startLoad r = some t) :
    t.pending = s.pending := by
  unfold State.startLoad at h; dsimp only at h
  split at h
  · have h := Option.some.inj h; subst h; simp
  · cases h

@[simp] theorem State.loadDone_frame (x0 : State) :
    (State.loadDone x0).pending = x0.pending ∧ (State.loadDone x0).hbm = x0.hbm ∧ (State.loadDone x0).sec = x0.sec ∧ (State.loadDone x0).owner = x0.owner ∧ (State.loadDone x0).tim = x0.tim ∧ (State.loadDone x0).pwr = x0.pwr := by
  unfold State.loadDone; ((repeat' split) <;> simp)

@[simp] theorem State.readConfig_frame (x0 : State) (x1 : HostId) (x2 : Nat) :
    (State.readConfig x0 x1 x2).pending = x0.pending ∧ (State.readConfig x0 x1 x2).hbm = x0.hbm ∧ (State.readConfig x0 x1 x2).sec = x0.sec ∧ (State.readConfig x0 x1 x2).owner = x0.owner ∧ (State.readConfig x0 x1 x2).tim = x0.tim ∧ (State.readConfig x0 x1 x2).pwr = x0.pwr := by
  unfold State.readConfig; simp; ((repeat' split) <;> simp)

@[simp] theorem State.modConfig_frame (x0 : State) (x1 : HostId) (x2 : (PciConfig → PciConfig)) :
    (State.modConfig x0 x1 x2).pending = x0.pending ∧ (State.modConfig x0 x1 x2).hbm = x0.hbm ∧ (State.modConfig x0 x1 x2).sec = x0.sec ∧ (State.modConfig x0 x1 x2).owner = x0.owner ∧ (State.modConfig x0 x1 x2).tim = x0.tim ∧ (State.modConfig x0 x1 x2).pwr = x0.pwr := by
  unfold State.modConfig; simp

@[simp] theorem State.putConfig_frame (x0 : State) (x1 : HostId) (x2 : Nat) (x3 : Word) :
    (State.putConfig x0 x1 x2 x3).pending = x0.pending ∧ (State.putConfig x0 x1 x2 x3).hbm = x0.hbm ∧ (State.putConfig x0 x1 x2 x3).tim = x0.tim ∧ (State.putConfig x0 x1 x2 x3).pwr = x0.pwr := by
  unfold State.putConfig; simp; ((repeat' split) <;> simp)

@[simp] theorem State.writeConfig_frame (x0 : State) (x1 : HostId) (x2 : Nat) (x3 : Word) :
    (State.writeConfig x0 x1 x2 x3).pending = x0.pending ∧ (State.writeConfig x0 x1 x2 x3).hbm = x0.hbm ∧ (State.writeConfig x0 x1 x2 x3).tim = x0.tim ∧ (State.writeConfig x0 x1 x2 x3).pwr = x0.pwr := by
  unfold State.writeConfig; simp; ((repeat' split) <;> simp)

@[simp] theorem State.dropCapture_frame (x0 : State) (x1 : Requester) (x2 : Nat) :
    (State.dropCapture x0 x1 x2).pending = x0.pending ∧ (State.dropCapture x0 x1 x2).hbm = x0.hbm ∧ (State.dropCapture x0 x1 x2).sec = x0.sec ∧ (State.dropCapture x0 x1 x2).owner = x0.owner ∧ (State.dropCapture x0 x1 x2).tim = x0.tim ∧ (State.dropCapture x0 x1 x2).pwr = x0.pwr := by
  unfold State.dropCapture; simp

@[simp] theorem State.capture_frame (x0 : State) (x1 : Requester) (x2 : Nat) (x3 : Word) :
    (State.capture x0 x1 x2 x3).pending = x0.pending ∧ (State.capture x0 x1 x2 x3).hbm = x0.hbm ∧ (State.capture x0 x1 x2 x3).sec = x0.sec ∧ (State.capture x0 x1 x2 x3).owner = x0.owner ∧ (State.capture x0 x1 x2 x3).tim = x0.tim ∧ (State.capture x0 x1 x2 x3).pwr = x0.pwr := by
  unfold State.capture; simp

@[simp] theorem State.captureFor_frame (x0 : State) (x1 : Requester) (x2 : Blk) (x3 : Nat) :
    (State.captureFor x0 x1 x2 x3).pending = x0.pending ∧ (State.captureFor x0 x1 x2 x3).hbm = x0.hbm ∧ (State.captureFor x0 x1 x2 x3).sec = x0.sec ∧ (State.captureFor x0 x1 x2 x3).owner = x0.owner ∧ (State.captureFor x0 x1 x2 x3).tim = x0.tim ∧ (State.captureFor x0 x1 x2 x3).pwr = x0.pwr := by
  unfold State.captureFor; ((repeat' split) <;> simp)

@[simp] theorem State.readReg_frame (x0 : State) (x1 : Requester) (x2 : Blk) (x3 : Nat) :
    (State.readReg x0 x1 x2 x3).2.pending = x0.pending ∧ (State.readReg x0 x1 x2 x3).2.hbm = x0.hbm ∧ (State.readReg x0 x1 x2 x3).2.sec = x0.sec ∧ (State.readReg x0 x1 x2 x3).2.owner = x0.owner ∧ (State.readReg x0 x1 x2 x3).2.tim = x0.tim ∧ (State.readReg x0 x1 x2 x3).2.pwr = x0.pwr := by
  unfold State.readReg; ((repeat' split) <;> simp)

@[simp] theorem State.readFails_frame (x0 : State) (x1 : Requester) (x2 : Blk) (x3 : Nat) :
    (State.readFails x0 x1 x2 x3).pending = x0.pending ∧ (State.readFails x0 x1 x2 x3).hbm = x0.hbm ∧ (State.readFails x0 x1 x2 x3).sec = x0.sec ∧ (State.readFails x0 x1 x2 x3).owner = x0.owner ∧ (State.readFails x0 x1 x2 x3).tim = x0.tim ∧ (State.readFails x0 x1 x2 x3).pwr = x0.pwr := by
  unfold State.readFails; ((repeat' split) <;> simp)

@[simp] theorem State.writeFails_frame (x0 : State) (x1 : Requester) (x2 : Blk) (x3 : Nat) :
    (State.writeFails x0 x1 x2 x3).pending = x0.pending ∧ (State.writeFails x0 x1 x2 x3).hbm = x0.hbm ∧ (State.writeFails x0 x1 x2 x3).sec = x0.sec ∧ (State.writeFails x0 x1 x2 x3).owner = x0.owner ∧ (State.writeFails x0 x1 x2 x3).tim = x0.tim ∧ (State.writeFails x0 x1 x2 x3).pwr = x0.pwr := by
  unfold State.writeFails; ((repeat' split) <;> simp)

@[simp] theorem State.dbgNext_frame (x0 : State) :
    (State.dbgNext x0).pending = x0.pending ∧ (State.dbgNext x0).hbm = x0.hbm ∧ (State.dbgNext x0).sec = x0.sec ∧ (State.dbgNext x0).owner = x0.owner ∧ (State.dbgNext x0).tim = x0.tim ∧ (State.dbgNext x0).pwr = x0.pwr := by
  unfold State.dbgNext; ((repeat' split) <;> simp)

@[simp] theorem State.dbgPoison_frame (x0 : State) (x1 : Requester) (x2 : Bool) :
    (State.dbgPoison x0 x1 x2).pending = x0.pending ∧ (State.dbgPoison x0 x1 x2).hbm = x0.hbm ∧ (State.dbgPoison x0 x1 x2).sec = x0.sec ∧ (State.dbgPoison x0 x1 x2).owner = x0.owner ∧ (State.dbgPoison x0 x1 x2).tim = x0.tim ∧ (State.dbgPoison x0 x1 x2).pwr = x0.pwr := by
  unfold State.dbgPoison; ((repeat' split) <;> simp)

theorem State.dbgGet_some (s : State) (r : (Nat × Bool) × State) (h : s.dbgGet = some r) :
    r.2.pending = s.pending ∧ r.2.sec = s.sec ∧ r.2.owner = s.owner ∧ r.2.tim = s.tim ∧ r.2.pwr = s.pwr := by
  unfold State.dbgGet at h; dsimp only at h
  (repeat' split at h) <;> first | (have h := Option.some.inj h; subst h; simp; done) | (cases h; done)

theorem State.dbgPut_some (s : State) (w : Word) (t : State)
    (h : State.dbgPut s w = some t) : t.pending = s.pending ∧ t.sec = s.sec ∧ t.owner = s.owner ∧ t.tim = s.tim ∧ t.pwr = s.pwr := by
  unfold State.dbgPut at h; (try dsimp only at h)
  (repeat' split at h) <;> first | (have h := Option.some.inj h; subst h; simp; done) | (cases h; done)

@[simp] theorem State.dbgRead_frame (x0 : State) (x1 : Requester) :
    (State.dbgRead x0 x1).pending = x0.pending ∧ (State.dbgRead x0 x1).sec = x0.sec ∧ (State.dbgRead x0 x1).owner = x0.owner ∧ (State.dbgRead x0 x1).tim = x0.tim ∧ (State.dbgRead x0 x1).pwr = x0.pwr := by
  unfold State.dbgRead
  split
  · simp
  · rename_i h; have := State.dbgGet_some _ _ h; simpa using this

@[simp] theorem State.dbgWrite_frame (x0 : State) (x1 : Requester) (x2 : Word) :
    (State.dbgWrite x0 x1 x2).pending = x0.pending ∧ (State.dbgWrite x0 x1 x2).sec = x0.sec ∧ (State.dbgWrite x0 x1 x2).owner = x0.owner ∧ (State.dbgWrite x0 x1 x2).tim = x0.tim ∧ (State.dbgWrite x0 x1 x2).pwr = x0.pwr := by
  unfold State.dbgWrite; dsimp only
  split
  · simp
  · split
    · rename_i h; simp [State.dbgPut_some _ _ _ h]
    · split <;> simp

theorem State.jobCommand_some (s : State) (r : Requester) (w : Word) (t : State)
    (h : State.jobCommand s r w = some t) : t.pending = s.pending := by
  unfold State.jobCommand at h; dsimp only at h
  (repeat' split at h) <;> first
    | (cases h; done)
    | exact State.startLoad_some _ _ _ h
    | exact (State.armJob_some _ _ h).1
    | exact (State.waitJob_some _ _ _ _ h).1
    | exact (State.haltJob_some _ _ _ h).1
    | (have h := Option.some.inj h; subst h; simp)

@[simp] theorem State.writeJobCmd_frame (x0 : State) (x1 : Requester) (x2 : Word) :
    (State.writeJobCmd x0 x1 x2).pending = x0.pending := by
  unfold State.writeJobCmd; dsimp only
  split
  · simp
  · split
    · rename_i h; simp [State.jobCommand_some _ _ _ _ h]
    · simp

@[simp] theorem State.read32_frame (x0 : State) (x1 : Requester) (x2 : Nat) :
    (State.read32 x0 x1 x2).pending = x0.pending ∧ (State.read32 x0 x1 x2).sec = x0.sec ∧ (State.read32 x0 x1 x2).owner = x0.owner ∧ (State.read32 x0 x1 x2).tim = x0.tim ∧ (State.read32 x0 x1 x2).pwr = x0.pwr := by
  unfold State.read32; simp; ((repeat' split) <;> simp)

@[simp] theorem State.write32_frame (x0 : State) (x1 : Requester) (x2 : Nat) (x3 : Word) :
    (State.write32 x0 x1 x2 x3).pending = x0.pending := by
  unfold State.write32; simp; ((repeat' split) <;> simp)

@[simp] theorem State.readBar0_frame (x0 : State) (x1 : Requester) (x2 : Nat) (x3 : Nat) :
    (State.readBar0 x0 x1 x2 x3).pending = x0.pending ∧ (State.readBar0 x0 x1 x2 x3).sec = x0.sec ∧ (State.readBar0 x0 x1 x2 x3).owner = x0.owner ∧ (State.readBar0 x0 x1 x2 x3).tim = x0.tim ∧ (State.readBar0 x0 x1 x2 x3).pwr = x0.pwr := by
  unfold State.readBar0; ((repeat' split) <;> simp)

@[simp] theorem State.writeBar0_frame (x0 : State) (x1 : Requester) (x2 : Nat) (x3 : Nat) (x4 : BitVec 64) :
    (State.writeBar0 x0 x1 x2 x3 x4).pending = x0.pending := by
  unfold State.writeBar0; ((repeat' split) <;> simp)

@[simp] theorem State.writeMsix_frame (x0 : State) (x1 : HostId) (x2 : Nat) (x3 : Word) :
    (State.writeMsix x0 x1 x2 x3).pending = x0.pending ∧ (State.writeMsix x0 x1 x2 x3).hbm = x0.hbm ∧ (State.writeMsix x0 x1 x2 x3).sec = x0.sec ∧ (State.writeMsix x0 x1 x2 x3).owner = x0.owner ∧ (State.writeMsix x0 x1 x2 x3).tim = x0.tim ∧ (State.writeMsix x0 x1 x2 x3).pwr = x0.pwr := by
  unfold State.writeMsix; simp

@[simp] theorem State.readBar4_frame (x0 : State) (x1 : HostId) (x2 : Nat) (x3 : Nat) :
    (State.readBar4 x0 x1 x2 x3).pending = x0.pending ∧ (State.readBar4 x0 x1 x2 x3).hbm = x0.hbm ∧ (State.readBar4 x0 x1 x2 x3).sec = x0.sec ∧ (State.readBar4 x0 x1 x2 x3).owner = x0.owner ∧ (State.readBar4 x0 x1 x2 x3).tim = x0.tim ∧ (State.readBar4 x0 x1 x2 x3).pwr = x0.pwr := by
  unfold State.readBar4; simp; ((repeat' split) <;> simp)

@[simp] theorem State.write4_frame (x0 : State) (x1 : HostId) (x2 : Nat) (x3 : Word) :
    (State.write4 x0 x1 x2 x3).pending = x0.pending ∧ (State.write4 x0 x1 x2 x3).hbm = x0.hbm ∧ (State.write4 x0 x1 x2 x3).sec = x0.sec ∧ (State.write4 x0 x1 x2 x3).owner = x0.owner ∧ (State.write4 x0 x1 x2 x3).tim = x0.tim ∧ (State.write4 x0 x1 x2 x3).pwr = x0.pwr := by
  unfold State.write4; ((repeat' split) <;> simp)

@[simp] theorem State.writeBar4_frame (x0 : State) (x1 : HostId) (x2 : Nat) (x3 : Nat) (x4 : BitVec 64) :
    (State.writeBar4 x0 x1 x2 x3 x4).pending = x0.pending ∧ (State.writeBar4 x0 x1 x2 x3 x4).hbm = x0.hbm ∧ (State.writeBar4 x0 x1 x2 x3 x4).sec = x0.sec ∧ (State.writeBar4 x0 x1 x2 x3 x4).owner = x0.owner ∧ (State.writeBar4 x0 x1 x2 x3 x4).tim = x0.tim ∧ (State.writeBar4 x0 x1 x2 x3 x4).pwr = x0.pwr := by
  unfold State.writeBar4; ((repeat' split) <;> simp)

@[simp] theorem State.i3cRead_frame (x0 : State) (x1 : Nat) :
    (State.i3cRead x0 x1).pending = x0.pending ∧ (State.i3cRead x0 x1).hbm = x0.hbm ∧ (State.i3cRead x0 x1).sec = x0.sec ∧ (State.i3cRead x0 x1).owner = x0.owner ∧ (State.i3cRead x0 x1).tim = x0.tim ∧ (State.i3cRead x0 x1).pwr = x0.pwr := by
  unfold State.i3cRead; simp; ((repeat' split) <;> simp)

@[simp] theorem State.i3cWrite_frame (x0 : State) (x1 : Nat) (x2 : Word) :
    (State.i3cWrite x0 x1 x2).pending = x0.pending := by
  unfold State.i3cWrite; simp; ((repeat' split) <;> simp)

@[simp] theorem State.regRead_frame (x0 : State) (x1 : Requester) (x2 : RegAccess) :
    (State.regRead x0 x1 x2).pending = x0.pending ∧ (State.regRead x0 x1 x2).sec = x0.sec ∧ (State.regRead x0 x1 x2).owner = x0.owner ∧ (State.regRead x0 x1 x2).tim = x0.tim ∧ (State.regRead x0 x1 x2).pwr = x0.pwr := by
  unfold State.regRead; ((repeat' split) <;> simp)

@[simp] theorem State.regWrite_frame (x0 : State) (x1 : Requester) (x2 : RegAccess) (x3 : BitVec 64) :
    (State.regWrite x0 x1 x2 x3).pending = x0.pending := by
  unfold State.regWrite; ((repeat' split) <;> simp)

@[simp] theorem State.poke_frame (x0 : State) (x1 : Requester) (x2 : Blk) (x3 : Nat) (x4 : Word) :
    (State.poke x0 x1 x2 x3 x4).pending = x0.pending := by
  unfold State.poke; simp

@[simp] theorem State.peek_frame (x0 : State) (x1 : Requester) (x2 : Blk) (x3 : Nat) :
    (State.peek x0 x1 x2 x3).pending = x0.pending ∧ (State.peek x0 x1 x2 x3).sec = x0.sec ∧ (State.peek x0 x1 x2 x3).owner = x0.owner ∧ (State.peek x0 x1 x2 x3).tim = x0.tim ∧ (State.peek x0 x1 x2 x3).pwr = x0.pwr := by
  unfold State.peek; simp

@[simp] theorem State.tap_frame (x0 : State) (x1 : Byte) :
    (State.tap x0 x1).pending = x0.pending ∧ (State.tap x0 x1).hbm = x0.hbm ∧ (State.tap x0 x1).sec = x0.sec ∧ (State.tap x0 x1).owner = x0.owner ∧ (State.tap x0 x1).tim = x0.tim ∧ (State.tap x0 x1).pwr = x0.pwr := by
  unfold State.tap; simp; ((repeat' split) <;> simp)

end Sys2Proof.Machine
end

