-- ==== Sys2Proof/Laws/FrameRows.lean ====
section
/-!
SUPPORT. What the operations that stand beside the rows, resets and the issue of each descriptor leave unchanged.
-/

namespace Sys2Proof.Machine

open Sys2Proof

/-! ### Resets and power states -/

@[simp] theorem State.mainReset_pending (s : State) : s.mainReset.pending = s.pending := rfl

@[simp] theorem State.mainReset_sec (s : State) : s.mainReset.sec = s.sec := rfl

@[simp] theorem State.coldReset_pending (s : State) : s.coldReset.pending = s.pending := rfl

@[simp] theorem State.enterOff_pending (s : State) (n : Nat) : (s.enterOff n).pending = s.pending := by
  unfold State.enterOff
  generalize allFin 16 = l
  simp

@[simp] theorem State.mainPowerLost_pending (s : State) : s.mainPowerLost.pending = s.pending := by
  unfold State.mainPowerLost
  dsimp only
  (repeat' split) <;> simp

@[simp] theorem State.powerReached_pending (s : State) (l : List DieBringUp) :
    (s.powerReached l).pending = s.pending := by
  unfold State.powerReached
  generalize allFin 4 = k
  (repeat' split) <;> simp

/-! ### Operations beside the rows -/

@[simp] theorem State.pokeCtl_pending (s : State) (r : Requester) (p : BitVec 14) (m : Word) :
    (s.pokeCtl r p m).pending = s.pending := by
  unfold State.pokeCtl; (repeat' split) <;> simp

@[simp] theorem State.metaPoison_frame (s : State) :
    (s.metaPoison).pending = s.pending ∧ (s.metaPoison).sec = s.sec ∧ (s.metaPoison).owner = s.owner ∧ (s.metaPoison).tim = s.tim ∧ (s.metaPoison).pwr = s.pwr := by
  unfold State.metaPoison; and_intros <;> (repeat' split) <;> simp

@[simp] theorem State.geoHelloExpiry_frame (s : State) :
    (s.geoHelloExpiry).pending = s.pending ∧ (s.geoHelloExpiry).sec = s.sec ∧ (s.geoHelloExpiry).owner = s.owner ∧ (s.geoHelloExpiry).tim = s.tim ∧ (s.geoHelloExpiry).pwr = s.pwr := by
  unfold State.geoHelloExpiry; dsimp only; and_intros <;> (repeat' split) <;> simp

@[simp] theorem State.entdaa_frame (s : State) (a : BitVec 7) :
    (s.entdaa a).pending = s.pending ∧ (s.entdaa a).sec = s.sec ∧ (s.entdaa a).owner = s.owner ∧ (s.entdaa a).tim = s.tim ∧ (s.entdaa a).pwr = s.pwr := by
  unfold State.entdaa; dsimp only; and_intros <;> (repeat' split) <;> simp

@[simp] theorem State.rstdaa_frame (s : State) :
    (s.rstdaa).pending = s.pending ∧ (s.rstdaa).sec = s.sec ∧ (s.rstdaa).owner = s.owner ∧ (s.rstdaa).tim = s.tim ∧ (s.rstdaa).pwr = s.pwr := by
  unfold State.rstdaa; dsimp only; and_intros <;> (repeat' split) <;> simp

@[simp] theorem State.setIbi_frame (s : State) (a : Bool) :
    (s.setIbi a).pending = s.pending ∧ (s.setIbi a).sec = s.sec ∧ (s.setIbi a).owner = s.owner ∧ (s.setIbi a).tim = s.tim ∧ (s.setIbi a).pwr = s.pwr := by
  unfold State.setIbi; dsimp only; and_intros <;> (repeat' split) <;> simp

@[simp] theorem State.noteUpsets_frame (s : State) (t : StackId) (u : List (BitVec 40 × Fin 4)) :
    (s.noteUpsets t u).pending = s.pending ∧ (s.noteUpsets t u).sec = s.sec ∧ (s.noteUpsets t u).owner = s.owner ∧ (s.noteUpsets t u).tim = s.tim ∧ (s.noteUpsets t u).pwr = s.pwr := by
  unfold State.noteUpsets State.setUpset
  and_intros <;> simp

@[simp] theorem State.hbmRead_frame (s : State) (t : StackId) (o l : Nat) (u : List (BitVec 40 × Fin 4)) (n : Nat)
    (e : ArbEntry) (w : List ArbEntry) :
    (s.hbmRead t o l u n e w).pending = s.pending ∧ (s.hbmRead t o l u n e w).sec = s.sec ∧ (s.hbmRead t o l u n e w).owner = s.owner ∧ (s.hbmRead t o l u n e w).tim = s.tim ∧ (s.hbmRead t o l u n e w).pwr = s.pwr := by
  unfold State.hbmRead State.eccCorrected; dsimp only; and_intros <;> (repeat' split) <;> simp

@[simp] theorem State.hbmWrite_frame (s : State) (t : StackId) (o : Nat) (d : List Byte) (p : Bool) (e : ArbEntry) (w : List ArbEntry) :
    (s.hbmWrite t o d p e w).pending = s.pending ∧ (s.hbmWrite t o d p e w).sec = s.sec ∧ (s.hbmWrite t o d p e w).owner = s.owner ∧ (s.hbmWrite t o d p e w).tim = s.tim ∧ (s.hbmWrite t o d p e w).pwr = s.pwr := by
  unfold State.hbmWrite; dsimp only; and_intros <;> (repeat' split) <;> simp

/-! ### The issue of a descriptor -/

@[simp] theorem State.vectorRow_frame (s : State) (c : CoreId) (op : Nat) :
    (s.vectorRow c op).pending = s.pending ∧ (s.vectorRow c op).sec = s.sec ∧ (s.vectorRow c op).owner = s.owner ∧ (s.vectorRow c op).tim = s.tim ∧ (s.vectorRow c op).pwr = s.pwr := by
  have h := State.issue_same s c op (fun d l s => d.vector c l s) fun d l s => d.vector_keeps c l s
  simp [State.vectorRow, h.1, h.2, h.3, h.4, h.5]

@[simp] theorem Desc.endList_issue (s : State) (c : CoreId) (op : Nat) :
    (s.issue c op (fun d _ s => d.endList c s)).pending = s.pending ∧ (s.issue c op (fun d _ s => d.endList c s)).sec = s.sec ∧ (s.issue c op (fun d _ s => d.endList c s)).owner = s.owner ∧ (s.issue c op (fun d _ s => d.endList c s)).tim = s.tim ∧ (s.issue c op (fun d _ s => d.endList c s)).pwr = s.pwr :=
  have h := State.issue_same s c op _ fun d _ s => Desc.endList_keeps d c s
  ⟨h.1, h.2, h.3, h.4, h.5⟩

@[simp] theorem Desc.nop_issue (s : State) (c : CoreId) (op : Nat) :
    (s.issue c op (fun d _ s => d.nop s)).pending = s.pending ∧ (s.issue c op (fun d _ s => d.nop s)).sec = s.sec ∧ (s.issue c op (fun d _ s => d.nop s)).owner = s.owner ∧ (s.issue c op (fun d _ s => d.nop s)).tim = s.tim ∧ (s.issue c op (fun d _ s => d.nop s)).pwr = s.pwr :=
  have h := State.issue_same s c op _ fun d _ s => Desc.nop_keeps d s
  ⟨h.1, h.2, h.3, h.4, h.5⟩

@[simp] theorem Desc.fence_issue (s : State) (c : CoreId) (op : Nat) :
    (s.issue c op (fun d _ s => d.fence c s)).pending = s.pending ∧ (s.issue c op (fun d _ s => d.fence c s)).sec = s.sec ∧ (s.issue c op (fun d _ s => d.fence c s)).owner = s.owner ∧ (s.issue c op (fun d _ s => d.fence c s)).tim = s.tim ∧ (s.issue c op (fun d _ s => d.fence c s)).pwr = s.pwr :=
  have h := State.issue_same s c op _ fun d _ s => Desc.fence_keeps d c s
  ⟨h.1, h.2, h.3, h.4, h.5⟩

@[simp] theorem Desc.runMma_issue (s : State) (c : CoreId) (op : Nat) (u : List Upset) :
    (s.issue c op (fun d _ s => d.runMma c u s)).pending = s.pending ∧ (s.issue c op (fun d _ s => d.runMma c u s)).sec = s.sec ∧ (s.issue c op (fun d _ s => d.runMma c u s)).owner = s.owner ∧ (s.issue c op (fun d _ s => d.runMma c u s)).tim = s.tim ∧ (s.issue c op (fun d _ s => d.runMma c u s)).pwr = s.pwr :=
  have h := State.issue_same s c op _ fun d _ s => Desc.runMma_keeps d c u s
  ⟨h.1, h.2, h.3, h.4, h.5⟩

@[simp] theorem Desc.vector_issue (s : State) (c : CoreId) (op : Nat) :
    (s.issue c op (fun d l s => d.vector c l s)).pending = s.pending ∧ (s.issue c op (fun d l s => d.vector c l s)).sec = s.sec ∧ (s.issue c op (fun d l s => d.vector c l s)).owner = s.owner ∧ (s.issue c op (fun d l s => d.vector c l s)).tim = s.tim ∧ (s.issue c op (fun d l s => d.vector c l s)).pwr = s.pwr :=
  have h := State.issue_same s c op _ fun d l s => Desc.vector_keeps d c l s
  ⟨h.1, h.2, h.3, h.4, h.5⟩

@[simp] theorem Desc.dmaCopy_issue (s : State) (c : CoreId) (op : Nat) :
    (s.issue c op (fun d l s => d.dmaCopy c l s)).pending = s.pending ∧ (s.issue c op (fun d l s => d.dmaCopy c l s)).sec = s.sec ∧ (s.issue c op (fun d l s => d.dmaCopy c l s)).owner = s.owner ∧ (s.issue c op (fun d l s => d.dmaCopy c l s)).tim = s.tim ∧ (s.issue c op (fun d l s => d.dmaCopy c l s)).pwr = s.pwr :=
  have h := State.issue_same s c op _ fun d l s => Desc.dmaCopy_keeps d c l s
  ⟨h.1, h.2, h.3, h.4, h.5⟩

@[simp] theorem Desc.dmaFill_issue (s : State) (c : CoreId) (op : Nat) :
    (s.issue c op (fun d l s => d.dmaFill c l s)).pending = s.pending ∧ (s.issue c op (fun d l s => d.dmaFill c l s)).sec = s.sec ∧ (s.issue c op (fun d l s => d.dmaFill c l s)).owner = s.owner ∧ (s.issue c op (fun d l s => d.dmaFill c l s)).tim = s.tim ∧ (s.issue c op (fun d l s => d.dmaFill c l s)).pwr = s.pwr :=
  have h := State.issue_same s c op _ fun d l s => Desc.dmaFill_keeps d c l s
  ⟨h.1, h.2, h.3, h.4, h.5⟩

@[simp] theorem Desc.ctxStart_issue (s : State) (c : CoreId) (op : Nat) :
    (s.issue c op (fun d l s => d.ctxStart c l s)).pending = s.pending ∧ (s.issue c op (fun d l s => d.ctxStart c l s)).sec = s.sec ∧ (s.issue c op (fun d l s => d.ctxStart c l s)).owner = s.owner ∧ (s.issue c op (fun d l s => d.ctxStart c l s)).tim = s.tim ∧ (s.issue c op (fun d l s => d.ctxStart c l s)).pwr = s.pwr :=
  have h := State.issue_same s c op _ fun d l s => Desc.ctxStart_keeps d c l s
  ⟨h.1, h.2, h.3, h.4, h.5⟩

@[simp] theorem Desc.ctxEnd_issue (s : State) (c : CoreId) (op : Nat) :
    (s.issue c op (fun d l s => d.ctxEnd c l s)).pending = s.pending ∧ (s.issue c op (fun d l s => d.ctxEnd c l s)).sec = s.sec ∧ (s.issue c op (fun d l s => d.ctxEnd c l s)).owner = s.owner ∧ (s.issue c op (fun d l s => d.ctxEnd c l s)).tim = s.tim ∧ (s.issue c op (fun d l s => d.ctxEnd c l s)).pwr = s.pwr :=
  have h := State.issue_same s c op _ fun d l s => Desc.ctxEnd_keeps d c l s
  ⟨h.1, h.2, h.3, h.4, h.5⟩

@[simp] theorem Desc.qcheck_issue (s : State) (c : CoreId) (op : Nat) :
    (s.issue c op (fun d l s => d.qcheck c l s)).pending = s.pending ∧ (s.issue c op (fun d l s => d.qcheck c l s)).sec = s.sec ∧ (s.issue c op (fun d l s => d.qcheck c l s)).owner = s.owner ∧ (s.issue c op (fun d l s => d.qcheck c l s)).tim = s.tim ∧ (s.issue c op (fun d l s => d.qcheck c l s)).pwr = s.pwr :=
  have h := State.issue_same s c op _ fun d l s => Desc.qcheck_keeps d c l s
  ⟨h.1, h.2, h.3, h.4, h.5⟩

@[simp] theorem Desc.qcopy_issue (s : State) (c : CoreId) (op : Nat) :
    (s.issue c op (fun d l s => d.qcopy c l s)).pending = s.pending ∧ (s.issue c op (fun d l s => d.qcopy c l s)).sec = s.sec ∧ (s.issue c op (fun d l s => d.qcopy c l s)).owner = s.owner ∧ (s.issue c op (fun d l s => d.qcopy c l s)).tim = s.tim ∧ (s.issue c op (fun d l s => d.qcopy c l s)).pwr = s.pwr :=
  have h := State.issue_same s c op _ fun d l s => Desc.qcopy_keeps d c l s
  ⟨h.1, h.2, h.3, h.4, h.5⟩

@[simp] theorem Desc.vcapture_issue (s : State) (c : CoreId) (op : Nat) :
    (s.issue c op (fun d l s => d.vcapture c l s)).pending = s.pending ∧ (s.issue c op (fun d l s => d.vcapture c l s)).sec = s.sec ∧ (s.issue c op (fun d l s => d.vcapture c l s)).owner = s.owner ∧ (s.issue c op (fun d l s => d.vcapture c l s)).tim = s.tim ∧ (s.issue c op (fun d l s => d.vcapture c l s)).pwr = s.pwr :=
  have h := State.issue_same s c op _ fun d l s => Desc.vcapture_keeps d c l s
  ⟨h.1, h.2, h.3, h.4, h.5⟩

@[simp] theorem Desc.vgather_issue (s : State) (c : CoreId) (op : Nat) :
    (s.issue c op (fun d l s => d.vgather c l s)).pending = s.pending ∧ (s.issue c op (fun d l s => d.vgather c l s)).sec = s.sec ∧ (s.issue c op (fun d l s => d.vgather c l s)).owner = s.owner ∧ (s.issue c op (fun d l s => d.vgather c l s)).tim = s.tim ∧ (s.issue c op (fun d l s => d.vgather c l s)).pwr = s.pwr :=
  have h := State.issue_same s c op _ fun d l s => Desc.vgather_keeps d c l s
  ⟨h.1, h.2, h.3, h.4, h.5⟩

@[simp] theorem Desc.vopen_issue (s : State) (c : CoreId) (op : Nat) :
    (s.issue c op (fun d l s => d.vopen c l s)).pending = s.pending ∧ (s.issue c op (fun d l s => d.vopen c l s)).sec = s.sec ∧ (s.issue c op (fun d l s => d.vopen c l s)).owner = s.owner ∧ (s.issue c op (fun d l s => d.vopen c l s)).tim = s.tim ∧ (s.issue c op (fun d l s => d.vopen c l s)).pwr = s.pwr :=
  have h := State.issue_same s c op _ fun d l s => Desc.vopen_keeps d c l s
  ⟨h.1, h.2, h.3, h.4, h.5⟩

@[simp] theorem Desc.vpublish_issue (s : State) (c : CoreId) (op : Nat) :
    (s.issue c op (fun d l s => d.vpublish c l s)).pending = s.pending ∧ (s.issue c op (fun d l s => d.vpublish c l s)).sec = s.sec ∧ (s.issue c op (fun d l s => d.vpublish c l s)).owner = s.owner ∧ (s.issue c op (fun d l s => d.vpublish c l s)).tim = s.tim ∧ (s.issue c op (fun d l s => d.vpublish c l s)).pwr = s.pwr :=
  have h := State.issue_same s c op _ fun d l s => Desc.vpublish_keeps d c l s
  ⟨h.1, h.2, h.3, h.4, h.5⟩

@[simp] theorem Desc.remote_issue (s : State) (c : CoreId) (op : Nat) :
    (s.issue c op (fun d l s => d.remote c l s)).pending = s.pending ∧ (s.issue c op (fun d l s => d.remote c l s)).sec = s.sec ∧ (s.issue c op (fun d l s => d.remote c l s)).owner = s.owner ∧ (s.issue c op (fun d l s => d.remote c l s)).tim = s.tim ∧ (s.issue c op (fun d l s => d.remote c l s)).pwr = s.pwr :=
  have h := State.issue_same s c op _ fun d l s => Desc.remote_keeps d c l s
  ⟨h.1, h.2, h.3, h.4, h.5⟩

@[simp] theorem Desc.collective_issue (s : State) (c : CoreId) (op : Nat) :
    (s.issue c op (fun d _ s => d.collective c s)).pending = s.pending ∧ (s.issue c op (fun d _ s => d.collective c s)).sec = s.sec ∧ (s.issue c op (fun d _ s => d.collective c s)).owner = s.owner ∧ (s.issue c op (fun d _ s => d.collective c s)).tim = s.tim ∧ (s.issue c op (fun d _ s => d.collective c s)).pwr = s.pwr :=
  have h := State.issue_same s c op _ fun d _ s => Desc.collective_keeps d c s
  ⟨h.1, h.2, h.3, h.4, h.5⟩

@[simp] theorem Desc.ringStart_issue (s : State) (c : CoreId) (op : Nat) :
    (s.issue c op (fun d l s => d.ringStart c l s)).pending = s.pending ∧ (s.issue c op (fun d l s => d.ringStart c l s)).sec = s.sec ∧ (s.issue c op (fun d l s => d.ringStart c l s)).owner = s.owner ∧ (s.issue c op (fun d l s => d.ringStart c l s)).tim = s.tim ∧ (s.issue c op (fun d l s => d.ringStart c l s)).pwr = s.pwr :=
  have h := State.issue_same s c op _ fun d l s => Desc.ringStart_keeps d c l s
  ⟨h.1, h.2, h.3, h.4, h.5⟩

@[simp] theorem Desc.ringWait_issue (s : State) (c : CoreId) (op : Nat) :
    (s.issue c op (fun d _ s => d.ringWait c s)).pending = s.pending ∧ (s.issue c op (fun d _ s => d.ringWait c s)).sec = s.sec ∧ (s.issue c op (fun d _ s => d.ringWait c s)).owner = s.owner ∧ (s.issue c op (fun d _ s => d.ringWait c s)).tim = s.tim ∧ (s.issue c op (fun d _ s => d.ringWait c s)).pwr = s.pwr :=
  have h := State.issue_same s c op _ fun d _ s => Desc.ringWait_keeps d c s
  ⟨h.1, h.2, h.3, h.4, h.5⟩

@[simp] theorem Desc.kat_issue (s : State) (c : CoreId) (op : Nat) (k : Nat) :
    (s.issue c op (fun d _ s => d.kat c k s)).pending = s.pending ∧ (s.issue c op (fun d _ s => d.kat c k s)).sec = s.sec ∧ (s.issue c op (fun d _ s => d.kat c k s)).owner = s.owner ∧ (s.issue c op (fun d _ s => d.kat c k s)).tim = s.tim ∧ (s.issue c op (fun d _ s => d.kat c k s)).pwr = s.pwr :=
  have h := State.issue_same s c op _ fun d _ s => Desc.kat_keeps d c k s
  ⟨h.1, h.2, h.3, h.4, h.5⟩

end Sys2Proof.Machine
end

