-- ==== Sys2Proof/Laws/Secure.lean ====
section
/-!
SUPPORT. What keeps the lifecycle state, the debug level, its mark, the failed submissions and the power state as they
are, and that what changes them stays lawful.
-/

namespace Sys2Proof.Machine

open Sys2Proof

/-! ### Operations that leave the four security fields as they are -/

@[simp] theorem State.setMeas_keeps (s : State) (i : Nat) (v : List Byte) :
    (s.setMeas i v).sec.lifecycle = s.sec.lifecycle ∧ (s.setMeas i v).sec.level = s.sec.level ∧ (s.setMeas i v).sec.marked = s.sec.marked ∧ (s.setMeas i v).sec.fails = s.sec.fails := by
  simp [State.setMeas]

@[simp] theorem State.clearEffects_keeps (s : State) (z : Bool) :
    (s.clearEffects z).sec.lifecycle = s.sec.lifecycle ∧ (s.clearEffects z).sec.level = s.sec.level ∧ (s.clearEffects z).sec.marked = s.sec.marked ∧ (s.clearEffects z).sec.fails = s.sec.fails := by
  unfold State.clearEffects; dsimp only; and_intros <;> split <;> simp

@[simp] theorem State.clearJob_keeps (s : State) (z : Bool) :
    (s.clearJob z).sec.lifecycle = s.sec.lifecycle ∧ (s.clearJob z).sec.level = s.sec.level ∧ (s.clearJob z).sec.marked = s.sec.marked ∧ (s.clearJob z).sec.fails = s.sec.fails := by
  simp [State.clearJob]

@[simp] theorem State.measure_keeps (s : State) (i : Nat) (d : List Byte) :
    (s.measure i d).sec.lifecycle = s.sec.lifecycle ∧ (s.measure i d).sec.level = s.sec.level ∧ (s.measure i d).sec.marked = s.sec.marked ∧ (s.measure i d).sec.fails = s.sec.fails := by
  simp [State.measure]

@[simp] theorem State.measureLife_keeps (s : State) :
    (s.measureLife).sec.lifecycle = s.sec.lifecycle ∧ (s.measureLife).sec.level = s.sec.level ∧ (s.measureLife).sec.marked = s.sec.marked ∧ (s.measureLife).sec.fails = s.sec.fails := by
  simp [State.measureLife]

@[simp] theorem State.measureLevel_keeps (s : State) (d : List Byte) :
    (s.measureLevel d).sec.lifecycle = s.sec.lifecycle ∧ (s.measureLevel d).sec.level = s.sec.level ∧ (s.measureLevel d).sec.marked = s.sec.marked ∧ (s.measureLevel d).sec.fails = s.sec.fails := by
  simp [State.measureLevel]

@[simp] theorem State.bootFirmware_keeps (s : State) :
    (s.bootFirmware).2.sec.lifecycle = s.sec.lifecycle ∧ (s.bootFirmware).2.sec.level = s.sec.level ∧ (s.bootFirmware).2.sec.marked = s.sec.marked ∧ (s.bootFirmware).2.sec.fails = s.sec.fails := by
  unfold State.bootFirmware; generalize zero32 = z; dsimp only; and_intros <;> (repeat' split) <;> simp [State.modSec]

@[simp] theorem State.deriveIdentity_keeps (s : State) :
    (s.deriveIdentity).sec.lifecycle = s.sec.lifecycle ∧ (s.deriveIdentity).sec.level = s.sec.level ∧ (s.deriveIdentity).sec.marked = s.sec.marked ∧ (s.deriveIdentity).sec.fails = s.sec.fails := by
  simp [State.deriveIdentity, State.modSec]

@[simp] theorem State.setMail_keeps (s : State) (k : Carrier) (m : Mail) :
    (s.setMail k m).sec.lifecycle = s.sec.lifecycle ∧ (s.setMail k m).sec.level = s.sec.level ∧ (s.setMail k m).sec.marked = s.sec.marked ∧ (s.setMail k m).sec.fails = s.sec.fails := by
  unfold State.setMail; (repeat' split) <;> simp [State.modSec]

@[simp] theorem State.answer_keeps (s : State) (k : Carrier) (m : Reply) :
    (s.answer k m).sec.lifecycle = s.sec.lifecycle ∧ (s.answer k m).sec.level = s.sec.level ∧ (s.answer k m).sec.marked = s.sec.marked ∧ (s.answer k m).sec.fails = s.sec.fails := by
  simp [State.answer]

@[simp] theorem State.startZero_keeps (s : State) (n : Nat) :
    (s.startZero n).sec.lifecycle = s.sec.lifecycle ∧ (s.startZero n).sec.level = s.sec.level ∧ (s.startZero n).sec.marked = s.sec.marked ∧ (s.startZero n).sec.fails = s.sec.fails := by
  unfold State.startZero; generalize allFin 16 = l; dsimp only; and_intros <;> split <;> simp [State.modSec]

@[simp] theorem State.nonceExpiry_keeps (s : State) :
    (s.nonceExpiry).sec.lifecycle = s.sec.lifecycle ∧ (s.nonceExpiry).sec.level = s.sec.level ∧ (s.nonceExpiry).sec.marked = s.sec.marked ∧ (s.nonceExpiry).sec.fails = s.sec.fails := by
  simp [State.nonceExpiry, State.modSec]

@[simp] theorem State.tokenResult_keeps (s : State) (k : Option Carrier) (n : Nat) :
    (s.tokenResult k n).sec.lifecycle = s.sec.lifecycle ∧ (s.tokenResult k n).sec.level = s.sec.level ∧ (s.tokenResult k n).sec.marked = s.sec.marked ∧ (s.tokenResult k n).sec.fails = s.sec.fails := by
  unfold State.tokenResult; dsimp only; and_intros <;> (repeat' split) <;> simp [State.modSec]

@[simp] theorem State.doeAbort_keeps (s : State) (h : HostId) :
    (s.doeAbort h).sec.lifecycle = s.sec.lifecycle ∧ (s.doeAbort h).sec.level = s.sec.level ∧ (s.doeAbort h).sec.marked = s.sec.marked ∧ (s.doeAbort h).sec.fails = s.sec.fails := by
  simp [State.doeAbort, State.modSec]

@[simp] theorem State.responseReady_keeps (s : State) (k : Carrier) :
    (s.responseReady k).sec.lifecycle = s.sec.lifecycle ∧ (s.responseReady k).sec.level = s.sec.level ∧ (s.responseReady k).sec.marked = s.sec.marked ∧ (s.responseReady k).sec.fails = s.sec.fails := by
  unfold State.responseReady; dsimp only; and_intros <;> (repeat' split) <;> simp

@[simp] theorem State.fwUpdateDone_keeps (s : State) (i : Option FwImage) (f : Bool) :
    (s.fwUpdateDone i f).sec.lifecycle = s.sec.lifecycle ∧ (s.fwUpdateDone i f).sec.level = s.sec.level ∧ (s.fwUpdateDone i f).sec.marked = s.sec.marked ∧ (s.fwUpdateDone i f).sec.fails = s.sec.fails := by
  unfold State.fwUpdateDone; dsimp only; and_intros <;> (repeat' split) <;> simp [State.modSec]

@[simp] theorem State.shaleUpdateDone_keeps (s : State) (i : Option ShaleImage) (f : Bool) :
    (s.shaleUpdateDone i f).sec.lifecycle = s.sec.lifecycle ∧ (s.shaleUpdateDone i f).sec.level = s.sec.level ∧ (s.shaleUpdateDone i f).sec.marked = s.sec.marked ∧ (s.shaleUpdateDone i f).sec.fails = s.sec.fails := by
  unfold State.shaleUpdateDone; dsimp only; and_intros <;> (repeat' split) <;> simp [State.modSec]

@[simp] theorem State.updatesFail_keeps (s : State) :
    (s.updatesFail).sec.lifecycle = s.sec.lifecycle ∧ (s.updatesFail).sec.level = s.sec.level ∧ (s.updatesFail).sec.marked = s.sec.marked ∧ (s.updatesFail).sec.fails = s.sec.fails := by
  simp [State.updatesFail]

@[simp] theorem State.functionReset_keeps (s : State) (h : HostId) :
    (s.functionReset h).sec.lifecycle = s.sec.lifecycle ∧ (s.functionReset h).sec.level = s.sec.level ∧ (s.functionReset h).sec.marked = s.sec.marked ∧ (s.functionReset h).sec.fails = s.sec.fails := by
  simp [State.functionReset]

@[simp] theorem State.conventionalReset_keeps (s : State) (h : HostId) :
    (s.conventionalReset h).sec.lifecycle = s.sec.lifecycle ∧ (s.conventionalReset h).sec.level = s.sec.level ∧ (s.conventionalReset h).sec.marked = s.sec.marked ∧ (s.conventionalReset h).sec.fails = s.sec.fails := by
  unfold State.conventionalReset; dsimp only; and_intros <;> (repeat' split) <;> simp

@[simp] theorem State.functionLevelReset_keeps (s : State) (h : HostId) :
    (s.functionLevelReset h).sec.lifecycle = s.sec.lifecycle ∧ (s.functionLevelReset h).sec.level = s.sec.level ∧ (s.functionLevelReset h).sec.marked = s.sec.marked ∧ (s.functionLevelReset h).sec.fails = s.sec.fails := by
  unfold State.functionLevelReset; dsimp only; and_intros <;> (repeat' split) <;> simp

@[simp] theorem State.putConfig_keeps (s : State) (h : HostId) (a : Nat) (w : Word) :
    (s.putConfig h a w).sec.lifecycle = s.sec.lifecycle ∧ (s.putConfig h a w).sec.level = s.sec.level ∧ (s.putConfig h a w).sec.marked = s.sec.marked ∧ (s.putConfig h a w).sec.fails = s.sec.fails := by
  unfold State.putConfig; dsimp only; (repeat' split) <;> simp [State.modConfig]

@[simp] theorem State.writeConfig_keeps (s : State) (h : HostId) (a : Nat) (w : Word) :
    (s.writeConfig h a w).sec.lifecycle = s.sec.lifecycle ∧ (s.writeConfig h a w).sec.level = s.sec.level ∧ (s.writeConfig h a w).sec.marked = s.sec.marked ∧ (s.writeConfig h a w).sec.fails = s.sec.fails := by
  unfold State.writeConfig; dsimp only; (repeat' split) <;> simp

@[simp] theorem State.pcieRefclkLost_keeps (s : State) (h : HostId) :
    (s.pcieRefclkLost h).sec.lifecycle = s.sec.lifecycle ∧ (s.pcieRefclkLost h).sec.level = s.sec.level ∧ (s.pcieRefclkLost h).sec.marked = s.sec.marked ∧ (s.pcieRefclkLost h).sec.fails = s.sec.fails := by
  unfold State.pcieRefclkLost; dsimp only; and_intros <;> (repeat' split) <;> simp

@[simp] theorem State.measureImage_keeps (s : State) :
    (s.measureImage).sec.lifecycle = s.sec.lifecycle ∧ (s.measureImage).sec.level = s.sec.level ∧ (s.measureImage).sec.marked = s.sec.marked ∧ (s.measureImage).sec.fails = s.sec.fails := by
  unfold State.measureImage; simp

/-! ### Operations that leave the power state and its target as they are -/

@[simp] theorem State.controlStep_power (s : State) (t : PowerReadings) :
    (s.controlStep t).pwr.st = s.pwr.st ∧ (s.controlStep t).pwr.target = s.pwr.target := by
  unfold State.controlStep; dsimp only; generalize allFin 4 = l; and_intros <;> (repeat' split) <;> simp [State.modPwr]

@[simp] theorem State.forceThrottle_power (s : State) :
    (s.forceThrottle).pwr.st = s.pwr.st ∧ (s.forceThrottle).pwr.target = s.pwr.target := by
  have k (t : State) (l : List DieId) : (t.each l fun s d =>
      if (s.die d).up then (s.modDie d fun x => { x with want := none }).setMhz d s.floorMhz else s).pwr = t.pwr :=
    State.each_pwr _ (fun s d => by split <;> simp) _ _
  unfold State.forceThrottle; dsimp only; generalize allFin 4 = l; and_intros <;> (repeat' split) <;> simp [State.modPwr, k]

@[simp] theorem State.forceRelease_power (s : State) :
    (s.forceRelease).pwr.st = s.pwr.st ∧ (s.forceRelease).pwr.target = s.pwr.target := by
  simp [State.forceRelease, State.modPwr]

@[simp] theorem State.thermalTrip_power (s : State) :
    (s.thermalTrip).pwr.st = s.pwr.st ∧ (s.thermalTrip).pwr.target = s.pwr.target := by
  unfold State.thermalTrip; dsimp only; generalize allFin 4 = l; and_intros <;> (repeat' split) <;> simp [State.modPwr]

@[simp] theorem State.setPhase_power (s : State) (n : Nat) :
    (s.setPhase n).pwr.st = s.pwr.st ∧ (s.setPhase n).pwr.target = s.pwr.target := by
  unfold State.setPhase; and_intros <;> (repeat' split) <;> simp [State.modPwr]

@[simp] theorem State.setPower_power (s : State) (p : PowerState) :
    (s.setPower p).pwr.st = p ∧ (s.setPower p).pwr.target = p := by
  unfold State.setPower; dsimp only; and_intros <;> (repeat' split) <;> simp [State.modPwr]

@[simp] theorem State.reachReady_power (s : State) :
    (s.reachReady).pwr.st = .run ∧ (s.reachReady).pwr.target = .run := by
  unfold State.reachReady; simp

@[simp] theorem State.mainStart_power (s : State) (b : BoardStart) :
    (s.mainStart b).pwr.st = .run ∧ (s.mainStart b).pwr.target = .run := by
  unfold State.mainStart; dsimp only; simp

@[simp] theorem State.mainReset_power (s : State) :
    s.mainReset.pwr.st = s.pwr.st ∧ s.mainReset.pwr.target = s.pwr.target := ⟨rfl, rfl⟩

/-! ### What stays lawful -/

theorem State.each_holds {α : Type} (P : State → Prop) (f : State → α → State) (h : ∀ s a, P s → P (f s a))
    (l : List α) (s : State) (hs : P s) : P (s.each l f) := by
  induction l generalizing s with
  | nil => exact hs
  | cons a l ih => exact ih (f s a) (h s a hs)

/-- A state with the same six fields is as lawful. -/
theorem State.Lawful.same {s t : State} (h : s.Lawful)
    (k : t.sec.lifecycle = s.sec.lifecycle ∧ t.sec.level = s.sec.level ∧ t.sec.marked = s.sec.marked ∧
      t.sec.fails = s.sec.fails) (p : t.pwr.st = s.pwr.st ∧ t.pwr.target = s.pwr.target) : t.Lawful := by
  obtain ⟨k1, k2, k3, k4⟩ := k
  obtain ⟨p1, p2⟩ := p
  exact ⟨k1 ▸ h.1, k2 ▸ h.2, k4 ▸ h.3, k2 ▸ k3 ▸ h.4, p1 ▸ k2 ▸ k3 ▸ h.5, p1 ▸ p2 ▸ k2 ▸ h.6⟩

/-- A state with the same security state and power state is as lawful. -/
theorem State.Lawful.frame {s t : State} (h : s.Lawful) (k : t.sec = s.sec) (p : t.pwr = s.pwr) : t.Lawful :=
  h.same (by simp [k]) (by simp [p])

/-- A level that is no higher than the one before, with the rest as it was. -/
theorem State.Lawful.lower {s t : State} (h : s.Lawful) (k : t.sec.lifecycle = s.sec.lifecycle)
    (l : t.sec.level ≤ s.sec.level) (m : t.sec.marked = s.sec.marked) (f : t.sec.fails = s.sec.fails)
    (p : t.pwr.st = s.pwr.st ∧ t.pwr.target = s.pwr.target) : t.Lawful := by
  have h2 := h.level
  refine ⟨k ▸ h.1, by omega, f ▸ h.3, fun e => m ▸ h.4 (by omega), fun e => ?_, fun e => ?_⟩
  · have := h.5 (p.1 ▸ e)
    exact ⟨by omega, m ▸ this.2⟩
  · have := h.6 (p.1 ▸ p.2 ▸ e)
    omega

@[simp] theorem State.setLevel_keeps (s : State) (n : Nat) (d : List Byte) :
    (s.setLevel n d).sec.lifecycle = s.sec.lifecycle ∧ (s.setLevel n d).sec.level = n ∧
      (s.setLevel n d).sec.marked = s.sec.marked ∧ (s.setLevel n d).sec.fails = s.sec.fails := by
  unfold State.setLevel
  split
  · simp [*]
  · dsimp only
    and_intros <;> split <;> simp [State.modSec]

theorem State.Lawful.setLevel_zero {s : State} (h : s.Lawful) (d : List Byte) : (s.setLevel 0 d).Lawful :=
  h.lower (by simp) (by simp) (by simp) (by simp) (by simp)

theorem State.Lawful.relock {s : State} (h : s.Lawful) : s.relock.Lawful := h.setLevel_zero zero32

/-- OBSERVE outside OFF. -/
theorem State.Lawful.observe {s : State} (h : s.Lawful) (d : List Byte) (k : s.pwr.st ≠ .off) :
    (s.setLevel 1 d).Lawful := by
  refine ⟨by simpa using h.1, by simp, by simpa using h.3, by simp, fun e => ?_, by simp⟩
  simp at e; exact absurd e k

/-- CONTROL in RUN. -/
theorem State.Lawful.enterControl {s : State} (h : s.Lawful) (t : Token) (k : s.pwr.st = .run)
    (g : s.pwr.target = .run) : (s.enterControl t).Lawful := by
  unfold State.enterControl
  refine ⟨by simpa [State.modSec] using h.1, by simp [State.modSec], by simpa [State.modSec] using h.3,
    by simp [State.modSec], ?_, ?_⟩ <;> simp [State.modSec, k, g]

theorem State.Lawful.tokenResult {s : State} (h : s.Lawful) (k : Option Carrier) (n : Nat) :
    (s.tokenResult k n).Lawful := h.same (by simp) (by simp)

theorem State.Lawful.answer {s : State} (h : s.Lawful) (k : Carrier) (r : Reply) : (s.answer k r).Lawful :=
  h.same (by simp) (by simp)

theorem State.Lawful.tokenAccepted {s : State} (h : s.Lawful) (k : Option Carrier) (t : Token) :
    (s.tokenAccepted k t).Lawful := by
  unfold State.tokenAccepted
  apply State.Lawful.tokenResult
  exact ⟨h.1, h.2, Nat.zero_le _, h.4, h.5, h.6⟩

theorem State.controlOk_run {s : State} (h : s.controlOk = true) : s.pwr.st = .run ∧ s.pwr.target = .run := by
  unfold State.controlOk at h
  simp at h
  exact h.1

/-- A lifecycle token that passes check 8 names one of the states it can lead to. -/
theorem Sec.pairOk_target {c : Sec} {t : Token} (h : c.pairOk t = true) : 2 ≤ t.target.toNat ∧ t.target.toNat ≤ 4 := by
  unfold Sec.pairOk at h
  split at h <;> first | omega | simp at h

theorem State.Lawful.enterLife {s : State} (h : s.Lawful) (t : Token) (k : 2 ≤ t.target.toNat ∧ t.target.toNat ≤ 4) :
    (s.enterLife t).Lawful := by
  have h1 : (s.modSec (fun c => { c with
      lifecycle := t.target.toNat
      ownerRoot := if t.target = 2 then sha256 t.newOwnerPk else c.ownerRoot
      ownerPk := if t.target = 2 then some t.newOwnerPk else c.ownerPk
      udsBlown := c.udsBlown || t.target == 4 })).Lawful :=
    ⟨⟨Nat.le_trans (by decide) k.1, k.2⟩, h.2, h.3, h.4, h.5, h.6⟩
  unfold State.enterLife
  exact (h1.setLevel_zero (tokenDigest t)).same (by simp) (by simp)

theorem State.Lawful.finishToken {s : State} (h : s.Lawful) (z : Option Carrier × Token × Bool) :
    (s.finishToken z).Lawful := by
  unfold State.finishToken
  dsimp only
  split
  · exact h.tokenResult _ _
  · rename_i e1
    split
    · exact h.tokenResult _ _
    · rename_i e2
      split
      · apply State.Lawful.tokenAccepted
        simp at e1
        have := State.controlOk_run e1
        exact h.enterControl _ this.1 this.2
      · rename_i e3
        split
        · rw [Sec.targetOk, if_neg e3] at e2
          simp at e2
          exact (h.tokenAccepted _ _).enterLife _ (Sec.pairOk_target e2)
        · exact (h.same (t := s.secCause 10 2) (by simp) (by simp)).tokenResult _ _

@[simp] theorem State.Lawful.zeroDone {s : State} (h : s.Lawful) : s.zeroDone.Lawful := by
  unfold State.zeroDone
  split
  · exact h
  · exact State.each_holds State.Lawful _ (fun _ z k => k.finishToken z) _ _
      (h.same (by simp [State.modSec]) (by simp [State.modSec]))

theorem State.Lawful.onCarrier {s : State} (h : s.Lawful) (k : Carrier) (n : Nat) (f : State → State)
    (hf : (f s).Lawful) : (s.onCarrier k n f).Lawful := by
  unfold State.onCarrier
  split
  · exact h
  · split
    · exact h.answer _ _
    · exact hf

theorem State.Lawful.withIdentity {s : State} (h : s.Lawful) (k : Carrier) (n : Nat) (f : State → State)
    (hf : (f s).Lawful) : (s.withIdentity k n f).Lawful := by
  refine h.onCarrier _ _ _ ?_
  split
  · exact hf
  · exact h.answer _ _

@[simp] theorem State.Lawful.getIdentity {s : State} (h : s.Lawful) (k : Carrier) : (s.getIdentity k).Lawful :=
  h.withIdentity _ _ _ (h.answer _ _)

@[simp] theorem State.Lawful.getReport {s : State} (h : s.Lawful) (k : Carrier) (n : List Byte) : (s.getReport k n).Lawful := by
  refine h.withIdentity _ _ _ ?_
  split
  · exact h.answer _ _
  · exact h.same (by simp) (by simp)

@[simp] theorem State.Lawful.extend {s : State} (h : s.Lawful) (k : Carrier) (i : Nat) (d : List Byte) :
    (s.extend k i d).Lawful := by
  refine h.onCarrier _ _ _ ?_
  (repeat' split) <;> exact h.same (by simp) (by simp)

@[simp] theorem State.Lawful.getChallenge {s : State} (h : s.Lawful) (k : Carrier) : (s.getChallenge k).Lawful := by
  refine h.onCarrier _ _ _ ?_
  exact h.same (by simp [State.modSec]) (by simp)

theorem State.Lawful.nonceExpiry {s : State} (h : s.Lawful) : s.nonceExpiry.Lawful := h.same (by simp) (by simp)

/-- A token that passes every check is applied in a state that permits it (R486). -/
theorem State.tokenCode_zero {s : State} {t : Token} (h : s.tokenCode t = 0) :
    s.tokenState t = true ∧ s.sec.targetOk t = true := by
  unfold State.tokenCode at h
  (repeat' split at h) <;> first | omega | skip
  simp_all

@[simp] theorem State.Lawful.submitToken {s : State} (h : s.Lawful) (k : Carrier) (t : Token) (f : Bool) :
    (s.submitToken k t f).Lawful := by
  refine h.onCarrier _ _ _ ?_
  dsimp only
  generalize e : (if (s.tokenCode t == 0 || decide (3 ≤ s.tokenCode t ∧ s.tokenCode t ≤ 7)) = true then
    s.nonceExpiry else s) = u
  have hu : u.Lawful := by subst e; split; exact h.nonceExpiry; exact h
  have hp : u.pwr = s.pwr := by subst e; split <;> simp
  split
  · apply State.Lawful.tokenResult
    refine ⟨hu.1, hu.2, ?_, hu.4, hu.5, hu.6⟩
    have := hu.3
    simp only [State.modSec]
    split
    · omega
    · exact this
  · rename_i e0
    have c := State.tokenCode_zero (Decidable.not_not.mp e0)
    split
    · rename_i e
      apply State.Lawful.tokenAccepted
      apply hu.observe
      rw [hp]
      have c1 := c.1
      rw [State.tokenState, if_pos e] at c1
      intro e2
      simp [e2] at c1
    · rename_i e
      have c1 := c.1
      rw [State.tokenState, if_neg e] at c1
      have r := State.controlOk_run c1
      rw [← hp] at r
      split
      · exact (hu.enterControl t r.1 r.2).tokenAccepted _ _
      · exact hu.same (by simp [State.modSec]) (by simp [State.modSec])

@[simp] theorem State.Lawful.msgSubmit {s : State} (h : s.Lawful) : s.msgSubmit.Lawful := by
  unfold State.msgSubmit
  dsimp only
  (repeat' split)
  · exact h
  · exact h.answer _ _
  · exact h.answer _ _
  · exact h.getIdentity _
  · exact h.getReport _ _
  · exact h.extend _ _ _
  · exact h.getChallenge _
  · exact State.Lawful.submitToken (s := { s with fresh := s.fresh + 1 }) (h.frame rfl rfl) _ _ _

/-! ### Power states and resets -/

theorem State.Lawful.run {s t : State} (h : s.Lawful)
    (k : t.sec.lifecycle = s.sec.lifecycle ∧ t.sec.level = s.sec.level ∧ t.sec.marked = s.sec.marked ∧
      t.sec.fails = s.sec.fails) (p : t.pwr.st = .run ∧ t.pwr.target = .run) : t.Lawful := by
  obtain ⟨k1, k2, k3, k4⟩ := k
  refine ⟨k1 ▸ h.1, k2 ▸ h.2, k4 ▸ h.3, k2 ▸ k3 ▸ h.4, ?_, ?_⟩ <;> simp [p]

@[simp] theorem State.secOff_level (s : State) : s.secOff.sec.level = 0 ∧ s.secOff.sec.marked = false := by
  unfold State.secOff
  generalize zero32 = z
  dsimp only
  refine ⟨?_, rfl⟩
  simp only [State.modSec]
  split
  · simpa using ‹_›
  · simp

theorem State.each_tokenResult_keeps (l : List (Option Carrier × Token × Bool)) (s : State) :
    (s.each l fun s z => s.tokenResult z.1 6).sec.lifecycle = s.sec.lifecycle ∧
      (s.each l fun s z => s.tokenResult z.1 6).sec.fails = s.sec.fails := by
  induction l generalizing s with
  | nil => exact ⟨rfl, rfl⟩
  | cons z l ih =>
    have h := s.tokenResult_keeps z.1 6
    have k := ih (s.tokenResult z.1 6)
    exact ⟨k.1.trans h.1, k.2.trans h.2.2.2⟩

@[simp] theorem State.secOff_keeps (s : State) :
    s.secOff.sec.lifecycle = s.sec.lifecycle ∧ s.secOff.sec.fails = s.sec.fails := by
  have h := State.each_tokenResult_keeps s.sec.zToks s
  unfold State.secOff
  generalize zero32 = z
  dsimp only
  simp only [State.modSec]
  constructor <;> split <;> simp [h]

theorem State.Lawful.enterOff {s : State} (h : s.Lawful) (n : Nat) : (s.enterOff n).Lawful := by
  unfold State.enterOff
  generalize allFin 16 = l
  dsimp only
  refine ⟨?_, ?_, ?_, ?_, ?_, ?_⟩
  · simpa [State.modPwr] using h.1
  · simp [State.modPwr]
  · simpa [State.modPwr] using h.3
  · simp [State.modPwr]
  · simp [State.modPwr]
  · simp [State.modPwr]

@[simp] theorem State.Lawful.mainPowerLost {s : State} (h : s.Lawful) : s.mainPowerLost.Lawful := by
  unfold State.mainPowerLost
  dsimp only
  split
  · exact h
  · apply State.Lawful.enterOff
    split
    · exact h.frame (by simp) (by simp)
    · exact h

theorem State.Lawful.mainStart {s : State} (h : s.Lawful) (b : BoardStart) : (s.mainStart b).Lawful :=
  h.run (by simp) (by simp)

@[simp] theorem State.Lawful.exitOff {s : State} (h : s.Lawful) (b : BoardStart) : (s.exitOff b).Lawful := by
  unfold State.exitOff
  split
  · exact (h.same (t := s.modSec fun c => { c with nonce := none }) (by simp [State.modSec])
      (by simp [State.modSec])).mainStart b
  · exact h

theorem fusedSec_keeps : (1 ≤ fusedSec.lifecycle ∧ fusedSec.lifecycle ≤ 4) ∧ fusedSec.level = 0 ∧
    fusedSec.marked = false ∧ fusedSec.fails = 0 := by
  refine ⟨?_, rfl, rfl, rfl⟩
  simp only [fusedSec]
  split <;> omega

@[simp] theorem State.Lawful.coldReset {s : State} (h : s.Lawful) : s.coldReset.Lawful :=
  ⟨h.1, Nat.zero_le _, Nat.zero_le _, (fun e => nomatch e), (fun _ => ⟨rfl, rfl⟩), fun _ => Nat.zero_le _⟩

theorem State.Lawful.requestPower {s t : State} (h : s.Lawful) (n : Nat) (e : s.requestPower n = some t) :
    t.Lawful := by
  unfold State.requestPower at e
  generalize zero32 = z at e
  split at e
  · cases e; exact h
  · split at e
    · cases e
    · split at e
      · cases e
      · split at e
        · cases e; exact h
        · split at e
          · rename_i p _ _ _ _
            have e := Option.some.inj e
            subst e
            split
            · refine ⟨by simpa [State.modPwr] using h.1, by simp, by simpa [State.modPwr] using h.3, by simp, ?_, by simp⟩
              rename_i e1
              intro e2
              simp [State.modPwr] at e1 e2
              have := (h.5 e2).1
              have := of_decide_eq_true e1.2
              exfalso; omega
            · refine ⟨h.1, h.2, h.3, h.4, h.5, fun e2 => ?_⟩
              rename_i e1
              have := h.2
              simp [State.modPwr] at e1 e2 ⊢
              rcases e2 with e2 | e2
              · exact h.6 (.inl e2)
              · have := of_decide_eq_false (e1 e2)
                omega
          · cases e

@[simp] theorem State.Lawful.powerReached {s : State} (h : s.Lawful) (l : List DieBringUp) : (s.powerReached l).Lawful := by
  unfold State.powerReached
  generalize allFin 4 = k
  split
  · exact h
  · split
    · rename_i e
      have h6 := h.6 (.inr e)
      refine ⟨by simpa using h.1, by simp; omega, by simpa using h.3, by simpa using h.4, by simp, ?_⟩
      simpa using h6
    · exact h.enterOff 1
    · split
      · exact h.run (by simp) (by simp)
      · exact h.run (by simp) (by simp)
    · rename_i p e1 e2 e3
      refine ⟨by simpa using h.1, by simpa using h.2, by simpa using h.3, by simpa using h.4, ?_, ?_⟩
      · intro e; simp at e; simp [e] at e2
      · intro e; simp at e; simp [e] at e1

theorem State.startWarm_sec {s t : State} (e : s.startWarm = some t) :
    t.sec = s.sec ∧ (t.pwr = s.pwr ∨ (t.pwr.st = s.pwr.st ∧ t.pwr.target = .run)) := by
  unfold State.startWarm at e
  generalize allFin 16 = l at e
  dsimp only at e
  split at e
  · cases e
  · split at e
    · cases e; exact ⟨rfl, .inl rfl⟩
    · have e := Option.some.inj e
      subst e
      refine ⟨?_, .inr ⟨?_, ?_⟩⟩ <;> split <;> simp [State.modPwr] <;> split <;> simp

theorem State.Lawful.startWarm {s t : State} (h : s.Lawful) (e : s.startWarm = some t) : t.Lawful := by
  obtain ⟨k, p | ⟨p, q⟩⟩ := State.startWarm_sec e
  · exact h.frame k p
  · refine ⟨k ▸ h.1, k ▸ h.2, k ▸ h.3, k ▸ h.4, k ▸ p ▸ h.5, ?_⟩
    rw [k, p, q]
    intro e
    exact h.6 (.inl (by simpa using e))

@[simp] theorem State.Lawful.warmDone {s : State} (h : s.Lawful) (l : List DieBringUp) : (s.warmDone l).Lawful := by
  unfold State.warmDone
  generalize allFin 4 = k
  split
  · exact h
  · exact h.run (by simp [State.modPwr]) (by simp)

@[simp] theorem State.Lawful.startUp {s : State} (h : s.Lawful) (b : BoardStart) : (s.startUp b).Lawful := by
  unfold State.startUp
  generalize zero32 = z
  split
  · split
    · exact h.mainStart b
    · exact h
  · split
    · exact h
    · dsimp only
      split
      · exact h.same (by simp [State.modSec]) (by simp [State.modSec])
      · split
        · apply State.Lawful.mainStart
          exact h.same (by simp [State.modSec]) (by simp [State.modSec])
        · exact h.same (by simp [State.modSec]) (by simp [State.modSec])

/-! ### Register writes -/

theorem ite_holds {α : Type} (P : α → Prop) (c : Prop) [Decidable c] {a b : α} (ha : P a) (hb : P b) :
    P (if c then a else b) := by split <;> assumption

theorem Wrote.lawful_startBy {s : State} (h : s.Lawful) (x : Writer) (b : Bool) (g : State → Option State)
    (hg : ∀ t, g s = some t → t.Lawful) : (s.startBy x b g).2.Lawful := by
  unfold State.startBy
  (repeat' split)
  · exact h
  · exact h
  · exact hg _ ‹_›
  · exact h

theorem State.Lawful.writeSec {s : State} (h : s.Lawful) (x : Writer) (r : RegRow) (w : Word) :
    (s.writeSec x r w).2.Lawful := by
  unfold State.writeSec
  split
  · exact Wrote.lawful_startBy h _ _ _ fun t e => by cases e; exact h.relock
  · split
    · dsimp only
      have h1 : (if wbit w 29 then s.modSec (fun c => { c with zDone := false }) else s).Lawful := by
        split
        · exact h.same (by simp [State.modSec]) (by simp [State.modSec])
        · exact h
      refine ite_holds State.Lawful _ h (Wrote.lawful_startBy h1 _ _ _ fun t e => ?_)
      generalize (if wbit w 29 then s.modSec (fun c => { c with zDone := false }) else s) = u at *
      split at e
      · have e := Option.some.inj e; subst e; exact h1.same (by simp) (by simp)
      · cases e
    · split
      · dsimp only
        have h1 : (if wbit w 8 then s.modSec (fun c => { c with fwDone := false }) else s).Lawful := by
          split
          · exact h.same (by simp [State.modSec]) (by simp [State.modSec])
          · exact h
        refine ite_holds State.Lawful _ h (Wrote.lawful_startBy h1 _ _ _ fun t e => ?_)
        generalize (if wbit w 8 then s.modSec (fun c => { c with fwDone := false }) else s) = u at *
        unfold State.startFw at e
        split at e
        · cases e
        · cases e; exact h1.same (by simp [State.modSec]) (by simp [State.modSec])
      · exact h.frame (by simp) (by simp)

theorem State.Lawful.writePwr {s : State} (h : s.Lawful) (x : Writer) (r : RegRow) (w : Word) :
    (s.writePwr x r w).2.Lawful := by
  unfold State.writePwr
  generalize dieBits w = l
  split
  · unfold State.writePowerReq
    split
    · exact h
    · split
      · exact h
      · rename_i t e
        have ht := h.requestPower _ e
        split
        · split
          · exact h
          · rename_i u e1; exact ht.startWarm e1
        · exact ht
  · split
    · (repeat' split)
      · exact h
      · exact h
      · exact h.frame (by simp) (by simp)
    · split
      · split
        · exact h
        · exact h.frame (by simp) (by simp)
      · exact h.frame (by simp) (by simp)

theorem State.Lawful.writeReg {s : State} (h : s.Lawful) (x : Writer) (b : Blk) (r : RegRow) (w : Word) :
    (s.writeReg x b r w).2.Lawful := by
  unfold State.writeReg
  split
  · exact h.frame (by simp) (by simp)
  · split
    · exact h
    · split <;>
        first
        | exact h.writePwr _ _ _
        | exact h.writeSec _ _ _
        | (split <;> exact h.frame (by simp) (by simp))
        | exact h.frame (by simp) (by simp)

theorem State.Lawful.preset {s t : State} (h : s.Lawful) (r : Requester) (l : List Byte)
    (e : s.preset r l = some t) : t.Lawful := by
  unfold State.preset at e
  dsimp only at e
  (repeat' split at e) <;> first | (cases e; done) | (have e := Option.some.inj e; subst e; exact h.writeReg _ _ _ _)

theorem State.Lawful.presets {s : State} (h : s.Lawful) (r : Requester) (l : List (List Byte)) :
    (State.presets r s l).2.Lawful := by
  induction l generalizing s with
  | nil => exact h
  | cons a l ih =>
    unfold State.presets
    split
    · exact h
    · rename_i e; exact ih (h.preset _ _ e)

theorem State.runLoad_holds (P : State → Prop)
    (h1 : ∀ s t : State, t.sec = s.sec → t.pwr = s.pwr → P s → P t) (l : List LoadStep)
    (h2 : ∀ e ∈ l, ∀ s, P s → P (e.act s)) (s : State) (h : P s) : P (s.runLoad l).2 := by
  induction l generalizing s with
  | nil => exact h
  | cons e l ih =>
    unfold State.runLoad
    dsimp only
    split
    · exact h1 s _ (by simp) (by simp) h
    · split
      · exact h1 s _ (by simp) (by simp) h
      · split
        · exact ih (fun a ha => h2 a (by simp [ha])) _ (h2 e (by simp) _ (h1 s _ (by simp) (by simp) h))
        · exact h1 s _ (by simp) (by simp) h

theorem State.Lawful.loadImage {s : State} (h : s.Lawful) (r : Requester) : (s.loadImage r).2.Lawful := by
  have hl (s : State) (h : s.Lawful) : (s.runLoad loadSteps).2.Lawful := by
    refine State.runLoad_holds State.Lawful (fun s t k p h => h.frame k p) _ (fun e he s h => ?_) s h
    simp only [loadSteps, List.mem_cons, List.not_mem_nil, or_false] at he
    rcases he with rfl | rfl | rfl | rfl | rfl | rfl | rfl | rfl | rfl | rfl <;>
      first | exact h | exact h.same (by simp) (by simp)
  unfold State.loadImage
  dsimp only
  refine ite_holds (fun q : Nat × State => q.2.Lawful) _ (h.same ⟨rfl, rfl, rfl, rfl⟩ ⟨rfl, rfl⟩)
    (ite_holds (fun q : Nat × State => q.2.Lawful) _ (hl _ (h.same ⟨rfl, rfl, rfl, rfl⟩ ⟨rfl, rfl⟩)) ?_)
  split
  · exact hl _ (h.same ⟨rfl, rfl, rfl, rfl⟩ ⟨rfl, rfl⟩)
  · rename_i e
    have k := State.loadAll_some _ _ e
    have h2 := (hl _ (h.same (t := { s with job := { s.job with prot := some (s.imageBase, s.imageLen), secs := [] } })
      ⟨rfl, rfl, rfl, rfl⟩ ⟨rfl, rfl⟩)).frame k.2.1 k.2.2.2.2
    unfold State.presetStep
    split
    · exact h2.presets _ _
    · exact h2

theorem State.Lawful.startLoad {s t : State} (h : s.Lawful) (r : Requester) (e : s.startLoad r = some t) :
    t.Lawful := by
  unfold State.startLoad at e
  dsimp only at e
  split at e
  · have e := Option.some.inj e
    subst e
    exact ((h.frame (t := State.setJobState _ _) (by simp) (by simp)).loadImage r).same ⟨rfl, rfl, rfl, rfl⟩ ⟨rfl, rfl⟩
  · cases e

theorem State.Lawful.jobCommand {s t : State} (h : s.Lawful) (r : Requester) (w : Word)
    (e : s.jobCommand r w = some t) : t.Lawful := by
  unfold State.jobCommand at e
  dsimp only at e
  (repeat' split at e) <;> first
    | (cases e; done)
    | exact h.startLoad _ e
    | exact h.frame (State.armJob_some _ _ e).2.2.1 (State.armJob_some _ _ e).2.2.2.2.2
    | exact h.frame (State.waitJob_some _ _ _ _ e).2.2.1 (State.waitJob_some _ _ _ _ e).2.2.2.2.2
    | exact h.frame (State.haltJob_some _ _ _ e).2.2.1 (State.haltJob_some _ _ _ e).2.2.2.2.2
    | (have e := Option.some.inj e; subst e; exact h.same (by simp) (by simp))

theorem State.Lawful.writeJobCmd {s : State} (h : s.Lawful) (r : Requester) (w : Word) : (s.writeJobCmd r w).Lawful := by
  unfold State.writeJobCmd
  dsimp only
  split
  · exact h.frame (by simp) (by simp)
  · split
    · rename_i e; exact (h.jobCommand _ _ e).frame (by simp) (by simp)
    · exact h.frame (by simp) (by simp)

theorem State.Lawful.writeFails {s : State} (h : s.Lawful) (r : Requester) (b : Blk) (a : Nat) :
    (s.writeFails r b a).Lawful := h.frame (by simp) (by simp)

theorem State.Lawful.write32 {s : State} (h : s.Lawful) (r : Requester) (a : Nat) (w : Word) :
    (s.write32 r a w).Lawful := by
  unfold State.write32
  split
  · exact h.writeFails _ _ _
  · refine ite_holds State.Lawful _ (h.writeFails _ _ _) ?_
    split
    · exact h.writeFails _ _ _
    · refine ite_holds State.Lawful _ (h.writeJobCmd _ _) (ite_holds State.Lawful _ ?_ ?_)
      · exact ite_holds State.Lawful _ (h.frame (by simp) (by simp)) (h.writeFails _ _ _)
      · exact ite_holds State.Lawful _ ((h.writeReg _ _ _ _).writeFails _ _ _) (h.writeReg _ _ _ _)

theorem State.Lawful.writeBar0 {s : State} (h : s.Lawful) (r : Requester) (a z : Nat) (v : BitVec 64) :
    (s.writeBar0 r a z v).Lawful := by
  unfold State.writeBar0
  (repeat' split)
  · exact h.write32 _ _ _
  · exact (h.write32 _ _ _).write32 _ _ _
  · exact h.writeFails _ _ _

@[simp] theorem State.Lawful.i3cWrite {s : State} (h : s.Lawful) (a : Nat) (w : Word) : (s.i3cWrite a w).Lawful := by
  unfold State.i3cWrite
  dsimp only
  (repeat' split) <;> first
    | exact h
    | (refine h.frame ?_ ?_ <;> simp; done)
    | (rename_i row _ _; exact (h.writeReg { who := .i3c, own := true } .pwr row w).frame (by simp) (by simp))

@[simp] theorem State.Lawful.regWrite {s : State} (h : s.Lawful) (r : Requester) (x : RegAccess) (v : BitVec 64) :
    (s.regWrite r x v).Lawful := by
  unfold State.regWrite
  (repeat' split) <;> first
    | exact h
    | exact h.writeBar0 _ _ _ _
    | exact h.i3cWrite _ _
    | exact h.same (by simp) (by simp)

/-- A register write leaves a lawful state lawful. -/
@[simp] theorem State.Lawful.poke {s : State} (h : s.Lawful) (r : Requester) (b : Blk) (o : Nat) (w : Word) :
    (s.poke r b o w).Lawful := h.regWrite _ _ _

@[simp] theorem State.Lawful.pokeCtl {s : State} (h : s.Lawful) (r : Requester) (p : BitVec 14) (m : Word) :
    (s.pokeCtl r p m).Lawful := by
  unfold State.pokeCtl
  exact h.regWrite _ _ _

end Sys2Proof.Machine
end

