-- ==== Sys2Proof/Laws/Lifecycle.lean ====
section
/-!
SUPPORT. The lifecycle state stays as it is under everything but an accepted lifecycle token (R467).
-/

namespace Sys2Proof.Machine

open Sys2Proof

/-- The lifecycle state. -/
abbrev State.life (s : State) : Nat := s.sec.lifecycle

@[simp] theorem State.enterControl_life (s : State) (t : Token) : (s.enterControl t).sec.lifecycle = s.sec.lifecycle := by
  simp [State.enterControl, State.modSec]

@[simp] theorem State.tokenAccepted_life (s : State) (k : Option Carrier) (t : Token) :
    (s.tokenAccepted k t).sec.lifecycle = s.sec.lifecycle := by
  simp [State.tokenAccepted, State.modSec]

theorem State.onCarrier_life (s : State) (k : Carrier) (n : Nat) (f : State → State)
    (h : (f s).sec.lifecycle = s.sec.lifecycle) : (s.onCarrier k n f).sec.lifecycle = s.sec.lifecycle := by
  unfold State.onCarrier
  (repeat' split) <;> simp [h]

theorem State.withIdentity_life (s : State) (k : Carrier) (n : Nat) (f : State → State)
    (h : (f s).sec.lifecycle = s.sec.lifecycle) : (s.withIdentity k n f).sec.lifecycle = s.sec.lifecycle := by
  apply State.onCarrier_life
  split <;> simp [h]

@[simp] theorem State.getIdentity_life (s : State) (k : Carrier) :
    (s.getIdentity k).sec.lifecycle = s.sec.lifecycle := State.withIdentity_life _ _ _ _ (by simp)

@[simp] theorem State.getReport_life (s : State) (k : Carrier) (n : List Byte) :
    (s.getReport k n).sec.lifecycle = s.sec.lifecycle :=
  State.withIdentity_life _ _ _ _ (by dsimp only; split <;> simp)

@[simp] theorem State.extend_life (s : State) (k : Carrier) (i : Nat) (d : List Byte) :
    (s.extend k i d).sec.lifecycle = s.sec.lifecycle :=
  State.onCarrier_life _ _ _ _ (by (repeat' split) <;> simp)

@[simp] theorem State.getChallenge_life (s : State) (k : Carrier) :
    (s.getChallenge k).sec.lifecycle = s.sec.lifecycle :=
  State.onCarrier_life _ _ _ _ (by simp [State.modSec])

@[simp] theorem State.submitToken_life (s : State) (k : Carrier) (t : Token) (f : Bool) :
    (s.submitToken k t f).sec.lifecycle = s.sec.lifecycle := by
  apply State.onCarrier_life
  dsimp only
  generalize e : (if (s.tokenCode t == 0 || decide (3 ≤ s.tokenCode t ∧ s.tokenCode t ≤ 7)) = true then
    s.nonceExpiry else s) = u
  have hu : u.sec.lifecycle = s.sec.lifecycle := by subst e; split <;> simp
  (repeat' split) <;> simp [State.modSec, hu]

@[simp] theorem State.msgSubmit_life (s : State) : s.msgSubmit.sec.lifecycle = s.sec.lifecycle := by
  unfold State.msgSubmit
  dsimp only
  (repeat' split) <;> simp

@[simp] theorem State.enterOff_life (s : State) (n : Nat) : (s.enterOff n).sec.lifecycle = s.sec.lifecycle := by
  unfold State.enterOff
  generalize allFin 16 = l
  simp [State.modPwr]

@[simp] theorem State.mainPowerLost_life (s : State) : s.mainPowerLost.sec.lifecycle = s.sec.lifecycle := by
  unfold State.mainPowerLost
  dsimp only
  (repeat' split) <;> simp

@[simp] theorem State.exitOff_life (s : State) (b : BoardStart) : (s.exitOff b).sec.lifecycle = s.sec.lifecycle := by
  unfold State.exitOff
  split <;> simp [State.modSec]

@[simp] theorem State.coldReset_life (s : State) : s.coldReset.sec.lifecycle = s.sec.lifecycle := rfl

theorem State.requestPower_life (s : State) (n : Nat) (t : State) (e : s.requestPower n = some t) :
    t.sec.lifecycle = s.sec.lifecycle := by
  unfold State.requestPower at e
  generalize zero32 = z at e
  (repeat' split at e) <;> first
    | (cases e; done)
    | (have e := Option.some.inj e; subst e; simp [State.modPwr]; done)
    | (have e := Option.some.inj e; subst e; split <;> simp [State.modPwr])

@[simp] theorem State.powerReached_life (s : State) (l : List DieBringUp) :
    (s.powerReached l).sec.lifecycle = s.sec.lifecycle := by
  unfold State.powerReached
  generalize allFin 4 = k
  (repeat' split) <;> simp

@[simp] theorem State.warmDone_life (s : State) (l : List DieBringUp) :
    (s.warmDone l).sec.lifecycle = s.sec.lifecycle := by
  unfold State.warmDone
  generalize allFin 4 = k
  dsimp only
  split
  · rfl
  · simp [State.modPwr]

@[simp] theorem State.startUp_life (s : State) (b : BoardStart) : (s.startUp b).sec.lifecycle = s.sec.lifecycle := by
  unfold State.startUp
  generalize zero32 = z
  dsimp only
  (repeat' split) <;> simp [State.modSec]

theorem State.startBy_life (s : State) (x : Writer) (b : Bool) (g : State → Option State)
    (h : ∀ t, g s = some t → t.sec.lifecycle = s.sec.lifecycle) :
    (s.startBy x b g).2.sec.lifecycle = s.sec.lifecycle := by
  unfold State.startBy
  (repeat' split)
  · rfl
  · rfl
  · exact h _ ‹_›
  · rfl

@[simp] theorem State.writeSec_life (s : State) (x : Writer) (r : RegRow) (w : Word) :
    (s.writeSec x r w).2.sec.lifecycle = s.sec.lifecycle := by
  unfold State.writeSec
  split
  · exact State.startBy_life _ _ _ _ fun t e => by cases e; simp [State.relock]
  · split
    · dsimp only
      have h1 : (if wbit w 29 then s.modSec (fun c => { c with zDone := false }) else s).sec.lifecycle =
          s.sec.lifecycle := by split <;> rfl
      refine ite_holds (fun t : State => t.sec.lifecycle = s.sec.lifecycle) _ rfl
        ((State.startBy_life _ _ _ _ fun t e => ?_).trans h1)
      generalize (if wbit w 29 then s.modSec (fun c => { c with zDone := false }) else s) = u at *
      split at e
      · have e := Option.some.inj e; subst e; simp
      · cases e
    · split
      · dsimp only
        have h1 : (if wbit w 8 then s.modSec (fun c => { c with fwDone := false }) else s).sec.lifecycle =
            s.sec.lifecycle := by split <;> rfl
        refine ite_holds (fun t : State => t.sec.lifecycle = s.sec.lifecycle) _ rfl
          ((State.startBy_life _ _ _ _ fun t e => ?_).trans h1)
        generalize (if wbit w 8 then s.modSec (fun c => { c with fwDone := false }) else s) = u at *
        unfold State.startFw at e
        split at e
        · cases e
        · cases e; simp [State.modSec]
      · simp

@[simp] theorem State.writePwr_life (s : State) (x : Writer) (r : RegRow) (w : Word) :
    (s.writePwr x r w).2.sec.lifecycle = s.sec.lifecycle := by
  unfold State.writePwr
  generalize dieBits w = l
  split
  · unfold State.writePowerReq
    split
    · rfl
    · split
      · rfl
      · rename_i t e
        have ht := s.requestPower_life _ _ e
        split
        · split
          · rfl
          · rename_i u e1; simp [(State.startWarm_sec e1).1, ht]
        · exact ht
  · (repeat' split) <;> simp

@[simp] theorem State.writeReg_life (s : State) (x : Writer) (b : Blk) (r : RegRow) (w : Word) :
    (s.writeReg x b r w).2.sec.lifecycle = s.sec.lifecycle := by
  unfold State.writeReg
  split
  · simp
  · split
    · rfl
    · split <;> first | (simp; done) | (split <;> simp)

theorem State.preset_life (s : State) (r : Requester) (l : List Byte) (t : State) (e : s.preset r l = some t) :
    t.sec.lifecycle = s.sec.lifecycle := by
  unfold State.preset at e
  dsimp only at e
  (repeat' split at e) <;> first | (cases e; done) | (have e := Option.some.inj e; subst e; simp)

@[simp] theorem State.presets_life (r : Requester) (s : State) (l : List (List Byte)) :
    (State.presets r s l).2.sec.lifecycle = s.sec.lifecycle := by
  induction l generalizing s with
  | nil => rfl
  | cons a l ih =>
    unfold State.presets
    split
    · rfl
    · rename_i e; exact (ih _).trans (s.preset_life _ _ _ e)

@[simp] theorem State.loadImage_life (s : State) (r : Requester) :
    (s.loadImage r).2.sec.lifecycle = s.sec.lifecycle := by
  have hl (u : State) (h : u.sec.lifecycle = s.sec.lifecycle) :
      (u.runLoad loadSteps).2.sec.lifecycle = s.sec.lifecycle := by
    refine State.runLoad_holds (fun t => t.sec.lifecycle = s.sec.lifecycle) (fun a b k _ h => by simp [k, h]) _
      (fun e he a h => ?_) u h
    simp only [loadSteps, List.mem_cons, List.not_mem_nil, or_false] at he
    rcases he with rfl | rfl | rfl | rfl | rfl | rfl | rfl | rfl | rfl | rfl <;> simp [h]
  unfold State.loadImage
  dsimp only
  refine ite_holds (fun q : Nat × State => q.2.sec.lifecycle = s.sec.lifecycle) _ rfl
    (ite_holds (fun q : Nat × State => q.2.sec.lifecycle = s.sec.lifecycle) _ (hl _ rfl) ?_)
  split
  · exact hl _ rfl
  · rename_i e
    have k := congrArg Sec.lifecycle (State.loadAll_some _ _ e).2.1
    have k := k.trans (hl _ rfl)
    unfold State.presetStep
    split
    · simpa using k
    · exact k

theorem State.startLoad_life (s : State) (r : Requester) (t : State) (e : s.startLoad r = some t) :
    t.sec.lifecycle = s.sec.lifecycle := by
  unfold State.startLoad at e
  dsimp only at e
  split at e
  · have e := Option.some.inj e
    subst e
    simp
  · cases e

theorem State.jobCommand_life (s : State) (r : Requester) (w : Word) (t : State) (e : s.jobCommand r w = some t) :
    t.sec.lifecycle = s.sec.lifecycle := by
  unfold State.jobCommand at e
  dsimp only at e
  (repeat' split at e) <;> first
    | (cases e; done)
    | exact s.startLoad_life _ _ e
    | exact congrArg Sec.lifecycle (State.armJob_some _ _ e).2.2.1
    | exact congrArg Sec.lifecycle (State.waitJob_some _ _ _ _ e).2.2.1
    | exact congrArg Sec.lifecycle (State.haltJob_some _ _ _ e).2.2.1
    | (have e := Option.some.inj e; subst e; simp)

@[simp] theorem State.writeJobCmd_life (s : State) (r : Requester) (w : Word) :
    (s.writeJobCmd r w).sec.lifecycle = s.sec.lifecycle := by
  unfold State.writeJobCmd
  dsimp only
  split
  · simp
  · split
    · rename_i e; simp [s.jobCommand_life _ _ _ e]
    · simp

@[simp] theorem State.write32_life (s : State) (r : Requester) (a : Nat) (w : Word) :
    (s.write32 r a w).sec.lifecycle = s.sec.lifecycle := by
  unfold State.write32
  split
  · simp
  · refine ite_holds (fun t : State => t.sec.lifecycle = s.sec.lifecycle) _ (by simp) ?_
    split
    · simp
    · refine ite_holds (fun t : State => t.sec.lifecycle = s.sec.lifecycle) _ (by simp)
        (ite_holds (fun t : State => t.sec.lifecycle = s.sec.lifecycle) _ ?_ ?_)
      · exact ite_holds (fun t : State => t.sec.lifecycle = s.sec.lifecycle) _ (by simp) (by simp)
      · exact ite_holds (fun t : State => t.sec.lifecycle = s.sec.lifecycle) _ (by simp) (by simp)

@[simp] theorem State.regWrite_life (s : State) (r : Requester) (x : RegAccess) (v : BitVec 64) :
    (s.regWrite r x v).sec.lifecycle = s.sec.lifecycle := by
  have hb (a z : Nat) : (s.writeBar0 r a z v).sec.lifecycle = s.sec.lifecycle := by
    unfold State.writeBar0
    (repeat' split) <;> simp
  have hi (a : Nat) (w : Word) : (s.i3cWrite a w).sec.lifecycle = s.sec.lifecycle := by
    unfold State.i3cWrite
    dsimp only
    (repeat' split) <;> simp
  unfold State.regWrite
  (repeat' split) <;> simp [hb, hi]

@[simp] theorem State.i3cWrite_life (s : State) (a : Nat) (w : Word) :
    (s.i3cWrite a w).sec.lifecycle = s.sec.lifecycle := by
  unfold State.i3cWrite
  dsimp only
  (repeat' split) <;> simp

@[simp] theorem State.poke_life (s : State) (r : Requester) (b : Blk) (o : Nat) (w : Word) :
    (s.poke r b o w).sec.lifecycle = s.sec.lifecycle := s.regWrite_life _ _ _

@[simp] theorem State.pokeCtl_life (s : State) (r : Requester) (p : BitVec 14) (m : Word) :
    (s.pokeCtl r p m).sec.lifecycle = s.sec.lifecycle := s.regWrite_life _ _ _

/-- One token applied: the lifecycle state stays, or takes one of the steps of R467. -/
theorem State.finishToken_life (s : State) (z : Option Carrier × Token × Bool) :
    (s.finishToken z).sec.lifecycle = s.sec.lifecycle ∨
      (s.sec.lifecycle, (s.finishToken z).sec.lifecycle) ∈ [(1, 2), (1, 4), (2, 3), (2, 4), (3, 4)] := by
  unfold State.finishToken
  dsimp only
  split
  · simp
  · split
    · simp
    · rename_i e2
      split
      · simp
      · rename_i e3
        split
        · right
          have : ((s.tokenAccepted z.1 z.2.1).enterLife z.2.1).sec.lifecycle = z.2.1.target.toNat := by
            simp [State.enterLife, State.modSec]
          rw [this]
          rw [Sec.targetOk, if_neg e3] at e2
          unfold Sec.pairOk at e2
          split at e2 <;> simp_all
        · simp

end Sys2Proof.Machine
end

