-- ==== Sys2Proof/Laws/Access.lean ====
section
/-!
SUPPORT. A write to a register of a page that answers, as one equation.
-/

namespace Sys2Proof.Machine

open Sys2Proof

theorem Blk.base_mod (b : Blk) (o : Nat) (h : o < 4096) : (b.base + o) % 4096 = o := by
  cases b <;> simp only [Blk.base, coreBase] <;> omega

theorem Blk.base_lt (b : Blk) (o : Nat) (h : o < 4096) : b.base + o < 2 ^ 26 := by
  cases b <;> simp only [Blk.base, coreBase] <;> first | omega | (rename_i x; have := x.isLt; omega) | (rename_i x; cases x <;> simp [HostId.num] <;> omega)

theorem Blk.ofOff_page (a : Nat) : Blk.ofOff (a / 4096 * 4096) = Blk.ofOff a := by
  unfold Blk.ofOff
  have h : a / 4096 * 4096 / 4096 = a / 4096 := by omega
  simp only [h]

theorem Blk.ofOff_core (c : CoreId) (k : Nat) (hk : k < 5) :
    Blk.ofOff (coreBase c + 0x1000 * k) = Blk.ofCorePage c k := by
  have hp : (coreBase c + 0x1000 * k) / 0x1000 = 0x100 + 16 * c.val + k := by unfold coreBase; omega
  have hc := c.isLt
  unfold Blk.ofOff
  simp only [hp]
  iterate 11 rw [if_neg (by omega)]
  rw [dif_neg (by omega)]
  iterate 2 rw [if_neg (by omega)]
  iterate 2 rw [dif_neg (by omega)]
  iterate 5 rw [if_neg (by omega)]
  rw [dif_pos (by omega)]
  have e1 : (256 + 16 * c.val + k - 256) / 16 = c.val := by omega
  have e2 : (256 + 16 * c.val + k - 256) % 16 = k := by omega
  simp only [e1, e2, Fin.eta]

theorem Blk.ofOff_start (b : Blk) : Blk.ofOff b.base = some b := by
  cases b with
  | hif h => cases h <;> decide
  | fab p => revert p; decide
  | d2d p => revert p; decide
  | hbm p => revert p; decide
  | core c => exact Blk.ofOff_core c 0 (by decide)
  | arr c => exact Blk.ofOff_core c 1 (by decide)
  | vec c => exact Blk.ofOff_core c 2 (by decide)
  | cdma c => exact Blk.ofOff_core c 3 (by decide)
  | cst c => exact Blk.ofOff_core c 4 (by decide)
  | _ => decide

/-- The page of an offset of a page. -/
theorem Blk.ofOff_base (b : Blk) (o : Nat) (h : o < 4096) : Blk.ofOff (b.base + o) = some b := by
  have h0 := b.base_mod 0 (by decide)
  have h1 := b.base_mod o h
  rw [← Blk.ofOff_page, show (b.base + o) / 4096 * 4096 = b.base by omega, Blk.ofOff_start]

/-- A write of four bytes to a register of a page that answers, where no register has a rule of its own. -/
theorem State.write32_reg (s : State) (r : Requester) (b : Blk) (o : Nat) (w : Word) (row : RegRow) (h : o < 4096)
    (ha : s.answers b = true) (hr : b.row? o = some row) (h1 : ¬(b = .glb ∧ o = 0xA4))
    (h2 : ¬(b = .dbg ∧ o = 0xCC)) :
    s.write32 r (b.base + o) w =
      if (s.writeReg { who := r, own := s.isOwner r } b row w).1 then
        (s.writeReg { who := r, own := s.isOwner r } b row w).2.writeFails r b (b.base + o)
      else (s.writeReg { who := r, own := s.isOwner r } b row w).2 := by
  unfold State.write32
  simp [Blk.ofOff_base b o h, Blk.base_mod b o h, ha, hr, h1, h2]

/-- A write that reaches a register of a page. -/
theorem State.poke_reg (s : State) (r : Requester) (b : Blk) (o : Nat) (w : Word) (row : RegRow) (h : o < 4096)
    (h4 : o % 4 = 0) (hs : s.reaches r b) (hr : b.row? o = some row) (h1 : ¬(b = .glb ∧ o = 0xA4))
    (h2 : ¬(b = .dbg ∧ o = 0xCC)) :
    s.poke r b o w =
      if (s.writeReg { who := r, own := s.isOwner r } b row w).1 then
        (s.writeReg { who := r, own := s.isOwner r } b row w).2.writeFails r b (b.base + o)
      else (s.writeReg { who := r, own := s.isOwner r } b row w).2 := by
  have hb := b.base_lt o h
  have hm := b.base_mod 0 (by decide)
  have hn : (BitVec.ofNat 26 (b.base + o)).toNat = b.base + o := by
    rw [BitVec.toNat_ofNat]; exact Nat.mod_eq_of_lt hb
  have hw : (w.setWidth 64).setWidth 32 = w := by simp
  rw [← State.write32_reg s r b o w row h hs.1 hr h1 h2]
  unfold State.poke State.regWrite State.writeBar0
  cases r with
  | mmio p => simp [hs.2, hn, show (b.base + o) % 4 = 0 by omega, hw]
  | jtag => simp [hs.2, hn, show (b.base + o) % 4 = 0 by omega, hw]
  | i3c => exact hs.2.elim

/-- A write that reaches GLB_JOB_CMD. -/
theorem State.poke_job (s : State) (r : Requester) (w : Word) (hs : s.reaches r .glb) :
    s.poke r .glb 0xA4 w = s.writeJobCmd r w := by
  have hw : (w.setWidth 64).setWidth 32 = w := by simp
  have hr : Blk.glb.row? 0xA4 = some (rwoRow 0x0A4 0x30F) := by decide
  have ho : Blk.ofOff 164 = some .glb := by decide
  unfold State.poke State.regWrite State.writeBar0
  cases r with
  | mmio p =>
    simp [hs.2, Blk.base, hw]
    simp [State.write32, ho, hs.1, hr]
  | jtag =>
    simp [hs.2, Blk.base, hw]
    simp [State.write32, ho, hs.1, hr]
  | i3c => exact hs.2.elim

end Sys2Proof.Machine
end

