-- ==== Sys2Proof/Laws/Store.lean ====
section
/-!
SUPPORT. Sparse tables: what a read finds after a write, and that every operation keeps the canonical form.
-/

namespace Sys2Proof.Machine

variable {α : Type}

theorem Store.get_erase_same (d : Nat → α) (m : Store α) (k : Nat) : Store.get d (Store.erase m k) k = d k := by
  induction m with
  | nil => rfl
  | cons e m ih =>
    unfold Store.erase
    split
    · exact ih
    · unfold Store.get
      rw [if_neg ‹_›]
      exact ih

theorem Store.get_erase_ne (d : Nat → α) (m : Store α) {k j : Nat} (h : j ≠ k) :
    Store.get d (Store.erase m k) j = Store.get d m j := by
  induction m with
  | nil => rfl
  | cons e m ih =>
    unfold Store.erase
    split
    · rename_i e1
      rw [ih]
      conv => rhs; unfold Store.get
      rw [if_neg (by omega)]
    · unfold Store.get
      split
      · rfl
      · exact ih

theorem Store.get_insert_same (d : Nat → α) (m : Store α) (k : Nat) (v : α) (h : ∀ e ∈ m, e.1 ≠ k) :
    Store.get d (Store.insert m k v) k = v := by
  induction m with
  | nil => simp [Store.insert, Store.get]
  | cons e m ih =>
    unfold Store.insert
    split
    · simp [Store.get]
    · unfold Store.get
      rw [if_neg (by have := h e (by simp); omega)]
      exact ih (fun a ha => h a (by simp [ha]))

theorem Store.get_insert_ne (d : Nat → α) (m : Store α) {k j : Nat} (v : α) (h : j ≠ k) :
    Store.get d (Store.insert m k v) j = Store.get d m j := by
  induction m with
  | nil => simp [Store.insert, Store.get, h]
  | cons e m ih =>
    unfold Store.insert
    split
    · conv => lhs; unfold Store.get
      rw [if_neg h]
    · unfold Store.get
      split
      · rfl
      · exact ih

theorem Store.erase_keys (m : Store α) (k : Nat) : ∀ e ∈ Store.erase m k, e.1 ≠ k := by
  induction m with
  | nil => simp [Store.erase]
  | cons e m ih =>
    unfold Store.erase
    split
    · exact ih
    · intro a ha
      simp only [List.mem_cons] at ha
      rcases ha with rfl | ha
      · exact fun h => ‹¬_› h.symm
      · exact ih a ha

/-- A read after a write to the same key gives the value written. -/
@[simp] theorem Store.get_set_same [DecidableEq α] (d : Nat → α) (m : Store α) (k : Nat) (v : α) :
    Store.get d (Store.set d m k v) k = v := by
  unfold Store.set
  split
  · rename_i h; rw [Store.get_erase_same, h]
  · exact Store.get_insert_same d _ k v (Store.erase_keys m k)

/-- A write leaves every other key alone. -/
theorem Store.get_set_ne [DecidableEq α] (d : Nat → α) (m : Store α) {k j : Nat} (v : α) (h : j ≠ k) :
    Store.get d (Store.set d m k v) j = Store.get d m j := by
  unfold Store.set
  split
  · exact Store.get_erase_ne d m h
  · rw [Store.get_insert_ne d _ v h, Store.get_erase_ne d m h]

theorem Store.get_set [DecidableEq α] (d : Nat → α) (m : Store α) (k j : Nat) (v : α) :
    Store.get d (Store.set d m k v) j = if j = k then v else Store.get d m j := by
  split
  · subst_vars; simp
  · exact Store.get_set_ne d m v ‹_›

/-- A run of writes gives each of its keys its value and leaves the others alone. -/
theorem Store.get_setMany [DecidableEq α] (d : Nat → α) (l : List α) (m : Store α) (k j : Nat) :
    Store.get d (Store.setMany d m k l) j = if h : k ≤ j ∧ j < k + l.length then l[j - k] else Store.get d m j := by
  induction l generalizing m k with
  | nil => simp [Store.setMany] <;> omega
  | cons v l ih =>
    unfold Store.setMany
    rw [ih, Store.get_set]
    simp only [List.length_cons]
    by_cases h : j = k
    · subst h
      rw [dif_neg (by omega), dif_pos (by omega)]
      simp
    · by_cases h1 : k + 1 ≤ j ∧ j < k + 1 + l.length
      · rw [dif_pos h1, dif_pos (by omega)]
        have : j - k = (j - (k + 1)) + 1 := by omega
        simp [this]
      · rw [dif_neg h1, if_neg h, dif_neg (by omega)]

/-! ### The canonical form -/

theorem Store.rising_mono {m : Store α} {a b : Nat} (h : a ≤ b) (k : Store.rising b m = true) :
    Store.rising a m = true := by
  cases m with
  | nil => rfl
  | cons e m =>
    simp only [Store.rising, Bool.and_eq_true, decide_eq_true_eq] at k ⊢
    exact ⟨by omega, k.2⟩

theorem Store.rising_erase {m : Store α} {a k : Nat} (h : Store.rising a m = true) :
    Store.rising a (Store.erase m k) = true := by
  induction m generalizing a with
  | nil => rfl
  | cons e m ih =>
    simp only [Store.rising, Bool.and_eq_true, decide_eq_true_eq] at h
    unfold Store.erase
    split
    · exact ih (Store.rising_mono (by omega) h.2)
    · simp only [Store.rising, Bool.and_eq_true, decide_eq_true_eq]
      exact ⟨h.1, ih h.2⟩

theorem Store.rising_insert {m : Store α} {a k : Nat} {v : α} (h : Store.rising a m = true) (hk : a ≤ k)
    (hm : ∀ e ∈ m, e.1 ≠ k) : Store.rising a (Store.insert m k v) = true := by
  induction m generalizing a with
  | nil => simp [Store.insert, Store.rising, hk]
  | cons e m ih =>
    simp only [Store.rising, Bool.and_eq_true, decide_eq_true_eq] at h
    have he := hm e (by simp)
    unfold Store.insert
    split
    · simp only [Store.rising, Bool.and_eq_true, decide_eq_true_eq]
      exact ⟨hk, by omega, h.2⟩
    · simp only [Store.rising, Bool.and_eq_true, decide_eq_true_eq]
      exact ⟨h.1, ih h.2 (by omega) (fun a ha => hm a (by simp [ha]))⟩

theorem Store.lean_erase [DecidableEq α] {d : Nat → α} {m : Store α} {k : Nat} (h : Store.lean d m = true) :
    Store.lean d (Store.erase m k) = true := by
  induction m with
  | nil => rfl
  | cons e m ih =>
    simp only [Store.lean, Bool.and_eq_true] at h
    unfold Store.erase
    split
    · exact ih h.2
    · simp only [Store.lean, Bool.and_eq_true]
      exact ⟨h.1, ih h.2⟩

theorem Store.lean_insert [DecidableEq α] {d : Nat → α} {m : Store α} {k : Nat} {v : α}
    (h : Store.lean d m = true) (hv : v ≠ d k) : Store.lean d (Store.insert m k v) = true := by
  induction m with
  | nil => simp [Store.insert, Store.lean, hv]
  | cons e m ih =>
    simp only [Store.lean, Bool.and_eq_true] at h
    unfold Store.insert
    split
    · simp only [Store.lean, Bool.and_eq_true, decide_eq_true_eq]
      exact ⟨hv, by simpa using h.1, h.2⟩
    · simp only [Store.lean, Bool.and_eq_true]
      exact ⟨h.1, ih h.2⟩

/-- A write keeps the canonical form. -/
theorem Store.wf_set [DecidableEq α] {d : Nat → α} {m : Store α} (k : Nat) (v : α) (h : Store.wf d m = true) :
    Store.wf d (Store.set d m k v) = true := by
  simp only [Store.wf, Bool.and_eq_true] at h ⊢
  unfold Store.set
  split
  · exact ⟨Store.rising_erase h.1, Store.lean_erase h.2⟩
  · exact ⟨Store.rising_insert (Store.rising_erase h.1) (Nat.zero_le _) (Store.erase_keys m k),
      Store.lean_insert (Store.lean_erase h.2) ‹_›⟩

theorem Store.rising_keep {p : Nat → Bool} {m : Store α} {a : Nat} (h : Store.rising a m = true) :
    Store.rising a (Store.keep p m) = true := by
  induction m generalizing a with
  | nil => rfl
  | cons e m ih =>
    simp only [Store.rising, Bool.and_eq_true, decide_eq_true_eq] at h
    unfold Store.keep
    split
    · simp only [Store.rising, Bool.and_eq_true, decide_eq_true_eq]
      exact ⟨h.1, ih h.2⟩
    · exact ih (Store.rising_mono (by omega) h.2)

/-- Leaving entries out keeps the canonical form. -/
theorem Store.wf_keep [DecidableEq α] {d : Nat → α} {m : Store α} (p : Nat → Bool) (h : Store.wf d m = true) :
    Store.wf d (Store.keep p m) = true := by
  simp only [Store.wf, Bool.and_eq_true] at h ⊢
  refine ⟨Store.rising_keep h.1, ?_⟩
  have h2 := h.2
  clear h
  induction m with
  | nil => rfl
  | cons e m ih =>
    simp only [Store.lean, Bool.and_eq_true] at h2
    unfold Store.keep
    split
    · simp only [Store.lean, Bool.and_eq_true]
      exact ⟨h2.1, ih h2.2⟩
    · exact ih h2.2

end Sys2Proof.Machine
end

