-- ==== Sys2Proof/Laws/Issue.lean ====
section
/-!
SUPPORT. What a fetched descriptor does as it is tried, what a request at a stack's arbiter changes, and the settling of a
device without outstanding requests.
-/

namespace Sys2Proof.Machine

open Sys2Proof

theorem State.each_id {α : Type} {s : State} (l : List α) (f : State → α → State) (h : ∀ x ∈ l, f s x = s) :
    s.each l f = s := by
  induction l with
  | nil => rfl
  | cons a l ih =>
    unfold State.each at *
    rw [List.foldl_cons, h a (by simp)]
    exact ih (fun x hx => h x (by simp [hx]))

/-- Without outstanding requests nothing goes out. -/
theorem State.pump_calm {s : State} (h : s.trackers = []) : s.pump = s := by
  have e : s.inPlay = [] := by unfold State.inPlay; simp [h]
  unfold State.pump; rw [e]; rfl

theorem State.settleOnce_calm {s : State} (h : s.trackers = [] ∧ s.frt.errs = []) : s.settleOnce = s := by
  unfold State.settleOnce
  rw [State.pump_calm h.1]
  simp [State.settleN, h.2]

/-- Without outstanding requests, queued descriptors and collectives nothing follows a command. -/
theorem State.settle_calm {s : State} (h : s.trackers = [] ∧ s.frt.errs = []) (w : s.waiting = false) : s.settle = s := by
  unfold State.settle
  rw [State.settleOnce_calm h]
  simp [w]

/-! ### Turns at the arbiters -/

/-- Two states differ at most in the arbiters of the stacks. -/
def State.upToArbs (s t : State) : Prop := t = { s with arbs := t.arbs }

theorem State.upToArbs_refl (s : State) : s.upToArbs s := rfl

theorem State.upToArbs_trans {s t u : State} (h : s.upToArbs t) (k : t.upToArbs u) : s.upToArbs u := by
  unfold State.upToArbs at *
  rw [k, h]

theorem State.arbitrate_arbs (s : State) (t : StackId) (e : ArbEntry) (w : List ArbEntry) :
    s.upToArbs (s.arbitrate t e w).2 := rfl

theorem State.grant_arbs (t : StackId) (e : ArbEntry) (w : List ArbEntry) (n : Nat) (s : State) :
    s.upToArbs (State.grant t e w n s).2 := by
  induction n generalizing s with
  | zero => exact State.upToArbs_refl s
  | succ n ih =>
    unfold State.grant
    dsimp only
    split
    · exact State.arbitrate_arbs s t e w
    · exact State.upToArbs_trans (State.arbitrate_arbs s t e w) (ih _)

theorem State.requestAt_arbs (s : State) (t : StackId) (e : ArbEntry) (w : List ArbEntry) :
    s.upToArbs (s.requestAt t e w).2 := by
  unfold State.requestAt
  split
  · exact State.grant_arbs t e w grantBound s
  · exact State.upToArbs_refl s

theorem State.countGrant_arbs (s : State) (t : StackId) (n : Nat) : s.upToArbs (s.countGrant t n) := by
  unfold State.countGrant
  split
  · rfl
  · exact State.upToArbs_refl s

theorem State.takeTurn_arbs (s : State) (src : Source) (off n : Nat) : s.upToArbs (s.takeTurn src off n) := by
  unfold State.takeTurn State.requestFor
  dsimp only
  split
  · exact State.upToArbs_trans (State.requestAt_arbs _ _ _ _) (State.countGrant_arbs _ _ _)
  · exact State.requestAt_arbs _ _ _ _

theorem State.each_arbs {α : Type} (s : State) (l : List α) (f : State → α → State) (h : ∀ (s : State) (a : α), s.upToArbs (f s a)) :
    s.upToArbs (s.each l f) := by
  induction l generalizing s with
  | nil => exact State.upToArbs_refl s
  | cons a l ih => exact State.upToArbs_trans (h s a) (ih (f s a))

/-- An access takes its turns at the stacks' arbiters and changes nothing else. -/
theorem State.enter_arbs (s : State) (src : Source) (off len : Nat) : s.upToArbs (s.enter src off len) :=
  State.each_arbs s _ _ fun _ _ => State.takeTurn_arbs _ _ _ _

theorem State.fetched_arbs (s : State) (c : CoreId) (r : Run) (d : Desc) : s.upToArbs (s.fetched c r d) :=
  State.upToArbs_trans (State.enter_arbs s _ _ _) (State.each_arbs _ _ _ fun _ _ => State.enter_arbs _ _ _ _)

/-! ### The issue of a descriptor -/

/-- A read over a range changes nothing where no stack has lost its contents and every stored CRC is that of its data.
-/
theorem State.checkRead_kept {s : State} (off len : Nat) (h : s.anyLost = false) : s.checkRead off len = s := by
  unfold State.checkRead; simp [h]

theorem State.anyLost_arbs {s t : State} (h : s.upToArbs t) : t.anyLost = s.anyLost := by rw [h]; rfl

/-- The reads of the tensor descriptors that a descriptor names. -/
theorem State.each_reads {α : Type} (c : CoreId) (l : List α) (o : State → α → Nat) (s : State) (h : s.anyLost = false) :
    s.each l (fun s i => (s.enter (.core c) (o s i) 64).checkRead (o s i) 64) =
      s.each l (fun s i => s.enter (.core c) (o s i) 64) := by
  induction l generalizing s with
  | nil => rfl
  | cons a l ih =>
    have k : (s.enter (.core c) (o s a) 64).anyLost = false := (State.anyLost_arbs (State.enter_arbs _ _ _ _)).trans h
    have e := State.checkRead_kept (o s a) 64 k
    unfold State.each at *
    rw [List.foldl_cons, List.foldl_cons, e]
    exact ih _ k

/-- A fetched descriptor is judged by its SEQ, its opcode, its WAIT bits and its queue before its own meaning. -/
theorem State.issue_fetches {s : State} {c : CoreId} {r : Run} {d : Desc} (op : Nat) (body : Desc → Nat → State → Try)
    (h : s.Fetches c r d) :
    s.issue c op body =
      if d.seq ≠ r.pos then (s.fetched c r d).descFault c r.at r.logical 9 0x08
      else if !opcodes.contains d.op then (s.fetched c r d).descFault c r.at r.logical badOpcode 0x08
      else if d.op ≠ op then s
      else if !(s.core c).waitsMet d || (s.core c).queueFull (unitOf op) then s
      else
        match body d r.logical (s.fetched c r d) with
        | .error e => e.s.descFault c r.at r.logical e.bit e.halt
        | .ok none => s
        | .ok (some t) => t.1.modCore c (fun x => x.issued r.at t.2) := by
  obtain ⟨h1, h2, h3, h4, h5, h6, h7⟩ := h
  have ha := State.enter_arbs s (.core c) (s.descAddr r.at) 64
  have hf := State.fetched_arbs s c r d
  have hl := (State.anyLost_arbs ha).trans h5
  have e1 := State.checkRead_kept (s.descAddr r.at) 64 hl
  have ep : ∀ a, (s.enter (.core c) (s.descAddr r.at) 64).poisoned a = s.poisoned a := fun a => by rw [ha]; rfl
  have em : (s.enter (.core c) (s.descAddr r.at) 64).mem (s.descAddr r.at) 64 = s.mem (s.descAddr r.at) 64 := by
    rw [ha]; rfl
  have et : (s.enter (.core c) (s.descAddr r.at) 64).tensorOk = s.tensorOk := by rw [ha]; rfl
  have ef : ∀ i, (s.fetched c r d).poisoned ((s.fetched c r d).tensorOff i) = s.poisoned (s.tensorOff i) :=
    fun i => by rw [hf]; rfl
  unfold State.issue
  rw [h1]
  dsimp only
  rw [if_neg (by omega), h4, e1, ep, h6, em, ← h2, et, State.each_reads c _ (fun s i => s.tensorOff i) _ hl]
  simp only [Bool.not_true, Bool.false_eq_true, if_false]
  change (if ((d.tensors.filter s.tensorOk).any fun i => (s.fetched c r d).poisoned ((s.fetched c r d).tensorOff i)) = true
    then _ else _) = _
  have h10 : ((d.tensors.filter s.tensorOk).any fun i => (s.fetched c r d).poisoned ((s.fetched c r d).tensorOff i)) = false := by
    simp only [List.any_eq_false, List.mem_filter]
    intro i hi; simp [ef, h7 i hi.1 hi.2]
  rw [h10]
  rfl

/-- A descriptor that may issue does what its own meaning gives. -/
theorem State.issue_takes {s : State} {c : CoreId} {op : Nat} {r : Run} {d : Desc} (body : Desc → Nat → State → Try)
    (h : s.Takes c op r d) (ho : op ∈ opcodes) :
    s.issue c op body =
      match body d r.logical (s.fetched c r d) with
      | .error e => e.s.descFault c r.at r.logical e.bit e.halt
      | .ok none => s
      | .ok (some t) => t.1.modCore c (fun x => x.issued r.at t.2) := by
  rw [State.issue_fetches op body h.toFetches, if_neg (by simp [h.seq]), if_neg (by simp [h.code, ho]),
    if_neg (by simp [h.code]), if_neg (by simp [h.waits, h.room])]

end Sys2Proof.Machine
end

