-- ==== Sys2Proof/Laws/State.lean ====
section
/-!
SUPPORT. What each basic update of the state leaves as it was, field by field, and what it writes.
-/

namespace Sys2Proof.Machine

open Sys2Proof

@[simp] theorem State.setWord_fields (s : State) (a : Nat) (w : Word) :
    (s.setWord a w).cls = s.cls ∧ (s.setWord a w).caps = s.caps ∧ (s.setWord a w).job = s.job ∧
      (s.setWord a w).tim = s.tim ∧ (s.setWord a w).cad = s.cad ∧ (s.setWord a w).cores = s.cores ∧
      (s.setWord a w).hbm = s.hbm ∧ (s.setWord a w).bad = s.bad ∧ (s.setWord a w).kept = s.kept ∧
      (s.setWord a w).stackTab = s.stackTab ∧ (s.setWord a w).arbs = s.arbs ∧ (s.setWord a w).dies = s.dies ∧
      (s.setWord a w).pwr = s.pwr ∧ (s.setWord a w).flt = s.flt ∧ (s.setWord a w).mbq = s.mbq ∧
      (s.setWord a w).ver = s.ver ∧ (s.setWord a w).geo = s.geo ∧ (s.setWord a w).ports = s.ports ∧
      (s.setWord a w).frt = s.frt ∧ (s.setWord a w).trackers = s.trackers ∧ (s.setWord a w).nextTag = s.nextTag ∧
      (s.setWord a w).col = s.col ∧ (s.setWord a w).links = s.links ∧ (s.setWord a w).hosts = s.hosts ∧
      (s.setWord a w).owner = s.owner ∧ (s.setWord a w).chans = s.chans ∧ (s.setWord a w).sec = s.sec ∧
      (s.setWord a w).cfg = s.cfg ∧ (s.setWord a w).i3c = s.i3c ∧ (s.setWord a w).dbg = s.dbg ∧
      (s.setWord a w).jtag = s.jtag ∧ (s.setWord a w).out = s.out ∧ (s.setWord a w).fresh = s.fresh ∧
      (s.setWord a w).pending = s.pending := by
  and_intros <;> rfl

@[simp] theorem State.setReg_fields (s : State) (b : Blk) (o : Nat) (w : Word) :
    (s.setReg b o w).cls = s.cls ∧ (s.setReg b o w).caps = s.caps ∧ (s.setReg b o w).job = s.job ∧
      (s.setReg b o w).tim = s.tim ∧ (s.setReg b o w).cad = s.cad ∧ (s.setReg b o w).cores = s.cores ∧
      (s.setReg b o w).hbm = s.hbm ∧ (s.setReg b o w).bad = s.bad ∧ (s.setReg b o w).kept = s.kept ∧
      (s.setReg b o w).stackTab = s.stackTab ∧ (s.setReg b o w).arbs = s.arbs ∧ (s.setReg b o w).dies = s.dies ∧
      (s.setReg b o w).pwr = s.pwr ∧ (s.setReg b o w).flt = s.flt ∧ (s.setReg b o w).mbq = s.mbq ∧
      (s.setReg b o w).ver = s.ver ∧ (s.setReg b o w).geo = s.geo ∧ (s.setReg b o w).ports = s.ports ∧
      (s.setReg b o w).frt = s.frt ∧ (s.setReg b o w).trackers = s.trackers ∧ (s.setReg b o w).nextTag = s.nextTag ∧
      (s.setReg b o w).col = s.col ∧ (s.setReg b o w).links = s.links ∧ (s.setReg b o w).hosts = s.hosts ∧
      (s.setReg b o w).owner = s.owner ∧ (s.setReg b o w).chans = s.chans ∧ (s.setReg b o w).sec = s.sec ∧
      (s.setReg b o w).cfg = s.cfg ∧ (s.setReg b o w).i3c = s.i3c ∧ (s.setReg b o w).dbg = s.dbg ∧
      (s.setReg b o w).jtag = s.jtag ∧ (s.setReg b o w).out = s.out ∧ (s.setReg b o w).fresh = s.fresh ∧
      (s.setReg b o w).pending = s.pending := by
  and_intros <;> rfl

@[simp] theorem State.setField_fields (s : State) (b : Blk) (o h l v : Nat) :
    (s.setField b o h l v).cls = s.cls ∧ (s.setField b o h l v).caps = s.caps ∧ (s.setField b o h l v).job = s.job ∧
      (s.setField b o h l v).tim = s.tim ∧ (s.setField b o h l v).cad = s.cad ∧ (s.setField b o h l v).cores = s.cores ∧
      (s.setField b o h l v).hbm = s.hbm ∧ (s.setField b o h l v).bad = s.bad ∧ (s.setField b o h l v).kept = s.kept ∧
      (s.setField b o h l v).stackTab = s.stackTab ∧ (s.setField b o h l v).arbs = s.arbs ∧ (s.setField b o h l v).dies = s.dies ∧
      (s.setField b o h l v).pwr = s.pwr ∧ (s.setField b o h l v).flt = s.flt ∧ (s.setField b o h l v).mbq = s.mbq ∧
      (s.setField b o h l v).ver = s.ver ∧ (s.setField b o h l v).geo = s.geo ∧ (s.setField b o h l v).ports = s.ports ∧
      (s.setField b o h l v).frt = s.frt ∧ (s.setField b o h l v).trackers = s.trackers ∧ (s.setField b o h l v).nextTag = s.nextTag ∧
      (s.setField b o h l v).col = s.col ∧ (s.setField b o h l v).links = s.links ∧ (s.setField b o h l v).hosts = s.hosts ∧
      (s.setField b o h l v).owner = s.owner ∧ (s.setField b o h l v).chans = s.chans ∧ (s.setField b o h l v).sec = s.sec ∧
      (s.setField b o h l v).cfg = s.cfg ∧ (s.setField b o h l v).i3c = s.i3c ∧ (s.setField b o h l v).dbg = s.dbg ∧
      (s.setField b o h l v).jtag = s.jtag ∧ (s.setField b o h l v).out = s.out ∧ (s.setField b o h l v).fresh = s.fresh ∧
      (s.setField b o h l v).pending = s.pending := by
  and_intros <;> rfl

@[simp] theorem State.setFlag_fields (s : State) (b : Blk) (o k : Nat) (v : Bool) :
    (s.setFlag b o k v).cls = s.cls ∧ (s.setFlag b o k v).caps = s.caps ∧ (s.setFlag b o k v).job = s.job ∧
      (s.setFlag b o k v).tim = s.tim ∧ (s.setFlag b o k v).cad = s.cad ∧ (s.setFlag b o k v).cores = s.cores ∧
      (s.setFlag b o k v).hbm = s.hbm ∧ (s.setFlag b o k v).bad = s.bad ∧ (s.setFlag b o k v).kept = s.kept ∧
      (s.setFlag b o k v).stackTab = s.stackTab ∧ (s.setFlag b o k v).arbs = s.arbs ∧ (s.setFlag b o k v).dies = s.dies ∧
      (s.setFlag b o k v).pwr = s.pwr ∧ (s.setFlag b o k v).flt = s.flt ∧ (s.setFlag b o k v).mbq = s.mbq ∧
      (s.setFlag b o k v).ver = s.ver ∧ (s.setFlag b o k v).geo = s.geo ∧ (s.setFlag b o k v).ports = s.ports ∧
      (s.setFlag b o k v).frt = s.frt ∧ (s.setFlag b o k v).trackers = s.trackers ∧ (s.setFlag b o k v).nextTag = s.nextTag ∧
      (s.setFlag b o k v).col = s.col ∧ (s.setFlag b o k v).links = s.links ∧ (s.setFlag b o k v).hosts = s.hosts ∧
      (s.setFlag b o k v).owner = s.owner ∧ (s.setFlag b o k v).chans = s.chans ∧ (s.setFlag b o k v).sec = s.sec ∧
      (s.setFlag b o k v).cfg = s.cfg ∧ (s.setFlag b o k v).i3c = s.i3c ∧ (s.setFlag b o k v).dbg = s.dbg ∧
      (s.setFlag b o k v).jtag = s.jtag ∧ (s.setFlag b o k v).out = s.out ∧ (s.setFlag b o k v).fresh = s.fresh ∧
      (s.setFlag b o k v).pending = s.pending := by
  and_intros <;> rfl

@[simp] theorem State.setReg64_fields (s : State) (b : Blk) (o v : Nat) :
    (s.setReg64 b o v).cls = s.cls ∧ (s.setReg64 b o v).caps = s.caps ∧ (s.setReg64 b o v).job = s.job ∧
      (s.setReg64 b o v).tim = s.tim ∧ (s.setReg64 b o v).cad = s.cad ∧ (s.setReg64 b o v).cores = s.cores ∧
      (s.setReg64 b o v).hbm = s.hbm ∧ (s.setReg64 b o v).bad = s.bad ∧ (s.setReg64 b o v).kept = s.kept ∧
      (s.setReg64 b o v).stackTab = s.stackTab ∧ (s.setReg64 b o v).arbs = s.arbs ∧ (s.setReg64 b o v).dies = s.dies ∧
      (s.setReg64 b o v).pwr = s.pwr ∧ (s.setReg64 b o v).flt = s.flt ∧ (s.setReg64 b o v).mbq = s.mbq ∧
      (s.setReg64 b o v).ver = s.ver ∧ (s.setReg64 b o v).geo = s.geo ∧ (s.setReg64 b o v).ports = s.ports ∧
      (s.setReg64 b o v).frt = s.frt ∧ (s.setReg64 b o v).trackers = s.trackers ∧ (s.setReg64 b o v).nextTag = s.nextTag ∧
      (s.setReg64 b o v).col = s.col ∧ (s.setReg64 b o v).links = s.links ∧ (s.setReg64 b o v).hosts = s.hosts ∧
      (s.setReg64 b o v).owner = s.owner ∧ (s.setReg64 b o v).chans = s.chans ∧ (s.setReg64 b o v).sec = s.sec ∧
      (s.setReg64 b o v).cfg = s.cfg ∧ (s.setReg64 b o v).i3c = s.i3c ∧ (s.setReg64 b o v).dbg = s.dbg ∧
      (s.setReg64 b o v).jtag = s.jtag ∧ (s.setReg64 b o v).out = s.out ∧ (s.setReg64 b o v).fresh = s.fresh ∧
      (s.setReg64 b o v).pending = s.pending := by
  and_intros <;> rfl

@[simp] theorem State.countSat_fields (s : State) (b : Blk) (o n : Nat) :
    (s.countSat b o n).cls = s.cls ∧ (s.countSat b o n).caps = s.caps ∧ (s.countSat b o n).job = s.job ∧
      (s.countSat b o n).tim = s.tim ∧ (s.countSat b o n).cad = s.cad ∧ (s.countSat b o n).cores = s.cores ∧
      (s.countSat b o n).hbm = s.hbm ∧ (s.countSat b o n).bad = s.bad ∧ (s.countSat b o n).kept = s.kept ∧
      (s.countSat b o n).stackTab = s.stackTab ∧ (s.countSat b o n).arbs = s.arbs ∧ (s.countSat b o n).dies = s.dies ∧
      (s.countSat b o n).pwr = s.pwr ∧ (s.countSat b o n).flt = s.flt ∧ (s.countSat b o n).mbq = s.mbq ∧
      (s.countSat b o n).ver = s.ver ∧ (s.countSat b o n).geo = s.geo ∧ (s.countSat b o n).ports = s.ports ∧
      (s.countSat b o n).frt = s.frt ∧ (s.countSat b o n).trackers = s.trackers ∧ (s.countSat b o n).nextTag = s.nextTag ∧
      (s.countSat b o n).col = s.col ∧ (s.countSat b o n).links = s.links ∧ (s.countSat b o n).hosts = s.hosts ∧
      (s.countSat b o n).owner = s.owner ∧ (s.countSat b o n).chans = s.chans ∧ (s.countSat b o n).sec = s.sec ∧
      (s.countSat b o n).cfg = s.cfg ∧ (s.countSat b o n).i3c = s.i3c ∧ (s.countSat b o n).dbg = s.dbg ∧
      (s.countSat b o n).jtag = s.jtag ∧ (s.countSat b o n).out = s.out ∧ (s.countSat b o n).fresh = s.fresh ∧
      (s.countSat b o n).pending = s.pending := by
  and_intros <;> rfl

@[simp] theorem State.countWrap_fields (s : State) (b : Blk) (o n : Nat) :
    (s.countWrap b o n).cls = s.cls ∧ (s.countWrap b o n).caps = s.caps ∧ (s.countWrap b o n).job = s.job ∧
      (s.countWrap b o n).tim = s.tim ∧ (s.countWrap b o n).cad = s.cad ∧ (s.countWrap b o n).cores = s.cores ∧
      (s.countWrap b o n).hbm = s.hbm ∧ (s.countWrap b o n).bad = s.bad ∧ (s.countWrap b o n).kept = s.kept ∧
      (s.countWrap b o n).stackTab = s.stackTab ∧ (s.countWrap b o n).arbs = s.arbs ∧ (s.countWrap b o n).dies = s.dies ∧
      (s.countWrap b o n).pwr = s.pwr ∧ (s.countWrap b o n).flt = s.flt ∧ (s.countWrap b o n).mbq = s.mbq ∧
      (s.countWrap b o n).ver = s.ver ∧ (s.countWrap b o n).geo = s.geo ∧ (s.countWrap b o n).ports = s.ports ∧
      (s.countWrap b o n).frt = s.frt ∧ (s.countWrap b o n).trackers = s.trackers ∧ (s.countWrap b o n).nextTag = s.nextTag ∧
      (s.countWrap b o n).col = s.col ∧ (s.countWrap b o n).links = s.links ∧ (s.countWrap b o n).hosts = s.hosts ∧
      (s.countWrap b o n).owner = s.owner ∧ (s.countWrap b o n).chans = s.chans ∧ (s.countWrap b o n).sec = s.sec ∧
      (s.countWrap b o n).cfg = s.cfg ∧ (s.countWrap b o n).i3c = s.i3c ∧ (s.countWrap b o n).dbg = s.dbg ∧
      (s.countWrap b o n).jtag = s.jtag ∧ (s.countWrap b o n).out = s.out ∧ (s.countWrap b o n).fresh = s.fresh ∧
      (s.countWrap b o n).pending = s.pending := by
  and_intros <;> rfl

@[simp] theorem State.setCore_fields (s : State) (c : CoreId) (x : Core) :
    (s.setCore c x).regs = s.regs ∧ (s.setCore c x).cls = s.cls ∧ (s.setCore c x).caps = s.caps ∧
      (s.setCore c x).job = s.job ∧ (s.setCore c x).tim = s.tim ∧ (s.setCore c x).cad = s.cad ∧
      (s.setCore c x).hbm = s.hbm ∧ (s.setCore c x).bad = s.bad ∧ (s.setCore c x).kept = s.kept ∧
      (s.setCore c x).stackTab = s.stackTab ∧ (s.setCore c x).arbs = s.arbs ∧ (s.setCore c x).dies = s.dies ∧
      (s.setCore c x).pwr = s.pwr ∧ (s.setCore c x).flt = s.flt ∧ (s.setCore c x).mbq = s.mbq ∧
      (s.setCore c x).ver = s.ver ∧ (s.setCore c x).geo = s.geo ∧ (s.setCore c x).ports = s.ports ∧
      (s.setCore c x).frt = s.frt ∧ (s.setCore c x).trackers = s.trackers ∧ (s.setCore c x).nextTag = s.nextTag ∧
      (s.setCore c x).col = s.col ∧ (s.setCore c x).links = s.links ∧ (s.setCore c x).hosts = s.hosts ∧
      (s.setCore c x).owner = s.owner ∧ (s.setCore c x).chans = s.chans ∧ (s.setCore c x).sec = s.sec ∧
      (s.setCore c x).cfg = s.cfg ∧ (s.setCore c x).i3c = s.i3c ∧ (s.setCore c x).dbg = s.dbg ∧
      (s.setCore c x).jtag = s.jtag ∧ (s.setCore c x).out = s.out ∧ (s.setCore c x).fresh = s.fresh ∧
      (s.setCore c x).pending = s.pending := by
  and_intros <;> rfl

@[simp] theorem State.modCore_fields (s : State) (c : CoreId) (f : Core → Core) :
    (s.modCore c f).regs = s.regs ∧ (s.modCore c f).cls = s.cls ∧ (s.modCore c f).caps = s.caps ∧
      (s.modCore c f).job = s.job ∧ (s.modCore c f).tim = s.tim ∧ (s.modCore c f).cad = s.cad ∧
      (s.modCore c f).hbm = s.hbm ∧ (s.modCore c f).bad = s.bad ∧ (s.modCore c f).kept = s.kept ∧
      (s.modCore c f).stackTab = s.stackTab ∧ (s.modCore c f).arbs = s.arbs ∧ (s.modCore c f).dies = s.dies ∧
      (s.modCore c f).pwr = s.pwr ∧ (s.modCore c f).flt = s.flt ∧ (s.modCore c f).mbq = s.mbq ∧
      (s.modCore c f).ver = s.ver ∧ (s.modCore c f).geo = s.geo ∧ (s.modCore c f).ports = s.ports ∧
      (s.modCore c f).frt = s.frt ∧ (s.modCore c f).trackers = s.trackers ∧ (s.modCore c f).nextTag = s.nextTag ∧
      (s.modCore c f).col = s.col ∧ (s.modCore c f).links = s.links ∧ (s.modCore c f).hosts = s.hosts ∧
      (s.modCore c f).owner = s.owner ∧ (s.modCore c f).chans = s.chans ∧ (s.modCore c f).sec = s.sec ∧
      (s.modCore c f).cfg = s.cfg ∧ (s.modCore c f).i3c = s.i3c ∧ (s.modCore c f).dbg = s.dbg ∧
      (s.modCore c f).jtag = s.jtag ∧ (s.modCore c f).out = s.out ∧ (s.modCore c f).fresh = s.fresh ∧
      (s.modCore c f).pending = s.pending := by
  and_intros <;> rfl

@[simp] theorem State.modDie_fields (s : State) (d : DieId) (f : Die → Die) :
    (s.modDie d f).regs = s.regs ∧ (s.modDie d f).cls = s.cls ∧ (s.modDie d f).caps = s.caps ∧
      (s.modDie d f).job = s.job ∧ (s.modDie d f).tim = s.tim ∧ (s.modDie d f).cad = s.cad ∧
      (s.modDie d f).cores = s.cores ∧ (s.modDie d f).hbm = s.hbm ∧ (s.modDie d f).bad = s.bad ∧
      (s.modDie d f).kept = s.kept ∧ (s.modDie d f).stackTab = s.stackTab ∧ (s.modDie d f).arbs = s.arbs ∧
      (s.modDie d f).pwr = s.pwr ∧ (s.modDie d f).flt = s.flt ∧ (s.modDie d f).mbq = s.mbq ∧
      (s.modDie d f).ver = s.ver ∧ (s.modDie d f).geo = s.geo ∧ (s.modDie d f).ports = s.ports ∧
      (s.modDie d f).frt = s.frt ∧ (s.modDie d f).trackers = s.trackers ∧ (s.modDie d f).nextTag = s.nextTag ∧
      (s.modDie d f).col = s.col ∧ (s.modDie d f).links = s.links ∧ (s.modDie d f).hosts = s.hosts ∧
      (s.modDie d f).owner = s.owner ∧ (s.modDie d f).chans = s.chans ∧ (s.modDie d f).sec = s.sec ∧
      (s.modDie d f).cfg = s.cfg ∧ (s.modDie d f).i3c = s.i3c ∧ (s.modDie d f).dbg = s.dbg ∧
      (s.modDie d f).jtag = s.jtag ∧ (s.modDie d f).out = s.out ∧ (s.modDie d f).fresh = s.fresh ∧
      (s.modDie d f).pending = s.pending := by
  and_intros <;> rfl

@[simp] theorem State.modStack_fields (s : State) (t : StackId) (f : Stack → Stack) :
    (s.modStack t f).regs = s.regs ∧ (s.modStack t f).cls = s.cls ∧ (s.modStack t f).caps = s.caps ∧
      (s.modStack t f).job = s.job ∧ (s.modStack t f).tim = s.tim ∧ (s.modStack t f).cad = s.cad ∧
      (s.modStack t f).cores = s.cores ∧ (s.modStack t f).hbm = s.hbm ∧ (s.modStack t f).bad = s.bad ∧
      (s.modStack t f).kept = s.kept ∧ (s.modStack t f).arbs = s.arbs ∧ (s.modStack t f).dies = s.dies ∧
      (s.modStack t f).pwr = s.pwr ∧ (s.modStack t f).flt = s.flt ∧ (s.modStack t f).mbq = s.mbq ∧
      (s.modStack t f).ver = s.ver ∧ (s.modStack t f).geo = s.geo ∧ (s.modStack t f).ports = s.ports ∧
      (s.modStack t f).frt = s.frt ∧ (s.modStack t f).trackers = s.trackers ∧ (s.modStack t f).nextTag = s.nextTag ∧
      (s.modStack t f).col = s.col ∧ (s.modStack t f).links = s.links ∧ (s.modStack t f).hosts = s.hosts ∧
      (s.modStack t f).owner = s.owner ∧ (s.modStack t f).chans = s.chans ∧ (s.modStack t f).sec = s.sec ∧
      (s.modStack t f).cfg = s.cfg ∧ (s.modStack t f).i3c = s.i3c ∧ (s.modStack t f).dbg = s.dbg ∧
      (s.modStack t f).jtag = s.jtag ∧ (s.modStack t f).out = s.out ∧ (s.modStack t f).fresh = s.fresh ∧
      (s.modStack t f).pending = s.pending := by
  and_intros <;> rfl

@[simp] theorem State.setArb_fields (s : State) (t : StackId) (a : Arb) :
    (s.setArb t a).regs = s.regs ∧ (s.setArb t a).cls = s.cls ∧ (s.setArb t a).caps = s.caps ∧
      (s.setArb t a).job = s.job ∧ (s.setArb t a).tim = s.tim ∧ (s.setArb t a).cad = s.cad ∧
      (s.setArb t a).cores = s.cores ∧ (s.setArb t a).hbm = s.hbm ∧ (s.setArb t a).bad = s.bad ∧
      (s.setArb t a).kept = s.kept ∧ (s.setArb t a).stackTab = s.stackTab ∧ (s.setArb t a).dies = s.dies ∧
      (s.setArb t a).pwr = s.pwr ∧ (s.setArb t a).flt = s.flt ∧ (s.setArb t a).mbq = s.mbq ∧
      (s.setArb t a).ver = s.ver ∧ (s.setArb t a).geo = s.geo ∧ (s.setArb t a).ports = s.ports ∧
      (s.setArb t a).frt = s.frt ∧ (s.setArb t a).trackers = s.trackers ∧ (s.setArb t a).nextTag = s.nextTag ∧
      (s.setArb t a).col = s.col ∧ (s.setArb t a).links = s.links ∧ (s.setArb t a).hosts = s.hosts ∧
      (s.setArb t a).owner = s.owner ∧ (s.setArb t a).chans = s.chans ∧ (s.setArb t a).sec = s.sec ∧
      (s.setArb t a).cfg = s.cfg ∧ (s.setArb t a).i3c = s.i3c ∧ (s.setArb t a).dbg = s.dbg ∧
      (s.setArb t a).jtag = s.jtag ∧ (s.setArb t a).out = s.out ∧ (s.setArb t a).fresh = s.fresh ∧
      (s.setArb t a).pending = s.pending := by
  and_intros <;> rfl

@[simp] theorem State.modPort_fields (s : State) (p : PortId) (f : Port → Port) :
    (s.modPort p f).regs = s.regs ∧ (s.modPort p f).cls = s.cls ∧ (s.modPort p f).caps = s.caps ∧
      (s.modPort p f).job = s.job ∧ (s.modPort p f).tim = s.tim ∧ (s.modPort p f).cad = s.cad ∧
      (s.modPort p f).cores = s.cores ∧ (s.modPort p f).hbm = s.hbm ∧ (s.modPort p f).bad = s.bad ∧
      (s.modPort p f).kept = s.kept ∧ (s.modPort p f).stackTab = s.stackTab ∧ (s.modPort p f).arbs = s.arbs ∧
      (s.modPort p f).dies = s.dies ∧ (s.modPort p f).pwr = s.pwr ∧ (s.modPort p f).flt = s.flt ∧
      (s.modPort p f).mbq = s.mbq ∧ (s.modPort p f).ver = s.ver ∧ (s.modPort p f).geo = s.geo ∧
      (s.modPort p f).frt = s.frt ∧ (s.modPort p f).trackers = s.trackers ∧ (s.modPort p f).nextTag = s.nextTag ∧
      (s.modPort p f).col = s.col ∧ (s.modPort p f).links = s.links ∧ (s.modPort p f).hosts = s.hosts ∧
      (s.modPort p f).owner = s.owner ∧ (s.modPort p f).chans = s.chans ∧ (s.modPort p f).sec = s.sec ∧
      (s.modPort p f).cfg = s.cfg ∧ (s.modPort p f).i3c = s.i3c ∧ (s.modPort p f).dbg = s.dbg ∧
      (s.modPort p f).jtag = s.jtag ∧ (s.modPort p f).out = s.out ∧ (s.modPort p f).fresh = s.fresh ∧
      (s.modPort p f).pending = s.pending := by
  and_intros <;> rfl

@[simp] theorem State.modLink_fields (s : State) (l : LinkId) (f : Link → Link) :
    (s.modLink l f).regs = s.regs ∧ (s.modLink l f).cls = s.cls ∧ (s.modLink l f).caps = s.caps ∧
      (s.modLink l f).job = s.job ∧ (s.modLink l f).tim = s.tim ∧ (s.modLink l f).cad = s.cad ∧
      (s.modLink l f).cores = s.cores ∧ (s.modLink l f).hbm = s.hbm ∧ (s.modLink l f).bad = s.bad ∧
      (s.modLink l f).kept = s.kept ∧ (s.modLink l f).stackTab = s.stackTab ∧ (s.modLink l f).arbs = s.arbs ∧
      (s.modLink l f).dies = s.dies ∧ (s.modLink l f).pwr = s.pwr ∧ (s.modLink l f).flt = s.flt ∧
      (s.modLink l f).mbq = s.mbq ∧ (s.modLink l f).ver = s.ver ∧ (s.modLink l f).geo = s.geo ∧
      (s.modLink l f).ports = s.ports ∧ (s.modLink l f).frt = s.frt ∧ (s.modLink l f).trackers = s.trackers ∧
      (s.modLink l f).nextTag = s.nextTag ∧ (s.modLink l f).col = s.col ∧ (s.modLink l f).hosts = s.hosts ∧
      (s.modLink l f).owner = s.owner ∧ (s.modLink l f).chans = s.chans ∧ (s.modLink l f).sec = s.sec ∧
      (s.modLink l f).cfg = s.cfg ∧ (s.modLink l f).i3c = s.i3c ∧ (s.modLink l f).dbg = s.dbg ∧
      (s.modLink l f).jtag = s.jtag ∧ (s.modLink l f).out = s.out ∧ (s.modLink l f).fresh = s.fresh ∧
      (s.modLink l f).pending = s.pending := by
  and_intros <;> rfl

@[simp] theorem State.modHost_fields (s : State) (h : HostId) (f : HostPort → HostPort) :
    (s.modHost h f).regs = s.regs ∧ (s.modHost h f).cls = s.cls ∧ (s.modHost h f).caps = s.caps ∧
      (s.modHost h f).job = s.job ∧ (s.modHost h f).tim = s.tim ∧ (s.modHost h f).cad = s.cad ∧
      (s.modHost h f).cores = s.cores ∧ (s.modHost h f).hbm = s.hbm ∧ (s.modHost h f).bad = s.bad ∧
      (s.modHost h f).kept = s.kept ∧ (s.modHost h f).stackTab = s.stackTab ∧ (s.modHost h f).arbs = s.arbs ∧
      (s.modHost h f).dies = s.dies ∧ (s.modHost h f).pwr = s.pwr ∧ (s.modHost h f).flt = s.flt ∧
      (s.modHost h f).mbq = s.mbq ∧ (s.modHost h f).ver = s.ver ∧ (s.modHost h f).geo = s.geo ∧
      (s.modHost h f).ports = s.ports ∧ (s.modHost h f).frt = s.frt ∧ (s.modHost h f).trackers = s.trackers ∧
      (s.modHost h f).nextTag = s.nextTag ∧ (s.modHost h f).col = s.col ∧ (s.modHost h f).links = s.links ∧
      (s.modHost h f).owner = s.owner ∧ (s.modHost h f).chans = s.chans ∧ (s.modHost h f).sec = s.sec ∧
      (s.modHost h f).cfg = s.cfg ∧ (s.modHost h f).i3c = s.i3c ∧ (s.modHost h f).dbg = s.dbg ∧
      (s.modHost h f).jtag = s.jtag ∧ (s.modHost h f).out = s.out ∧ (s.modHost h f).fresh = s.fresh ∧
      (s.modHost h f).pending = s.pending := by
  and_intros <;> rfl

@[simp] theorem State.modChan_fields (s : State) (c : ChanId) (f : Channel → Channel) :
    (s.modChan c f).regs = s.regs ∧ (s.modChan c f).cls = s.cls ∧ (s.modChan c f).caps = s.caps ∧
      (s.modChan c f).job = s.job ∧ (s.modChan c f).tim = s.tim ∧ (s.modChan c f).cad = s.cad ∧
      (s.modChan c f).cores = s.cores ∧ (s.modChan c f).hbm = s.hbm ∧ (s.modChan c f).bad = s.bad ∧
      (s.modChan c f).kept = s.kept ∧ (s.modChan c f).stackTab = s.stackTab ∧ (s.modChan c f).arbs = s.arbs ∧
      (s.modChan c f).dies = s.dies ∧ (s.modChan c f).pwr = s.pwr ∧ (s.modChan c f).flt = s.flt ∧
      (s.modChan c f).mbq = s.mbq ∧ (s.modChan c f).ver = s.ver ∧ (s.modChan c f).geo = s.geo ∧
      (s.modChan c f).ports = s.ports ∧ (s.modChan c f).frt = s.frt ∧ (s.modChan c f).trackers = s.trackers ∧
      (s.modChan c f).nextTag = s.nextTag ∧ (s.modChan c f).col = s.col ∧ (s.modChan c f).links = s.links ∧
      (s.modChan c f).hosts = s.hosts ∧ (s.modChan c f).owner = s.owner ∧ (s.modChan c f).sec = s.sec ∧
      (s.modChan c f).cfg = s.cfg ∧ (s.modChan c f).i3c = s.i3c ∧ (s.modChan c f).dbg = s.dbg ∧
      (s.modChan c f).jtag = s.jtag ∧ (s.modChan c f).out = s.out ∧ (s.modChan c f).fresh = s.fresh ∧
      (s.modChan c f).pending = s.pending := by
  and_intros <;> rfl

@[simp] theorem State.emit_fields (s : State) (o : Output) :
    (s.emit o).regs = s.regs ∧ (s.emit o).cls = s.cls ∧ (s.emit o).caps = s.caps ∧
      (s.emit o).job = s.job ∧ (s.emit o).tim = s.tim ∧ (s.emit o).cad = s.cad ∧
      (s.emit o).cores = s.cores ∧ (s.emit o).hbm = s.hbm ∧ (s.emit o).bad = s.bad ∧
      (s.emit o).kept = s.kept ∧ (s.emit o).stackTab = s.stackTab ∧ (s.emit o).arbs = s.arbs ∧
      (s.emit o).dies = s.dies ∧ (s.emit o).pwr = s.pwr ∧ (s.emit o).flt = s.flt ∧
      (s.emit o).mbq = s.mbq ∧ (s.emit o).ver = s.ver ∧ (s.emit o).geo = s.geo ∧
      (s.emit o).ports = s.ports ∧ (s.emit o).frt = s.frt ∧ (s.emit o).trackers = s.trackers ∧
      (s.emit o).nextTag = s.nextTag ∧ (s.emit o).col = s.col ∧ (s.emit o).links = s.links ∧
      (s.emit o).hosts = s.hosts ∧ (s.emit o).owner = s.owner ∧ (s.emit o).chans = s.chans ∧
      (s.emit o).sec = s.sec ∧ (s.emit o).cfg = s.cfg ∧ (s.emit o).i3c = s.i3c ∧
      (s.emit o).dbg = s.dbg ∧ (s.emit o).jtag = s.jtag ∧ (s.emit o).fresh = s.fresh ∧
      (s.emit o).pending = s.pending := by
  and_intros <;> rfl

@[simp] theorem State.modSec_fields (s : State) (f : Sec → Sec) :
    (s.modSec f).regs = s.regs ∧ (s.modSec f).cls = s.cls ∧ (s.modSec f).caps = s.caps ∧
      (s.modSec f).job = s.job ∧ (s.modSec f).tim = s.tim ∧ (s.modSec f).cad = s.cad ∧
      (s.modSec f).cores = s.cores ∧ (s.modSec f).hbm = s.hbm ∧ (s.modSec f).bad = s.bad ∧
      (s.modSec f).kept = s.kept ∧ (s.modSec f).stackTab = s.stackTab ∧ (s.modSec f).arbs = s.arbs ∧
      (s.modSec f).dies = s.dies ∧ (s.modSec f).pwr = s.pwr ∧ (s.modSec f).flt = s.flt ∧
      (s.modSec f).mbq = s.mbq ∧ (s.modSec f).ver = s.ver ∧ (s.modSec f).geo = s.geo ∧
      (s.modSec f).ports = s.ports ∧ (s.modSec f).frt = s.frt ∧ (s.modSec f).trackers = s.trackers ∧
      (s.modSec f).nextTag = s.nextTag ∧ (s.modSec f).col = s.col ∧ (s.modSec f).links = s.links ∧
      (s.modSec f).hosts = s.hosts ∧ (s.modSec f).owner = s.owner ∧ (s.modSec f).chans = s.chans ∧
      (s.modSec f).cfg = s.cfg ∧ (s.modSec f).i3c = s.i3c ∧ (s.modSec f).dbg = s.dbg ∧
      (s.modSec f).jtag = s.jtag ∧ (s.modSec f).out = s.out ∧ (s.modSec f).fresh = s.fresh ∧
      (s.modSec f).pending = s.pending := by
  and_intros <;> rfl

@[simp] theorem State.modPwr_fields (s : State) (f : Pwr → Pwr) :
    (s.modPwr f).regs = s.regs ∧ (s.modPwr f).cls = s.cls ∧ (s.modPwr f).caps = s.caps ∧
      (s.modPwr f).job = s.job ∧ (s.modPwr f).tim = s.tim ∧ (s.modPwr f).cad = s.cad ∧
      (s.modPwr f).cores = s.cores ∧ (s.modPwr f).hbm = s.hbm ∧ (s.modPwr f).bad = s.bad ∧
      (s.modPwr f).kept = s.kept ∧ (s.modPwr f).stackTab = s.stackTab ∧ (s.modPwr f).arbs = s.arbs ∧
      (s.modPwr f).dies = s.dies ∧ (s.modPwr f).flt = s.flt ∧ (s.modPwr f).mbq = s.mbq ∧
      (s.modPwr f).ver = s.ver ∧ (s.modPwr f).geo = s.geo ∧ (s.modPwr f).ports = s.ports ∧
      (s.modPwr f).frt = s.frt ∧ (s.modPwr f).trackers = s.trackers ∧ (s.modPwr f).nextTag = s.nextTag ∧
      (s.modPwr f).col = s.col ∧ (s.modPwr f).links = s.links ∧ (s.modPwr f).hosts = s.hosts ∧
      (s.modPwr f).owner = s.owner ∧ (s.modPwr f).chans = s.chans ∧ (s.modPwr f).sec = s.sec ∧
      (s.modPwr f).cfg = s.cfg ∧ (s.modPwr f).i3c = s.i3c ∧ (s.modPwr f).dbg = s.dbg ∧
      (s.modPwr f).jtag = s.jtag ∧ (s.modPwr f).out = s.out ∧ (s.modPwr f).fresh = s.fresh ∧
      (s.modPwr f).pending = s.pending := by
  and_intros <;> rfl

@[simp] theorem State.requestHalt_fields (s : State) (h : HaltReq) :
    (s.requestHalt h).regs = s.regs ∧ (s.requestHalt h).cls = s.cls ∧ (s.requestHalt h).caps = s.caps ∧
      (s.requestHalt h).tim = s.tim ∧ (s.requestHalt h).cad = s.cad ∧ (s.requestHalt h).cores = s.cores ∧
      (s.requestHalt h).hbm = s.hbm ∧ (s.requestHalt h).bad = s.bad ∧ (s.requestHalt h).kept = s.kept ∧
      (s.requestHalt h).stackTab = s.stackTab ∧ (s.requestHalt h).arbs = s.arbs ∧ (s.requestHalt h).dies = s.dies ∧
      (s.requestHalt h).pwr = s.pwr ∧ (s.requestHalt h).flt = s.flt ∧ (s.requestHalt h).mbq = s.mbq ∧
      (s.requestHalt h).ver = s.ver ∧ (s.requestHalt h).geo = s.geo ∧ (s.requestHalt h).ports = s.ports ∧
      (s.requestHalt h).frt = s.frt ∧ (s.requestHalt h).trackers = s.trackers ∧ (s.requestHalt h).nextTag = s.nextTag ∧
      (s.requestHalt h).col = s.col ∧ (s.requestHalt h).links = s.links ∧ (s.requestHalt h).hosts = s.hosts ∧
      (s.requestHalt h).owner = s.owner ∧ (s.requestHalt h).chans = s.chans ∧ (s.requestHalt h).sec = s.sec ∧
      (s.requestHalt h).cfg = s.cfg ∧ (s.requestHalt h).i3c = s.i3c ∧ (s.requestHalt h).dbg = s.dbg ∧
      (s.requestHalt h).jtag = s.jtag ∧ (s.requestHalt h).out = s.out ∧ (s.requestHalt h).fresh = s.fresh ∧
      (s.requestHalt h).pending = s.pending := by
  and_intros <;> rfl

@[simp] theorem State.poisonSeen_fields (s : State) (b : Blk) :
    (s.poisonSeen b).cls = s.cls ∧ (s.poisonSeen b).caps = s.caps ∧ (s.poisonSeen b).job = s.job ∧
      (s.poisonSeen b).tim = s.tim ∧ (s.poisonSeen b).cad = s.cad ∧ (s.poisonSeen b).cores = s.cores ∧
      (s.poisonSeen b).hbm = s.hbm ∧ (s.poisonSeen b).bad = s.bad ∧ (s.poisonSeen b).kept = s.kept ∧
      (s.poisonSeen b).stackTab = s.stackTab ∧ (s.poisonSeen b).arbs = s.arbs ∧ (s.poisonSeen b).dies = s.dies ∧
      (s.poisonSeen b).pwr = s.pwr ∧ (s.poisonSeen b).flt = s.flt ∧ (s.poisonSeen b).mbq = s.mbq ∧
      (s.poisonSeen b).ver = s.ver ∧ (s.poisonSeen b).geo = s.geo ∧ (s.poisonSeen b).ports = s.ports ∧
      (s.poisonSeen b).frt = s.frt ∧ (s.poisonSeen b).trackers = s.trackers ∧ (s.poisonSeen b).nextTag = s.nextTag ∧
      (s.poisonSeen b).col = s.col ∧ (s.poisonSeen b).links = s.links ∧ (s.poisonSeen b).hosts = s.hosts ∧
      (s.poisonSeen b).owner = s.owner ∧ (s.poisonSeen b).chans = s.chans ∧ (s.poisonSeen b).sec = s.sec ∧
      (s.poisonSeen b).cfg = s.cfg ∧ (s.poisonSeen b).i3c = s.i3c ∧ (s.poisonSeen b).dbg = s.dbg ∧
      (s.poisonSeen b).jtag = s.jtag ∧ (s.poisonSeen b).out = s.out ∧ (s.poisonSeen b).fresh = s.fresh ∧
      (s.poisonSeen b).pending = s.pending := by
  and_intros <;> rfl

@[simp] theorem State.putByte_fields (s : State) (o : Nat) (v : Byte) :
    (s.putByte o v).regs = s.regs ∧ (s.putByte o v).cls = s.cls ∧ (s.putByte o v).caps = s.caps ∧
      (s.putByte o v).job = s.job ∧ (s.putByte o v).tim = s.tim ∧ (s.putByte o v).cad = s.cad ∧
      (s.putByte o v).cores = s.cores ∧ (s.putByte o v).bad = s.bad ∧ (s.putByte o v).kept = s.kept ∧
      (s.putByte o v).stackTab = s.stackTab ∧ (s.putByte o v).arbs = s.arbs ∧ (s.putByte o v).dies = s.dies ∧
      (s.putByte o v).pwr = s.pwr ∧ (s.putByte o v).flt = s.flt ∧ (s.putByte o v).mbq = s.mbq ∧
      (s.putByte o v).ver = s.ver ∧ (s.putByte o v).geo = s.geo ∧ (s.putByte o v).ports = s.ports ∧
      (s.putByte o v).frt = s.frt ∧ (s.putByte o v).trackers = s.trackers ∧ (s.putByte o v).nextTag = s.nextTag ∧
      (s.putByte o v).col = s.col ∧ (s.putByte o v).links = s.links ∧ (s.putByte o v).hosts = s.hosts ∧
      (s.putByte o v).owner = s.owner ∧ (s.putByte o v).chans = s.chans ∧ (s.putByte o v).sec = s.sec ∧
      (s.putByte o v).cfg = s.cfg ∧ (s.putByte o v).i3c = s.i3c ∧ (s.putByte o v).dbg = s.dbg ∧
      (s.putByte o v).jtag = s.jtag ∧ (s.putByte o v).out = s.out ∧ (s.putByte o v).fresh = s.fresh ∧
      (s.putByte o v).pending = s.pending := by
  and_intros <;> rfl

@[simp] theorem State.setPoison_fields (s : State) (o : Nat) (p : Bool) :
    (s.setPoison o p).regs = s.regs ∧ (s.setPoison o p).cls = s.cls ∧ (s.setPoison o p).caps = s.caps ∧
      (s.setPoison o p).job = s.job ∧ (s.setPoison o p).tim = s.tim ∧ (s.setPoison o p).cad = s.cad ∧
      (s.setPoison o p).cores = s.cores ∧ (s.setPoison o p).hbm = s.hbm ∧ (s.setPoison o p).kept = s.kept ∧
      (s.setPoison o p).stackTab = s.stackTab ∧ (s.setPoison o p).arbs = s.arbs ∧ (s.setPoison o p).dies = s.dies ∧
      (s.setPoison o p).pwr = s.pwr ∧ (s.setPoison o p).flt = s.flt ∧ (s.setPoison o p).mbq = s.mbq ∧
      (s.setPoison o p).ver = s.ver ∧ (s.setPoison o p).geo = s.geo ∧ (s.setPoison o p).ports = s.ports ∧
      (s.setPoison o p).frt = s.frt ∧ (s.setPoison o p).trackers = s.trackers ∧ (s.setPoison o p).nextTag = s.nextTag ∧
      (s.setPoison o p).col = s.col ∧ (s.setPoison o p).links = s.links ∧ (s.setPoison o p).hosts = s.hosts ∧
      (s.setPoison o p).owner = s.owner ∧ (s.setPoison o p).chans = s.chans ∧ (s.setPoison o p).sec = s.sec ∧
      (s.setPoison o p).cfg = s.cfg ∧ (s.setPoison o p).i3c = s.i3c ∧ (s.setPoison o p).dbg = s.dbg ∧
      (s.setPoison o p).jtag = s.jtag ∧ (s.setPoison o p).out = s.out ∧ (s.setPoison o p).fresh = s.fresh ∧
      (s.setPoison o p).pending = s.pending := by
  and_intros <;> rfl

/-! ### Tables -/

@[simp] theorem State.modCore_core (s : State) (i : CoreId) (f : Core → Core) : (s.modCore i f).core i = f (s.core i) := by
  exact Store.get_set_same _ _ _ _

theorem State.modCore_core_ne (s : State) {i j : CoreId} (f : Core → Core) (h : j ≠ i) : (s.modCore i f).core j = s.core j := by
  exact Store.get_set_ne _ _ _ fun e => h (Fin.ext e)

@[simp] theorem State.modDie_die (s : State) (i : DieId) (f : Die → Die) : (s.modDie i f).die i = f (s.die i) := by
  exact Store.get_set_same _ _ _ _

theorem State.modDie_die_ne (s : State) {i j : DieId} (f : Die → Die) (h : j ≠ i) : (s.modDie i f).die j = s.die j := by
  exact Store.get_set_ne _ _ _ fun e => h (Fin.ext e)

@[simp] theorem State.modStack_stack (s : State) (i : StackId) (f : Stack → Stack) : (s.modStack i f).stack i = f (s.stack i) := by
  exact Store.get_set_same _ _ _ _

theorem State.modStack_stack_ne (s : State) {i j : StackId} (f : Stack → Stack) (h : j ≠ i) : (s.modStack i f).stack j = s.stack j := by
  exact Store.get_set_ne _ _ _ fun e => h (Fin.ext e)

@[simp] theorem State.modPort_port (s : State) (i : PortId) (f : Port → Port) : (s.modPort i f).port i = f (s.port i) := by
  exact Store.get_set_same _ _ _ _

theorem State.modPort_port_ne (s : State) {i j : PortId} (f : Port → Port) (h : j ≠ i) : (s.modPort i f).port j = s.port j := by
  exact Store.get_set_ne _ _ _ fun e => h (Fin.ext e)

@[simp] theorem State.modLink_link (s : State) (i : LinkId) (f : Link → Link) : (s.modLink i f).link i = f (s.link i) := by
  exact Store.get_set_same _ _ _ _

theorem State.modLink_link_ne (s : State) {i j : LinkId} (f : Link → Link) (h : j ≠ i) : (s.modLink i f).link j = s.link j := by
  exact Store.get_set_ne _ _ _ fun e => h (Fin.ext e)

@[simp] theorem State.modChan_chan (s : State) (i : ChanId) (f : Channel → Channel) : (s.modChan i f).chan i = f (s.chan i) := by
  exact Store.get_set_same _ _ _ _

theorem State.modChan_chan_ne (s : State) {i j : ChanId} (f : Channel → Channel) (h : j ≠ i) : (s.modChan i f).chan j = s.chan j := by
  exact Store.get_set_ne _ _ _ fun e => h (Fin.ext e)

@[simp] theorem State.setArb_arb (s : State) (t : StackId) (a : Arb) : (s.setArb t a).arb t = a := by
  exact Store.get_set_same _ _ _ _

theorem State.setArb_arb_ne (s : State) {t u : StackId} (a : Arb) (h : u ≠ t) : (s.setArb t a).arb u = s.arb u := by
  exact Store.get_set_ne _ _ _ fun e => h (Fin.ext e)

@[simp] theorem State.modHost_hostPort (s : State) (h : HostId) (f : HostPort → HostPort) :
    (s.modHost h f).hostPort h = f (s.hostPort h) := by
  exact Store.get_set_same _ _ _ _

theorem State.modHost_hostPort_ne (s : State) {h k : HostId} (f : HostPort → HostPort) (e : k ≠ h) :
    (s.modHost h f).hostPort k = s.hostPort k := by
  exact Store.get_set_ne _ _ _ (by cases h <;> cases k <;> simp_all [HostId.num])

/-! ### Registers -/

@[simp] theorem State.setReg_reg (s : State) (b : Blk) (o : Nat) (w : Word) : (s.setReg b o w).reg b o = w := by
  exact Store.get_set_same _ _ _ _

theorem State.setReg_reg_ne (s : State) {b c : Blk} {o k : Nat} (w : Word) (h : c.base + k ≠ b.base + o) :
    (s.setReg b o w).reg c k = s.reg c k := by
  exact Store.get_set_ne _ _ _ h

@[simp] theorem State.countWrap_reg (s : State) (b : Blk) (o n : Nat) :
    (s.countWrap b o n).reg b o = s.reg b o + BitVec.ofNat 32 n := State.setReg_reg _ _ _ _

/-- A saturating counter never leaves its range and never falls. -/
@[simp] theorem State.countSat_reg (s : State) (b : Blk) (o n : Nat) :
    ((s.countSat b o n).reg b o).toNat = min 0xFFFFFFFF ((s.reg b o).toNat + n) := by
  unfold State.countSat
  rw [State.setReg_reg, BitVec.toNat_ofNat]
  omega

end Sys2Proof.Machine
end

