-- ==== Sys2Proof/Laws/Raise.lean ====
section
/-!
SUPPORT. What the operations that tell of an event leave as it was (interrupts, trace, event counters, error causes, violations,
job states), and what raising a cause writes.
-/

namespace Sys2Proof.Machine

open Sys2Proof

@[simp] theorem State.fire_fields (s : State) (h : HostId) (v : Nat) :
    (s.fire h v).regs = s.regs ∧ (s.fire h v).cls = s.cls ∧ (s.fire h v).caps = s.caps ∧
      (s.fire h v).job = s.job ∧ (s.fire h v).tim = s.tim ∧ (s.fire h v).cad = s.cad ∧
      (s.fire h v).cores = s.cores ∧ (s.fire h v).hbm = s.hbm ∧ (s.fire h v).bad = s.bad ∧
      (s.fire h v).kept = s.kept ∧ (s.fire h v).stackTab = s.stackTab ∧ (s.fire h v).arbs = s.arbs ∧
      (s.fire h v).dies = s.dies ∧ (s.fire h v).pwr = s.pwr ∧ (s.fire h v).flt = s.flt ∧
      (s.fire h v).mbq = s.mbq ∧ (s.fire h v).ver = s.ver ∧ (s.fire h v).geo = s.geo ∧
      (s.fire h v).ports = s.ports ∧ (s.fire h v).frt = s.frt ∧ (s.fire h v).trackers = s.trackers ∧
      (s.fire h v).nextTag = s.nextTag ∧ (s.fire h v).col = s.col ∧ (s.fire h v).links = s.links ∧
      (s.fire h v).owner = s.owner ∧ (s.fire h v).chans = s.chans ∧ (s.fire h v).sec = s.sec ∧
      (s.fire h v).cfg = s.cfg ∧ (s.fire h v).i3c = s.i3c ∧ (s.fire h v).dbg = s.dbg ∧
      (s.fire h v).jtag = s.jtag ∧ (s.fire h v).fresh = s.fresh ∧ (s.fire h v).pending = s.pending := by
  unfold State.fire; dsimp only; (repeat' split) <;> simp

@[simp] theorem State.fireBit_fields (s : State) (b : Blk) (k : Nat) :
    (s.fireBit b k).regs = s.regs ∧ (s.fireBit b k).cls = s.cls ∧ (s.fireBit b k).caps = s.caps ∧
      (s.fireBit b k).job = s.job ∧ (s.fireBit b k).tim = s.tim ∧ (s.fireBit b k).cad = s.cad ∧
      (s.fireBit b k).cores = s.cores ∧ (s.fireBit b k).hbm = s.hbm ∧ (s.fireBit b k).bad = s.bad ∧
      (s.fireBit b k).kept = s.kept ∧ (s.fireBit b k).stackTab = s.stackTab ∧ (s.fireBit b k).arbs = s.arbs ∧
      (s.fireBit b k).dies = s.dies ∧ (s.fireBit b k).pwr = s.pwr ∧ (s.fireBit b k).flt = s.flt ∧
      (s.fireBit b k).mbq = s.mbq ∧ (s.fireBit b k).ver = s.ver ∧ (s.fireBit b k).geo = s.geo ∧
      (s.fireBit b k).ports = s.ports ∧ (s.fireBit b k).frt = s.frt ∧ (s.fireBit b k).trackers = s.trackers ∧
      (s.fireBit b k).nextTag = s.nextTag ∧ (s.fireBit b k).col = s.col ∧ (s.fireBit b k).links = s.links ∧
      (s.fireBit b k).owner = s.owner ∧ (s.fireBit b k).chans = s.chans ∧ (s.fireBit b k).sec = s.sec ∧
      (s.fireBit b k).cfg = s.cfg ∧ (s.fireBit b k).i3c = s.i3c ∧ (s.fireBit b k).dbg = s.dbg ∧
      (s.fireBit b k).jtag = s.jtag ∧ (s.fireBit b k).fresh = s.fresh ∧ (s.fireBit b k).pending = s.pending := by
  unfold State.fireBit; split; (split <;> simp); all_goals simp

@[simp] theorem State.irq_fields (s : State) (b : Blk) (k : Nat) :
    (s.irq b k).cls = s.cls ∧ (s.irq b k).caps = s.caps ∧ (s.irq b k).job = s.job ∧
      (s.irq b k).tim = s.tim ∧ (s.irq b k).cad = s.cad ∧ (s.irq b k).cores = s.cores ∧
      (s.irq b k).hbm = s.hbm ∧ (s.irq b k).bad = s.bad ∧ (s.irq b k).kept = s.kept ∧
      (s.irq b k).stackTab = s.stackTab ∧ (s.irq b k).arbs = s.arbs ∧ (s.irq b k).dies = s.dies ∧
      (s.irq b k).pwr = s.pwr ∧ (s.irq b k).flt = s.flt ∧ (s.irq b k).mbq = s.mbq ∧
      (s.irq b k).ver = s.ver ∧ (s.irq b k).geo = s.geo ∧ (s.irq b k).ports = s.ports ∧
      (s.irq b k).frt = s.frt ∧ (s.irq b k).trackers = s.trackers ∧ (s.irq b k).nextTag = s.nextTag ∧
      (s.irq b k).col = s.col ∧ (s.irq b k).links = s.links ∧ (s.irq b k).owner = s.owner ∧
      (s.irq b k).chans = s.chans ∧ (s.irq b k).sec = s.sec ∧ (s.irq b k).cfg = s.cfg ∧
      (s.irq b k).i3c = s.i3c ∧ (s.irq b k).dbg = s.dbg ∧ (s.irq b k).jtag = s.jtag ∧
      (s.irq b k).fresh = s.fresh ∧ (s.irq b k).pending = s.pending := by
  unfold State.irq; simp only []; split <;> simp

@[simp] theorem State.trace_fields (s : State) (e u d : Nat) :
    (s.trace e u d).cls = s.cls ∧ (s.trace e u d).caps = s.caps ∧ (s.trace e u d).job = s.job ∧
      (s.trace e u d).tim = s.tim ∧ (s.trace e u d).cad = s.cad ∧ (s.trace e u d).cores = s.cores ∧
      (s.trace e u d).hbm = s.hbm ∧ (s.trace e u d).bad = s.bad ∧ (s.trace e u d).kept = s.kept ∧
      (s.trace e u d).stackTab = s.stackTab ∧ (s.trace e u d).arbs = s.arbs ∧ (s.trace e u d).dies = s.dies ∧
      (s.trace e u d).pwr = s.pwr ∧ (s.trace e u d).flt = s.flt ∧ (s.trace e u d).mbq = s.mbq ∧
      (s.trace e u d).ver = s.ver ∧ (s.trace e u d).geo = s.geo ∧ (s.trace e u d).ports = s.ports ∧
      (s.trace e u d).frt = s.frt ∧ (s.trace e u d).trackers = s.trackers ∧ (s.trace e u d).nextTag = s.nextTag ∧
      (s.trace e u d).col = s.col ∧ (s.trace e u d).links = s.links ∧ (s.trace e u d).hosts = s.hosts ∧
      (s.trace e u d).owner = s.owner ∧ (s.trace e u d).chans = s.chans ∧ (s.trace e u d).sec = s.sec ∧
      (s.trace e u d).cfg = s.cfg ∧ (s.trace e u d).i3c = s.i3c ∧ (s.trace e u d).jtag = s.jtag ∧
      (s.trace e u d).out = s.out ∧ (s.trace e u d).fresh = s.fresh ∧ (s.trace e u d).pending = s.pending := by
  unfold State.trace; simp only []; split <;> simp

@[simp] theorem State.telOne_fields (e u n : Nat) (s : State) (k : Nat) :
    (State.telOne e u n s k).cls = s.cls ∧ (State.telOne e u n s k).caps = s.caps ∧ (State.telOne e u n s k).job = s.job ∧
      (State.telOne e u n s k).tim = s.tim ∧ (State.telOne e u n s k).cad = s.cad ∧ (State.telOne e u n s k).cores = s.cores ∧
      (State.telOne e u n s k).hbm = s.hbm ∧ (State.telOne e u n s k).bad = s.bad ∧ (State.telOne e u n s k).kept = s.kept ∧
      (State.telOne e u n s k).stackTab = s.stackTab ∧ (State.telOne e u n s k).arbs = s.arbs ∧ (State.telOne e u n s k).dies = s.dies ∧
      (State.telOne e u n s k).pwr = s.pwr ∧ (State.telOne e u n s k).flt = s.flt ∧ (State.telOne e u n s k).mbq = s.mbq ∧
      (State.telOne e u n s k).ver = s.ver ∧ (State.telOne e u n s k).geo = s.geo ∧ (State.telOne e u n s k).ports = s.ports ∧
      (State.telOne e u n s k).frt = s.frt ∧ (State.telOne e u n s k).trackers = s.trackers ∧ (State.telOne e u n s k).nextTag = s.nextTag ∧
      (State.telOne e u n s k).col = s.col ∧ (State.telOne e u n s k).links = s.links ∧ (State.telOne e u n s k).hosts = s.hosts ∧
      (State.telOne e u n s k).owner = s.owner ∧ (State.telOne e u n s k).chans = s.chans ∧ (State.telOne e u n s k).sec = s.sec ∧
      (State.telOne e u n s k).cfg = s.cfg ∧ (State.telOne e u n s k).i3c = s.i3c ∧ (State.telOne e u n s k).dbg = s.dbg ∧
      (State.telOne e u n s k).jtag = s.jtag ∧ (State.telOne e u n s k).out = s.out ∧ (State.telOne e u n s k).fresh = s.fresh ∧
      (State.telOne e u n s k).pending = s.pending := by
  unfold State.telOne; simp only []; split <;> simp

@[simp] theorem State.tel_fields (s : State) (e u n : Nat) :
    (s.tel e u n).cls = s.cls ∧ (s.tel e u n).caps = s.caps ∧ (s.tel e u n).job = s.job ∧
      (s.tel e u n).tim = s.tim ∧ (s.tel e u n).cad = s.cad ∧ (s.tel e u n).cores = s.cores ∧
      (s.tel e u n).hbm = s.hbm ∧ (s.tel e u n).bad = s.bad ∧ (s.tel e u n).kept = s.kept ∧
      (s.tel e u n).stackTab = s.stackTab ∧ (s.tel e u n).arbs = s.arbs ∧ (s.tel e u n).dies = s.dies ∧
      (s.tel e u n).pwr = s.pwr ∧ (s.tel e u n).flt = s.flt ∧ (s.tel e u n).mbq = s.mbq ∧
      (s.tel e u n).ver = s.ver ∧ (s.tel e u n).geo = s.geo ∧ (s.tel e u n).ports = s.ports ∧
      (s.tel e u n).frt = s.frt ∧ (s.tel e u n).trackers = s.trackers ∧ (s.tel e u n).nextTag = s.nextTag ∧
      (s.tel e u n).col = s.col ∧ (s.tel e u n).links = s.links ∧ (s.tel e u n).hosts = s.hosts ∧
      (s.tel e u n).owner = s.owner ∧ (s.tel e u n).chans = s.chans ∧ (s.tel e u n).sec = s.sec ∧
      (s.tel e u n).cfg = s.cfg ∧ (s.tel e u n).i3c = s.i3c ∧ (s.tel e u n).dbg = s.dbg ∧
      (s.tel e u n).jtag = s.jtag ∧ (s.tel e u n).out = s.out ∧ (s.tel e u n).fresh = s.fresh ∧
      (s.tel e u n).pending = s.pending := by
  unfold State.tel State.each
  split
  · rename_i hf; clear hf; generalize List.range 8 = l
    induction l generalizing s with
    | nil => simp
    | cons k l ih => simp only [List.foldl_cons]; have h := ih (State.telOne e u n s k); simpa using h
  · simp

@[simp] theorem State.ibi_fields (s : State) (d : Byte) :
    (s.ibi d).regs = s.regs ∧ (s.ibi d).cls = s.cls ∧ (s.ibi d).caps = s.caps ∧
      (s.ibi d).job = s.job ∧ (s.ibi d).tim = s.tim ∧ (s.ibi d).cad = s.cad ∧
      (s.ibi d).cores = s.cores ∧ (s.ibi d).hbm = s.hbm ∧ (s.ibi d).bad = s.bad ∧
      (s.ibi d).kept = s.kept ∧ (s.ibi d).stackTab = s.stackTab ∧ (s.ibi d).arbs = s.arbs ∧
      (s.ibi d).dies = s.dies ∧ (s.ibi d).pwr = s.pwr ∧ (s.ibi d).flt = s.flt ∧
      (s.ibi d).mbq = s.mbq ∧ (s.ibi d).ver = s.ver ∧ (s.ibi d).geo = s.geo ∧
      (s.ibi d).ports = s.ports ∧ (s.ibi d).frt = s.frt ∧ (s.ibi d).trackers = s.trackers ∧
      (s.ibi d).nextTag = s.nextTag ∧ (s.ibi d).col = s.col ∧ (s.ibi d).links = s.links ∧
      (s.ibi d).hosts = s.hosts ∧ (s.ibi d).owner = s.owner ∧ (s.ibi d).chans = s.chans ∧
      (s.ibi d).sec = s.sec ∧ (s.ibi d).cfg = s.cfg ∧ (s.ibi d).i3c = s.i3c ∧
      (s.ibi d).dbg = s.dbg ∧ (s.ibi d).jtag = s.jtag ∧ (s.ibi d).fresh = s.fresh ∧
      (s.ibi d).pending = s.pending := by
  unfold State.ibi; split <;> simp

@[simp] theorem State.record_fields (s : State) (c : Cause) :
    (s.record c).caps = s.caps ∧ (s.record c).job = s.job ∧ (s.record c).tim = s.tim ∧
      (s.record c).cad = s.cad ∧ (s.record c).cores = s.cores ∧ (s.record c).hbm = s.hbm ∧
      (s.record c).bad = s.bad ∧ (s.record c).kept = s.kept ∧ (s.record c).stackTab = s.stackTab ∧
      (s.record c).arbs = s.arbs ∧ (s.record c).dies = s.dies ∧ (s.record c).pwr = s.pwr ∧
      (s.record c).flt = s.flt ∧ (s.record c).mbq = s.mbq ∧ (s.record c).ver = s.ver ∧
      (s.record c).geo = s.geo ∧ (s.record c).ports = s.ports ∧ (s.record c).frt = s.frt ∧
      (s.record c).trackers = s.trackers ∧ (s.record c).nextTag = s.nextTag ∧ (s.record c).col = s.col ∧
      (s.record c).links = s.links ∧ (s.record c).hosts = s.hosts ∧ (s.record c).owner = s.owner ∧
      (s.record c).chans = s.chans ∧ (s.record c).sec = s.sec ∧ (s.record c).cfg = s.cfg ∧
      (s.record c).i3c = s.i3c ∧ (s.record c).dbg = s.dbg ∧ (s.record c).jtag = s.jtag ∧
      (s.record c).out = s.out ∧ (s.record c).fresh = s.fresh ∧ (s.record c).pending = s.pending := by
  unfold State.record; simp only []; split <;> simp

@[simp] theorem State.setCause_fields (s : State) (c : Cause) :
    (s.setCause c).caps = s.caps ∧ (s.setCause c).job = s.job ∧ (s.setCause c).tim = s.tim ∧
      (s.setCause c).cad = s.cad ∧ (s.setCause c).cores = s.cores ∧ (s.setCause c).hbm = s.hbm ∧
      (s.setCause c).bad = s.bad ∧ (s.setCause c).kept = s.kept ∧ (s.setCause c).stackTab = s.stackTab ∧
      (s.setCause c).arbs = s.arbs ∧ (s.setCause c).dies = s.dies ∧ (s.setCause c).pwr = s.pwr ∧
      (s.setCause c).flt = s.flt ∧ (s.setCause c).mbq = s.mbq ∧ (s.setCause c).ver = s.ver ∧
      (s.setCause c).geo = s.geo ∧ (s.setCause c).ports = s.ports ∧ (s.setCause c).frt = s.frt ∧
      (s.setCause c).trackers = s.trackers ∧ (s.setCause c).nextTag = s.nextTag ∧ (s.setCause c).col = s.col ∧
      (s.setCause c).links = s.links ∧ (s.setCause c).hosts = s.hosts ∧ (s.setCause c).owner = s.owner ∧
      (s.setCause c).chans = s.chans ∧ (s.setCause c).sec = s.sec ∧ (s.setCause c).cfg = s.cfg ∧
      (s.setCause c).i3c = s.i3c ∧ (s.setCause c).dbg = s.dbg ∧ (s.setCause c).jtag = s.jtag ∧
      (s.setCause c).out = s.out ∧ (s.setCause c).fresh = s.fresh ∧ (s.setCause c).pending = s.pending := by
  unfold State.setCause; simp

@[simp] theorem State.rasReport_fields (s : State) (c : Cause) (k : Nat) :
    (s.rasReport c k).cls = s.cls ∧ (s.rasReport c k).caps = s.caps ∧ (s.rasReport c k).job = s.job ∧
      (s.rasReport c k).tim = s.tim ∧ (s.rasReport c k).cad = s.cad ∧ (s.rasReport c k).cores = s.cores ∧
      (s.rasReport c k).hbm = s.hbm ∧ (s.rasReport c k).bad = s.bad ∧ (s.rasReport c k).kept = s.kept ∧
      (s.rasReport c k).stackTab = s.stackTab ∧ (s.rasReport c k).arbs = s.arbs ∧ (s.rasReport c k).dies = s.dies ∧
      (s.rasReport c k).pwr = s.pwr ∧ (s.rasReport c k).flt = s.flt ∧ (s.rasReport c k).mbq = s.mbq ∧
      (s.rasReport c k).ver = s.ver ∧ (s.rasReport c k).geo = s.geo ∧ (s.rasReport c k).ports = s.ports ∧
      (s.rasReport c k).frt = s.frt ∧ (s.rasReport c k).trackers = s.trackers ∧ (s.rasReport c k).nextTag = s.nextTag ∧
      (s.rasReport c k).col = s.col ∧ (s.rasReport c k).links = s.links ∧ (s.rasReport c k).hosts = s.hosts ∧
      (s.rasReport c k).owner = s.owner ∧ (s.rasReport c k).chans = s.chans ∧ (s.rasReport c k).sec = s.sec ∧
      (s.rasReport c k).cfg = s.cfg ∧ (s.rasReport c k).i3c = s.i3c ∧ (s.rasReport c k).dbg = s.dbg ∧
      (s.rasReport c k).jtag = s.jtag ∧ (s.rasReport c k).out = s.out ∧ (s.rasReport c k).fresh = s.fresh ∧
      (s.rasReport c k).pending = s.pending := by
  unfold State.rasReport; simp only []; (repeat' split) <;> simp

@[simp] theorem State.haltFor_fields (s : State) (c : Cause) (k d : Nat) :
    (s.haltFor c k d).regs = s.regs ∧ (s.haltFor c k d).cls = s.cls ∧ (s.haltFor c k d).caps = s.caps ∧
      (s.haltFor c k d).tim = s.tim ∧ (s.haltFor c k d).cores = s.cores ∧ (s.haltFor c k d).hbm = s.hbm ∧
      (s.haltFor c k d).bad = s.bad ∧ (s.haltFor c k d).kept = s.kept ∧ (s.haltFor c k d).stackTab = s.stackTab ∧
      (s.haltFor c k d).arbs = s.arbs ∧ (s.haltFor c k d).dies = s.dies ∧ (s.haltFor c k d).pwr = s.pwr ∧
      (s.haltFor c k d).flt = s.flt ∧ (s.haltFor c k d).mbq = s.mbq ∧ (s.haltFor c k d).ver = s.ver ∧
      (s.haltFor c k d).geo = s.geo ∧ (s.haltFor c k d).ports = s.ports ∧ (s.haltFor c k d).frt = s.frt ∧
      (s.haltFor c k d).trackers = s.trackers ∧ (s.haltFor c k d).nextTag = s.nextTag ∧ (s.haltFor c k d).col = s.col ∧
      (s.haltFor c k d).links = s.links ∧ (s.haltFor c k d).hosts = s.hosts ∧ (s.haltFor c k d).owner = s.owner ∧
      (s.haltFor c k d).chans = s.chans ∧ (s.haltFor c k d).sec = s.sec ∧ (s.haltFor c k d).cfg = s.cfg ∧
      (s.haltFor c k d).i3c = s.i3c ∧ (s.haltFor c k d).dbg = s.dbg ∧ (s.haltFor c k d).jtag = s.jtag ∧
      (s.haltFor c k d).out = s.out ∧ (s.haltFor c k d).fresh = s.fresh ∧ (s.haltFor c k d).pending = s.pending := by
  unfold State.haltFor; simp only []; split <;> simp

@[simp] theorem State.settleAlert_fields (s t : State) :
    (s.settleAlert t).cls = t.cls ∧ (s.settleAlert t).caps = t.caps ∧ (s.settleAlert t).job = t.job ∧
      (s.settleAlert t).tim = t.tim ∧ (s.settleAlert t).cad = t.cad ∧ (s.settleAlert t).cores = t.cores ∧
      (s.settleAlert t).hbm = t.hbm ∧ (s.settleAlert t).bad = t.bad ∧ (s.settleAlert t).kept = t.kept ∧
      (s.settleAlert t).stackTab = t.stackTab ∧ (s.settleAlert t).arbs = t.arbs ∧ (s.settleAlert t).dies = t.dies ∧
      (s.settleAlert t).pwr = t.pwr ∧ (s.settleAlert t).flt = t.flt ∧ (s.settleAlert t).mbq = t.mbq ∧
      (s.settleAlert t).ver = t.ver ∧ (s.settleAlert t).geo = t.geo ∧ (s.settleAlert t).ports = t.ports ∧
      (s.settleAlert t).frt = t.frt ∧ (s.settleAlert t).trackers = t.trackers ∧ (s.settleAlert t).nextTag = t.nextTag ∧
      (s.settleAlert t).col = t.col ∧ (s.settleAlert t).links = t.links ∧ (s.settleAlert t).owner = t.owner ∧
      (s.settleAlert t).chans = t.chans ∧ (s.settleAlert t).sec = t.sec ∧ (s.settleAlert t).cfg = t.cfg ∧
      (s.settleAlert t).i3c = t.i3c ∧ (s.settleAlert t).dbg = t.dbg ∧ (s.settleAlert t).jtag = t.jtag ∧
      (s.settleAlert t).fresh = t.fresh ∧ (s.settleAlert t).pending = t.pending := by
  unfold State.settleAlert; simp only []; (repeat' split) <;> simp

@[simp] theorem State.raise_fields (s : State) (c : Cause) :
    (s.raise c).caps = s.caps ∧ (s.raise c).tim = s.tim ∧ (s.raise c).cores = s.cores ∧
      (s.raise c).hbm = s.hbm ∧ (s.raise c).bad = s.bad ∧ (s.raise c).kept = s.kept ∧
      (s.raise c).stackTab = s.stackTab ∧ (s.raise c).arbs = s.arbs ∧ (s.raise c).dies = s.dies ∧
      (s.raise c).pwr = s.pwr ∧ (s.raise c).flt = s.flt ∧ (s.raise c).mbq = s.mbq ∧
      (s.raise c).ver = s.ver ∧ (s.raise c).geo = s.geo ∧ (s.raise c).ports = s.ports ∧
      (s.raise c).frt = s.frt ∧ (s.raise c).trackers = s.trackers ∧ (s.raise c).nextTag = s.nextTag ∧
      (s.raise c).col = s.col ∧ (s.raise c).links = s.links ∧ (s.raise c).owner = s.owner ∧
      (s.raise c).chans = s.chans ∧ (s.raise c).sec = s.sec ∧ (s.raise c).cfg = s.cfg ∧
      (s.raise c).i3c = s.i3c ∧ (s.raise c).dbg = s.dbg ∧ (s.raise c).jtag = s.jtag ∧
      (s.raise c).fresh = s.fresh ∧ (s.raise c).pending = s.pending := by
  unfold State.raise; simp only []; split <;> simp

@[simp] theorem State.glbRecord_fields (s : State) (a k : Nat) :
    (s.glbRecord a k).caps = s.caps ∧ (s.glbRecord a k).tim = s.tim ∧ (s.glbRecord a k).cores = s.cores ∧
      (s.glbRecord a k).hbm = s.hbm ∧ (s.glbRecord a k).bad = s.bad ∧ (s.glbRecord a k).kept = s.kept ∧
      (s.glbRecord a k).stackTab = s.stackTab ∧ (s.glbRecord a k).arbs = s.arbs ∧ (s.glbRecord a k).dies = s.dies ∧
      (s.glbRecord a k).pwr = s.pwr ∧ (s.glbRecord a k).flt = s.flt ∧ (s.glbRecord a k).mbq = s.mbq ∧
      (s.glbRecord a k).ver = s.ver ∧ (s.glbRecord a k).geo = s.geo ∧ (s.glbRecord a k).ports = s.ports ∧
      (s.glbRecord a k).frt = s.frt ∧ (s.glbRecord a k).trackers = s.trackers ∧ (s.glbRecord a k).nextTag = s.nextTag ∧
      (s.glbRecord a k).col = s.col ∧ (s.glbRecord a k).links = s.links ∧ (s.glbRecord a k).owner = s.owner ∧
      (s.glbRecord a k).chans = s.chans ∧ (s.glbRecord a k).sec = s.sec ∧ (s.glbRecord a k).cfg = s.cfg ∧
      (s.glbRecord a k).i3c = s.i3c ∧ (s.glbRecord a k).dbg = s.dbg ∧ (s.glbRecord a k).jtag = s.jtag ∧
      (s.glbRecord a k).fresh = s.fresh ∧ (s.glbRecord a k).pending = s.pending := by
  unfold State.glbRecord; simp

@[simp] theorem State.violation_fields (s : State) (b : Blk) (a : Nat) (r : Requester) :
    (s.violation b a r).caps = s.caps ∧ (s.violation b a r).tim = s.tim ∧ (s.violation b a r).cores = s.cores ∧
      (s.violation b a r).hbm = s.hbm ∧ (s.violation b a r).bad = s.bad ∧ (s.violation b a r).kept = s.kept ∧
      (s.violation b a r).stackTab = s.stackTab ∧ (s.violation b a r).arbs = s.arbs ∧ (s.violation b a r).dies = s.dies ∧
      (s.violation b a r).pwr = s.pwr ∧ (s.violation b a r).flt = s.flt ∧ (s.violation b a r).mbq = s.mbq ∧
      (s.violation b a r).ver = s.ver ∧ (s.violation b a r).geo = s.geo ∧ (s.violation b a r).ports = s.ports ∧
      (s.violation b a r).frt = s.frt ∧ (s.violation b a r).trackers = s.trackers ∧ (s.violation b a r).nextTag = s.nextTag ∧
      (s.violation b a r).col = s.col ∧ (s.violation b a r).links = s.links ∧ (s.violation b a r).owner = s.owner ∧
      (s.violation b a r).chans = s.chans ∧ (s.violation b a r).sec = s.sec ∧ (s.violation b a r).cfg = s.cfg ∧
      (s.violation b a r).i3c = s.i3c ∧ (s.violation b a r).dbg = s.dbg ∧ (s.violation b a r).jtag = s.jtag ∧
      (s.violation b a r).fresh = s.fresh ∧ (s.violation b a r).pending = s.pending := by
  unfold State.violation; split <;> simp

@[simp] theorem State.writeFails_fields (s : State) (r : Requester) (b : Blk) (a : Nat) :
    (s.writeFails r b a).caps = s.caps ∧ (s.writeFails r b a).tim = s.tim ∧ (s.writeFails r b a).cores = s.cores ∧
      (s.writeFails r b a).hbm = s.hbm ∧ (s.writeFails r b a).bad = s.bad ∧ (s.writeFails r b a).kept = s.kept ∧
      (s.writeFails r b a).stackTab = s.stackTab ∧ (s.writeFails r b a).arbs = s.arbs ∧ (s.writeFails r b a).dies = s.dies ∧
      (s.writeFails r b a).pwr = s.pwr ∧ (s.writeFails r b a).flt = s.flt ∧ (s.writeFails r b a).mbq = s.mbq ∧
      (s.writeFails r b a).ver = s.ver ∧ (s.writeFails r b a).geo = s.geo ∧ (s.writeFails r b a).ports = s.ports ∧
      (s.writeFails r b a).frt = s.frt ∧ (s.writeFails r b a).trackers = s.trackers ∧ (s.writeFails r b a).nextTag = s.nextTag ∧
      (s.writeFails r b a).col = s.col ∧ (s.writeFails r b a).links = s.links ∧ (s.writeFails r b a).owner = s.owner ∧
      (s.writeFails r b a).chans = s.chans ∧ (s.writeFails r b a).sec = s.sec ∧ (s.writeFails r b a).cfg = s.cfg ∧
      (s.writeFails r b a).i3c = s.i3c ∧ (s.writeFails r b a).dbg = s.dbg ∧ (s.writeFails r b a).jtag = s.jtag ∧
      (s.writeFails r b a).fresh = s.fresh ∧ (s.writeFails r b a).pending = s.pending := by
  unfold State.writeFails; cases r <;> simp

@[simp] theorem State.advisory_fields (s : State) (h : HostId) (k : Nat) :
    (s.advisory h k).regs = s.regs ∧ (s.advisory h k).cls = s.cls ∧ (s.advisory h k).caps = s.caps ∧
      (s.advisory h k).job = s.job ∧ (s.advisory h k).tim = s.tim ∧ (s.advisory h k).cad = s.cad ∧
      (s.advisory h k).cores = s.cores ∧ (s.advisory h k).hbm = s.hbm ∧ (s.advisory h k).bad = s.bad ∧
      (s.advisory h k).kept = s.kept ∧ (s.advisory h k).stackTab = s.stackTab ∧ (s.advisory h k).arbs = s.arbs ∧
      (s.advisory h k).dies = s.dies ∧ (s.advisory h k).pwr = s.pwr ∧ (s.advisory h k).flt = s.flt ∧
      (s.advisory h k).mbq = s.mbq ∧ (s.advisory h k).ver = s.ver ∧ (s.advisory h k).geo = s.geo ∧
      (s.advisory h k).ports = s.ports ∧ (s.advisory h k).frt = s.frt ∧ (s.advisory h k).trackers = s.trackers ∧
      (s.advisory h k).nextTag = s.nextTag ∧ (s.advisory h k).col = s.col ∧ (s.advisory h k).links = s.links ∧
      (s.advisory h k).owner = s.owner ∧ (s.advisory h k).chans = s.chans ∧ (s.advisory h k).sec = s.sec ∧
      (s.advisory h k).cfg = s.cfg ∧ (s.advisory h k).i3c = s.i3c ∧ (s.advisory h k).dbg = s.dbg ∧
      (s.advisory h k).jtag = s.jtag ∧ (s.advisory h k).fresh = s.fresh ∧ (s.advisory h k).pending = s.pending := by
  unfold State.advisory; simp

@[simp] theorem State.completerAborts_fields (s : State) (h : HostId) :
    (s.completerAborts h).cls = s.cls ∧ (s.completerAborts h).caps = s.caps ∧ (s.completerAborts h).job = s.job ∧
      (s.completerAborts h).tim = s.tim ∧ (s.completerAborts h).cad = s.cad ∧ (s.completerAborts h).cores = s.cores ∧
      (s.completerAborts h).hbm = s.hbm ∧ (s.completerAborts h).bad = s.bad ∧ (s.completerAborts h).kept = s.kept ∧
      (s.completerAborts h).stackTab = s.stackTab ∧ (s.completerAborts h).arbs = s.arbs ∧ (s.completerAborts h).dies = s.dies ∧
      (s.completerAborts h).pwr = s.pwr ∧ (s.completerAborts h).flt = s.flt ∧ (s.completerAborts h).mbq = s.mbq ∧
      (s.completerAborts h).ver = s.ver ∧ (s.completerAborts h).geo = s.geo ∧ (s.completerAborts h).ports = s.ports ∧
      (s.completerAborts h).frt = s.frt ∧ (s.completerAborts h).trackers = s.trackers ∧ (s.completerAborts h).nextTag = s.nextTag ∧
      (s.completerAborts h).col = s.col ∧ (s.completerAborts h).links = s.links ∧ (s.completerAborts h).owner = s.owner ∧
      (s.completerAborts h).chans = s.chans ∧ (s.completerAborts h).sec = s.sec ∧ (s.completerAborts h).cfg = s.cfg ∧
      (s.completerAborts h).i3c = s.i3c ∧ (s.completerAborts h).dbg = s.dbg ∧ (s.completerAborts h).jtag = s.jtag ∧
      (s.completerAborts h).fresh = s.fresh ∧ (s.completerAborts h).pending = s.pending := by
  unfold State.completerAborts; simp

@[simp] theorem State.readFails_fields (s : State) (r : Requester) (b : Blk) (a : Nat) :
    (s.readFails r b a).caps = s.caps ∧ (s.readFails r b a).tim = s.tim ∧ (s.readFails r b a).cores = s.cores ∧
      (s.readFails r b a).hbm = s.hbm ∧ (s.readFails r b a).bad = s.bad ∧ (s.readFails r b a).kept = s.kept ∧
      (s.readFails r b a).stackTab = s.stackTab ∧ (s.readFails r b a).arbs = s.arbs ∧ (s.readFails r b a).dies = s.dies ∧
      (s.readFails r b a).pwr = s.pwr ∧ (s.readFails r b a).flt = s.flt ∧ (s.readFails r b a).mbq = s.mbq ∧
      (s.readFails r b a).ver = s.ver ∧ (s.readFails r b a).geo = s.geo ∧ (s.readFails r b a).ports = s.ports ∧
      (s.readFails r b a).frt = s.frt ∧ (s.readFails r b a).trackers = s.trackers ∧ (s.readFails r b a).nextTag = s.nextTag ∧
      (s.readFails r b a).col = s.col ∧ (s.readFails r b a).links = s.links ∧ (s.readFails r b a).owner = s.owner ∧
      (s.readFails r b a).chans = s.chans ∧ (s.readFails r b a).sec = s.sec ∧ (s.readFails r b a).cfg = s.cfg ∧
      (s.readFails r b a).i3c = s.i3c ∧ (s.readFails r b a).dbg = s.dbg ∧ (s.readFails r b a).jtag = s.jtag ∧
      (s.readFails r b a).fresh = s.fresh ∧ (s.readFails r b a).pending = s.pending := by
  unfold State.readFails; cases r <;> simp

@[simp] theorem State.setJobState_fields (s : State) (j : JobState) :
    (s.setJobState j).cls = s.cls ∧ (s.setJobState j).caps = s.caps ∧ (s.setJobState j).tim = s.tim ∧
      (s.setJobState j).cad = s.cad ∧ (s.setJobState j).cores = s.cores ∧ (s.setJobState j).hbm = s.hbm ∧
      (s.setJobState j).bad = s.bad ∧ (s.setJobState j).kept = s.kept ∧ (s.setJobState j).stackTab = s.stackTab ∧
      (s.setJobState j).arbs = s.arbs ∧ (s.setJobState j).dies = s.dies ∧ (s.setJobState j).pwr = s.pwr ∧
      (s.setJobState j).flt = s.flt ∧ (s.setJobState j).mbq = s.mbq ∧ (s.setJobState j).ver = s.ver ∧
      (s.setJobState j).geo = s.geo ∧ (s.setJobState j).ports = s.ports ∧ (s.setJobState j).frt = s.frt ∧
      (s.setJobState j).trackers = s.trackers ∧ (s.setJobState j).nextTag = s.nextTag ∧ (s.setJobState j).col = s.col ∧
      (s.setJobState j).links = s.links ∧ (s.setJobState j).owner = s.owner ∧ (s.setJobState j).chans = s.chans ∧
      (s.setJobState j).sec = s.sec ∧ (s.setJobState j).cfg = s.cfg ∧ (s.setJobState j).i3c = s.i3c ∧
      (s.setJobState j).jtag = s.jtag ∧ (s.setJobState j).fresh = s.fresh ∧ (s.setJobState j).pending = s.pending := by
  unfold State.setJobState; split <;> simp

/-! ### The job under a cause -/

theorem State.haltFor_job (s : State) (c : Cause) (k d : Nat) :
    (s.haltFor c k d).job = { s.job with halts := (s.haltFor c k d).job.halts } := by
  unfold State.haltFor; simp only []; split <;> simp [State.requestHalt]

theorem State.haltFor_quiet (s : State) (c : Cause) (k d : Nat) (h : k < 3) : s.haltFor c k d = s := by
  unfold State.haltFor; simp only []; rw [if_neg]; simp; omega

/-- A cause only adds reasons to halt. -/
theorem State.raise_job (s : State) (c : Cause) :
    (s.raise c).job = { s.job with halts := (s.raise c).job.halts } := by
  unfold State.raise
  simp only [State.settleAlert_fields]
  rw [State.haltFor_job]
  split <;> simp

@[simp] theorem State.raise_jobs (s : State) (c : Cause) :
    (s.raise c).job.st = s.job.st ∧ (s.raise c).job.pend = s.job.pend ∧ (s.raise c).job.armTick = s.job.armTick ∧
      (s.raise c).job.due = s.job.due ∧ (s.raise c).job.pauseTick = s.job.pauseTick ∧ (s.raise c).job.prot = s.job.prot ∧
      (s.raise c).job.secs = s.job.secs ∧ (s.raise c).job.loadErr = s.job.loadErr ∧
      (s.raise c).job.result = s.job.result ∧ (s.raise c).job.zeroHbm = s.job.zeroHbm := by
  rw [State.raise_job]; simp

@[simp] theorem State.violation_jobs (s : State) (b : Blk) (a : Nat) (r : Requester) :
    (s.violation b a r).job.st = s.job.st ∧ (s.violation b a r).job.pend = s.job.pend ∧
      (s.violation b a r).job.armTick = s.job.armTick ∧ (s.violation b a r).job.prot = s.job.prot := by
  unfold State.violation; split <;> simp

@[simp] theorem State.writeFails_jobs (s : State) (r : Requester) (b : Blk) (a : Nat) :
    (s.writeFails r b a).job.st = s.job.st ∧ (s.writeFails r b a).job.pend = s.job.pend ∧
      (s.writeFails r b a).job.armTick = s.job.armTick ∧ (s.writeFails r b a).job.prot = s.job.prot := by
  unfold State.writeFails; cases r <;> simp

@[simp] theorem State.setJobState_jobs (s : State) (j : JobState) :
    (s.setJobState j).job = { s.job with st := j } := by
  unfold State.setJobState
  split
  · rename_i h; rw [← h]
  · simp

/-! ### Registers under a cause -/

theorem Blk.addr_ne {b c : Blk} {o k : Nat} (ho : o < 4096) (hk : k < 4096) (h : o ≠ k) : b.base + o ≠ c.base + k := by
  intro e
  have := congrArg (· % 4096) e
  simp only [Blk.base_mod _ _ ho, Blk.base_mod _ _ hk] at this
  exact h this

theorem State.setReg_reg_off (s : State) {b c : Blk} {o k : Nat} (w : Word) (ho : o < 4096) (hk : k < 4096) (h : k ≠ o) :
    (s.setReg b o w).reg c k = s.reg c k :=
  State.setReg_reg_ne s w (Blk.addr_ne hk ho h)

theorem Blk.base_inj {b c : Blk} {o k : Nat} (ho : o < 4096) (hk : k < 4096) (h : b ≠ c) : b.base + o ≠ c.base + k := by
  intro e
  have h1 := Blk.ofOff_base b o ho
  have h2 := Blk.ofOff_base c k hk
  rw [e, h2] at h1
  exact h (Option.some.inj h1).symm

theorem State.setReg_reg_page (s : State) {b c : Blk} {o k : Nat} (w : Word) (ho : o < 4096) (hk : k < 4096) (h : c ≠ b) :
    (s.setReg b o w).reg c k = s.reg c k :=
  State.setReg_reg_ne s w (Blk.base_inj hk ho h)

@[simp] theorem State.reg_fold (s t : State) (h : t.regs = s.regs) (b : Blk) (o : Nat) : t.reg b o = s.reg b o := by
  unfold State.reg State.word; rw [h]

/-- A field of a word set to what fits is read back; bits outside it stay. -/
theorem wbit_setFld (w : Word) (k j : Nat) (v : Bool) (hk : k < 32) (hj : j < 32) :
    wbit (setFld w k k (bit v)) j = if j = k then v else wbit w j := by
  have e : ∀ (w : Word) (j : Nat), wbit w j = w.toNat.testBit j := by
    intro w j; rw [Nat.testBit_eq_decide_div_mod_eq]; rfl
  rw [e, e]
  have h2 : bit v % 2 ^ (k + 1 - k) = bit v := by cases v <;> simp [bit]
  have h3 : (2 ^ (k + 1 - k) - 1) * 2 ^ k = 2 ^ k := by simp [show k + 1 - k = 1 by omega]
  unfold setFld
  simp only [h2, h3]
  rw [BitVec.testBit_toNat, BitVec.testBit_toNat, BitVec.getLsbD_or, BitVec.getLsbD_and, BitVec.getLsbD_not]
  have h4 : (BitVec.ofNat 32 (2 ^ k)).getLsbD j = decide (j = k) := by
    rw [BitVec.getLsbD_ofNat]; simp only [hj, decide_true, Bool.true_and, Nat.testBit_two_pow, eq_comm]
  have h5 : (BitVec.ofNat 32 (bit v * 2 ^ k)).getLsbD j = (decide (j = k) && v) := by
    cases v
    · simp [bit]
    · simp only [bit, if_true, Nat.one_mul, h4, Bool.and_true]
  rw [h4, h5]
  by_cases h : j = k <;> simp [h, hk] <;> omega

@[simp] theorem State.setFlag_flag (s : State) (b : Blk) (o k : Nat) (v : Bool) (h : k < 32) :
    (s.setFlag b o k v).flag b o k = v := by
  unfold State.flag State.setFlag State.setField
  rw [State.setReg_reg, wbit_setFld _ _ _ _ h h, if_pos rfl]

theorem State.setFlag_keeps (s : State) (b c : Blk) (o p k j : Nat) (hk : k < 32) (hj : j < 32)
    (h : s.flag c p j = true) : (s.setFlag b o k true).flag c p j = true := by
  unfold State.flag State.setFlag State.setField at *
  by_cases e : c.base + p = b.base + o
  · have : (s.setReg b o (setFld (s.reg b o) k k (bit true))).reg c p = setFld (s.reg b o) k k (bit true) := by
      unfold State.reg; rw [e]; exact State.setReg_reg _ _ _ _
    rw [this, wbit_setFld _ _ _ _ hk hj]
    have e2 : s.reg c p = s.reg b o := by unfold State.reg; rw [e]
    rw [e2] at h
    split <;> simp_all
  · rw [State.setReg_reg_ne _ _ e]; exact h

theorem State.setReg_flag_off (s : State) {b c : Blk} {o p : Nat} (w : Word) (k : Nat) (ho : o < 4096) (hp : p < 4096)
    (h : p ≠ o) : (s.setReg b o w).flag c p k = s.flag c p k := by
  unfold State.flag; rw [State.setReg_reg_off s w ho hp h]

theorem State.setReg64_reg_off (s : State) {b c : Blk} {o k : Nat} (v : Nat) (ho : o + 4 < 4096) (hk : k < 4096)
    (h : k ≠ o) (h' : k ≠ o + 4) : (s.setReg64 b o v).reg c k = s.reg c k := by
  unfold State.setReg64
  rw [State.setReg_reg_off _ _ ho hk h', State.setReg_reg_off _ _ (by omega) hk h]

theorem State.setReg64_reg_page (s : State) {b c : Blk} {o k : Nat} (v : Nat) (ho : o + 4 < 4096) (hk : k < 4096)
    (h : c ≠ b) : (s.setReg64 b o v).reg c k = s.reg c k := by
  unfold State.setReg64
  rw [State.setReg_reg_page _ _ ho hk h, State.setReg_reg_page _ _ (by omega) hk h]

theorem State.countSat_reg_off (s : State) {b c : Blk} {o k : Nat} (n : Nat) (ho : o < 4096) (hk : k < 4096) (h : k ≠ o) :
    (s.countSat b o n).reg c k = s.reg c k := State.setReg_reg_off s _ ho hk h

theorem State.setFlag_reg_off (s : State) {b c : Blk} {o k : Nat} (j : Nat) (v : Bool) (ho : o < 4096) (hk : k < 4096)
    (h : k ≠ o) : (s.setFlag b o j v).reg c k = s.reg c k := State.setReg_reg_off s _ ho hk h

theorem State.irq_reg_off (s : State) (b : Blk) (k : Nat) {c : Blk} {o : Nat} (h : o < 4096) (h' : o ≠ 0x38) :
    (s.irq b k).reg c o = s.reg c o := by
  have : (s.irq b k).regs = (s.setFlag b 0x38 k true).regs := by
    unfold State.irq State.fireBit State.fire
    simp only []
    (repeat' split) <;> simp
  rw [State.reg_fold (s.setFlag b 0x38 k true) _ this, State.setFlag_reg_off _ _ _ (by decide) h h']

theorem State.settleAlert_reg_off (s t : State) {c : Blk} {o : Nat} (h : o < 4096) (h' : o ≠ 0x38) :
    (s.settleAlert t).reg c o = t.reg c o := by
  have e : ∀ d x, (State.ibi x d).reg c o = x.reg c o := by
    intro d x; exact State.reg_fold x _ (by simp) c o
  unfold State.settleAlert
  simp only []
  (repeat' split) <;> simp only [e, State.irq_reg_off _ _ _ h h']

theorem State.record_reg_off (s : State) (c : Cause) {b : Blk} {o : Nat} (h : o < 4096)
    (h' : o ∉ [0x10, 0x20, 0x24, 0x28, 0x2C, 0x30]) : (s.record c).reg b o = s.reg b o := by
  simp only [List.mem_cons, List.not_mem_nil, or_false, not_or] at h'
  unfold State.record
  simp only []
  split
  · rw [State.setReg_reg_off _ _ (by decide) h (by omega), State.setReg_reg_off _ _ (by decide) h (by omega),
      State.setReg64_reg_off _ _ (by decide) h (by omega) (by omega)]
    exact (State.reg_fold (s.countSat c.page 0x30 1) _ rfl b o).trans
      (State.countSat_reg_off _ _ (by decide) h (by omega))
  · rw [State.setFlag_reg_off _ _ _ (by decide) h (by omega), State.countSat_reg_off _ _ (by decide) h (by omega)]

theorem State.setCause_reg_off (s : State) (c : Cause) {b : Blk} {o : Nat} (h : o < 4096) (h' : o ≠ 0x10) :
    (s.setCause c).reg b o = s.reg b o := by
  unfold State.setCause
  exact (State.reg_fold (s.setFlag c.page 0x10 c.bit true) _ rfl b o).trans
    (State.setFlag_reg_off _ _ _ (by decide) h h')

theorem State.rasReport_reg_off (s : State) (c : Cause) (k : Nat) {b : Blk} {o : Nat} (h : o < 4096)
    (h' : b ≠ .ras ∨ o ∉ [0x80, 0x84, 0xA0, 0xA4]) : (s.rasReport c k).reg b o = s.reg b o := by
  simp only [List.mem_cons, List.not_mem_nil, or_false, not_or] at h'
  have e1 : ∀ (x : State) (p : Nat) (w : Word), p < 4096 → p ∈ [0x80, 0x84, 0xA0, 0xA4] →
      (x.setReg .ras p w).reg b o = x.reg b o := by
    intro x p w hp hm
    rcases h' with h' | h'
    · exact State.setReg_reg_page _ _ hp h h'
    · refine State.setReg_reg_off _ _ hp h ?_
      simp only [List.mem_cons, List.not_mem_nil, or_false] at hm
      omega
  have e2 : ∀ (x : State) (p v : Nat), p = 0xA0 → (x.setReg64 .ras p v).reg b o = x.reg b o := by
    intro x p v hp
    subst hp
    unfold State.setReg64
    rw [e1 _ _ _ (by decide) (by decide), e1 _ _ _ (by decide) (by decide)]
  unfold State.rasReport State.setFlag State.setField
  simp only []
  (repeat' split) <;>
    simp only [e2, e1 _ 0x80 _ (by decide) (by decide), e1 _ 0x84 _ (by decide) (by decide)]

theorem State.haltFor_regs (s : State) (c : Cause) (k d : Nat) {b : Blk} {o : Nat} :
    (s.haltFor c k d).reg b o = s.reg b o := State.reg_fold s _ (by simp) b o

/-- A cause writes only the records of its page and of RAS. -/
theorem State.raise_reg (s : State) (c : Cause) {b : Blk} {o : Nat} (h : o < 4096) (h' : 0x80 ≤ o)
    (hb : b ≠ .ras ∨ o ∉ [0x80, 0x84, 0xA0, 0xA4]) : (s.raise c).reg b o = s.reg b o := by
  unfold State.raise
  simp only []
  rw [State.settleAlert_reg_off _ _ h (by omega), State.haltFor_regs]
  have e : ((s.record c).setCause c).reg b o = s.reg b o := by
    rw [State.setCause_reg_off _ _ h (by omega), State.record_reg_off _ _ h (by simp; omega)]
  split
  · exact e
  · rw [State.rasReport_reg_off _ _ _ h hb, e]

theorem State.violation_reg (s : State) (p : Blk) (a : Nat) (r : Requester) {b : Blk} {o : Nat} (h : o < 4096) (h' : 0x80 ≤ o)
    (hb : b ≠ .ras) : (s.violation p a r).reg b o = s.reg b o := by
  unfold State.violation
  split
  · rfl
  · exact State.raise_reg _ _ h h' (.inl hb)

/-- The ERR_STAT bits that are set stay set under another cause. -/
theorem State.raise_flag_keeps (s : State) (c : Cause) (b : Blk) (k : Nat) (hk : k < 32) (hc : c.bit < 32)
    (h : s.flag b 0x10 k = true) : (s.raise c).flag b 0x10 k = true := by
  have e0 : (s.record c).flag b 0x10 k = true := by
    unfold State.record
    simp only []
    split
    · rw [State.setReg_flag_off _ _ _ (by decide) (by decide) (by decide),
        State.setReg_flag_off _ _ _ (by decide) (by decide) (by decide)]
      unfold State.flag
      rw [State.setReg64_reg_off _ _ (by decide) (by decide) (by decide) (by decide)]
      exact (congrArg (wbit · k) ((State.reg_fold (s.countSat c.page 0x30 1) _ rfl b 0x10).trans
        (State.countSat_reg_off _ _ (by decide) (by decide) (by decide)))).trans h
    · refine State.setFlag_keeps _ _ _ _ _ _ _ (by decide) hk ?_
      unfold State.flag
      rw [State.countSat_reg_off _ _ (by decide) (by decide) (by decide)]
      exact h
  have e1 : ((s.record c).setCause c).flag b 0x10 k = true := by
    unfold State.setCause
    unfold State.flag
    exact State.setFlag_keeps (s.record c) c.page b 0x10 0x10 c.bit k hc hk e0
  unfold State.raise
  simp only []
  unfold State.flag at *
  rw [State.settleAlert_reg_off _ _ (by decide) (by decide), State.haltFor_regs]
  split
  · exact e1
  · rw [State.rasReport_reg_off _ _ _ (by decide) (.inr (by decide))]
    exact e1

/-- The ERR_STAT bit of a raised cause is set. -/
theorem State.raise_flag (s : State) (c : Cause) (hc : c.bit < 32) : (s.raise c).flag c.page 0x10 c.bit = true := by
  have e1 : ((s.record c).setCause c).flag c.page 0x10 c.bit = true := by
    unfold State.setCause
    exact State.setFlag_flag (s.record c) c.page 0x10 c.bit true hc
  unfold State.raise
  simp only []
  unfold State.flag at *
  rw [State.settleAlert_reg_off _ _ (by decide) (by decide), State.haltFor_regs]
  split
  · exact e1
  · rw [State.rasReport_reg_off _ _ _ (by decide) (.inr (by decide))]
    exact e1

/-- A refused write leaves the registers of the pages from 0x080 on, but for those of RAS and HIF_DISCARD_CNT. -/
theorem State.writeFails_reg (s : State) (r : Requester) (p : Blk) (a : Nat) {b : Blk} {o : Nat} (h : o < 4096)
    (h' : 0x80 ≤ o) (hb : b ≠ .ras) (h9 : o ≠ 0x94) : (s.writeFails r p a).reg b o = s.reg b o := by
  unfold State.writeFails
  split
  · exact (State.countSat_reg_off _ _ (by decide) h h9).trans (State.violation_reg _ _ _ _ h h' hb)
  · exact State.violation_reg _ _ _ _ h h' hb
  · exact State.violation_reg _ _ _ _ h h' hb

/-- A refused write sets ACCESS_VIOLATION of its page. -/
theorem State.writeFails_flag (s : State) (r : Requester) (p : Blk) (a : Nat) (hr : r ≠ .i3c) :
    (s.writeFails r p a).flag p 0x10 0 = true := by
  have hv : (s.violation p a r).flag p 0x10 0 = true := by
    unfold State.violation
    rw [if_neg hr]
    exact State.raise_flag s { page := p, bit := 0, cls := 2, addr := a, kind := requesterKind r } (show 0 < 32 by decide)
  unfold State.writeFails State.flag at *
  split
  · simp only [State.countSat_reg_off _ _ (show 0x94 < 4096 by decide) (show 0x10 < 4096 by decide) (show 0x10 ≠ 0x94 by decide)]; exact hv
  · exact hv
  · exact hv

/-- A refused write keeps the ERR_STAT bits that are set. -/
theorem State.writeFails_flag_keeps (s : State) (r : Requester) (p b : Blk) (a k : Nat) (hk : k < 32)
    (h : s.flag b 0x10 k = true) : (s.writeFails r p a).flag b 0x10 k = true := by
  have hv : (s.violation p a r).flag b 0x10 k = true := by
    unfold State.violation
    split
    · exact h
    · exact State.raise_flag_keeps s _ b k hk (show 0 < 32 by decide) h
  unfold State.writeFails State.flag at *
  split
  · simp only [State.countSat_reg_off _ _ (show 0x94 < 4096 by decide) (show 0x10 < 4096 by decide) (show 0x10 ≠ 0x94 by decide)]; exact hv
  · exact hv
  · exact hv

end Sys2Proof.Machine
end

