-- ==== Sys2Proof/Laws/Time.lean ====
section
/-!
SUPPORT. The time counter moved on, and the number and time of the next tick (R87).
-/

namespace Sys2Proof.Machine

open Sys2Proof

theorem State.advance_now (s : State) (a : Nat) (h : a < 2 ^ 64) : (s.advance a).now = max s.now a := by
  have f := s.tim.frac.isLt
  unfold State.advance State.advanceFine State.fineNow
  split
  · change (BitVec.ofNat 64 (a * 65536 / 65536)).toNat = _
    rw [BitVec.toNat_ofNat, Nat.mul_div_cancel _ (by decide), Nat.mod_eq_of_lt (by omega)]; omega
  · omega

@[simp] theorem State.advance_fields (s : State) (a : Nat) :
    (s.advance a).regs = s.regs ∧ (s.advance a).cls = s.cls ∧ (s.advance a).job = s.job ∧ (s.advance a).cad = s.cad ∧
    (s.advance a).cores = s.cores ∧ (s.advance a).dies = s.dies ∧ (s.advance a).out = s.out ∧
    (s.advance a).ports = s.ports ∧ (s.advance a).hosts = s.hosts ∧ (s.advance a).geo = s.geo := by
  unfold State.advance State.advanceFine; split <;> simp

theorem State.advance_tim (s : State) (a : Nat) :
    (s.advance a).tim = { s.tim with
      now := (s.advance a).tim.now, frac := (s.advance a).tim.frac, elapsed := (s.advance a).tim.elapsed } := by
  unfold State.advance State.advanceFine; split <;> rfl

@[simp] theorem State.advance_tick (s : State) (a : Nat) : (s.advance a).tim.tick = s.tim.tick := by
  rw [State.advance_tim]

@[simp] theorem State.advance_inSlot (s : State) (a : Nat) : (s.advance a).inSlot = s.inSlot := by
  unfold State.advance State.advanceFine; split <;> rfl

/-- The periods depend on the registers alone. -/
theorem State.periods_regs {s t : State} (h : s.regs = t.regs) :
    s.startTime = t.startTime ∧ s.tickPeriod = t.tickPeriod ∧ s.commitWindow = t.commitWindow ∧
      s.skewLimit = t.skewLimit ∧ s.tickEn = t.tickEn ∧ s.timeSource = t.timeSource := by
  unfold State.startTime State.tickPeriod State.commitWindow State.skewLimit State.reg64 State.tickEn State.timeSource
    State.flag State.field
  simp [State.reg_fold t s h]

/-- Before the next tick, the counter moved on leaves its number. -/
theorem State.nextTick_advance (s : State) (a : Nat) (hp : 0 < s.tickPeriod) (h : a < s.nextTickAt)
    (h2 : s.nextTickAt < 2 ^ 64) : (s.advance a).nextTick = s.nextTick := by
  have e := State.periods_regs (State.advance_fields s a).1
  have n := State.advance_now s a (by omega)
  unfold State.nextTick
  rw [e.1, e.2.1, n]
  unfold State.nextTickAt State.nextTick at h
  generalize s.startTime = S at *
  generalize s.tickPeriod = P at *
  generalize s.now = N at *
  by_cases hm : a ≤ N
  · rw [Nat.max_eq_left hm]
  · rw [Nat.max_eq_right (by omega)]
    by_cases hN : N < S
    · rw [if_pos hN] at h ⊢
      rw [if_pos (by omega)]
    · rw [if_neg hN] at h ⊢
      rw [if_neg (by omega)]
      congr 1
      have e := Nat.div_add_mod (N - S) P
      have l := Nat.mod_lt (N - S) hp
      apply Nat.div_eq_of_lt_le
      · rw [Nat.mul_comm]; omega
      · have : ((N - S) / P + 1) * P = P * ((N-S)/P) + P := by rw [Nat.mul_comm, Nat.mul_add]; simp
        show a - S < ((N - S) / P + 1) * P
        rw [this] at h ⊢
        omega

theorem State.nextTickAt_advance (s : State) (a : Nat) (hp : 0 < s.tickPeriod) (h : a < s.nextTickAt)
    (h2 : s.nextTickAt < 2 ^ 64) : (s.advance a).nextTickAt = s.nextTickAt := by
  have e := State.periods_regs (State.advance_fields s a).1
  unfold State.nextTickAt at *
  rw [State.nextTick_advance s a hp h h2, e.1, e.2.1]

/-- The next tick is past now. -/
theorem State.now_lt_nextTickAt (s : State) (hp : 0 < s.tickPeriod) : s.now < s.nextTickAt := by
  unfold State.nextTickAt State.nextTick
  split
  · omega
  · have e := Nat.div_add_mod (s.now - s.startTime) s.tickPeriod
    have l := Nat.mod_lt (s.now - s.startTime) hp
    generalize s.tickPeriod = P at *
    have : ((s.now - s.startTime) / P + 1) * P = P * ((s.now-s.startTime)/P) + P := by
      rw [Nat.mul_comm, Nat.mul_add]; simp
    omega

theorem State.now_lt_nextSecond (s : State) : s.now < s.nextSecond := by unfold State.nextSecond; omega

end Sys2Proof.Machine
end

