-- ==== Sys2Proof/Laws/Job.lean ====
section
/-!
SUPPORT. The job state under the operations of memory, of the dispatch of a slot and of LOAD.
-/

namespace Sys2Proof.Machine

open Sys2Proof

@[simp] theorem State.each_jobSt {α : Type} (f : State → α → State) (h : ∀ s a, (f s a).job.st = s.job.st) (l : List α)
    (s : State) : (s.each l f).job.st = s.job.st := by
  unfold State.each
  induction l generalizing s with
  | nil => rfl
  | cons a l ih => exact (ih (f s a)).trans (h s a)

@[simp] theorem State.foldl_jobSt {α : Type} (f : State → α → State) (h : ∀ s a, (f s a).job.st = s.job.st) (l : List α)
    (s : State) : (l.foldl f s).job.st = s.job.st := State.each_jobSt f h l s

@[simp] theorem State.putBytes_jobSt (s : State) (a : Nat) (l : List Byte) : (s.putBytes a l).job.st = s.job.st := by
  induction l generalizing s a with
  | nil => rfl
  | cons v l ih => exact ih _ _

@[simp] theorem State.markPoisoned_jobSt (s : State) (a : Nat) : (s.markPoisoned a).job.st = s.job.st := by
  unfold State.markPoisoned State.setPoison; simp

@[simp] theorem State.findLost_jobSt (s : State) (a : Nat) : (s.findLost a).job.st = s.job.st := by
  unfold State.findLost; simp only []; split <;> simp

@[simp] theorem State.enter_jobSt (s : State) (src : Source) (a n : Nat) : (s.enter src a n).job.st = s.job.st := by
  rw [State.enter_arbs s src a n]

@[simp] theorem State.takeTurn_jobSt (s : State) (src : Source) (a n : Nat) : (s.takeTurn src a n).job.st = s.job.st := by
  rw [State.takeTurn_arbs s src a n]

@[simp] theorem State.findUpset_jobSt (s : State) (a : Nat) : (s.findUpset a).job.st = s.job.st := by
  unfold State.findUpset State.setUpset; dsimp only; (repeat' split) <;> simp

@[simp] theorem State.checkBlock_jobSt (s : State) (a : Nat) : (s.checkBlock a).job.st = s.job.st := by
  unfold State.checkBlock; simp

@[simp] theorem State.checkRead_jobSt (s : State) (a n : Nat) : (s.checkRead a n).job.st = s.job.st := by
  unfold State.checkRead; split <;> simp

@[simp] theorem State.writeBlock_jobSt (s : State) (b : Nat) (l : List (Nat × Byte)) (p : Bool) :
    (s.writeBlock b l p).job.st = s.job.st := by
  unfold State.writeBlock State.putByte State.setPoison State.setUpset; simp; (repeat' split) <;> simp

@[simp] theorem State.writeCells_jobSt (s : State) (n : Nat) (m : Store (Byte × Bool)) :
    (s.writeCells n m).job.st = s.job.st := by
  induction n generalizing s m with
  | zero => unfold State.writeCells; rfl
  | succ n ih =>
    unfold State.writeCells
    cases m with
    | nil => rfl
    | cons e m => simp [ih]

@[simp] theorem State.write_jobSt (s : State) (a : Nat) (l : List Byte) (p : Bool) : (s.write a l p).job.st = s.job.st := by
  unfold State.write; simp

@[simp] theorem State.writeP_jobSt (s : State) (a : Nat) (l : List (Byte × Bool)) : (s.writeP a l).job.st = s.job.st := by
  unfold State.writeP; simp

@[simp] theorem State.glbRecord_jobSt (s : State) (a k : Nat) : (s.glbRecord a k).job.st = s.job.st := by
  unfold State.glbRecord; simp

@[simp] theorem State.geoCause_jobSt (s : State) (b c h : Nat) : (s.geoCause b c h).job.st = s.job.st := by
  unfold State.geoCause; simp

@[simp] theorem State.areaWrite_jobSt (s : State) (n q : Nat) (l : List (Byte × Bool)) :
    (s.areaWrite n q l).job.st = s.job.st := by
  unfold State.areaWrite State.enterArea
  rw [State.each_jobSt _ (fun s e => by dsimp only; split <;> simp), State.each_jobSt _ (fun s e => by simp)]

@[simp] theorem State.zeroRecords_jobSt (s : State) (b : Nat) : (s.zeroRecords b).job.st = s.job.st := by
  unfold State.zeroRecords
  generalize List.replicate 512 ((0 : Byte), false) = l
  simp [State.setPoint]

@[simp] theorem State.tablePoison_jobSt (s : State) (a : Nat) : (s.tablePoison a).job.st = s.job.st := by
  unfold State.tablePoison State.poisonSeen; simp

@[simp] theorem State.startList_jobSt (s : State) (l : Nat) : (s.startList l).job.st = s.job.st := by
  unfold State.startList; (repeat' split) <;> simp

@[simp] theorem State.queueOrphan_jobSt (s : State) (l : Nat) : (s.queueOrphan l).job.st = s.job.st := by
  unfold State.queueOrphan
  split
  · rfl
  · split
    · rfl
    · unfold State.replanList; (repeat' split) <;> simp

@[simp] theorem State.snapStart_jobSt (s : State) (j : Nat) : (s.snapStart j).job.st = s.job.st := by
  unfold State.snapStart; simp only []; (repeat' split) <;> simp

@[simp] theorem State.hostFail_jobSt (s : State) (n : Nat) : (s.hostFail n).job.st = s.job.st := by
  simp [State.hostFail, State.modHostDrain]

@[simp] theorem State.hostBegin_jobSt (s : State) : s.hostBegin.job.st = s.job.st := by
  unfold State.hostBegin; dsimp only; (repeat' split) <;> simp [State.modHostDrain]

@[simp] theorem State.durableCommit_jobSt (s : State) : s.durableCommit.job.st = s.job.st := by
  unfold State.durableCommit; dsimp only; (repeat' split) <;> simp

@[simp] theorem State.durAbandon_jobSt (s : State) : s.durAbandon.job.st = s.job.st := by
  unfold State.durAbandon; dsimp only; split <;> simp [State.modHostDrain]

@[simp] theorem State.dispatchFail_jobSt (s : State) (a : Nat) : (s.dispatchFail a).job.st = s.job.st := by
  unfold State.dispatchFail; simp

/-- The dispatch of a slot leaves the job state. -/
@[simp] theorem State.dispatch_jobSt (s : State) (j : Nat) : (s.dispatch j).job.st = s.job.st := by
  unfold State.dispatch
  generalize List.range 192 = l
  dsimp only
  (repeat' split) <;> simp

end Sys2Proof.Machine
end

