-- ==== Sys2Proof/Laws/Memory.lean ====
section
/-!
SUPPORT. Memory: reads after writes of one byte, and that every operation on memory keeps its canonical form.
-/

namespace Sys2Proof.Machine

open Sys2Proof

/-- Memory at reset lists nothing (R456). -/
theorem State.reset_wf : Memory.wf State.reset.hbm = true := rfl

theorem State.putByte_wf {s : State} (off : Nat) (v : Byte) (h : Memory.wf s.hbm = true) :
    Memory.wf (s.putByte off v).hbm = true := Store.wf_set _ _ h

theorem State.putBytes_wf {s : State} (off : Nat) (l : List Byte) (h : Memory.wf s.hbm = true) :
    Memory.wf (s.putBytes off l).hbm = true := by
  induction l generalizing s off with
  | nil => exact h
  | cons v l ih => exact ih _ (State.putByte_wf off v h)

theorem State.each_wf {α : Type} {s : State} (l : List α) (f : State → α → State)
    (hf : ∀ s a, Memory.wf s.hbm = true → Memory.wf (f s a).hbm = true) (h : Memory.wf s.hbm = true) :
    Memory.wf (s.each l f).hbm = true := by
  induction l generalizing s with
  | nil => exact h
  | cons a l ih => exact ih (hf s a h)

/-- The first read of a block whose contents were lost keeps the canonical form. -/
theorem State.findLost_wf {s : State} (off : Nat) (h : Memory.wf s.hbm = true) :
    Memory.wf (s.findLost off).hbm = true := by
  unfold State.findLost
  generalize off / 64 * 64 = o
  generalize (64 : Nat) = n
  dsimp only
  split
  · generalize s.bytes o n = l
    rw [(State.markPoisoned_frame _ _).2.1]
    exact State.putBytes_wf _ _ h
  · exact h

theorem State.findUpset_wf {s : State} (off : Nat) (h : Memory.wf s.hbm = true) :
    Memory.wf (s.findUpset off).hbm = true := by
  have e : (s.findUpset off).hbm = s.hbm := by
    unfold State.findUpset State.setUpset
    dsimp only
    (repeat' split) <;> simp
  rw [e]; exact h

/-- The integrity check of a block keeps the canonical form. -/
theorem State.checkBlock_wf {s : State} (off : Nat) (h : Memory.wf s.hbm = true) :
    Memory.wf (s.checkBlock off).hbm = true := State.findUpset_wf off (State.findLost_wf off h)

theorem State.checkRead_wf {s : State} (off len : Nat) (h : Memory.wf s.hbm = true) :
    Memory.wf (s.checkRead off len).hbm = true := by
  unfold State.checkRead
  split
  · exact State.each_wf _ _ (fun s a k => State.checkBlock_wf a k) h
  · exact h

/-- A write within a block keeps the canonical form. -/
theorem State.writeBlock_wf {s : State} (blk : Nat) (l : List (Nat × Byte)) (p : Bool) (h : Memory.wf s.hbm = true) :
    Memory.wf (s.writeBlock blk l p).hbm = true := by
  unfold State.writeBlock
  simp only [State.setPoison_frame]
  refine State.each_wf l _ (fun s e k => State.putByte_wf _ _ k) ?_
  generalize e : (if decide (64 ≤ l.length) then s else s.checkBlock blk) = u
  have h1 : Memory.wf u.hbm = true := by
    subst e
    split
    · exact h
    · exact State.checkBlock_wf blk h
  generalize e2 : (if u.isLost (u.phys blk / 64) then
    { u with kept := Store.set (fun _ => false) u.kept (u.phys blk / 64) true } else u) = w
  have h2 : Memory.wf w.hbm = true := by
    subst e2
    split <;> exact h1
  split
  · exact h2
  · exact h2

theorem State.writeCells_wf {s : State} (n : Nat) (m : Store (Byte × Bool)) (h : Memory.wf s.hbm = true) :
    Memory.wf (s.writeCells n m).hbm = true := by
  induction n generalizing s m with
  | zero => unfold State.writeCells; exact h
  | succ n ih =>
    cases m with
    | nil => unfold State.writeCells; exact h
    | cons e m => unfold State.writeCells; exact ih _ (State.writeBlock_wf _ _ _ h)

/-- A write of consecutive bytes keeps the canonical form. -/
theorem State.write_wf {s : State} (off : Nat) (v : List Byte) (p : Bool) (h : Memory.wf s.hbm = true) :
    Memory.wf (s.write off v p).hbm = true := State.writeCells_wf _ _ h

theorem State.writeP_wf {s : State} (off : Nat) (v : List (Byte × Bool)) (h : Memory.wf s.hbm = true) :
    Memory.wf (s.writeP off v).hbm = true := State.writeCells_wf _ _ h

theorem State.fillStack_wf {s : State} (t : StackId) (h : Memory.wf s.hbm = true) :
    Memory.wf (s.fillStack t).hbm = true := Store.wf_keep _ h

theorem State.loseStack_wf {s : State} (t : StackId) (h : Memory.wf s.hbm = true) :
    Memory.wf (s.loseStack t).hbm = true := Store.wf_keep _ h

theorem State.zeroHbm_wf {s : State} (h : Memory.wf s.hbm = true) : Memory.wf s.zeroHbm.hbm = true :=
  State.each_wf _ _ (fun _ t k => State.fillStack_wf t k) h

/-- The byte stored is the byte read, where the contents of its block are not lost. -/
theorem State.putByte_byte (s : State) (off : Nat) (v : Byte) (h : s.isLost (s.phys off / 64) = false) :
    (s.putByte off v).byte off = v := by
  have e : (s.putByte off v).isLost (s.phys off / 64) = false := h
  unfold State.byte State.physByte
  have e2 : (s.putByte off v).phys off = s.phys off := rfl
  rw [e2, e]
  exact Store.get_set_same _ _ _ _

/-- A byte at another physical address stays. -/
theorem State.putByte_byte_ne (s : State) {a off : Nat} (v : Byte) (h : s.phys a ≠ s.phys off) :
    (s.putByte off v).byte a = s.byte a := by
  unfold State.byte State.physByte
  have e2 : (s.putByte off v).phys a = s.phys a := rfl
  have e3 : (s.putByte off v).isLost (s.phys a / 64) = s.isLost (s.phys a / 64) := rfl
  rw [e2, e3]
  split
  · rfl
  · exact Store.get_set_ne _ _ _ h

end Sys2Proof.Machine
end

