-- ==== Sys2Proof/WellFormed.lean ====
section
/-!
DEFINITION. Which commands are well formed: the operands that carry bytes, readings or lists have the
lengths the spec gives them. `exec` accepts every command; an ill-formed one spells nothing that the
outside can send.
-/

namespace Sys2Proof

/-- A register access of 1, 2, 4 or 8 bytes (R10, R564). -/
def RegAccess.wf (a : RegAccess) : Bool := a.size = 1 || a.size = 2 || a.size = 4 || a.size = 8

/-- Five rails (R431). -/
def PowerReadings.wf (t : PowerReadings) : Bool := t.railMv.length = 5 && t.railDa.length = 5

/-- 48 core and 4 stack temperatures (R431). -/
def DieTelemetry.wf (t : DieTelemetry) : Bool := t.coreTemps.length = 48 && t.stackTemps.length = 4

/-- A flow unit of 240 payload bytes at most (R278). -/
def Fu.wf (f : Fu) : Bool := f.payload.length ≤ 240

/-- A bridge unit of 64 bytes (R419). -/
def D2dUnit.wf (u : D2dUnit) : Bool := u.bytes.length = 64

/-- A descriptor of 32 bytes (R405). -/
def DmaInput.wf (j : DmaInput) : Bool := j.desc.length = 32

/-- Four dies, eight links (R9, R21). -/
def BoardStart.wf (b : BoardStart) : Bool := b.dies.length = 4 && b.links.length = 8

/-- An element of a 128 by 128 block of results (R114). -/
def Upset.wf (u : Upset) : Bool := u.row < 128 && u.col < 128

/-- A token's fields (R485). -/
def Token.wf (t : Token) : Bool :=
  t.deviceId.length = 16 && t.nonce.length = 32 && t.signerPk.length = 32 && t.newOwnerPk.length = 32

/-- A firmware image's fields (R473). -/
def FwImage.wf (i : FwImage) : Bool :=
  i.pk.length = 32 && i.romextSha.length = 32 && i.fwSha.length = 32

/-- A Shale image's fields (R459). -/
def ShaleImage.wf (i : ShaleImage) : Bool := i.digest.length = 32

/-- The well-formed commands. (DESIGN CHOICE: log entry 57) -/
def Instr.wf : Instr → Bool
  | .tick => true
  | .copyAgentDone .. => true
  | .commitWindowOpen => true
  | .commitDeadline => true
  | .disciplineLoop => true
  | .holdoverExpiry => true
  | .controlStep t => t.wf
  | .telemetry _ t => t.wf
  | .voltageAcknowledge .. => true
  | .ownershipCheck => true
  | .load .. => true
  | .loadDone => true
  | .arm .. => true
  | .jobStart => true
  | .pause .. => true
  | .pauseTakesEffect => true
  | .resume .. => true
  | .resumeTakesEffect => true
  | .halt .. => true
  | .jobHalt => true
  | .bcastCopyTimer .. => true
  | .clear .. => true
  | .clearDone => true
  | .claim .. => true
  | .release .. => true
  | .handover .. => true
  | .setTimeout .. => true
  | .heartbeat .. => true
  | .loReadCapture .. => true
  | .timNowLoWrite .. => true
  | .timNowHiWrite .. => true
  | .tickEn .. => true
  | .source .. => true
  | .registerWrite _ a _ => a.wf
  | .arrAbort .. => true
  | .fenceReq .. => true
  | .unfence .. => true
  | .unfenceDone .. => true
  | .softReset .. => true
  | .blkLock .. => true
  | .hostFetch .. => true
  | .fetchDone blocks => blocks.all (fun b => !b.bytes.isEmpty)
  | .hbmInterleaveWrite .. => true
  | .hbmRetrain .. => true
  | .fabRetrain .. => true
  | .linkDisable .. => true
  | .linkEnable .. => true
  | .d2dRetrain .. => true
  | .dieReset .. => true
  | .dieResetDone .. => true
  | .isolate .. => true
  | .requestRun .. => true
  | .requestIdle .. => true
  | .requestRetain .. => true
  | .requestOff .. => true
  | .powerStateReached dies => decide (dies.length = 4)
  | .warmReset .. => true
  | .warmResetDone dies => decide (dies.length = 4)
  | .sweep .. => true
  | .sweepAbort .. => true
  | .sweepGroup .. => true
  | .sweepDone => true
  | .hostDrain .. => true
  | .durableDrain .. => true
  | .durableCommit => true
  | .hostDrainAbort .. => true
  | .hostDone => true
  | .restore .. => true
  | .restoreDone => true
  | .geoStepLoWrite .. => true
  | .geoStepHiWrite .. => true
  | .dmaDb .. => true
  | .channelEnable .. => true
  | .channelDisable .. => true
  | .dmaCompletion _ job => job.wf
  | .bar2Read _ w len => decide (w.toNat + len ≤ 2 ^ 36)
  | .bar2Write _ w bytes _ => !bytes.isEmpty && decide (w.toNat + bytes.length ≤ 2 ^ 36)
  | .shaleUpdate .. => true
  | .shaleUpdateDone img _ => img.all ShaleImage.wf
  | .fwUpdate .. => true
  | .fwUpdateDone img _ => img.all FwImage.wf
  | .zeroize .. => true
  | .zeroisationDone => true
  | .relock .. => true
  | .telClear .. => true
  | .telCntSel .. => true
  | .traceEnable .. => true
  | .coreHalt .. => true
  | .coreRelease .. => true
  | .dbgMemRead .. => true
  | .dbgMemWrite .. => true
  | .i3cRead .. => true
  | .i3cWrite .. => true
  | .msgWrite .. => true
  | .msgSubmit => true
  | .msgRead .. => true
  | .msgState => true
  | .entdaa .. => true
  | .rstdaa => true
  | .getIdentity .. => true
  | .getReport _ nonce => decide (nonce.length = 32)
  | .extend _ _ digest => decide (digest.length = 32)
  | .getChallenge .. => true
  | .submitToken _ token _ => token.wf
  | .doeAbort .. => true
  | .nonceExpiry => true
  | .coldReset => true
  | .startUp b => b.wf
  | .lossOfMainPower => true
  | .exitFromOff b => b.wf
  | .vstbyDrop => true
  | .conventionalReset .. => true
  | .portLinkTraining .. => true
  | .flr .. => true
  | .pcieLinkDown .. => true
  | .forceThrottle => true
  | .forceThrottleRelease => true
  | .ppsEdge .. => true
  | .refclk10mLoss => true
  | .fabRefclkLoss => true
  | .pcieRefclkLoss .. => true
  | .thermalTrip => true
  | .lossOfSignal .. => true
  | .laneLockLoss .. => true
  | .peerRetrainPattern .. => true
  | .trainingAttempt .. => true
  | .trainingTimeout .. => true
  | .trainingRetry .. => true
  | .initTimer .. => true
  | .replayTimerExpiry .. => true
  | .retrainComplete .. => true
  | .relockTimeout .. => true
  | .replayParity .. => true
  | .crcFailedFu _ f _ => f.wf
  | .malformedFu _ f => f.wf
  | .idle _ f => f.wf
  | .replayMark _ f => f.wf
  | .init _ f => f.wf
  | .timeStamp _ f _ _ => f.wf
  | .timeStampTimer => true
  | .haltBcast _ f => f.wf
  | .hello _ f => f.wf
  | .helloTimer => true
  | .delayReport _ f => f.wf
  | .delayReportTimer .. => true
  | .ringState _ f => f.wf
  | .ringStateTimer => true
  | .ringStateExpiry .. => true
  | .geoHello _ f => f.wf
  | .geoHelloTimer => true
  | .geoHelloExpiry => true
  | .buddyDrainStart => true
  | .drainOpen _ f => f.wf
  | .drainGrant _ f => f.wf
  | .drainDone _ f => f.wf
  | .drainAbort _ f => f.wf
  | .drainGrantTimeout => true
  | .drainRetry => true
  | .readReq _ f => f.wf
  | .write _ f => f.wf
  | .addF32 _ f => f.wf
  | .addI32 _ f => f.wf
  | .reduce _ f => f.wf
  | .vgatherReq _ f => f.wf
  | .readResp _ f => f.wf
  | .writeAck _ f => f.wf
  | .error _ f => f.wf
  | .respTimeout .. => true
  | .colData _ f => f.wf
  | .ringBlock _ f => f.wf
  | .sync .. => true
  | .announce .. => true
  | .delayResp .. => true
  | .announceReceiptTimeout => true
  | .d2dCtrl _ u => u.wf
  | .d2dReplayMark _ u => u.wf
  | .d2dIdle _ u => u.wf
  | .hdr _ u => u.wf
  | .data _ u => u.wf
  | .dataPoisoned _ u => u.wf
  | .width _ u => u.wf
  | .widthTimer .. => true
  | .handshakeTimeout .. => true
  | .d2dTraining .. => true
  | .d2dReplayTimerExpiry .. => true
  | .d2dRelockTimeout .. => true
  | .d2dRetry .. => true
  | .forwardedClockLoss .. => true
  | .sidebandParity .. => true
  | .stackTrainFail .. => true
  | .regulatorFault .. => true
  | .spFault => true
  | .metaPoison => true
  | .hbmRead _ off n _ _ _ => decide (1 ≤ n.toNat ∧ off.toNat % 1024 + n.toNat ≤ 1024)
  | .hbmWrite _ off bytes _ _ _ => !bytes.isEmpty && decide (off.toNat % 1024 + bytes.length ≤ 1024)
  | .fatalCoreError .. => true
  | .repairPiece .. => true
  | .resbufParity .. => true
  | .verdict .. => true
  | .rerunS _ upsets _ => upsets.all Upset.wf
  | .rerunX _ upsets _ => upsets.all Upset.wf
  | .resolutionOutcome .. => true
  | .descComplete .. => true
  | .endOp .. => true
  | .nop .. => true
  | .fence .. => true
  | .kat .. => true
  | .mma _ upsets _ => upsets.all Upset.wf
  | .copy .. => true
  | .add .. => true
  | .sub .. => true
  | .mul .. => true
  | .fma .. => true
  | .min .. => true
  | .max .. => true
  | .abs .. => true
  | .neg .. => true
  | .select .. => true
  | .cmp .. => true
  | .exp2 .. => true
  | .log2 .. => true
  | .recip .. => true
  | .rsqrt .. => true
  | .iadd .. => true
  | .isub .. => true
  | .imul .. => true
  | .imin .. => true
  | .imax .. => true
  | .iand .. => true
  | .ior .. => true
  | .ixor .. => true
  | .ishift .. => true
  | .perm .. => true
  | .shuffle .. => true
  | .pack .. => true
  | .unpack .. => true
  | .classOp .. => true
  | .count .. => true
  | .redSum .. => true
  | .redMax .. => true
  | .redMin .. => true
  | .redSumsq .. => true
  | .tred .. => true
  | .smxUpdate .. => true
  | .smxFinal .. => true
  | .rowstats .. => true
  | .normFin .. => true
  | .normApply .. => true
  | .naccStore .. => true
  | .clipScale .. => true
  | .dmaCopy .. => true
  | .dmaFill .. => true
  | .ctxStart .. => true
  | .ctxEnd .. => true
  | .qcheck .. => true
  | .qcopy .. => true
  | .vcapture .. => true
  | .vgather .. => true
  | .vopen .. => true
  | .vpublish .. => true
  | .rread .. => true
  | .rwrite .. => true
  | .radd .. => true
  | .reduceWrite .. => true
  | .reduceScatter .. => true
  | .allGather .. => true
  | .allReduce .. => true
  | .ringStart .. => true
  | .ringWait .. => true
  | .registerRead _ a => a.wf
  | .followUp .. => true
  | .delayReqTimer .. => true
  | .wholeSecond => true
  | .refclk10mReturn => true
  | .laneParityError .. => true
  | .unitCrcFail _ u => u.wf
  | .flrComplete .. => true
  | .hbmRetrainDone .. => true
  | .responseReady .. => true
  | .d3hot .. => true
  | .tapInstruction .. => true
  | .enec => true
  | .disec => true

end Sys2Proof
end

