-- ==== Sys2Proof/Tests/Slice0.lean ====
section
/-!
SUPPORT. Tests of single commands, and the witnesses of the statements' hypotheses: each theorem `wit_…` shows a state
and operands that meet the hypotheses of one clause of the statement that it names, each theorem `test_…` what one command
leaves of a small state, worked out by hand from the rules that the statements cite.
-/

namespace Sys2Proof.Tests

set_option Elab.async false

open Sys2Proof Sys2Proof.Machine

/-! ### States that the witnesses start from -/

/-- A port of a living host. -/
def hostUp : HostPort := { up := true, ready := true, beat := true, flit := true, width := 16, speed := 6 }

/-- A device in RUN with everything in service, owned by host 0. -/
def base : State :=
  { pwr := { st := .run, target := .run, phase := 6, ready := true, powered := true }
    hosts := [(0, hostUp), (1, hostUp)]
    owner := { host := some .h0 }
    dies := (List.range 4).map (fun k => (k, { up := true, dieId := k, ringAt := true }))
    stackTab := (List.range 16).map (fun k => (k, { trained := true }))
    ports := (List.range 8).map (fun k => (k, { st := .up }))
    links := (List.range 8).map (fun k => (k, { st := .up, width := .full, sideband := true }))
    sec := { lifecycle := 2, booted := true, identity := true, meas := List.replicate 8 (List.replicate 32 0) } }

/-- The requester of host 0. -/
abbrev r0 : Requester := .mmio .h0

theorem reaches_of {s : State} {h : HostId} {b : Blk} (x : (s.answers b && s.portTakes h) = true) :
    s.reaches (.mmio h) b := by
  simpa [State.reaches, and_comm] using x

theorem sees_of {s : State} {h : HostId} {b : Blk} (x : (s.answers b && s.portTakes h) = true) :
    s.sees (.mmio h) b := by
  simpa [State.sees, and_comm] using x

/-- The fields of `State.Fetches` as one check. -/
def fetchesB (s : State) (c : CoreId) (r : Run) (d : Desc) : Bool :=
  decide (s.active? c = some r) && decide (d = { raw := s.mem (s.descAddr r.at) 64, pos := r.pos, off := r.at }) &&
  decide ((s.sect 4).1 ≤ s.descAddr r.at ∧ s.descAddr r.at + 64 ≤ (s.sect 4).1 + (s.sect 4).2) &&
  s.servedTo c (s.descAddr r.at) && !s.anyLost && !s.poisoned (s.descAddr r.at) &&
  d.tensors.all (fun i => !s.tensorOk i || !s.poisoned (s.tensorOff i))

/-- The fields of `State.Takes` as one check. -/
def takesB (s : State) (c : CoreId) (op : Nat) (r : Run) (d : Desc) : Bool :=
  fetchesB s c r d && decide (d.seq = r.pos) && decide (d.op = op) && (s.core c).waitsMet d &&
  !(s.core c).queueFull (unitOf op)

theorem fetches_of {s : State} {c : CoreId} {r : Run} {d : Desc} (h : fetchesB s c r d = true) :
    s.Fetches c r d := by
  simp only [fetchesB, Bool.and_eq_true, decide_eq_true_eq, Bool.not_eq_true', List.all_eq_true, Bool.or_eq_true] at h
  obtain ⟨⟨⟨⟨⟨⟨h1, h2⟩, h3⟩, h4⟩, h5⟩, h6⟩, h7⟩ := h
  exact ⟨h1, h2, h3, h4, h5, h6, fun i hi ht => (h7 i hi).resolve_left (by simp [ht])⟩

theorem takes_of {s : State} {c : CoreId} {op : Nat} {r : Run} {d : Desc} (h : takesB s c op r d = true) :
    s.Takes c op r d := by
  simp only [takesB, Bool.and_eq_true, decide_eq_true_eq, Bool.not_eq_true'] at h
  obtain ⟨⟨⟨⟨h1, h2⟩, h3⟩, h4⟩, h5⟩ := h
  exact ⟨fetches_of h1, h2, h3, h4, h5⟩

/-- Whether something came out without a stop. -/
def isOk {α : Type} (r : Run? α) : Bool :=
  match r with
  | .ok _ => true
  | .error _ => false

theorem ok_of {α : Type} {r : Run? α} (h : isOk r = true) : ∃ x, r = .ok x := by
  cases r with
  | ok x => exact ⟨x, rfl⟩
  | error => cases h

theorem ok_unit {r : Run? Unit} (h : isOk r = true) : r = .ok () := by
  obtain ⟨x, hx⟩ := ok_of h
  exact hx

theorem not_ok {r : Run? Unit} (h : isOk r = false) : r ≠ .ok () := by
  rintro rfl
  cases h

/-- Whether something came out without a stop and meets a condition. -/
def okWith {α : Type} (r : Run? α) (p : α → Bool) : Bool :=
  match r with
  | .ok x => p x
  | .error _ => false

theorem okWith_of {α : Type} {r : Run? α} {p : α → Bool} (h : okWith r p = true) : ∃ x, r = .ok x ∧ p x = true := by
  cases r with
  | ok x => exact ⟨x, rfl, h⟩
  | error => cases h

theorem stop_of {α : Type} {r : Run? α} (h : isOk r = false) : ∃ e, r = .error e := by
  cases r with
  | ok x => cases h
  | error e => exact ⟨e, rfl⟩

/-- A flow unit with the CRC of its bytes. -/
def sealed (f : Fu) : Fu := { f with crc := crc32c (fuBytes f) }

theorem sealed_ok (f : Fu) : fuCrcOk (sealed f) = true := by
  simp only [fuCrcOk, beq_iff_eq]
  rfl

/-- A port that has noted whether a flow unit carries traffic. -/
def noted (s : State) (p : PortId) (f : Fu) : State :=
  s.modPort p (fun q => { q with traffic := q.traffic || decide (f.type.toNat ≠ 0 ∧ f.type.toNat ≠ 3) })

/-- The state after a sequenced flow unit has come through the receiver of a port that is up. -/
def after (s : State) (p : PortId) (f : Fu) : State :=
  (((noted s p f).takeTrailer p f).2.takeSequenced p f).2.flush p

/-- The state after a link-control flow unit that is not sequenced. -/
def afterCtl (s : State) (p : PortId) (f : Fu) : State := ((noted s p f).takeTrailer p f).2.flush p

theorem takeSequenced_some {s : State} {p : PortId} {f : Fu} (h : (s.takeSequenced p f).1.isSome = true) :
    (s.takeSequenced p f).1 = some f := by
  revert h
  unfold State.takeSequenced
  dsimp only
  split <;> try split <;> try split <;> try split <;> try split <;> try split
  all_goals simp

/-- What the receiver of a port that is up asks of a flow unit whose CRC is right. -/
def taken (s : State) (p : PortId) (f : Fu) : Bool :=
  decide ((s.port p).st = .up) && ((noted s p f).takeTrailer p f).1 && !fuMalformed f && f.type.toNat != 1

theorem arrive_up {s : State} {p : PortId} {f : Fu} (h : (s.port p).st = .up) (hc : fuCrcOk f = true) :
    s.arrive p f false = ((((noted s p f).takeTrailer p f).2.received p f).1,
      (if ((noted s p f).takeTrailer p f).1 then (((noted s p f).takeTrailer p f).2.received p f).2
        else (((noted s p f).takeTrailer p f).2.received p f).2.protocolError p false).flush p) := by
  unfold State.arrive
  dsimp only
  rw [if_neg (by simp [h]), if_neg (by simp [hc]), if_neg (by simp [Port.takes, h])]
  rfl

theorem arrives_of {s : State} {p : PortId} {f : Fu} (h : (taken s p (sealed f) && sequenced (sealed f) &&
    (((noted s p (sealed f)).takeTrailer p (sealed f)).2.takeSequenced p (sealed f)).1.isSome) = true) :
    s.arrive p (sealed f) false = (some (sealed f), after s p (sealed f)) := by
  simp only [taken, Bool.and_eq_true, decide_eq_true_eq, Bool.not_eq_true', bne_iff_ne, ne_eq] at h
  obtain ⟨⟨⟨⟨⟨h1, h2⟩, h3⟩, h4⟩, h5⟩, h6⟩ := h
  have h7 := takeSequenced_some h6
  rw [arrive_up h1 (sealed_ok f), if_pos h2]
  simp [State.received, h3, h4, h5, h7, after]

theorem arrivesCtl_of {s : State} {p : PortId} {f : Fu} (h : (taken s p (sealed f) && !sequenced (sealed f)) = true) :
    s.arrive p (sealed f) false = (some (sealed f), afterCtl s p (sealed f)) := by
  simp only [taken, Bool.and_eq_true, decide_eq_true_eq, Bool.not_eq_true', bne_iff_ne, ne_eq] at h
  obtain ⟨⟨⟨⟨h1, h2⟩, h3⟩, h4⟩, h5⟩ := h
  rw [arrive_up h1 (sealed_ok f), if_pos h2]
  simp [State.received, h3, h4, h5, afterCtl]

/-- A number evaluated before it is used. -/
def force {α : Type} (n : Nat) (f : Nat → α) : α :=
  match n with
  | 0 => f 0
  | m + 1 => f (m + 1)

theorem force_eq {α : Type} (n : Nat) (f : Nat → α) : force n f = f n := by
  cases n <;> rfl

/-- The CRC register after some bytes, each step evaluated at once. -/
def crcRun : List Byte → Nat → Nat
  | [], c => c
  | b :: l, c => force (crcByte (BitVec.ofNat 32 c) b).toNat (crcRun l)

theorem crcRun_eq (l : List Byte) (c : Word) : crcRun l c.toNat = (l.foldl crcByte c).toNat := by
  induction l generalizing c with
  | nil => rfl
  | cons b l ih => simp only [crcRun, force_eq, BitVec.ofNat_toNat, BitVec.setWidth_eq, List.foldl_cons, ih]

/-- The CRC-32C of some bytes. -/
def crcNat (l : List Byte) : Nat := crcRun l 0xFFFFFFFF ^^^ 0xFFFFFFFF

theorem crcNat_eq (l : List Byte) : (crc32c l).toNat = crcNat l := by
  rw [crc32c, BitVec.toNat_xor, ← crcRun_eq]
  rfl

theorem mkUnit_ok {k : Byte} {l : List Byte} (h : (decide (unitBytes (mkUnit k l) = l ++ List.replicate (64 - l.length) 0) &&
    [0, 1, 2, 3, 0x10, 0x11, 0x12].contains k.toNat) = true) : unitOk (mkUnit k l) = true := by
  simp only [Bool.and_eq_true, decide_eq_true_eq] at h
  have hk : (mkUnit k l).kind = k := rfl
  have hc : (mkUnit k l).crc = crc32c (k :: (l ++ List.replicate (64 - l.length) 0)) := rfl
  rw [unitOk, h.1, hk, hc, h.2, Bool.and_true, beq_self_eq_true]

/-- Whether a command answers a next state of which a check holds. -/
def nextIs (o : Host.Outcome State Fault Refusal) (p : State → Bool) : Bool :=
  match o with
  | .next t => p t
  | _ => false

/-- Bytes written to local memory. -/
def put (s : State) (off : Nat) (l : List Nat) : State := s.write off (l.map (BitVec.ofNat 8)) false

/-- A word as its four bytes, the lowest first. -/
def le4 (n : Nat) : List Nat := [n % 256, n / 256 % 256, n / 65536 % 256, n / 16777216]

/-- Ticks on, with the time free; the periods are those of reset. -/
def ticks : State := base.setReg .tim 0x80 0xFF1D

theorem wit_lawful : base.Lawful ∧ ∃ t, step { base with pending := [.rstdaa] } = .next t :=
  ⟨⟨by decide, by decide, by decide, by decide, by decide, by decide⟩, _, rfl⟩

theorem wit_canonical : Memory.wf (put base 0 [1, 2]).hbm = true ∧ (put base 0 [1, 2]).hbm.length = 2 := by decide +kernel

theorem wit_idle : base.pending = [] := by decide +kernel

theorem wit_reset : (Blk.glb.row? 0x80).map (·.reset) = some 0x9216 := by decide +kernel

theorem test_reset :
    nextIs (exec (.tick) base)
      (fun t => decide (t.job.st = .empty)) = true := by
  decide +kernel

theorem wit_lifecycle : Instr.relock r0 ≠ .zeroisationDone := by decide +kernel

/-- A job in a state, with ticks on. -/
def jobIn (st : JobState) : State := { ticks with job := { st := st } }

theorem wit_tickArgument_first : (jobIn .running).tickArgument none :=
  ⟨by decide +kernel, .inl ⟨by decide +kernel, rfl⟩⟩

theorem wit_tickArgument_named : ((jobIn .armed).setReg .glb 0xD0 2).tickArgument (some 2) :=
  ⟨by decide +kernel, .inr ⟨by decide +kernel, by decide +kernel, by decide +kernel⟩⟩

theorem wit_pause_waits :
    (jobIn .running).reaches r0 .glb ∧
    (jobIn .running).isOwner r0 = true ∧
    (jobIn .running).job.st = .running ∧
    (jobIn .running).job.pend = none :=
  ⟨reaches_of (by decide +kernel), by decide +kernel⟩

theorem wit_resume_waits :
    (jobIn .paused).reaches r0 .glb ∧
    (jobIn .paused).job.st = .paused ∧
    (jobIn .paused).job.pend = none ∧
    (jobIn .paused).pwr.st = .run :=
  ⟨reaches_of (by decide +kernel), by decide +kernel⟩

theorem test_resume_waits :
    nextIs (exec (.resume r0) (jobIn .paused))
      (fun t => decide (t = (jobIn .paused).withCommand .resume none 4)) = true := by
  decide +kernel

theorem wit_halt_waits :
    ((jobIn .armed).setReg .glb 0xD0 2).reaches r0 .glb ∧
    ((jobIn .armed).setReg .glb 0xD0 2).job.st = .armed ∧
    ((jobIn .armed).setReg .glb 0xD0 2).job.pend = none :=
  ⟨reaches_of (by decide +kernel), by decide +kernel⟩

/-- A loaded job that may be armed: locked, its header's periods those of the device. -/
def armable : State :=
  put { (jobIn .loaded).setReg .glb 0xD0 2 with tim := { lock := .locked } } 0x20 (le4 1000000 ++ le4 10000)

theorem wit_tickArgument_arm : armable.tickArgument (some armable.tickArg) :=
  ⟨by decide +kernel, .inr ⟨by decide +kernel, by decide +kernel, rfl⟩⟩

theorem wit_arm_waits :
    armable.reaches r0 .glb ∧
    armable.isOwner r0 = true ∧
    armable.pwr.st = .run ∧
    armable.job.st = .loaded ∧
    armable.job.halts = [] ∧
    armable.tim.lock = .locked ∧
    armable.periodsMatch = true ∧
    armable.husks ≤ armable.field .cad 0x90 3 0 ∧
    armable.ver.fetch.busy = false ∧
    (∀ p, armable.isAbsent p = false) :=
  ⟨reaches_of (by decide +kernel), by decide +kernel⟩

theorem wit_pause_rejected :
    (jobIn .paused).reaches r0 .glb ∧
    (jobIn .paused).isOwner r0 = true ∧
    (jobIn .paused).job.st ≠ .running :=
  ⟨reaches_of (by decide +kernel), by decide +kernel⟩

theorem test_pause_rejected :
    nextIs (exec (.pause r0) (jobIn .paused))
      (fun t => decide (t.job.st = .paused ∧ t.job.pend = none ∧ t.flag .glb 0x10 0 = true ∧ t.flag .glb 0x10 8 = true ∧ t.reg .glb 0xA4 = base.reg .glb 0xA4)) = true := by
  decide +kernel

theorem wit_resume_rejected : (jobIn .running).job.st ≠ .paused := by decide +kernel

theorem wit_arm_rejected : (jobIn .running).job.st ≠ .loaded := by decide +kernel

theorem wit_load_rejected :
    (jobIn .running).job.st ≠ .empty ∧
    (jobIn .running).job.st ≠ .loadFailed :=
  by decide +kernel

theorem wit_job_late :
    ((jobIn .running).setReg .glb 0xD0 1).isOwner r0 = true ∧
    ((jobIn .running).setReg .glb 0xD0 1).tickArg = 1 ∧
    ((jobIn .running).setReg .glb 0xD0 1).tickArg < ((jobIn .running).setReg .glb 0xD0 1).tick + 2 :=
  by decide +kernel

theorem wit_job_other :
    base.reaches (.mmio .h1) .glb ∧
    base.isOwner (.mmio .h1) = false :=
  ⟨reaches_of (by decide +kernel), by decide +kernel⟩

theorem wit_slotLimits : ticks.slotLimits := by
  unfold State.slotLimits
  decide +kernel

theorem wit_tick : ticks.ticking = true ∧ ticks.nextTickAt < 2 ^ 64 ∧ ticks.inSlot = false := by decide +kernel

theorem wit_tick_before_start :
    0 < (ticks.setReg .tim 0xA0 5).tickPeriod ∧
    (ticks.setReg .tim 0xA0 5).now < (ticks.setReg .tim 0xA0 5).startTime :=
  by decide +kernel

theorem wit_tick_at_start : 0 < ticks.tickPeriod ∧ ticks.startTime ≤ ticks.now := by decide +kernel

/-- Under PTP, with an offset from the transmitter in ns that counts as a reference. -/
def ptpAt (o : Option Int) (lock : LockState) (good noRef bad heldMs : Nat) : State :=
  { base.setReg .tim 0x80 2 with tim := {
      lock := lock, good := good, noRef := noRef, bad := bad, heldMs := heldMs
      ptp := { announce := true, syncOk := true, offset := o } } }

theorem wit_loop_free : base.pwr.powered = true ∧ (base.setReg .tim 0x80 0).timeSource = 0 := by decide +kernel

theorem test_loop_free :
    nextIs (exec .disciplineLoop (base.setReg .tim 0x80 0))
      (fun t => decide (t.tim.lock = .free)) = true := by
  decide +kernel

theorem wit_loop_acquires :
    (ptpAt (some 1) .free 0 0 0 0).timeSource ≠ 0 ∧
    meanOffset (ptpAt (some 1) .free 0 0 0 0).references.1 = some 1 ∧
    (ptpAt (some 1) .free 0 0 0 0).tim.lock = .free :=
  by decide +kernel

theorem wit_loop_locks :
    meanOffset (ptpAt (some (-50)) .acquiring 15 0 0 0).references.1 = some (-50) ∧
    2 * (-50 : Int).natAbs ≤ (ptpAt (some (-50)) .acquiring 15 0 0 0).skewLimit :=
  by decide +kernel

theorem wit_loop_holds :
    meanOffset (ptpAt none .locked 0 3 0 0).references.1 = none ∧
    (ptpAt none .locked 0 3 0 0).tim.noRef = 3 :=
  by decide +kernel

theorem wit_loop_loses :
    meanOffset (ptpAt (some 101) .locked 0 0 3 0).references.1 = some 101 ∧
    (ptpAt (some 101) .locked 0 0 3 0).skewLimit < (101 : Int).natAbs :=
  by decide +kernel

theorem wit_loop_relocks : meanOffset (ptpAt (some 50) .holdover 0 0 0 0).references.1 = some 50 := by decide +kernel

theorem wit_loop_stays :
    meanOffset (ptpAt (some 51) .holdover 0 0 0 0).references.1 = some 51 ∧
    (ptpAt (some 51) .holdover 0 0 0 0).skewLimit < 2 * (51 : Int).natAbs :=
  by decide +kernel

theorem wit_loop_returns_too_far :
    meanOffset (ptpAt (some (-101)) .holdover 0 0 0 0).references.1 = some (-101) :=
  by decide +kernel

/-- The offset of a reference that is far from the time. -/
def farOff : State := ptpAt (some 2000) .acquiring 0 0 0 0

theorem wit_loop_steps :
    meanOffset farOff.references.1 = some 2000 ∧
    farOff.tim.lock = .acquiring ∧
    1000 < (2000 : Int).natAbs ∧
    farOff.timeSource ≠ 3 ∧
    farOff.job.st.active = false :=
  by decide +kernel

theorem wit_loop_slews :
    meanOffset (ptpAt (some (-10)) .locked 0 0 0 0).references.1 = some (-10) ∧
    (ptpAt (some (-10)) .locked 0 0 0 0).tim.lock ≠ .acquiring :=
  by decide +kernel

theorem test_loop_slews :
    nextIs (exec .disciplineLoop (ptpAt (some (-10)) .locked 0 0 0 0))
      (fun t => decide (t.tim.rate = 90 ∧ t.tim.corr = -10 ∧ t.tim.now = 1000000)) = true := by
  decide +kernel

theorem wit_loop_unpowered :
    State.reset.pwr.powered = false ∧
    State.reset.tim.refclk = true ∧
    { State.reset with tim := { State.reset.tim with refclk := false } }.tim.refclk = false :=
  by decide +kernel

theorem wit_loop_ends_its_millisecond :
    (ptpAt none .locked 0 0 0 0).tickEn = false ∧
    (ptpAt none .locked 0 0 0 0).fineNow + 2 ^ 40 < 2 ^ 80 ∧
    (ptpAt none .locked 0 0 0 0).tim.rate ≤ 640 :=
  by decide +kernel

theorem wit_holdover_ends :
    (ptpAt none .holdover 0 0 0 100).tim.lock = .holdover ∧
    ((ptpAt none .holdover 0 0 0 100).reg .tim 0xC0).toNat ≤ 100 :=
  by decide +kernel

theorem wit_loop_frame : (Blk.pwr ≠ .ras) ∧ (0x80 ≤ 0x88 ∧ 0x88 < 4096) := by decide +kernel

/-- Under 1PPS. -/
def ppsOn (at? : Option (BitVec 64)) : State := { base.setReg .tim 0x80 7 with tim := { ppsAt := at? } }

theorem wit_pps_taken :
    (ppsOn (some 0)).timeSource = 3 ∧
    (ppsOn (some 0)).pwr.powered = true ∧
    (¬((0 : BitVec 64) ≤ 500000000 ∧
    ((500000000 : BitVec 64) - 0).toNat < 500000000)) :=
  by decide +kernel

theorem wit_pps_ignored :
    (ppsOn (some 0)).tim.ppsAt = some 0 ∧
    ((499999999 : BitVec 64) - 0).toNat < 500000000 :=
  by decide +kernel

theorem test_pps_ignored :
    nextIs (exec (.ppsEdge 499999999) (ppsOn (some 0)))
      (fun t => decide (t = (ppsOn (some 0)))) = true := by
  decide +kernel

theorem wit_refclk_unpowered : { base with pwr := {} }.pwr.powered = false := by decide +kernel

/-- One nanosecond before a whole second, with a tick one nanosecond after it. -/
def second : State := { ticks with tim := { now := 999999999 } }.setReg .tim 0xA0 1000000001

theorem wit_whole_second :
    second.tickEn = true ∧
    second.nextSecond < second.nextTickAt ∧
    second.now % 1000000000 ≠ 0 :=
  by decide +kernel

/-- A PTP message of domain 24. -/
def msg (two : Bool) : PtpMsg := { domain := 24, seqId := 3, twoStep := two, stamp := 10, rx := 30 }

/-- Under PTP of domain 24, in the middle of an exchange. -/
def ptpMid : State :=
  { base.setReg .tim 0x80 0x12 with tim := { ptp := {
      announce := true, syncOk := true, sync := some (3, 30), msDiff := some 20, reqAt := some 4, reqSeq := 3 } } }

theorem wit_ptp_domain :
    (msg true).domain.toNat = (if ptpMid.flag .tim 0x80 4 then 24 else 0) ∧
    (msg true).twoStep = true ∧
    (msg false).twoStep = false ∧
    ptpMid.tim.ptp.sync = some ((msg true).seqId, 30) ∧
    ptpMid.tim.ptp.reqAt = some 4 ∧
    ptpMid.tim.ptp.msDiff = some 20 ∧
    (msg true).seqId = ptpMid.tim.ptp.reqSeq ∧
    ptpMid.tim.ptp.ok = true ∧
    ptpMid.tim.fabclk = true :=
  by decide +kernel

theorem wit_ptp_other_domain :
    (msg true).domain.toNat ≠ (if (base.setReg .tim 0x80 0x2).flag .tim 0x80 4 then 24 else 0) :=
  by decide +kernel

theorem test_ptp_other_domain :
    nextIs (exec (.sync (msg false)) (base.setReg .tim 0x80 0x2))
      (fun t => decide (t = base.setReg .tim 0x80 0x2)) = true := by
  decide +kernel

theorem wit_read_plain :
    base.sees r0 .glb ∧
    0x80 < 4096 ∧
    0x80 % 4 = 0 ∧
    (Blk.glb.row? 0x80).isSome = true ∧
    Blk.glb ≠ .dbg ∧
    base.capture? r0 (Blk.glb.base + 0x80) = none :=
  ⟨sees_of (by decide +kernel), by decide +kernel⟩

theorem wit_read_captured :
    { base with caps := [(r0, 0x208C, 7)] }.capture? r0 (Blk.tim.base + 0x8C) = some 7 ∧
    (Blk.tim.row? 0x8C).isSome = true :=
  by decide +kernel

theorem wit_lo_read :
    Blk.tim.isLo 0x88 = true ∧
    base.capture? r0 (Blk.tim.base + 0x88) = none ∧
    { base with caps := [(.jtag, 0x2084, 7)] }.capture? .jtag 0x2084 = some 7 :=
  by decide +kernel

theorem wit_no_page :
    base.portTakes .h0 = true ∧
    2 ^ 26 - 4 < 2 ^ 26 ∧
    (2 ^ 26 - 4) % 4 = 0 ∧
    Blk.ofOff (2 ^ 26 - 4) = none :=
  by decide +kernel

theorem test_no_page :
    nextIs (exec (.registerRead r0 { bar := .bar0, off := 0x3FFFFFC, size := 4 }) base)
      (fun t => decide (t.out.head? = some (.completerAbort r0) ∧ t.flag .glb 0x10 0 = true ∧ (t.hostPort .h0).cfg.corr = 0x2000 ∧ (t.hostPort .h0).cfg.uncorr = 0x8000)) = true := by
  decide +kernel

theorem wit_no_register :
    Blk.ofOff 0x2FFC = some .tim ∧
    base.answers .tim = true ∧
    Blk.tim.row? (0x2FFC % 4096) = none :=
  by decide +kernel

theorem wit_pair :
    base.reaches r0 .glb ∧
    Blk.glb.isLo 0xD0 = true ∧
    0xD0 < 4096 ∧
    0xD0 % 8 = 0 :=
  ⟨reaches_of (by decide +kernel), by decide +kernel⟩

theorem wit_setting_owner :
    base.reaches r0 .pwr ∧
    Blk.pwr.isSetting 0xA0 = true ∧
    (Blk.pwr.row? 0xA0).map (·.rwo) = some 0xFFF ∧
    base.isOwner r0 = true ∧
    valueOk base.word .pwr 0xA0 (mixWord 0xFFF (base.reg .pwr 0xA0) 1000) = true ∧
    valueOk base.word .pwr 0xA0 (mixWord 0xFFF (base.reg .pwr 0xA0) 999) = false :=
  ⟨reaches_of (by decide +kernel), by decide +kernel⟩

theorem test_setting_owner :
    nextIs (exec (.registerWrite r0 (Blk.pwr.at4 0xA0) 1000) base)
      (fun t => decide (t = base.setReg .pwr 0xA0 1000)) = true := by
  decide +kernel

/-- A device that no host owns. -/
def ownerless : State := { base with owner := {} }

theorem wit_setting_other :
    ownerless.reaches r0 .pwr ∧
    ownerless.isOwner r0 = false ∧
    valueOk base.word .pwr 0xA0 (mixWord 0 (base.reg .pwr 0xA0) 1000) = true ∧
    (base.reg .pwr 0xA0 ^^^ 1000) &&& maskW 0xFFF ≠ 0 ∧
    (base.reg .pwr 0xA0 ^^^ 3000) &&& maskW 0xFFF = 0 :=
  ⟨reaches_of (by decide +kernel), by decide +kernel⟩

theorem wit_lock :
    base.reaches r0 .tel ∧
    base.isOwner r0 = true ∧
    (6 : BitVec 14).toNat * 4096 = Blk.tel.base :=
  ⟨reaches_of (by decide +kernel), by decide +kernel⟩

theorem wit_soft_reset :
    (base.setReg .tim 0xC0 7).reaches r0 .tim ∧
    (2 : BitVec 14).toNat * 4096 = Blk.tim.base ∧
    (base.setReg .tim 0xC0 7).softOk .tim = true ∧
    (base.setReg .tim 0xC0 7).cfg.applied = none ∧
    (Blk.tim.row? 0xC0).isSome = true ∧
    Blk.tim.softKeeps 0xC0 = false :=
  ⟨reaches_of (by decide +kernel), by decide +kernel⟩

theorem wit_time_low :
    (base.setReg .tim 0x80 6).reaches r0 .tim ∧
    (base.setReg .tim 0x80 6).tickEn = false ∧
    (base.setReg .tim 0x80 6).timeSource = 3 ∧
    heldOf (base.setReg .tim 0x80 6).tim.held r0 = none ∧
    heldOf [(r0, (7 : Word))] r0 = some 7 :=
  ⟨reaches_of (by decide +kernel), by decide +kernel⟩

theorem test_time_low :
    nextIs (exec (.timNowLoWrite r0 7) (base.setReg .tim 0x80 6))
      (fun t => decide (heldOf t.tim.held r0 = some 7 ∧ t.tim.now = 0)) = true := by
  decide +kernel

theorem wit_tick_enable : (base.setReg .tim 0x80 6).job.st.active = false := by decide +kernel

theorem wit_tick_enable_active :
    (jobIn .armed).job.st.active = true ∧
    (0 : BitVec 2).toNat ≠ (jobIn .armed).timeSource ∧
    (jobIn .armed).tickEn = true :=
  by decide +kernel

theorem wit_counters :
    base.reaches r0 .tel ∧
    base.flag .tel 8 3 = false ∧
    eventOk (fld (0xFF04 : Word) 7 0) (fld (0xFF04 : Word) 15 8) = true :=
  ⟨reaches_of (by decide +kernel), by decide +kernel⟩

theorem test_counters :
    nextIs (exec (.telClear r0) (base.setReg .tel 0x178 7))
      (fun t => decide (t.telCount 7 = 0)) = true := by
  decide +kernel

/-- At opened level CONTROL, with the window on V register word 3 of core 191 and INC set. -/
def opened : State :=
  ((({ base with sec := { base.sec with level := 2, marked := true } }.setReg .dbg 0xC0 0x1BF02).setReg .dbg 0xC4 12).setReg
    .dbg 0x88 9)

theorem wit_trace :
    opened.reaches r0 .dbg ∧
    opened.flag .dbg 8 3 = false ∧
    1 ≤ opened.sec.level ∧
    opened.flag .dbg 0x84 0 = false ∧
    (opened.setReg .dbg 0x84 1).flag .dbg 0x84 0 = true :=
  ⟨reaches_of (by decide +kernel), by decide +kernel⟩

theorem wit_debug_halt :
    opened.reaches r0 .dbg ∧
    opened.isOwner r0 = true ∧
    opened.sec.level = 2 ∧
    opened.pwr.st = .run ∧
    opened.husk 191 = false ∧
    (0 : CoreId).val / 32 ≠ (191 : CoreId).val / 32 :=
  ⟨reaches_of (by decide +kernel), by decide +kernel⟩

theorem wit_debug_window :
    opened.sees r0 .dbg ∧
    opened.dbgSpace = 2 ∧
    opened.dbgInside = true ∧
    opened.dbgCore = some 191 ∧
    Store.get (fun _ => false) (opened.core 191).vp (opened.dbgAddr / 4) = false :=
  ⟨sees_of (by decide +kernel), by decide +kernel⟩

theorem test_debug_window :
    nextIs (exec (.dbgMemWrite r0 5) opened)
      (fun t => decide ((t.core 191).v = [(3, 5)] ∧ t.dbgAddr = 16)) = true := by
  decide +kernel

theorem wit_core_requests :
    base.reaches r0 (.arr 0) ∧
    base.reaches r0 (.core 191) ∧
    base.husk 191 = false ∧
    base.job.st.active = false :=
  ⟨reaches_of (by decide +kernel), reaches_of (by decide +kernel), by decide +kernel⟩

theorem wit_core_requests_active :
    (jobIn .running).reaches r0 (.arr 0) ∧
    (jobIn .running).job.st.active = true :=
  ⟨reaches_of (by decide +kernel), by decide +kernel⟩

/-- Core 191 a husk, perhaps being tested. -/
def husked (testing : Bool) : State := base.modCore 191 (fun x => { x with cause := 4, testing := testing })

theorem wit_core_unfence :
    (husked false).reaches r0 (.core 191) ∧
    (husked false).husk 191 = true ∧
    ((husked true).core 191).testing = true ∧
    (1 : BitVec 5) ≠ 0 :=
  ⟨reaches_of (by decide +kernel), by decide +kernel⟩

theorem test_core_unfence :
    nextIs (exec (.unfence r0 191) (husked false))
      (fun t => decide ((t.core 191).testing = true ∧ t.husk 191 = true)) = true := by
  decide +kernel

theorem wit_fatal_core_error : base.husk 191 = false := by decide +kernel

theorem wit_load_accepted :
    base.reaches r0 .glb ∧
    base.pwr.st = .run ∧
    base.job.st = .empty ∧
    base.flag .ras 0x80 31 = false ∧
    base.rangeOk = false :=
  ⟨reaches_of (by decide +kernel), by decide +kernel⟩

/-- An image range of one page at local offset 0, where nothing has been written. -/
def blank : State := { base.setReg .glb 0xB8 4096 with job := { st := .loadFailed } }

theorem wit_load_bad_header :
    blank.job.st = .loadFailed ∧
    blank.rangeOk = true ∧
    blank.anyLost = false ∧
    blank.firstUnserved blank.imageBase 128 = none ∧
    blank.rangePoisoned blank.imageBase 128 = false ∧
    blank.headerOk = false :=
  by decide +kernel

theorem test_load_bad_header :
    nextIs (exec (.load r0) blank)
      (fun t => decide (t.job.st = .loading ∧ t.job.result = 1 ∧ t.job.prot = some (0, 4096))) = true := by
  decide +kernel

theorem wit_load_done :
    { base with job := { st := .loading } }.job.result = 0 ∧
    { base with job := { st := .loading, result := 10 } }.job.result ≠ 0 :=
  by decide +kernel

theorem wit_clear :
    (jobIn .halted).reaches r0 .glb ∧
    (jobIn .halted).pwr.st = .run ∧
    (jobIn .halted).job.st = .halted :=
  ⟨reaches_of (by decide +kernel), by decide +kernel⟩

theorem wit_clear_done :
    (jobIn .clearing).job.st = .clearing ∧
    (jobIn .clearing).sec.zBusy = false :=
  by decide +kernel

theorem test_clear_done :
    nextIs (exec .clearDone (jobIn .clearing))
      (fun t => decide (t.job.st = .empty)) = true := by
  decide +kernel

/-- A halt of local causes 0x0B and 3 that is due, on a running job. -/
def haltDue (remote : Bool) : State :=
  { jobIn .running with job := { st := .running, due := some .halt, halts :=
      if remote then [{ code := 8, remote := some (7, 0x3F), bcast := true }]
      else [{ code := 0x0B, remote := none, bcast := true }, { code := 3, remote := none, bcast := true },
        { code := 1, remote := some (0, 0), bcast := true }] } }

theorem wit_halt_local :
    (haltDue false).job.due = some .halt ∧
    (haltDue false).pwr.warm = false ∧
    (∃ h ∈ (haltDue false).haltReasons, h.remote = none) :=
  by decide +kernel

theorem wit_halt_host :
    ({ haltDue false with job := { (haltDue false).job with pend := some ⟨.halt true, some 0⟩ } }).dueCmd = some (.halt true) :=
  by decide +kernel

theorem wit_halt_remote :
    (haltDue true).job.due = some .halt ∧
    (∀ h ∈ (haltDue true).haltReasons, h.remote ≠ none) ∧
    (haltDue true).haltReasons.head? = some { code := 8, remote := some (7, 0x3F), bcast := true } :=
  by decide +kernel

/-- A halt-broadcast copy that is due on port 7. -/
def copyDue : State :=
  base.modPort 7 (fun p => { p with dueBcast := [({
    vc := 0, type := 4, dest := 0, len := 0, poison := 0, mark := false, rsvd := 0, tag := 0, payload := [1]
    ackSeq := 0, ackValid := false, crVc := 0, trRsvd := false, crTotal := 0, crc := 0 }, false)] })

theorem wit_copy_due : (copyDue.port 7).st = .up ∧ (copyDue.port 7).dueBcast ≠ [] := by decide +kernel

theorem wit_claim :
    ownerless.reaches r0 .glb ∧
    ownerless.owner.host ≠ some .h0 ∧
    ownerless.alive .h0 = true ∧
    (∀ h ∈ [HostId.h0, .h1], ownerless.owner.host = some h → ownerless.alive h = false) :=
  ⟨reaches_of (by decide +kernel), by decide +kernel⟩

theorem test_claim :
    nextIs (exec (.claim .h0) ownerless)
      (fun t => decide (t.owner.host = some .h0)) = true := by
  decide +kernel

theorem wit_claim_owner : base.owner.host = some .h0 ∧ base.alive (otherHost .h0) = true := by decide +kernel

theorem wit_claim_refused : base.reaches (.mmio .h1) .glb ∧ base.owner.host ≠ some .h1 ∧
    base.owner.host = some .h0 ∧ base.alive .h0 = true :=
  ⟨reaches_of (by decide +kernel), by decide +kernel⟩

theorem wit_claim_refused_dead :
    { ownerless with hosts := [(0, { hostUp with beat := false })] }.alive .h0 = false :=
  by decide +kernel

theorem wit_timeout :
    within 100 60000 (100 : BitVec 16).toNat = true ∧
    within 100 60000 (60000 : BitVec 16).toNat = true :=
  by decide +kernel

theorem test_timeout :
    nextIs (exec (.setTimeout .h0 100) base)
      (fun t => decide (t.timeoutMs = 100)) = true := by
  decide +kernel

/-- Host 0 one millisecond before its timeout. -/
def late0 (other : Bool) : State := { base with hosts := [(0, { hostUp with ageMs := 999 }), (1, { hostUp with beat := other })] }

theorem wit_ownership_passes :
    (late0 true).owner.host = some .h0 ∧
    (¬((late0 true).hostPort .h0).ageMs + 1 < (late0 true).timeoutMs) ∧
    (late0 true).alive (otherHost .h0) = true ∧
    (late0 false).alive (otherHost .h0) = false :=
  by decide +kernel

/-- A slot that runs at tick 1. -/
def inSlot0 (window deadline : Bool) : State :=
  { jobIn .running with
    cad := { dispatched := true }
    tim := { now := 1000000, tick := 1, tickAt := some 1000000, window := window, deadline := deadline } }

theorem wit_window_opens :
    (inSlot0 false false).ticking = true ∧
    (inSlot0 false false).inSlot = true ∧
    (inSlot0 false false).tim.window = false :=
  by decide +kernel

theorem wit_deadline_passes :
    (inSlot0 true false).ticking = true ∧
    (inSlot0 true false).inSlot = true ∧
    (inSlot0 true false).tim.window = true ∧
    (inSlot0 true false).tim.deadline = false :=
  by decide +kernel

theorem test_deadline_passes :
    nextIs (exec .commitDeadline (inSlot0 true false))
      (fun t => decide (t.now = 1999900 ∧ t.tim.deadline = true)) = true := by
  decide +kernel

theorem wit_no_second_instant :
    (inSlot0 true true).tim.window = true ∧
    (inSlot0 true true).tim.deadline = true :=
  by decide +kernel

/-- A job in a state with something due. -/
def dueIn (st : JobState) (d : Due) : State := { jobIn st with job := { st := st, due := some d } }

theorem wit_due_start : (dueIn .armed .start).job.due = some .start := by decide +kernel

theorem wit_due_pause : (dueIn .running .pause).job.due = some .pause := by decide +kernel

theorem wit_due_resume : (dueIn .paused .resume).job.due = some .resume := by decide +kernel

/-- A telemetry frame of 20 degrees but for one core. -/
def frame (hot : BitVec 12) : DieTelemetry :=
  { coreTemps := hot :: List.replicate 47 160, stackTemps := List.replicate 4 160 }

theorem wit_telemetry :
    (base.die 3).up = true ∧
    (base.link (ownLink 3)).sideband = true ∧
    coreDie 144 = 3 ∧
    base.husk 144 = false ∧
    coreDie 143 ≠ 3 ∧
    stackDie 12 = 3 ∧
    stackDie 11 ≠ 3 :=
  by decide +kernel

theorem wit_telemetry_down :
    ((base.modDie 3 (fun x => { x with up := false })).die 3).up = false ∧
    ((base.modLink (ownLink 3) (fun x => { x with sideband := false })).link (ownLink 3)).sideband = false :=
  by decide +kernel

theorem test_telemetry_down :
    nextIs (exec (.telemetry 3 (frame 80)) (base.modDie 3 (fun x => { x with up := false })))
      (fun t => decide (t = (base.modDie 3 (fun x => { x with up := false })))) = true := by
  decide +kernel

/-- Die 2 waits for the regulator. -/
def waiting : State := base.modDie 2 (fun x => { x with want := some 2047 })

theorem wit_voltage :
    (waiting.die 2).want = some 2047 ∧
    (2047 : Nat) < 2048 ∧
    (waiting.die 1).want = none :=
  by decide +kernel

theorem wit_throttle : base.pwr.force = false ∧ base.pwr.powered = true := by decide +kernel

/-- Every die at 200 MHz, with its telemetry of the step; die 0 is hot, die 1 out of service. -/
def heardAll : State :=
  let die := fun (k : Nat) => ({ up := k != 1, dieId := k, heard := true, frame := some (frame (if k = 0 then 840 else 160)) } : Die)
  (List.range 4).foldl (fun s k => s.setReg .pwr (0x90 + 4 * k) 0xC80708)
    { base with dies := (List.range 4).map (fun k => (k, die k)) }

theorem wit_control_step :
    heardAll.pwr.powered = true ∧
    (∀ d, (heardAll.die d).up = true → (heardAll.die d).heard = true) ∧
    (heardAll.die 0).up = true ∧
    heardAll.pwr.force = false ∧
    heardAll.hotDie 0 = true ∧
    heardAll.nowMhz 0 < heardAll.floorMhz + 100 ∧
    (heardAll.die 1).up = false :=
  by decide +kernel

theorem wit_isolation :
    base.reaches r0 .pwr ∧
    base.pwr.powered = true ∧
    (base.die 3).isolated = false ∧
    (3 : Fin 5).val = (3 : DieId).val ∧
    (base.die (stackDie 15)).up = true ∧
    (base.die (stackDie 15)).isolated = false ∧
    base.isOwner r0 = true ∧
    (base.port 7).st = .up :=
  ⟨reaches_of (by decide +kernel), by decide +kernel⟩

theorem test_isolation :
    nextIs (exec (.regulatorFault 4) base)
      (fun t => decide (t.flag .pwr 0x10 13 = true ∧ t.dies = base.dies)) = true := by
  decide +kernel

/-- A descriptor's number: its opcode and further fields by byte offset. -/
def descNum (op : Nat) (fs : List (Nat × Nat)) : Nat := fs.foldl (fun n f => n + 2 ^ (8 * f.1) * f.2) op

/-- The number of a two-dimensional tensor descriptor: base, sizes, address space and format. -/
def tenNum (at_ n0 n1 space fmt : Nat) : Nat :=
  at_ + 2 ^ 128 * n0 + 2 ^ 160 * n1 + 2 ^ 288 * n0 + 2 ^ 416 * (2 * 2 ^ 10 + space * 2 ^ 8 + fmt)

/-- The run of core 0 at its first descriptor. -/
def run0 : Run := { base := 64, logical := 0 }

/-- A descriptor as it is fetched first. -/
def fetched (d : Nat) : Desc := { raw := d, pos := 0, off := 64 }

/-- A slot of a kind whose core 0 has one descriptor to issue, with a tensor table; line 0 of its core store holds the
  FP32 numbers 2 and 3. -/
def slot (kind : SlotKind) (d : Nat) (ts : List Nat) : State :=
  { (base.write 4096 (leBytes d 64) false).write 8192 (ts.flatMap (fun t => leBytes t 64)) false with
    job := { st := .running, secs := [⟨4, 4096, 64⟩, ⟨5, 8192, 64 * ts.length⟩] }
    cad := { dispatched := true, kind := kind, live := [(0, 0)] }
    cores := [(0, { logical := some 0, run := some run0, cst := [(3, 0x40), (6, 0x40), (7, 0x40)], written := [(0, true)] })] }

/-- A MMA of FP32 numbers: 1 by 1 by k, from tensors 0 and 1 into tensor 2. -/
def mmaNum (m flags : Nat) : Nat := descNum 0x10 [(8, 0), (10, 1), (12, 2), (14, flags), (16, m), (18, 1), (19, 1)]

def mmaTens : List Nat := [tenNum 0 1 1 1 0, tenNum 4 1 1 1 0, tenNum 8 1 1 1 0]

/-- A held result of that MMA. -/
def held1 (fail : Option Nat) : Held :=
  { desc := BitVec.ofNat 512 (mmaNum 1 0x10), off := 64, pos := 0, res := [[(0x40C00000, false)]], fail := fail }

/-- Core 0 holds a result. -/
def holding (fail : Option Nat) : State :=
  (slot .compute (mmaNum 1 0x10) mmaTens).modCore 0 (fun x => { x with
    held := [held1 fail], status := .held, fly := [{
      unit := .arr, desc := BitVec.ofNat 512 (mmaNum 1 0x10), pos := 0, off := 64, held := true, writes := true }] })

theorem wit_verdict_passes :
    ((holding none).core 0).held.find? (fun h => !h.judged) = some (held1 none) ∧
    ((held1 none).mma (holding none)).judged (held1 none).fail none = none :=
  by decide +kernel

theorem wit_verdict_fails :
    ((holding (some 0)).core 0).held.find? (fun h => !h.judged) = some (held1 (some 0)) ∧
    ((held1 (some 0)).mma (holding (some 0))).judged (held1 (some 0)).fail none = some 0 ∧
    ((held1 none).mma (holding none)).judged (held1 none).fail (some 0) = some 0 :=
  by decide +kernel

/-- A resolution of that result runs on die 0, with what its re-runs have given. -/
def resolving (partner : Option CoreId) (s x : Option (Res × Option Nat)) : State :=
  { holding (some 0) with flt := { active := [(0, { core := 0, o := held1 (some 0), partner := partner, s := s, x := x })] } }

theorem wit_reruns :
    ((resolving (some 1) none none).resolution 0).map (·.core) = some 0 ∧
    (resolving (some 1) none none).banksUsed 0 < 2 ∧
    ((resolving (some 1) none none).core 0).halt = false ∧
    ((resolving (some 1) none none).core 1).halt = false :=
  by decide +kernel

/-- A right and a wrong result. -/
def right : Res := [[(0x40C00000, false)]]

def wrong : Res := [[(0x40C00001, false)]]

theorem wit_outcome_of_the_table :
    (resolving (some 1) (some (right, none)) (some (right, none))).resolution 0 = some { core := 0, o := held1 (some 0), partner := some 1, s := some (right, none), x := some (right, none) } ∧
    (resolving none (some (wrong, none)) none).resolution 0 = some { core := 0, o := held1 (some 0), partner := none, s := some (wrong, none) } ∧
    (held1 (some 0)).res = right ∧
    right ≠ wrong :=
  by decide +kernel

/-- Core 0 with its list ended, and two pieces of logical core 5 queued to it, of waves 0 and 1. -/
def helping (first : PieceState) : State :=
  let p := fun (w : Nat) (st : PieceState) => ({
    logical := 5, list := 100 + w, piece := w, wave := w, helper := 0, noReplay := false, entry := 0, st := st } : PieceRun)
  { (slot .compute 0 []).modCore 0 (fun x => { x with run := some { run0 with ended := true } }) with
    cad := { dispatched := true, live := [(0, 0)], pieces := [p 1 .queued, p 0 first] } }

theorem wit_piece_starts :
    (helping .queued).inSlot = true ∧
    (helping .queued).tim.window = false ∧
    ((helping .queued).core 0).mayHelp = true ∧
    (firstPiece ((helping .queued).cad.pieces.zipIdx.filter (fun e => decide (e.1.st = .queued) && (helping .queued).helperOf e.1 == ((helping .queued).core 0).logical))).map (fun e => (e.1.wave, e.2)) = some (0, 1) :=
  by decide +kernel

theorem test_piece_starts :
    nextIs (exec (.repairPiece 0) (helping .queued))
      (fun t => decide ((t.core 0).run = some { base := 100, logical := 5, piece := some 1 } ∧ (t.core 0).ptr = 100 ∧ t.cad.pieces.map (·.st) = [.queued, .running 0])) = true := by
  decide +kernel

theorem wit_piece_waits :
    (firstPiece ((helping .faulted).cad.pieces.zipIdx.filter (fun e => decide (e.1.st = .queued) && (helping .faulted).helperOf e.1 == ((helping .faulted).core 0).logical))).map (fun e => ((helping .faulted).waveWaits e.1, e.2)) = some (true, 0) :=
  by decide +kernel

theorem wit_sweep_starts :
    base.reaches r0 .flt ∧
    base.isOwner r0 = true ∧
    base.flt.sweep.busy = false ∧
    (31 : BitVec 5) ≠ 0 ∧
    base.pwr.st = .run :=
  ⟨reaches_of (by decide +kernel), by decide +kernel⟩

/-- A sweep of group 4 on core 191. -/
def sweeping (stop : Bool) (todo : List (CoreId × Nat)) : State := { base with flt := { sweep := { busy := true, stop := stop, todo := todo } } }

theorem wit_sweep_group :
    (sweeping false [(191, 16)]).flt.sweep.busy = true ∧
    (sweeping false [(191, 16)]).flt.sweep.todo.find? (fun e => decide (e.1 = 191)) = some (191, 16) ∧
    (sweeping false [(191, 16)]).maySweep 191 = true ∧
    (sweeping false [(191, 16)]).husk 191 = false :=
  by decide +kernel

theorem wit_sweep_ends :
    (sweeping true [(191, 16)]).flt.sweep.stop = true ∧
    (sweeping false []).flt.sweep.todo = [] ∧
    (sweeping false []).flt.sweep.done = false :=
  by decide +kernel

theorem test_sweep_ends :
    nextIs (exec .sweepDone (sweeping true [(191, 16)]))
      (fun t => decide (t.flt.sweep.aborted = true ∧ t.flt.sweep.done = true ∧ t.flag .flt 0x38 0 = true)) = true := by
  decide +kernel

/-- A device whose core 0 has a descriptor of some fields, in a COMPUTE slot without tensors. -/
def one (op : Nat) (fs : List (Nat × Nat)) : State := slot .compute (descNum op fs) []

theorem wit_bad_seq :
    (one 1 [(6, 1)]).Fetches 0 run0 (fetched (descNum 1 [(6, 1)])) ∧
    descriptorOf (.nop 0) = some (0, 1, []) ∧
    (fetched (descNum 1 [(6, 1)])).seq ≠ run0.pos :=
  ⟨fetches_of (by decide +kernel), by decide +kernel⟩

theorem wit_bad_opcode :
    (one 3 []).Fetches 0 run0 (fetched 3) ∧
    (fetched 3).seq = run0.pos ∧
    (fetched 3).op ∉ opcodes :=
  ⟨fetches_of (by decide +kernel), by decide +kernel⟩

theorem wit_other_opcode :
    (one 2 []).Fetches 0 run0 (fetched 2) ∧
    (fetched 2).seq = run0.pos ∧
    (fetched 2).op ∈ opcodes ∧
    (fetched 2).op ≠ 1 :=
  ⟨fetches_of (by decide +kernel), by decide +kernel⟩

theorem test_other_opcode :
    nextIs (exec (.nop 0) (one 2 []))
      (fun t => decide (t = one 2 [])) = true := by
  decide +kernel

/-- Core 0 with n descriptors of a unit in flight. -/
def flying (s : State) (u : UnitId) (n : Nat) : State :=
  s.modCore 0 (fun x => { x with fly := List.replicate n { unit := u, desc := 0, pos := 9, off := 9 } })

theorem wit_waits :
    (flying (one 1 [(1, 1)]) .arr 1).Fetches 0 run0 (fetched (descNum 1 [(1, 1)])) ∧
    ((flying (one 1 [(1, 1)]) .arr 1).core 0).waitsMet (fetched (descNum 1 [(1, 1)])) = false :=
  ⟨fetches_of (by decide +kernel), by decide +kernel⟩

/-- Core 0 with an entry of a unit in a phase, at a later position. -/
def inPhase (s : State) (u : UnitId) (p : Phase) (n : Nat) : State :=
  s.modCore 0 (fun x => { x with fly := List.replicate n { unit := u, desc := 0, pos := 9, off := 9, phase := p } })

theorem wit_calm : base.trackers = [] ∧ base.frt.errs = [] ∧ base.waiting = false := by decide +kernel

theorem wit_queue_full :
    (inPhase (one 0x21 []) .vec .queued 4).Fetches 0 run0 (fetched 0x21) ∧
    ((inPhase (one 0x21 []) .vec .queued 4).core 0).queueFull (unitOf 0x21) = true ∧
    ((inPhase (one 0x21 []) .vec .queued 3).core 0).queueFull (unitOf 0x21) = false :=
  ⟨fetches_of (by decide +kernel), by decide +kernel⟩

theorem wit_nop :
    (one 1 []).Takes 0 1 run0 (fetched 1) ∧
    (fetched 1).ctxOk = true ∧
    (fetched 1).headerOk = true ∧
    (fetched 1).restZero [] = true :=
  ⟨takes_of (by decide +kernel), by decide +kernel⟩

theorem wit_nop_reserved :
    (one 1 [(63, 1)]).Takes 0 1 run0 (fetched (descNum 1 [(63, 1)])) ∧
    (fetched (descNum 1 [(63, 1)])).restZero [] = false ∧
    (fetched (descNum 1 [(4, 1)])).headerOk = false :=
  ⟨takes_of (by decide +kernel), by decide +kernel⟩

theorem wit_fence :
    (one 2 [(8, 2)]).Takes 0 2 run0 (fetched (descNum 2 [(8, 2)])) ∧
    (fetched (descNum 2 [(8, 2)])).ctxOk = true ∧
    (fetched (descNum 2 [(8, 2)])).headerOk = true ∧
    (fetched (descNum 2 [(8, 2)])).restZero [8] = true ∧
    (fetched (descNum 2 [(8, 2)])).byte 8 ≤ 2 ∧
    ((one 2 [(8, 2)]).core 0).fly = [] ∧
    ((flying (one 2 [(8, 2)]) .arr 1).core 0).fly ≠ [] :=
  ⟨takes_of (by decide +kernel), by decide +kernel⟩

theorem wit_end_of_list :
    (one 0 []).Takes 0 0 run0 (fetched 0) ∧
    (fetched 0).ctxOk = true ∧
    (fetched 0).headerOk = true ∧
    (fetched 0).restZero [] = true ∧
    ((one 0 []).core 0).fly = [] :=
  ⟨takes_of (by decide +kernel), by decide +kernel⟩

theorem test_end_of_list :
    nextIs (exec (.endOp 0) (one 0 []))
      (fun t => decide ((t.core 0).run = some { run0 with pos := 1, ended := true } ∧ t.cad = (one 0 []).cad)) = true := by
  decide +kernel

theorem wit_kat :
    (slot .check (descNum 0xB8 [(8, 31)]) []).Takes 0 0xB8 run0 (fetched (descNum 0xB8 [(8, 31)])) ∧
    0 < (fetched (descNum 0xB8 [(8, 31)])).byte 8 ∧
    (fetched (descNum 0xB8 [(8, 31)])).byte 8 < 32 ∧
    (fetched (descNum 0xB8 [(8, 31)])).restZero [8] = true ∧
    (fetched (descNum 0xB8 [(8, 31)])).byte 8 &&& (0 : BitVec 5).toNat = 0 ∧
    (fetched (descNum 0xB8 [(8, 31)])).byte 8 &&& (16 : BitVec 5).toNat ≠ 0 :=
  ⟨takes_of (by decide +kernel), by decide +kernel⟩

theorem wit_complete :
    ((flying base .vec 1).core 0).oldest .vec = some { unit := .vec, desc := 0, pos := 9, off := 9 } ∧
    ((flying base .vec 1).core 0).flyAt .vec 9 = some { unit := .vec, desc := 0, pos := 9, off := 9 } :=
  by decide +kernel

theorem wit_complete_not_yet :
    ((inPhase base .vec .fetch 1).core 0).oldest .vec = some { unit := .vec, desc := 0, pos := 9, off := 9, phase := .fetch } :=
  by decide +kernel

/-- ADD of V registers 0 and 1 into V register 31. -/
def addNum : Nat := descNum 0x21 [(8, 0x2001F), (12, 0x20000), (16, 0x20001)]

/-- A device with an ADD to issue, and a number in lane 0 of each source. -/
def adding : State :=
  (slot .compute addNum []).modCore 0 (fun x => { x with v := [(0, 0x3F800000), (128, 0x40000000)] })

theorem wit_lanewise :
    adding.Takes 0 0x21 run0 (fetched addNum) ∧
    (fetched addNum).vecCheck ((fetched addNum).vop adding 0) adding = .ok () ∧
    descriptorOf (.add 0) = some (0, 0x21, []) ∧
    0x21 ∈ lanewise ∧
    (adding.core 0).unitBusy .vec = false ∧
    ((fetched addNum).vop adding 0).dst = .vreg 31 ∧
    ((fetched addNum).vop adding 0).s0.isV = true ∧
    ((fetched addNum).vop adding 0).s1.isV = true ∧
    ((fetched addNum).vop adding 0).s2.isImm = true :=
  ⟨takes_of (by decide +kernel), ok_unit (by decide +kernel), by decide +kernel⟩

/-- COPY of the FP32 number of tensor 0 in the core store to V register 0, and of tensor 1 without elements. -/
def copyNum (t : Nat) : Nat := descNum 0x20 [(8, 0x10000 + 1), (12, 0x10000 + t)]

def copying (n : Nat) (src : Nat) : State := slot .compute (copyNum 0) [tenNum src n 1 1 0, tenNum 32 n 1 1 0]

theorem wit_walk :
    (copying 1 0).Takes 0 0x20 run0 (fetched (copyNum 0)) ∧
    (fetched (copyNum 0)).vecCheck ((fetched (copyNum 0)).vop (copying 1 0) 0) (copying 1 0) = .ok () ∧
    (∃ x, ((fetched (copyNum 0)).vop (copying 1 0) 0).resolve (((copying 1 0).fetched 0 run0 (fetched (copyNum 0))).vecBegins 0 (fetched (copyNum 0))) 0 0 = .ok x ∧
    (fun x => (vecRun x.2 { s := x.1, c := 0 }).stop.isNone && (vecRun x.2 { s := x.1, c := 0 }).want.isEmpty) x = true) ∧
    ((fetched (copyNum 0)).vop (copying 1 0) 0).works = true :=
  ⟨takes_of (by decide +kernel), ok_unit (by decide +kernel), okWith_of (by decide +kernel), by decide +kernel⟩

theorem wit_walk_waits :
    (inPhase (copying 1 0) .vec .fetch 1).Takes 0 0x20 run0 (fetched (copyNum 0)) ∧
    (fetched (copyNum 0)).vecCheck ((fetched (copyNum 0)).vop (inPhase (copying 1 0) .vec .fetch 1) 0) (inPhase (copying 1 0) .vec .fetch 1) = .ok () ∧
    ((inPhase (copying 1 0) .vec .fetch 1).core 0).unitBusy .vec = true ∧
    ((copying 1 0).core 0).unitBusy .vec = false :=
  ⟨takes_of (by decide +kernel), ok_unit (by decide +kernel), by decide +kernel⟩

theorem test_walk_waits :
    nextIs (exec (.copy 0 []) (inPhase (copying 1 0) .vec .fetch 1))
      (fun t => decide ((t.core 0).fly.map (·.phase) = [.fetch, .queued] ∧ (t.core 0).cst = ((copying 1 0).core 0).cst)) = true := by
  decide +kernel

/-- Two devices along axes C and D, whose ports and ring links are usable; a seen buddy feed. -/
def hall (s : State) : State :=
  { s.setReg .frt 0x80 0x101 with
    ports := (List.range 8).map (fun k => (k, { st := .up, nbValid := true, nbPort := k.xor 1, credits := List.replicate 4 { limit := 64 } }))
    frt := { mapAt := [(128, true), (129, true), (192, true), (193, true)], recs := [⟨2, 1, true, true, 0⟩, ⟨3, 1, true, true, 0⟩] } }

/-- COPY of FP32 numbers in another device's memory, at a coordinate that is there and one that is not, on a line of two. -/
def copyingFar (c : Nat) : State := hall (slot .compute (copyNum 0) [tenNum (c * 2 ^ 40) 1 1 0 0, tenNum 32 1 1 1 0])

theorem wit_walk_asks :
    (copyingFar 1).Takes 0 0x20 run0 (fetched (copyNum 0)) ∧
    (fetched (copyNum 0)).vecCheck ((fetched (copyNum 0)).vop (copyingFar 1) 0) (copyingFar 1) = .ok () ∧
    (∃ x, ((fetched (copyNum 0)).vop (copyingFar 1) 0).resolve (((copyingFar 1).fetched 0 run0 (fetched (copyNum 0))).vecBegins 0 (fetched (copyNum 0))) 0 0 = .ok x ∧
    (fun x => (vecRun x.2 { s := x.1, c := 0 }).stop.isNone && !(vecRun x.2 { s := x.1, c := 0 }).want.isEmpty) x = true) ∧
    ∃ x, ((fetched (copyNum 0)).vop (copyingFar 2) 0).resolve (((copyingFar 2).fetched 0 run0 (fetched (copyNum 0))).vecBegins 0 (fetched (copyNum 0))) 0 0 = .ok x ∧
    (fun x => (vecRun x.2 { s := x.1, c := 0 }).stop.isSome && (vecRun x.2 { s := x.1, c := 0 }).mute) x = true :=
  ⟨takes_of (by decide +kernel), ok_unit (by decide +kernel), okWith_of (by decide +kernel), okWith_of (by decide +kernel)⟩

theorem wit_walk_empty :
    (copying 0 0).Takes 0 0x20 run0 (fetched (copyNum 0)) ∧
    (fetched (copyNum 0)).vecCheck ((fetched (copyNum 0)).vop (copying 0 0) 0) (copying 0 0) = .ok () ∧
    ((fetched (copyNum 0)).vop (copying 0 0) 0).works = false :=
  ⟨takes_of (by decide +kernel), ok_unit (by decide +kernel), by decide +kernel⟩

theorem wit_walk_stops :
    (copying 1 64).Takes 0 0x20 run0 (fetched (copyNum 0)) ∧
    ∃ x, ((fetched (copyNum 0)).vop (copying 1 64) 0).resolve (((copying 1 64).fetched 0 run0 (fetched (copyNum 0))).vecBegins 0 (fetched (copyNum 0))) 0 0 = .ok x ∧
    (fun x => (vecRun x.2 { s := x.1, c := 0 }).stop.isSome && (vecRun x.2 { s := x.1, c := 0 }).want.isEmpty) x = true :=
  ⟨takes_of (by decide +kernel), okWith_of (by decide +kernel)⟩

/-- COPY from a tensor in the current version of a weight that does not exist. -/
def noWeight : State := slot .compute (copyNum 0) [tenNum 0 1 1 0 0 + 2 ^ 480 * 2, tenNum 32 1 1 1 0]

theorem wit_walk_unresolved :
    noWeight.Takes 0 0x20 run0 (fetched (copyNum 0)) ∧
    (fetched (copyNum 0)).vecCheck ((fetched (copyNum 0)).vop noWeight 0) noWeight = .ok () ∧
    (∃ e, ((fetched (copyNum 0)).vop noWeight 0).resolve ((noWeight.fetched 0 run0 (fetched (copyNum 0))).vecBegins 0 (fetched (copyNum 0))) 0 0 = .error e) ∧
    ((fetched (copyNum 0)).vop noWeight 0).works = true :=
  ⟨takes_of (by decide +kernel), ok_unit (by decide +kernel), stop_of (by decide +kernel), by decide +kernel⟩

theorem wit_vector_check :
    (one 0x20 [(63, 1)]).Takes 0 0x20 run0 (fetched (descNum 0x20 [(63, 1)])) ∧
    (fetched (descNum 0x20 [(63, 1)])).vecCheck ((fetched (descNum 0x20 [(63, 1)])).vop (one 0x20 [(63, 1)]) 0) (one 0x20 [(63, 1)]) ≠ .ok () :=
  ⟨takes_of (by decide +kernel), not_ok (by decide +kernel)⟩

theorem test_vector_check :
    nextIs (exec (.copy 0 []) (one 0x20 [(63, 1)]))
      (fun t => decide ((t.core 0).run = some { run0 with faulted := true } ∧ t.flag (.core 0) 0x10 8 = true)) = true := by
  decide +kernel

/-- DMA_COPY of tensor 0 to tensor 1. -/
def moveNum (op : Nat) : Nat := descNum op [(8, 0), (10, 1)]

/-- A device with such a copy to issue, of four bytes at 4. -/
def moving (op src dst : Nat) : State := slot .compute (moveNum op) [tenNum 4 1 1 src 0, tenNum 8 1 1 dst 0]

theorem wit_copies :
    (moving 0x60 1 0).Takes 0 0x60 run0 (fetched (moveNum 0x60)) ∧
    (∃ x, (((moving 0x60 1 0).fetched 0 run0 (fetched (moveNum 0x60))).modCore 0 (fun q => { q with cdmaOp := 0x60 })).resolvePair ((fetched (moveNum 0x60)).pair (moving 0x60 1 0)).1 ((fetched (moveNum 0x60)).pair (moving 0x60 1 0)).2 0 0 = .ok x ∧
    (fun x => (({ s := x.1, c := 0 } : Io).copy x.2.1 x.2.2).stop.isNone && (({ s := x.1, c := 0 } : Io).copy x.2.1 x.2.2).want.isEmpty) x = true) ∧
    descriptorOf (.dmaCopy 0 []) = some (0, 0x60, []) ∧
    (fetched (moveNum 0x60)).copyChecks (moving 0x60 1 0) = true :=
  ⟨takes_of (by decide +kernel), okWith_of (by decide +kernel), by decide +kernel⟩

theorem wit_copy_waits :
    (inPhase (moving 0x60 1 0) .cdma .queued 1).Takes 0 0x60 run0 (fetched (moveNum 0x60)) ∧
    ((inPhase (moving 0x60 1 0) .cdma .queued 1).core 0).unitBusy .cdma = true ∧
    ((moving 0x60 1 0).core 0).unitBusy .cdma = false ∧
    (fetched (moveNum 0x60)).copyChecks (inPhase (moving 0x60 1 0) .cdma .queued 1) = true :=
  ⟨takes_of (by decide +kernel), by decide +kernel⟩

theorem wit_copy_stops : (moving 0x60 0 1).Takes 0 0x60 run0 (fetched (moveNum 0x60)) := takes_of (by decide +kernel)

/-- RREAD without a stop; RWRITE from an unwritten line of the core store stops. -/
def unwritten : State := slot .compute (moveNum 0x91) [tenNum 64 1 1 1 0, tenNum 8 1 1 0 0]

theorem wit_remote_write_stops :
    unwritten.Takes 0 0x91 run0 (fetched (moveNum 0x91)) ∧
    (∃ x, (unwritten.fetched 0 run0 (fetched (moveNum 0x91))).resolvePair ((fetched (moveNum 0x91)).pair unwritten).1 ((fetched (moveNum 0x91)).pair unwritten).2 0 0 = .ok x ∧
    (fun x => (({ s := x.1, c := 0 } : Io).copy x.2.1 x.2.2).stop.isSome && (({ s := x.1, c := 0 } : Io).copy x.2.1 x.2.2).want.isEmpty) x = true) ∧
    (fetched (moveNum 0x91)).copyChecks unwritten = true :=
  ⟨takes_of (by decide +kernel), okWith_of (by decide +kernel), by decide +kernel⟩

theorem wit_queue_copy_and_reduce_write :
    (moving 0x93 1 0).Takes 0 0x93 run0 (fetched (moveNum 0x93)) ∧
    (fetched (moveNum 0x93)).copyChecks (moving 0x93 1 0) = true :=
  ⟨takes_of (by decide +kernel), by decide +kernel⟩

/-- DMA_FILL of tensor 0 with the value 5. -/
def fillNum : Nat := descNum 0x61 [(12, 5)]

def filling (n base space : Nat) : State := slot .compute fillNum [tenNum base n 1 space 7]

theorem wit_fill :
    (filling 1 8 1).Takes 0 0x61 run0 (fetched fillNum) ∧
    (∃ x, (((filling 1 8 1).fetched 0 run0 (fetched fillNum)).modCore 0 (fun q => { q with cdmaOp := 0x61 })).resolve ((filling 1 8 1).tensor 0) 0 0 true = .ok x ∧
    (fun x => (({ s := x.1, c := 0 } : Io).each ((filling 1 8 1).tensor 0).size.allRows (fun o row => o.fillRow x.2 5 0 row)).stop.isNone && (({ s := x.1, c := 0 } : Io).each ((filling 1 8 1).tensor 0).size.allRows (fun o row => o.fillRow x.2 5 0 row)).want.isEmpty) x = true) ∧
    (fetched fillNum).headerOk = true ∧
    (fetched fillNum).ctxOk = true ∧
    (fetched fillNum).restZero [10, 11, 12, 13, 14, 15, 16] = true ∧
    (filling 1 8 1).tensorOk ((fetched fillNum).num 10 2) = true ∧
    ((filling 1 8 1).tensor 0).space = 1 ∧
    ((filling 1 8 0).tensor 0).space = 0 ∧
    ((filling 1 8 0).tensor 0).vsel = 0 ∧
    (filling 1 8 1).tensorKind ((filling 1 8 1).tensor 0) = true ∧
    ((filling 1 8 1).tensor 0).size.empty = false ∧
    ((filling 0 8 1).tensor 0).size.empty = true :=
  ⟨takes_of (by decide +kernel), okWith_of (by decide +kernel), by decide +kernel⟩

theorem wit_fill_stops :
    ∃ x, (((filling 1 0x1800000 1).fetched 0 run0 (fetched fillNum)).modCore 0 (fun q => { q with cdmaOp := 0x61 })).resolve ((filling 1 0x1800000 1).tensor 0) 0 0 true = .ok x ∧
    (fun x => (({ s := x.1, c := 0 } : Io).each ((filling 1 0x1800000 1).tensor 0).size.allRows (fun o row => o.fillRow x.2 5 0 row)).stop.isSome) x = true :=
  okWith_of (by decide +kernel)

/-- A device in a slot with a context, whose descriptor names context 47. -/
def inCtx (kind : SlotKind) (x : Ctx) (op : Nat) (fs : List (Nat × Nat)) : State :=
  { slot kind (descNum op ((3, 0x6F) :: fs)) [] with mbq := {
      ctxs := [(47, x)], queues := [{ kind := 0, vstage := x.vstage, count := 2, size := 128, base := 0x10000, peer := 0, peerQ := 0 }] } }

/-- Its descriptor, and the context of micro-batch 5 in stage 7. -/
def ctxDesc (op : Nat) (fs : List (Nat × Nat)) : Desc := fetched (descNum op ((3, 0x6F) :: fs))

def mb5 (st : CtxState) : Ctx := { st := st, mb := 5, vstage := 7 }

def startFs (dir mb : Nat) : List (Nat × Nat) := [(8, dir), (9, 7), (12, mb)]

theorem wit_ctx_start_free :
    (inCtx .compute (mb5 .free) 0x70 (startFs 0 5)).Takes 0 0x70 run0 (ctxDesc 0x70 (startFs 0 5)) ∧
    (ctxDesc 0x70 (startFs 0 5)).headerOk = true ∧
    (ctxDesc 0x70 (startFs 0 5)).ctxValid = true ∧
    (ctxDesc 0x70 (startFs 0 5)).ctx = 47 ∧
    (ctxDesc 0x70 (startFs 2 5)).restZero [8, 9, 12, 13, 14, 15] = true ∧
    (ctxDesc 0x70 (startFs 2 5)).byte 8 = 2 ∧
    (ctxDesc 0x70 (startFs 2 5)).byte 9 = 7 ∧
    (inCtx .compute (mb5 .free) 0x70 (startFs 0 5)).cad.kind ∈ [SlotKind.compute, SlotKind.eval] ∧
    ((inCtx .compute (mb5 .free) 0x70 (startFs 0 5)).ctx 47).st = .free :=
  ⟨takes_of (by decide +kernel), by decide +kernel⟩

theorem test_ctx_start_free :
    nextIs (exec (.ctxStart 0) (inCtx .compute (mb5 .free) 0x70 (startFs 0 5)))
      (fun t => decide (t.ctx 47 = mb5 .forward ∧ (t.core 0).fly = [(ctxDesc 0x70 (startFs 0 5)).entry])) = true := by
  decide +kernel

theorem wit_ctx_start_backward :
    (inCtx .compute (mb5 .forward) 0x70 (startFs 1 5)).Takes 0 0x70 run0 (ctxDesc 0x70 (startFs 1 5)) ∧
    ((inCtx .compute (mb5 .forward) 0x70 (startFs 1 5)).ctx 47).endPending = false ∧
    (mb5 .forward).mb = BitVec.ofNat 32 ((ctxDesc 0x70 (startFs 1 5)).num 12 4) ∧
    (mb5 .forward).vstage = (ctxDesc 0x70 (startFs 1 5)).byte 9 :=
  ⟨takes_of (by decide +kernel), by decide +kernel⟩

theorem wit_ctx_start_repeated :
    (inCtx .compute (mb5 .backward) 0x70 (startFs 1 5)).Takes 0 0x70 run0 (ctxDesc 0x70 (startFs 1 5)) ∧
    ((inCtx .compute (mb5 .backward) 0x70 (startFs 1 5)).ctx 47).st = .backward :=
  ⟨takes_of (by decide +kernel), by decide +kernel⟩

theorem wit_ctx_start_other :
    (inCtx .compute (mb5 .forward) 0x70 (startFs 0 6)).Takes 0 0x70 run0 (ctxDesc 0x70 (startFs 0 6)) ∧
    (mb5 .forward).mb ≠ BitVec.ofNat 32 ((ctxDesc 0x70 (startFs 0 6)).num 12 4) :=
  ⟨takes_of (by decide +kernel), by decide +kernel⟩

theorem wit_ctx_end :
    (inCtx .compute (mb5 .eval) 0x71 []).Takes 0 0x71 run0 (ctxDesc 0x71 []) ∧
    (ctxDesc 0x71 []).restZero [] = true ∧
    ((inCtx .compute (mb5 .eval) 0x71 []).ctx 47).st ≠ .free ∧
    ((inCtx .compute {} 0x71 []).ctx 47).st = .free :=
  ⟨takes_of (by decide +kernel), by decide +kernel⟩

/-- An inbound entry of queue 0 with a stamp and a micro-batch, at job tick 3. -/
def entered (stamp mb : Nat) : State :=
  ((inCtx .compute (mb5 .forward) 0x72 []).write 0x10080 (leBytes stamp 8 ++ leBytes mb 4) false).setReg64 .glb 0xC8 3

theorem wit_qcheck :
    (entered 3 5).Takes 0 0x72 run0 (ctxDesc 0x72 []) ∧
    (ctxDesc 0x72 []).restZero [8, 9] = true ∧
    ((entered 3 5).queue? 0).map (fun q => (q.vstage, q.kind, q.entryOff (q.entryOf (mb5 .forward)))) = some (7, 0, 0x10080) ∧
    (entered 3 5).firstUnserved 0x10080 64 = none ∧
    (entered 3 5).rangePoisoned 0x10080 64 = false ∧
    (entered 3 5).mem 0x10080 8 ≤ (entered 3 5).jobTick ∧
    (entered 3 5).mem 0x10080 8 < 0xFFFFFFFFFFFFFFFE ∧
    (entered 3 5).mem (0x10080 + 8) 4 = (mb5 .forward).mb.toNat :=
  ⟨takes_of (by decide +kernel), by decide +kernel⟩

theorem wit_qcheck_late :
    (entered 4 5).Takes 0 0x72 run0 (ctxDesc 0x72 []) ∧
    (entered 4 5).jobTick < (entered 4 5).mem 0x10080 8 ∧
    (entered 3 4).mem (0x10080 + 8) 4 ≠ (mb5 .forward).mb.toNat :=
  ⟨takes_of (by decide +kernel), by decide +kernel⟩

/-- Weight 9 of stage 7 with version 0xFFFF current in position 0 of four. -/
def weight9 (rest : List Pos) : Weight :=
  { id := 9, vstage := 7, base := 0x20000, stride := 64, len := 8, hostOff := 0
    ring := { st := .current, ver := 0xFFFF, leases := 254 } :: rest }

def weighed (s : State) (rest : List Pos) : State :=
  { s with ver := { weights := [weight9 rest, { weight9 [] with id := 8, vstage := 6 }], captureBase := 0x30000 } }

theorem wit_vcapture :
    (weighed (inCtx .compute (mb5 .forward) 0x80 []) []).Takes 0 0x80 run0 (ctxDesc 0x80 []) ∧
    (ctxDesc 0x80 []).restZero [] = true ∧
    (ctxDesc 0x80 []).ctxValid = true ∧
    (weighed (inCtx .compute (mb5 .forward) 0x80 []) []).cad.kind ∈ [SlotKind.compute, SlotKind.eval] ∧
    ((weighed (inCtx .compute (mb5 .forward) 0x80 []) []).ver.weights.map Weight.id).Nodup ∧
    ((weighed (inCtx .compute (mb5 .forward) 0x80 []) []).ctx 47).captured = false ∧
    ((weighed (inCtx .compute (mb5 .forward) 0x80 []) []).ctx 47).st = .forward ∧
    (∀ w ∈ (weighed (inCtx .compute (mb5 .forward) 0x80 []) []).ver.weights, w.vstage = 7 → (weighed (inCtx .compute (mb5 .forward) 0x80 []) []).served ((weighed (inCtx .compute (mb5 .forward) 0x80 []) []).captureAt 47 w.id) = true ∧
    (weighed (inCtx .compute (mb5 .forward) 0x80 []) []).hitsImage ((weighed (inCtx .compute (mb5 .forward) 0x80 []) []).captureAt 47 w.id) 2 = false ∧
    ∀ p ∈ w.ring, p.st = .current → p.leases < 255) :=
  ⟨takes_of (by decide +kernel), by decide +kernel⟩

/-- The same device with its capture records inside the loaded image. -/
def capInImage : State :=
  let s := weighed (inCtx .compute (mb5 .forward) 0x80 []) []
  { s with job := { s.job with prot := some (0x30000, 2 ^ 20) } }

theorem wit_vcapture_in_the_image :
    capInImage.Takes 0 0x80 run0 (ctxDesc 0x80 []) ∧
    (∃ w ∈ capInImage.ver.weights, w.vstage = 7 ∧
    capInImage.hitsImage (capInImage.captureAt 47 w.id) 2 = true) ∧
    (∀ w ∈ capInImage.ver.weights, w.vstage = 7 → ∀ p ∈ w.ring, p.st = .current → p.leases < 255) :=
  ⟨takes_of (by decide +kernel), by decide +kernel⟩

theorem wit_vcapture_repeated :
    (inCtx .compute { mb5 .forward with captured := true } 0x80 []).Takes 0 0x80 run0 (ctxDesc 0x80 []) ∧
    ((inCtx .compute { mb5 .forward with captured := true } 0x80 []).ctx 47).captured = true :=
  ⟨takes_of (by decide +kernel), by decide +kernel⟩

theorem test_vcapture_repeated :
    nextIs (exec (.vcapture 0) (inCtx .compute { mb5 .forward with captured := true } 0x80 []))
      (fun t => decide ((t.core 0).fly.length = 1)) = true := by
  decide +kernel

/-- VOPEN and VPUBLISH of version 0 of weight 9, at retire tick 3. -/
def openNum (v : Nat) : Nat := descNum 0x82 [(8, 9), (12, v)]

def pubNum (v : Nat) : Nat := descNum 0x83 [(8, 9), (12, v), (16, 3)]

theorem wit_vopen :
    (weighed (slot .stepBoundary (openNum 0) []) [{}]).Takes 0 0x82 run0 (fetched (openNum 0)) ∧
    (fetched (openNum 0)).headerOk = true ∧
    (fetched (openNum 0)).ctxOk = true ∧
    (fetched (openNum 0)).restZero [8, 9, 12, 13] = true ∧
    (weighed (slot .stepBoundary (openNum 0) []) [{}]).cad.kind = .stepBoundary ∧
    (weighed (slot .stepBoundary (openNum 0) []) [{}]).weight? 9 = some (weight9 [{}]) ∧
    precedes (weight9 [{}]).currentVer 0 = true ∧
    (∀ p ∈ (weight9 [{}]).ring, p.st ≠ .pending ∧
    (p.ver = 0 → p.st = .empty ∨ p.st = .retired)) ∧
    findIdx (fun p => p.st == .empty || p.st == .retired) (weight9 [{}]).ring = some 1 :=
  ⟨takes_of (by decide +kernel), by decide +kernel⟩

theorem wit_vopen_repeated :
    (weight9 [{ st := .pending, ver := 0 }]).ring.find? (fun p => p.st == .pending) = some { st := .pending, ver := 0 } :=
  by decide +kernel

theorem wit_vopen_refused :
    (weighed (slot .stepBoundary (openNum 0xFFFF) []) []).Takes 0 0x82 run0 (fetched (openNum 0xFFFF)) ∧
    (precedes (weight9 []).currentVer 0xFFFF = false ∧
    ∀ p ∈ (weight9 []).ring, p.st ≠ .pending) :=
  ⟨takes_of (by decide +kernel), by decide +kernel⟩

theorem test_vopen_refused :
    nextIs (exec (.vopen 0) (weighed (slot .stepBoundary (openNum 0xFFFF) []) []))
      (fun t => decide (t.flag (.core 0) 0x10 14 = true ∧ t.flag .ver 0x10 14 = true)) = true := by
  decide +kernel

theorem wit_vpublish :
    (weighed (slot .stepBoundary (pubNum 0) []) [{ st := .pending, ver := 0 }]).Takes 0 0x83 run0 (fetched (pubNum 0)) ∧
    (fetched (pubNum 0)).restZero [8, 9, 12, 13, 16, 17, 18, 19, 20, 21, 22, 23] = true ∧
    findIdx (fun p => p.st == .pending && p.ver == 0) (weight9 [{ st := .pending, ver := 0 }]).ring = some 1 ∧
    ((weight9 [{ st := .pending, ver := 0 }]).ring.getD 1 {}).pub = none ∧
    findIdx (fun p => p.st == .pending && p.ver == 1) (weight9 [{ st := .pending, ver := 0 }]).ring = none :=
  ⟨takes_of (by decide +kernel), by decide +kernel⟩

/-- A one-dimensional tensor descriptor's number. -/
def ten1 (at_ n space fmt : Nat) : Nat := at_ + 2 ^ 128 * n + 2 ^ 416 * (2 ^ 10 + space * 2 ^ 8 + fmt)

/-- VGATHER of version 0xFFFF of weight 9 into tensor 0. -/
def gatherNum : Nat := descNum 0x81 [(8, 9), (10, 2), (12, 0xFFFF)]

def gathering (shards : List Shard) : State :=
  let s := weighed (slot .compute gatherNum [ten1 8 2 1 0]) []
  { s with ver := { s.ver with shards := shards, hasShards := !shards.isEmpty } }

theorem wit_gather :
    (gathering []).Takes 0 0x81 run0 (fetched gatherNum) ∧
    (fetched gatherNum).gatherChecks (gathering []) = true ∧
    (gathering []).weight? 9 = some (weight9 []) ∧
    (weight9 []).resolve 0xFFFF = some 0 ∧
    (∀ x ∈ ((gathering []).shardsOf (weight9 [])).filter (fun x => decide (0 < x.len)), x.d = destAxis (gathering []).own 3) ∧
    (({ s := gathering [], c := 0 } : Io).each (((gathering []).shardsOf (weight9 [])).filter (fun x => decide (0 < x.len))) (fun o x => o.putShard { t := (gathering []).tensor 0, place := .store } (some 0x20000) x)).stop = none ∧
    (({ s := gathering [], c := 0 } : Io).each (((gathering []).shardsOf (weight9 [])).filter (fun x => decide (0 < x.len))) (fun o x => o.putShard { t := (gathering []).tensor 0, place := .store } (some 0x20000) x)).want = [] :=
  ⟨takes_of (by decide +kernel), by decide +kernel⟩

theorem wit_gather_remote :
    (gathering [⟨9, 1, 0, 8⟩]).Takes 0 0x81 run0 (fetched gatherNum) ∧
    (fetched gatherNum).gatherChecks (gathering [⟨9, 1, 0, 8⟩]) = true ∧
    (∃ x ∈ ((gathering [⟨9, 1, 0, 8⟩]).shardsOf (weight9 [])).filter (fun x => decide (0 < x.len)), x.d ≠ destAxis (gathering [⟨9, 1, 0, 8⟩]).own 3) :=
  ⟨takes_of (by decide +kernel), by decide +kernel⟩

/-- A device with that MMA to issue, not the first of its core: no cycle of it is sampled. -/
def multiplying : State := (slot .compute (mmaNum 1 0) mmaTens).modCore 0 (fun x => { x with samples := 1 })

def mmaDesc (m : Nat) : Desc := fetched (mmaNum m 0)

theorem wit_mma :
    multiplying.Takes 0 0x10 run0 (mmaDesc 1) ∧
    (mmaDesc 1).mmaCheck ((mmaDesc 1).mma multiplying) multiplying = .ok () ∧
    (∃ x, (multiplying.fetched 0 run0 (mmaDesc 1)).loadShadow 0 0 ((mmaDesc 1).mma multiplying) = .ok x ∧
    (fun x => !x.arrWaits 0 && !x.sampled 0 false && ((x.core 0).shadow.any (fun h => h.b.length == 1)) && (({ s := x, c := 0 } : Io).readStream ((mmaDesc 1).mma multiplying) { b := (x.core 0).shadow.elim [] (fun h => h.b), cOld := [] }).2.stop.isNone) x = true) ∧
    ((mmaDesc 1).mma multiplying).m ≠ 0 ∧
    ((mmaDesc 1).mma multiplying).n ≠ 0 ∧
    (multiplying.core 0).queued .arr = 0 ∧
    (multiplying.arrAhead 0).any ((mmaDesc 1).mma multiplying).waitsFor = false :=
  ⟨takes_of (by decide +kernel), ok_unit (by decide +kernel), okWith_of (by decide +kernel), by decide +kernel⟩

theorem wit_mma_without_rows :
    (slot .compute (mmaNum 0 0) mmaTens).Takes 0 0x10 run0 (fetched (mmaNum 0 0)) ∧
    ((fetched (mmaNum 0 0)).mma (slot .compute (mmaNum 0 0) mmaTens)).m = 0 :=
  ⟨takes_of (by decide +kernel), by decide +kernel⟩

/-- The same device while two array instructions are at work, and while one waits. -/
def banksFull : State := inPhase multiplying .arr .running 2

def mmaQueued : State := multiplying.modCore 0 (fun x => { x with
  fly := [{ unit := .arr, desc := BitVec.ofNat 512 (mmaNum 1 0), pos := 9, off := 9, phase := .queued }] })

theorem wit_mma_waits :
    mmaQueued.Takes 0 0x10 run0 (mmaDesc 1) ∧
    banksFull.Takes 0 0x10 run0 (mmaDesc 1) ∧
    (∃ x, (banksFull.fetched 0 run0 (mmaDesc 1)).loadShadow 0 0 ((mmaDesc 1).mma banksFull) = .ok x ∧
    (fun x => x.arrWaits 0) x = true) ∧
    0 < (mmaQueued.core 0).queued .arr ∧
    (banksFull.core 0).queued .arr = 0 ∧
    (banksFull.arrAhead 0).any ((mmaDesc 1).mma banksFull).waitsFor = false :=
  ⟨takes_of (by decide +kernel), takes_of (by decide +kernel), okWith_of (by decide +kernel), by decide +kernel⟩

theorem wit_mma_stops :
    ∃ e, ((slot .compute (mmaNum 1 0) [tenNum 0 1 1 1 0, tenNum 64 1 1 1 0, tenNum 8 1 1 1 0]).fetched 0 run0 (mmaDesc 1)).loadShadow 0 0 ((mmaDesc 1).mma (slot .compute (mmaNum 1 0) [tenNum 0 1 1 1 0, tenNum 64 1 1 1 0, tenNum 8 1 1 1 0])) = .error e :=
  stop_of (by decide +kernel)

/-- Core 0 with that MMA computed and not sampled. -/
def computed : State :=
  multiplying.modCore 0 (fun x => { x with
    held := [{ desc := BitVec.ofNat 512 (mmaNum 1 0), off := 64, pos := 0, res := [[(0x40C00000, false)]], fail := none, sampled := false }]
    status := .running, fly := [{ unit := .arr, desc := BitVec.ofNat 512 (mmaNum 1 0), pos := 0, off := 64, phase := .running }] })

theorem wit_mma_completes :
    (computed.core 0).oldest .arr = some { unit := .arr, desc := BitVec.ofNat 512 (mmaNum 1 0), pos := 0, off := 64, phase := .running } ∧
    (computed.core 0).flyAt .arr 0 = (computed.core 0).oldest .arr ∧
    (computed.core 0).held.find? (fun h => h.pos == 0 && !h.sampled) = (computed.core 0).held.head? :=
  by decide +kernel

theorem test_mma_completes :
    nextIs (exec (.descComplete 0 .arr) computed)
      (fun t => decide (Store.get (fun _ => 0) (t.core 0).cst 11 = 0x40 ∧ Store.get (fun _ => 0) (t.core 0).cst 10 = 0xC0 ∧ t.reg (.arr 0) 0x8C = 1 ∧ (t.core 0).fly = [] ∧ (t.core 0).held = [])) = true := by
  decide +kernel

/-- A collective or ring descriptor on tensors 0 and 1, of n and m FP32 numbers in local memory. -/
def colNum (op : Nat) (fs : List (Nat × Nat)) : Nat := descNum op ([(8, 0), (10, 1), (16, 7)] ++ fs)

def colled (op n m : Nat) (fs : List (Nat × Nat)) : State :=
  put (slot .compute (colNum op fs) [ten1 0x10000 n 0 0, ten1 0x20000 m 0 0]) 0x10000 [0, 0, 0x80, 0x3F]

theorem wit_collective :
    (colled 0xA2 1 1 [(12, 3)]).Takes 0 0xA2 run0 (fetched (colNum 0xA2 [(12, 3)])) ∧
    descriptorOf (.allReduce 0) = some (0, 0xA2, []) ∧
    (fetched (colNum 0xA2 [(12, 3)])).collectiveChecks (colled 0xA2 1 1 [(12, 3)]) = true ∧
    colSize 0xA2 (destAxis (colled 0xA2 1 1 [(12, 3)]).own 3) ((colled 0xA2 1 1 [(12, 3)]).ring 3) 1 1 = some 1 ∧
    (colled 0xA2 1 1 [(12, 3)]).col.ops.length < 16 :=
  ⟨takes_of (by decide +kernel), by decide +kernel⟩

/-- Sixteen collectives run. -/
def sixteen : State :=
  { colled 0xA2 1 1 [(12, 3)] with col := { ops := List.replicate 16 { core := 1, pos := 0, op := 0xA2, axis := 3, fold := 0, id := 9, fmt := 0, size := 1, src := 0, dst := 0, need := 1 } } }

theorem wit_collective_waits :
    sixteen.Takes 0 0xA2 run0 (fetched (colNum 0xA2 [(12, 3)])) ∧
    16 ≤ sixteen.col.ops.length :=
  ⟨takes_of (by decide +kernel), by decide +kernel⟩

def ringing (n m : Nat) : State := colled 0xA4 n m []

theorem wit_ring_start_alone :
    (ringing 1 1).Takes 0 0xA4 run0 (fetched (colNum 0xA4 [])) ∧
    (fetched (colNum 0xA4 [])).ringChecks (ringing 1 1) = true ∧
    (ringing 1 1).ring 2 < 2 ∧
    (ringing 1 1).col.ringCount < 8 ∧
    (ringing 1 1).firstUnserved (globalOff 0x10000) 4 = none :=
  ⟨takes_of (by decide +kernel), by decide +kernel⟩

theorem wit_ring_start :
    (hall (ringing 1 2)).Takes 0 0xA4 run0 (fetched (colNum 0xA4 [])) ∧
    (fetched (colNum 0xA4 [])).ringChecks (hall (ringing 1 2)) = true ∧
    (List.range ((hall (ringing 1 2)).ring 2)).all ((hall (ringing 1 2)).ringLink 2) = true ∧
    (hall (ringing 1 2)).ring 2 = 2 :=
  ⟨takes_of (by decide +kernel), by decide +kernel⟩

theorem wit_ring_start_down :
    ((hall (ringing 1 2)).modPort 4 (fun q => { q with nbValid := false })).Takes 0 0xA4 run0 (fetched (colNum 0xA4 [])) ∧
    (List.range 2).all (((hall (ringing 1 2)).modPort 4 (fun q => { q with nbValid := false })).ringLink 2) = false :=
  ⟨takes_of (by decide +kernel), by decide +kernel⟩

/-- Eight ring operations run. -/
def eight : State :=
  { ringing 1 1 with col := { rings := (List.range 8).map (fun k => { core := 1, pos := 0, id := BitVec.ofNat 32 (k + 9), dst := 0, bytes := 4, got := [0] }) } }

theorem wit_ring_start_waits :
    eight.Takes 0 0xA4 run0 (fetched (colNum 0xA4 [])) ∧
    8 ≤ eight.col.ringCount :=
  ⟨takes_of (by decide +kernel), by decide +kernel⟩

/-- RING_WAIT for slot 1 of ring operation 7. -/
def waitNum : Nat := descNum 0xA5 [(12, 1), (16, 7)]

def ringWaiting : State := hall (slot .compute waitNum [ten1 0x20000 2 0 0])

theorem wit_ring_wait :
    ringWaiting.Takes 0 0xA5 run0 (fetched waitNum) ∧
    (fetched waitNum).headerOk = true ∧
    (fetched waitNum).ctxOk = true ∧
    (fetched waitNum).restZero [10, 11, 12, 16, 17, 18, 19] = true ∧
    ringWaiting.tensorOk ((fetched waitNum).num 10 2) = true ∧
    ringWaiting.ringRule (ringWaiting.tensor 0) = true ∧
    (fetched waitNum).byte 12 < ringWaiting.ring 2 :=
  ⟨takes_of (by decide +kernel), by decide +kernel⟩

/-- A request for four bytes at local offset 0x40 of this device, from device 1 of axis D. -/
def reqFu (type : Nat) (fmt : Nat) (data : List Byte) : Fu := sealed (opFu type 0 5 0 { addr := 0x40, src := 1, dlen := 4, fmt := fmt } data)

/-- The receiving device. -/
def target : State := weighed (put base 0x40 [0, 0, 0x80, 0x3F]) []

theorem wit_request_read :
    target.arrive 6 (reqFu 0x10 0 []) false = (some (reqFu 0x10 0 []), after target 6 (reqFu 0x10 0 [])) ∧
    hdrOk (reqFu 0x10 0 []) = true ∧
    (reqFu 0x10 0 []).dest.toNat = (after target 6 (reqFu 0x10 0 [])).own :=
  ⟨arrives_of (by decide +kernel), by decide +kernel⟩

theorem wit_request_add :
    target.arrive 6 (reqFu 0x12 0 [0, 0, 128, 63]) false = (some (reqFu 0x12 0 [0, 0, 128, 63]), after target 6 (reqFu 0x12 0 [0, 0, 128, 63])) ∧
    hdrOk (reqFu 0x12 0 [0, 0, 128, 63]) = true ∧
    (after target 6 (reqFu 0x12 0 [0, 0, 128, 63])).hitsImage 0x40 4 = false ∧
    (after target 6 (reqFu 0x12 0 [0, 0, 128, 63])).firstUnserved 0x40 4 = none :=
  ⟨arrives_of (by decide +kernel), by decide +kernel⟩

theorem wit_request_hits_image :
    (after { target with job := { st := .running, prot := some (0, 4096) } } 6 (reqFu 0x11 0 [1])).hitsImage 0x40 4 = true :=
  by decide +kernel

theorem wit_request_unserved :
    (after (target.modStack 0 (fun x => { x with trained := false })) 6 (reqFu 0x11 0 [1])).firstUnserved 0x40 4 ≠ none :=
  by decide +kernel

def gatherReq (v : Nat) (at_ : Nat) : Fu := sealed (opFu 0x15 0 5 0 { addr := at_, src := 1, dlen := 4, weight := 9, version := v } [])

/-- The same with a job loaded. -/
def gatherer : State := { target with job := { st := .loaded } }

theorem wit_request_gather :
    gatherer.arrive 6 (gatherReq 0xFFFF 4) false = (some (gatherReq 0xFFFF 4), after gatherer 6 (gatherReq 0xFFFF 4)) ∧
    hdrOk (gatherReq 0xFFFF 4) = true ∧
    (after gatherer 6 (gatherReq 0xFFFF 4)).weight? 9 = some (weight9 []) ∧
    (fuHdr (gatherReq 0xFFFF 4)).addr + 4 ≤ (weight9 []).len ∧
    (weight9 []).resolve 0xFFFF = some 0 ∧
    (weight9 []).resolve 0xFFFE = none ∧
    (after gatherer 6 (gatherReq 0xFFFF 4)).firstUnserved ((weight9 []).storage 0 + 4) 4 = none :=
  ⟨arrives_of (by decide +kernel), by decide +kernel⟩

/-- A response to request 3 from device 1. -/
def respFu (type op : Nat) (data : List Byte) : Fu := sealed (opFu type 0 3 0 { addr := 0x40, src := 1, op := op, dlen := data.length } data)

/-- A device with request 3 outstanding. -/
def asking (read dead : Bool) (w : ReqOwner) : State :=
  { target with trackers := [{ id := 9, tag := 3, sent := true, owner := w, dest := 1, addr := globalOff 0x40, len := 4, read := read, dead := dead, fu := respFu 0x10 0 [] }] }

theorem wit_response_none :
    target.arrive 6 (respFu 0x19 0 []) false = (some (respFu 0x19 0 []), after target 6 (respFu 0x19 0 [])) ∧
    (respFu 0x19 0 []).dest.toNat = (after target 6 (respFu 0x19 0 [])).own ∧
    (after target 6 (respFu 0x19 0 [])).trackerOf (respFu 0x19 0 []).tag.toNat = none :=
  ⟨arrives_of (by decide +kernel), by decide +kernel⟩

theorem wit_response_data :
    (asking true false .restore).arrive 6 (respFu 0x18 0 [1, 2, 3, 4]) false = (some (respFu 0x18 0 [1, 2, 3, 4]), after (asking true false .restore) 6 (respFu 0x18 0 [1, 2, 3, 4])) ∧
    ((after (asking true false .restore) 6 (respFu 0x18 0 [1, 2, 3, 4])).trackerOf 3).map (fun x => (x.dead, x.read)) = some (false, true) :=
  ⟨arrives_of (by decide +kernel), by decide +kernel⟩

theorem wit_response_ack :
    (asking false false .drain).arrive 6 (respFu 0x19 0 []) false = (some (respFu 0x19 0 []), after (asking false false .drain) 6 (respFu 0x19 0 [])) ∧
    ((after (asking false false .drain) 6 (respFu 0x19 0 [])).trackerOf 3).map (fun x => (x.dead, x.read)) = some (false, false) :=
  ⟨arrives_of (by decide +kernel), by decide +kernel⟩

theorem wit_response_error :
    (asking true false .restore).arrive 6 (respFu 0x1A 1 []) false = (some (respFu 0x1A 1 []), after (asking true false .restore) 6 (respFu 0x1A 1 [])) ∧
    ((after (asking true false .restore) 6 (respFu 0x1A 1 [])).trackerOf 3).map (·.dead) = some false :=
  ⟨arrives_of (by decide +kernel), by decide +kernel⟩

theorem wit_response_dead :
    (asking true true .restore).arrive 6 (respFu 0x18 0 [1, 2, 3, 4]) false = (some (respFu 0x18 0 [1, 2, 3, 4]), after (asking true true .restore) 6 (respFu 0x18 0 [1, 2, 3, 4])) ∧
    ((after (asking true true .restore) 6 (respFu 0x18 0 [1, 2, 3, 4])).trackerOf 3).map (·.dead) = some true :=
  ⟨arrives_of (by decide +kernel), by decide +kernel⟩

/-- A flow unit of each kind for device 1. -/
def onward (type : Nat) : Fu := sealed (opFu type 1 3 0 { addr := 0x40, src := 2, dlen := 4 } [1, 2, 3, 4])

theorem wit_response_onward :
    target.arrive 6 (onward 0x18) false = (some (onward 0x18), after target 6 (onward 0x18)) ∧
    (onward 0x18).dest.toNat ≠ (after target 6 (onward 0x18)).own :=
  ⟨arrives_of (by decide +kernel), by decide +kernel⟩

theorem wit_request_onward :
    target.arrive 6 (onward 0x11) false = (some (onward 0x11), after target 6 (onward 0x11)) ∧
    (onward 0x11).dest.toNat ≠ (after target 6 (onward 0x11)).own :=
  ⟨arrives_of (by decide +kernel), by decide +kernel⟩

theorem wit_resp_timeout :
    ((asking true false .restore).trackerOf 3).map (fun x => (x.dead, timesOut x.owner)) = some (false, true) ∧
    (asking true false .restore).trackerOf 4 = none :=
  by decide +kernel

theorem test_resp_timeout :
    nextIs (exec (.respTimeout 3) (asking true false .restore))
      (fun t => decide (t.flag .frt 0x10 11 = true ∧ t.trackers.map (·.dead) = [true])) = true := by
  decide +kernel

/-- A segment of collective 7 and a block of ring operation 7. -/
def segFu : Fu := sealed (opFu 0x20 0 0 0 { addr := 0, src := 1, dlen := 4, fmt := 0, opId := 7 } [0, 0, 128, 63])
def blockFu : Fu := sealed (opFu 0x21 0 0 0 { addr := 0, src := 1, dlen := 4, opId := 7, hop := 1 } [0, 0, 128, 63])

/-- A device in collective 7 and ring operation 7. -/
def meeting : State :=
  { hall (colled 0xA2 1 1 [(12, 3)]) with col := {
      ops := [{ core := 0, pos := 0, op := 0xA2, axis := 3, fold := 0, id := 7, fmt := 0, size := 1, src := 0x10000, dst := 0x20000, need := 2 }]
      rings := [{ core := 0, pos := 0, id := 7, dst := 0x20000, bytes := 4, got := [4, 0] }] } }

theorem wit_segment_staged :
    target.arrive 6 (segFu) false = (some (segFu), after target 6 (segFu)) ∧
    target.arrive 6 (blockFu) false = (some (blockFu), after target 6 (blockFu)) ∧
    segFu.dest.toNat = (after target 6 segFu).own ∧
    blockFu.dest.toNat = (after target 6 blockFu).own ∧
    (after target 6 segFu).colOp 7 = none ∧
    (after target 6 blockFu).ringOp 7 = none ∧
    (fuHdr segFu).opId = 7 ∧
    (fuHdr blockFu).opId = 7 :=
  ⟨arrives_of (by decide +kernel), arrives_of (by decide +kernel), by decide +kernel⟩

theorem wit_segment_taken :
    meeting.arrive 6 (segFu) false = (some (segFu), after meeting 6 (segFu)) ∧
    meeting.arrive 6 (blockFu) false = (some (blockFu), after meeting 6 (blockFu)) ∧
    ((after meeting 6 segFu).colOp 7).isSome = true ∧
    ((after meeting 6 blockFu).ringOp 7).isSome = true :=
  ⟨arrives_of (by decide +kernel), arrives_of (by decide +kernel), by decide +kernel⟩

def bare : State := base

/-- A flow unit whose CRC is wrong. -/
def torn : Fu := { respFu 0x19 0 [] with crc := 0 }

theorem wit_receiver_crc :
    (bare.port 6).st = .up ∧
    (bare.port 6).parity = false ∧
    ((bare.modPort 6 (fun q => { q with parity := true })).port 6).parity = true :=
  by decide +kernel

theorem wit_receiver_control :
    fuCrcOk (sealed (ctlFu 0 [])) = true ∧
    (bare.takeTrailer 6 (sealed (ctlFu 0 []))).1 = true ∧
    fuMalformed (sealed { ctlFu 0 [] with rsvd := 1 }) = true ∧
    fuMalformed (sealed (ctlFu 0 [])) = false ∧
    fuMalformed (sealed (ctlFu 1 [0, 0])) = false ∧
    ((bare.port 6).exp + 4096 - fuNum (sealed (ctlFu 1 [0, 0])) 0 2 % 4096) % 4096 < 2048 :=
  ⟨sealed_ok _, by decide +kernel⟩

theorem wit_receiver_sequenced :
    fuCrcOk (respFu 0x19 0 []) = true ∧
    (bare.takeTrailer 6 (respFu 0x19 0 [])).1 = true ∧
    fuMalformed (respFu 0x19 0 []) = false ∧
    5 ≤ (respFu 0x19 0 []).type.toNat ∧
    (bare.port 6).discard = false ∧
    (bare.port 6).full 1 = false ∧
    (bare.port 6).cnt = (bare.port 6).exp ∧
    ((bare.modPort 6 (fun q => { q with cnt := 4095 })).port 6).cnt = 4095 :=
  ⟨sealed_ok _, by decide +kernel⟩

theorem wit_receiver_fec :
    fuCrcOk (respFu 0x19 0 []) = true ∧
    ((bare.modPort 6 (fun q => { q with fec := true })).port 6).fec = true ∧
    (bare.port 6).fec = false :=
  ⟨sealed_ok _, by decide +kernel⟩

/-- A device whose fabric runs and whose port 6 is as given. -/
def portAs (q : Port) : State :=
  { base.setFlag (.fab 6) 0x80 0 true with tim := { fabclk := true }, ports := [(6, q)] }

def lanes16 : TrainAttempt := { lanes := 0xFFFF, bistOk := true, peerFecOk := true }

def lanes15 : TrainAttempt := { lanes := 0x7FFF, bistOk := true, peerFecOk := true }

theorem wit_port_attempt :
    ((portAs { cause := 2 }).port 6).st = .down ∧
    ((portAs { cause := 2 }).port 6).cause < 3 ∧
    (portAs { cause := 2 }).linkEn 6 = true ∧
    (portAs { cause := 2 }).fabricOn = true :=
  by decide +kernel

theorem wit_port_retry :
    ((portAs { cause := 7 }).port 6).cause = 7 ∧
    ((portAs { cause := 3 }).port 6).cause = 3 :=
  by decide +kernel

def trained (seen got sent : Bool) : State := portAs { st := .training, locked := true, seen := seen, gotSeen := got, sentSeen := sent }

theorem wit_port_training :
    ((trained true true false).port 6).st = .training ∧
    ((trained true true false).port 6).locked = true ∧
    ((trained true true false).port 6).seen = true ∧
    ((trained true true false).port 6).gotSeen = true :=
  by decide +kernel

theorem test_port_training :
    nextIs (exec (.trainingTimeout 6) (trained true true false))
      (fun t => decide ((t.port 6).st = .down ∧ (t.port 6).cause = 7)) = true := by
  decide +kernel

theorem wit_port_training_unseen :
    ((trained true false false).port 6).gotSeen = false ∧
    ((trained true false false).port 6).sentSeen = false ∧
    ((trained false false false).port 6).seen = false :=
  by decide +kernel

/-- An INIT of this wire version whose SEEN is set. -/
def initFu : Fu := sealed (ctlFu 2 [1, 1, 0, 0])

theorem wit_port_init :
    fuCrcOk initFu = true ∧
    (trained true false true).trackers = [] ∧
    (trained true false true).frt.errs = [] ∧
    ((trained true false true).port 6).sentSeen = true ∧
    initFu.type = 2 ∧
    fuMalformed initFu = false ∧
    fuNum initFu 0 1 = 1 ∧
    fuNum initFu 1 1 % 2 = 1 :=
  ⟨sealed_ok _, by decide +kernel⟩

theorem wit_port_retrains : ((portAs { st := .up, buf := [torn], exp := 5 }).port 6).st = .up := by decide +kernel

theorem wit_port_retraining :
    ((portAs { st := .retrain, fails := 1 }).port 6).st = .retrain ∧
    (((portAs { st := .retrain, fails := 1 }).port 6).fails + 1 < 3 ∧
    ¬ ((portAs { st := .retrain, fails := 2 }).port 6).fails + 1 < 3) :=
  by decide +kernel

theorem test_port_retraining :
    nextIs (exec (.retrainComplete 6) (portAs { st := .retrain, fails := 1 }))
      (fun t => decide ((t.port 6).st = .up ∧ (t.port 6).afterRetrain = true)) = true := by
  decide +kernel

theorem wit_port_replays :
    ((portAs { st := .up, buf := [torn], expiries := 6 }).port 6).parity = false ∧
    ((portAs { st := .up, buf := [torn], expiries := 6 }).port 6).buf ≠ [] ∧
    ((portAs { st := .up, buf := [torn], expiries := 6 }).port 6).expiries + 1 < 8 :=
  by decide +kernel

theorem wit_port_parity : ((portAs { st := .up, parity := true }).port 6).parity = true := by decide +kernel

theorem wit_port_control :
    (portAs { st := .up }).reaches r0 (.fab 6) ∧
    (portAs { st := .up }).isOwner r0 = true ∧
    (portAs { st := .up }).flag (.fab 6) 0x80 1 = false ∧
    ((portAs { st := .disabled }).setFlag (.fab 6) 0x80 0 false).linkEn 6 = false ∧
    (((portAs { st := .disabled }).setFlag (.fab 6) 0x80 0 false).port 6).st = .disabled ∧
    ((portAs { st := .up }).port 6).st ≠ .disabled :=
  ⟨reaches_of (by decide +kernel), by decide +kernel⟩

theorem test_port_control :
    nextIs (exec (.fabRetrain r0 6) (portAs { st := .up }))
      (fun t => decide ((t.port 6).st = .retrain)) = true := by
  decide +kernel

/-- TIME_STAMP and DELAY_REPORT of a peer. -/
def stampFu : Fu := sealed (ctlFu 3 (leBytes 1000 8 ++ [0, 0, 2, 0] ++ leBytes 5 8))

def delayFu : Fu := sealed (ctlFu 5 ([1, 0, 0, 0] ++ leBytes 2000 8 ++ leBytes 2100 8 ++ [0, 0]))

def stamped : State := base.modPort 6 (fun q => { q with stamps := [(1000 * 65536, 2000 * 65536)] })

theorem wit_stamp :
    base.arrive 6 (stampFu) false = (some (stampFu), afterCtl base 6 (stampFu)) ∧
    stamped.arrive 6 (delayFu) false = (some (delayFu), after stamped 6 (delayFu)) ∧
    (afterCtl base 6 stampFu).trackers = [] ∧
    (afterCtl base 6 stampFu).frt.errs = [] ∧
    stampFu.type = 3 ∧
    delayFu.type = 5 ∧
    fuNum delayFu 0 1 = 1 ∧
    nearestStamp (time16 (fuNum delayFu 4 8) (fuNum delayFu 2 2)) ((after stamped 6 delayFu).port 6).stamps = some (1000 * 65536, 2000 * 65536) :=
  ⟨arrivesCtl_of (by decide +kernel), arrives_of (by decide +kernel), by decide +kernel⟩

/-- A HELLO of the neighbour on port 6, and one that names another port. -/
def helloFu (port : Nat) : Fu :=
  sealed (ctlFu 5 ([0, BitVec.ofNat 8 port, 0, 0] ++ leBytes 0x00000001 4 ++ leBytes 1 4 ++ leBytes 0x9216 4))

def ring2 : State := { base.setReg .frt 0x80 1 with ports := [(6, { st := .up })] }

theorem wit_hello :
    ring2.arrive 6 (helloFu 7) false = (some (helloFu 7), after ring2 6 (helloFu 7)) ∧
    ring2.arrive 6 (helloFu 6) false = (some (helloFu 6), after ring2 6 (helloFu 6)) ∧
    fuNum (helloFu 7) 0 1 = 0 ∧
    fuNum (helloFu 6) 0 1 = 0 ∧
    (after ring2 6 (helloFu 7)).helloOk 6 (helloFu 7) = true ∧
    (after ring2 6 (helloFu 6)).helloOk 6 (helloFu 6) = false :=
  ⟨arrives_of (by decide +kernel), arrives_of (by decide +kernel), by decide +kernel⟩

/-- A RING_STATE of device 1 on axis D. -/
def ringStateFu : Fu := sealed (ctlFu 5 ([2, 3, 1, 3] ++ leBytes 77 4))

theorem wit_ring_state :
    ring2.arrive 6 (ringStateFu) false = (some (ringStateFu), after ring2 6 (ringStateFu)) ∧
    fuNum ringStateFu 0 1 = 2 ∧
    fuNum ringStateFu 1 1 = 3 ∧
    fuNum ringStateFu 2 1 < (after ring2 6 ringStateFu).ring 3 ∧
    fuNum ringStateFu 2 1 ≠ destAxis (after ring2 6 ringStateFu).own 3 ∧
    (after ring2 6 ringStateFu).ringRec 3 (fuNum ringStateFu 2 1) = none :=
  ⟨arrives_of (by decide +kernel), by decide +kernel⟩

def bcastFu : Fu := sealed (ctlFu 4 (leBytes 1 4 ++ [7, 0, 0, 0] ++ leBytes 9 8))

theorem wit_halt_bcast :
    base.arrive 6 (bcastFu) false = (some (bcastFu), afterCtl base 6 (bcastFu)) ∧
    bcastFu.type = 4 ∧
    (afterCtl base 6 bcastFu).frt.seen.contains (BitVec.ofNat 32 (fuNum bcastFu 0 4), BitVec.ofNat 64 (fuNum bcastFu 8 8)) = false :=
  ⟨arrivesCtl_of (by decide +kernel), by decide +kernel⟩

theorem wit_timers : (base.port 0).st = .up := by decide +kernel

/-- A snapshot whose agents are as given. -/
def copyOf (todo : List DieId) (bad : Option Nat) : Copying := { tick := 9, slotB := true, todo := todo, sha := [], lens := [], poison := bad }

def snapping (todo : List DieId) (bad : Option Nat) (w : Bool) : State :=
  { base with geo := { enabled := true, copying := some (copyOf todo bad), writing := w } }

theorem wit_snapshot_agent :
    (copyOf [2, 3] none).todo.contains 2 = true ∧
    (snapping [2, 3] none false).geo.writing = false ∧
    (snapping [2, 3] none false).tim.window = false ∧
    ((snapping [2, 3] none false).die 2).up = true ∧
    (snapping [2, 3] none false).anyLost = false ∧
    (snapping [2, 3] none false).geo.copying = some (copyOf [2, 3] none) :=
  by decide +kernel

theorem test_snapshot_agent :
    nextIs (exec (.copyAgentDone 2) (snapping [2, 3] none false))
      (fun t => decide (t.geo.copying.map (·.todo) = some [3] ∧ t.geo.copying.map (fun c => c.sha.map (·.1)) = some [2])) = true := by
  decide +kernel

theorem wit_snapshot_window :
    (copyOf [2] none).dieDown = false ∧
    (copyOf [2] none).todo ≠ [] ∧
    (copyOf [] (some 64)).todo = [] ∧
    (copyOf [] (some 64)).poison = some 64 ∧
    (snapping [] none true).geo.writing = true ∧
    (snapping [] none true).geo.points.length = 4 :=
  by decide +kernel

/-- A GEO_HELLO on a port that names a buddy port. -/
def geoFu (port : Nat) : Fu :=
  sealed (ctlFu 5 ([3, BitVec.ofNat 8 port, 1, 5] ++ leBytes 1 4 ++ leBytes 0x100000 8 ++ leBytes 0x200000 8 ++ leBytes 0x80000 8))

theorem wit_geo_hello :
    base.arrive 6 (geoFu 6) false = (some (geoFu 6), after base 6 (geoFu 6)) ∧
    base.arrive 7 (geoFu 7) false = (some (geoFu 7), after base 7 (geoFu 7)) ∧
    base.arrive 0 (geoFu 6) false = (some (geoFu 6), after base 0 (geoFu 6)) ∧
    (after base 6 (geoFu 6)).trackers = [] ∧
    (geoFu 6).type = 5 ∧
    fuNum (geoFu 6) 0 1 = 3 ∧
    fuNum (geoFu 6) 1 1 = 6 ∧
    (after base 6 (geoFu 6)).buddyPort = 6 ∧
    oppositePort (after base 7 (geoFu 7)).buddyPort = 7 ∧
    fuNum (geoFu 7) 1 1 ≠ (after base 7 (geoFu 7)).buddyPort.val ∧
    (after base 7 (geoFu 7)).geo.mismatch.contains 7 = false ∧
    (after (base.setReg .glb 0x98 5) 6 (geoFu 6)).sameFeed = false ∧
    fuNum (geoFu 6) 3 1 = (after (base.setReg .glb 0x98 5) 6 (geoFu 6)).feed ∧
    (after (base.setReg .glb 0x98 5) 6 (geoFu 6)).geo.same.contains 6 = false ∧
    oppositePort (after base 0 (geoFu 6)).buddyPort ≠ 0 ∧
    (after base 0 (geoFu 6)).buddyPort ≠ 0 ∧
    ({ base with geo := { base.geo with mismatch := [6] } }).drainBarred 6 = true :=
  ⟨arrives_of (by decide +kernel), arrives_of (by decide +kernel), arrives_of (by decide +kernel), by decide +kernel⟩

theorem wit_geo_timer : (snapping [] none false).geo.enabled = true ∧ base.geo.enabled = false := by decide +kernel

theorem test_crc32c : crc32c [0x31, 0x32, 0x33, 0x34, 0x35, 0x36, 0x37, 0x38, 0x39] = 0xE3069283 := by
  rw [← BitVec.toNat_inj, crcNat_eq]
  decide +kernel

/-- The cells of a record of STEP 3 and SNAP_TICK 9 in each area, the digests and lengths zero (R373). -/
def recCells : List Host.Cell :=
  [(262144, 71), (262145, 69), (262146, 79), (262147, 67), (262148, 1), (262149, 1), (262152, 3), (262160, 9),
   (262652, 4), (262653, 203), (262654, 235), (262655, 203)] ++
  [(274878169088, 71), (274878169089, 69), (274878169090, 79), (274878169091, 67), (274878169092, 1),
   (274878169093, 1), (274878169094, 1), (274878169096, 3), (274878169104, 9), (274878169596, 216),
   (274878169597, 206), (274878169598, 227), (274878169599, 139)] ++
  [(549756076032, 71), (549756076033, 69), (549756076034, 79), (549756076035, 67), (549756076036, 1),
   (549756076037, 1), (549756076038, 2), (549756076040, 3), (549756076048, 9), (549756076540, 188),
   (549756076541, 192), (549756076542, 251), (549756076543, 75)] ++
  [(824633982976, 71), (824633982977, 69), (824633982978, 79), (824633982979, 67), (824633982980, 1),
   (824633982981, 1), (824633982982, 3), (824633982984, 3), (824633982992, 9), (824633983484, 96),
   (824633983485, 197), (824633983486, 243), (824633983487, 11)]

def pointA : Point := { valid := true, step := 3, tick := 9 }

/-- A Geode area whose local point A is committed with its record in every area. -/
def geod (g : Geo) (j : JobState) : State :=
  { base with
    hbm := recCells
    job := { st := j }
    geo := { g with enabled := true, base := 0x100000, len := 0x200000, slotLen := 0x80000, digest := List.replicate 32 0
                    points := [pointA, {}, {}, {}] } }

def buddyOf : Buddy :=
  { port := 6, axis := 6, region := true, mode := 0, feed := 7, coord := 1, base := 0x100000, len := 0x200000, slotLen := 0x80000 }

/-- The same with the buddy known and its port usable, and a drain in a state. -/
def friends (st : DrainState) (w : Option (Bool × PortId × BitVec 64 × BitVec 64)) : State :=
  (geod { hello := some buddyOf, drain := { st := st }, inDrain := w } .loaded).modPort 6 (fun q => { q with nbValid := true })

theorem wit_drain_start :
    (friends .idle none).trackers = [] ∧
    (friends .idle none).frt.errs = [] ∧
    (friends .idle none).pwr.st ≠ .retain ∧
    (friends .idle none).geo.enabled = true ∧
    (friends .idle none).job.st.drains = true ∧
    (friends .idle none).newestLocal = some false ∧
    (friends .idle none).geo.drain.last = none ∧
    (friends .idle none).geo.drain.st = .idle ∧
    (friends .waiting none).geo.drain.st = .waiting ∧
    (friends .idle none).buddyUsable = true ∧
    (geod {} .loaded).buddyUsable = false :=
  by decide +kernel

theorem wit_drain_timeout : (friends .opening none).geo.drain.st = .opening := by decide +kernel

theorem test_drain_timeout :
    nextIs (exec .drainGrantTimeout (friends .opening none))
      (fun t => decide (t.geo.drain.st = .waiting ∧ t.geo.drain.result = 5 ∧ t.flag .geo 0x10 13 = true)) = true := by
  decide +kernel

/-- A message of the drain protocol. -/
def drainFu (kind : Nat) (l : List Byte) : Fu := sealed (ctlFu 5 (BitVec.ofNat 8 kind :: l))

def grantFu : Fu := drainFu 5 [0, 0, 0, 1, 0, 0, 0]

def refuseFu : Fu := drainFu 5 [2, 0, 0, 1, 0, 0, 0]

def abortFu : Fu := drainFu 7 [1, 0, 0, 1, 0, 0, 0]

theorem wit_drain_grant :
    (friends .opening none).arrive 6 (grantFu) false = (some (grantFu), after (friends .opening none) 6 (grantFu)) ∧
    (friends .opening none).arrive 6 (refuseFu) false = (some (refuseFu), after (friends .opening none) 6 (refuseFu)) ∧
    (after (friends .opening none) 6 grantFu).trackers = [] ∧
    (after (friends .opening none) 6 grantFu).frt.errs = [] ∧
    grantFu.type = 5 ∧
    fuNum grantFu 0 1 = 5 ∧
    fuNum grantFu 1 1 = 0 ∧
    fuNum refuseFu 1 1 ≠ 0 ∧
    (after (friends .opening none) 6 grantFu).buddyPort = 6 ∧
    (after (friends .opening none) 6 grantFu).geo.drain.st = .opening :=
  ⟨arrives_of (by decide +kernel), arrives_of (by decide +kernel), by decide +kernel⟩

theorem wit_drain_abort :
    (friends .draining none).arrive 6 (abortFu) false = (some (abortFu), after (friends .draining none) 6 (abortFu)) ∧
    (friends .draining none).arrive 7 (abortFu) false = (some (abortFu), after (friends .draining none) 7 (abortFu)) ∧
    fuNum abortFu 0 1 = 7 ∧
    (after (friends .draining none) 6 abortFu).geo.drain.st = .draining ∧
    oppositePort (after (friends .draining none) 7 abortFu).buddyPort = 7 :=
  ⟨arrives_of (by decide +kernel), arrives_of (by decide +kernel), by decide +kernel⟩

def openFu (len : Nat) : Fu := drainFu 4 ([0, 0, 0, 1, 0, 0, 0] ++ leBytes 4 8 ++ leBytes 12 8 ++ (List.replicate 4 len).flatMap (fun n => leBytes n 8))

theorem wit_drain_open :
    (friends .idle none).arrive 7 (openFu 64) false = (some (openFu 64), after (friends .idle none) 7 (openFu 64)) ∧
    (after (friends .idle none) 7 (openFu 64)).geo.mismatch.contains 7 = false ∧
    fuNum (openFu 64) 0 1 = 4 ∧
    (∀ n, n < 4 → fuNum (openFu 64) (24 + 8 * n) 8 ≤ (after (friends .idle none) 7 (openFu 64)).geo.slotLen) ∧
    (¬ ∀ n, n < 4 → fuNum (openFu 0x90000) (24 + 8 * n) 8 ≤ (after (friends .idle none) 7 (openFu 0x90000)).geo.slotLen) ∧
    ((after ((friends .idle none).setReg .glb 0x98 5) 7 (openFu 64)).port 7).nbFeed.toNat ≠ (after ((friends .idle none).setReg .glb 0x98 5) 7 (openFu 64)).feed ∧
    (after (friends .idle none) 7 (openFu 64)).feedWarn = false ∧
    ((after (friends .idle none) 7 (openFu 64)).port 7).nbFeed.toNat = (after (friends .idle none) 7 (openFu 64)).feed ∧
    (after base 7 (openFu 64)).geo.enabled = false ∧
    (after (friends .idle none) 7 (openFu 64)).geo.inRead.contains (2 + bit false) = false ∧
    (after (geod { inRead := [2] } .loaded) 7 (openFu 64)).geo.inRead.contains (2 + bit false) = true ∧
    (after (geod { inRead := [2] } .loaded) 7 (openFu 64)).geo.enabled = true ∧
    (∀ n, n < 4 → fuNum (openFu 64) (24 + 8 * n) 8 ≤ (after (geod { inRead := [2] } .loaded) 7 (openFu 64)).geo.slotLen) :=
  ⟨arrives_of (by decide +kernel), by decide +kernel⟩

def doneFu : Fu := drainFu 6 ([0, 0, 0, 1, 0, 0, 0] ++ leBytes 4 8 ++ leBytes 12 8)

theorem wit_drain_done :
    (friends .idle (some (true, 7, 4, 12))).arrive 7 (doneFu) false = (some (doneFu), after (friends .idle (some (true, 7, 4, 12))) 7 (doneFu)) ∧
    fuNum doneFu 0 1 = 6 ∧
    fuNum doneFu 8 8 = 4 ∧
    fuNum doneFu 16 8 = 12 ∧
    (after (friends .idle (some (true, 7, 4, 12))) 7 doneFu).geo.inDrain = some (true, 7, 4, 12) ∧
    (after (friends .idle (some (true, 7, 4, 12))) 7 doneFu).anyLost = false ∧
    (after (friends .idle (some (true, 7, 4, 12))) 7 doneFu).geo.points.length = 4 :=
  ⟨arrives_of (by decide +kernel), by decide +kernel⟩

/-- A device whose host memory window for files is long enough. -/
def filing (h : HostDrain) (j : JobState) : State := (geod { host := h } j).setReg64 .geo 0xD0 0x100000

theorem wit_host_drain :
    (filing {} .halted).reaches r0 .geo ∧
    (filing {} .halted).isOwner r0 = true ∧
    (filing {} .halted).geo.host.st ≠ 1 ∧
    (filing {} .halted).geo.host.st ≠ 2 ∧
    (filing {} .halted).pwr.st ≠ .retain ∧
    (filing {} .halted).job.st.drains = true ∧
    (filing {} .halted).newestLocal = some false ∧
    ((((filing {} .halted).copies 0).getD 0 []).drop 64).take 32 = (filing {} .halted).geo.digest ∧
    (filing {} .halted).fileLen false ≤ (filing {} .halted).reg64 .geo 0xD0 ∧
    (filing {} .halted).portsSend 1 = true ∧
    ({ base with job := { st := .halted } }).newestLocal = none ∧
    (geod {} .halted).reg64 .geo 0xD0 < (geod {} .halted).fileLen false :=
  ⟨reaches_of (by decide +kernel), by decide +kernel⟩

theorem wit_host_durable : (filing {} .running).job.st.active = true := by decide +kernel

theorem wit_host_refused :
    base.job.st.drains = false ∧
    base.job.st.active = false ∧
    (filing { st := 2 } .running).geo.host.st = 2 :=
  by decide +kernel

theorem test_host_refused :
    nextIs (exec (.hostDrain r0 1) base)
      (fun t => decide (t.geo.host = base.geo.host ∧ t.flag .geo 0x10 0 = true)) = true := by
  decide +kernel

def durDue : State := { filing { st := 1, durable := true, ports := 1 } .running with geo := { (filing { st := 1, durable := true, ports := 1 } .running).geo with durDue := true } }

theorem wit_host_commits :
    durDue.geo.durDue = true ∧
    durDue.geo.host.st = 1 ∧
    durDue.pwr.st ≠ .retain ∧
    durDue.newestLocal = some false ∧
    (((durDue.copies 0).getD 0 []).drop 64).take 32 = durDue.geo.digest ∧
    durDue.fileLen true ≤ durDue.reg64 .geo 0xD0 ∧
    durDue.portsSend 1 = true :=
  by decide +kernel

def reading : State := filing { st := 2, reading := true, ports := 1, point := pointA } .halted

theorem wit_host_done :
    reading.geo.host.st = 2 ∧
    reading.geo.host.reading = true ∧
    reading.pwr.st ≠ .retain ∧
    reading.field .geo 0xA0 31 16 ≠ 0 ∧
    reading.portsSend 1 = true ∧
    ({ reading with hosts := [] }).portsSend 1 = false :=
  by decide +kernel

theorem wit_restore_refused :
    (geod {} .halted).job.st ≠ .loaded ∧
    (geod { restore := { busy := true } } .loaded).geo.restore.busy = true :=
  by decide +kernel

theorem test_restore_refused :
    nextIs (exec (.restore r0 0) (geod {} .halted))
      (fun t => decide (t.geo = (geod {} .halted).geo ∧ t.flag .geo 0x10 0 = true)) = true := by
  decide +kernel

theorem wit_restore_fails :
    (geod {} .loaded).recordCheck ((geod {} .loaded).copies 1) = some 1 ∧
    (geod {} .loaded).job.st = .loaded ∧
    (geod {} .loaded).geo.restore.busy = false ∧
    (geod {} .loaded).anyLost = false ∧
    (geod {} .loaded).copiesBad 1 = false :=
  ⟨(by simp only [State.recordCheck, copiesCommitted, recordValid, crcNat_eq]; decide +kernel), by decide +kernel⟩

/-- The record of die n, as bytes. -/
def recOf (n : Nat) (crc : List Nat) : List Byte :=
  [0x47, 0x45, 0x4F, 0x43, 1, 1, BitVec.ofNat 8 n, 0, 3, 0, 0, 0, 0, 0, 0, 0, 9] ++ List.replicate 491 0 ++ crc.map (BitVec.ofNat 8)

theorem geod_stacks : (∀ t : StackId, ((geod {} .loaded).stack t).lost = 0) ∧ (geod {} .loaded).interleave = 0 := by
  decide +kernel

def look : Store Byte → Nat → Byte
  | [], _ => 0
  | (k, v) :: m, n => bif Nat.beq n k then v else look m n

theorem look_eq (m : Store Byte) (n : Nat) : Store.get (fun _ => 0) m n = look m n := by
  induction m with
  | nil => rfl
  | cons e m ih =>
    simp only [Store.get, look, ih]
    by_cases h : n = e.1
    · simp [h]
    · simp [h, show Nat.beq n e.1 = false from Bool.eq_false_iff.mpr (fun x => h (Nat.eq_of_beq_eq_true x))]

theorem geod_byte (off : Nat) : (geod {} .loaded).byte off = force (physical 0 off) (look recCells) := by
  have h : ∀ b, (geod {} .loaded).isLost b = false := fun b => by
    rw [State.isLost, geod_stacks.1]
    rfl
  rw [State.byte, State.physByte, h, force_eq, ← look_eq, State.phys, geod_stacks.2]
  simp [geod]

theorem geod_copies : (geod {} .loaded).copies 0 =
    [recOf 0 [4, 203, 235, 203], recOf 1 [216, 206, 227, 139], recOf 2 [188, 192, 251, 75], recOf 3 [96, 197, 243, 11]] := by
  simp only [State.copies, State.areaRead, List.map_map, Function.comp_def, geod_byte, State.area, geod_stacks.2]
  decide +kernel

theorem wit_restore : (geod {} .loaded).recordCheck ((geod {} .loaded).copies 0) = none ∧
    (geod {} .loaded).copiesBad 0 = false ∧ (geod {} .loaded).versionTable = [] := by
  refine ⟨?_, by decide +kernel⟩
  rw [geod_copies]
  simp only [State.recordCheck, copiesCommitted, recordValid, crcNat_eq]
  decide +kernel

theorem wit_restore_buddy : (geod {} .loaded).buddyUsable = false := by decide +kernel

def restoring (err : Nat) (poison : Bool) : State := geod { restore := { busy := true, stage := 3, err := err, poison := poison } } .loaded

theorem wit_restore_done :
    (restoring 0 false).geo.restore.busy = true ∧
    (restoring 0 false).geo.restore.stage = 3 ∧
    (restoring 0 false).geo.restore.source < 2 ∧
    (restoring 0 false).trackers = [] ∧
    (restoring 0 true).geo.restore.poison = true ∧
    (restoring 5 false).geo.restore.err ≠ 0 ∧
    (restoring 0 false).pwr.st ≠ .retain ∧
    (restoring 0 false).job.st = .loaded ∧
    ({ restoring 0 false with job := { st := .running } }).job.st ≠ .loaded :=
  by decide +kernel

theorem wit_step_number :
    (geod { loHeld := [(r0, 7)] } .loaded).job.st = .loaded ∧
    heldOf (geod { loHeld := [(r0, 7)] } .loaded).geo.loHeld r0 = some 7 :=
  by decide +kernel

/-- A device whose window of host 0 is open onto a device, with bytes at local offset 0x40. -/
def windowed (coord : Nat) : State :=
  (((put base 0x40 [1, 2, 3, 4]).setFlag (.hif .h0) 0x88 0 true).setReg (.hif .h0) 0x8C (BitVec.ofNat 32 (coord * 256))).setReg .frt 0x80 1

theorem wit_window_open :
    (windowed 0).portTakes .h0 = true ∧
    (windowed 0).pwr.warm = false ∧
    (windowed 0).flag (.hif .h0) 0x88 0 = true ∧
    (windowed 0).coordOk (globalDest ((windowed 0).bar2Global .h0 0x40)) = true ∧
    globalDest ((windowed 0).bar2Global .h0 0x40) = (windowed 0).own ∧
    (windowed 0).trackers = [] ∧
    (windowed 0).frt.errs = [] ∧
    (windowed 0).anyLost = false ∧
    (windowed 0).owner.host = some .h0 ∧
    4 ≤ (windowed 0).okPrefix (globalOff ((windowed 0).bar2Global .h0 0x40)) 4 false ∧
    4 ≤ (windowed 0).okPrefix (globalOff ((windowed 0).bar2Global .h0 0x40)) 4 true :=
  by decide +kernel

theorem test_window_open :
    nextIs (exec (.bar2Read .h0 0x40 4) (windowed 0))
      (fun t => decide (t.out = [Output.bar2Data .h0 0x40 [1, 2, 3, 4] false])) = true := by
  decide +kernel

theorem wit_window_closed :
    base.flag (.hif .h0) 0x88 0 = false ∧
    base.portTakes .h0 = true ∧
    (windowed 2).coordOk (globalDest ((windowed 2).bar2Global .h0 0x40)) = false ∧
    (windowed 0).portTakes .h1 = true ∧
    (windowed 0).owner.host ≠ some .h1 :=
  by decide +kernel

theorem wit_window_unserved :
    ((windowed 0).modStack 0 (fun x => { x with trained := false })).okPrefix (globalOff ((windowed 0).bar2Global .h0 0x40)) 4 false < 4 ∧
    ({ windowed 0 with job := { st := .running, prot := some (0, 4096) } }).okPrefix (globalOff ((windowed 0).bar2Global .h0 0x40)) 4 true < 4 ∧
    ({ windowed 0 with job := { st := .running, prot := some (0, 4096) } }).hitsImage (globalOff ((windowed 0).bar2Global .h0 0x40)) 4 = true :=
  by decide +kernel

theorem wit_window_remote :
    (windowed 1).coordOk (globalDest ((windowed 1).bar2Global .h0 0x40)) = true ∧
    globalDest ((windowed 1).bar2Global .h0 0x40) ≠ (windowed 1).own :=
  by decide +kernel

theorem test_window_remote :
    nextIs (exec (.bar2Write .h0 0x40 [1] false) (windowed 1))
      (fun t => decide (t.hbm = (windowed 1).hbm)) = true := by
  decide +kernel

/-- A device whose DMA channel 2 runs a ring of four entries of host 0. -/
def ringed (x : Channel) : State :=
  { (windowed 0).setReg .dma 0x140 0x20001 with chans := [(2, x)] }

theorem wit_dma_doorbell :
    (ringed { st := .running }).doorbellOk .h0 2 (3 % 65536) = true ∧
    (ringed { st := .running }).doorbellOk .h0 2 (4 % 65536) = false :=
  by decide +kernel

theorem wit_dma_enable :
    (windowed 0).reaches r0 .dma ∧
    r0 = .mmio ((windowed 0).chanHost 2) ∧
    (windowed 0).chanOn 2 = false ∧
    r0 = .mmio ((ringed { st := .running }).chanHost 2) ∧
    (ringed { st := .running }).chanOn 2 = true :=
  ⟨reaches_of (by decide +kernel), by decide +kernel⟩

def dmaDesc (dev len dir : Nat) : List Byte := leBytes 0x5000 8 ++ leBytes dev 8 ++ leBytes len 4 ++ leBytes 77 4 ++ leBytes dir 2 ++ List.replicate 6 0

def dmaIn (dev len dir : Nat) (data : List Byte) : DmaInput := { desc := dmaDesc dev len dir, poisoned := false, data := data, hostErr := false }

/-- A channel with a descriptor waiting at entry 3 of four, the last of the ring. -/
def waiting3 : State := ringed { st := .running, head := 3, tail := 0 }

def gone : DmaJob := { tag := 1, host := 0, dev := 0, len := 4, toHost := true, irq := false, ro := false, tags := [5] }

theorem wit_dma_disable :
    (ringed { st := .running, job := some gone }).chan 2 = { st := .running, job := some gone } ∧
    gone.tags ≠ [] :=
  by decide +kernel

theorem test_dma_disable :
    nextIs (exec (.channelDisable r0 2) (ringed { st := .running, job := some gone }))
      (fun t => decide ((t.chan 2).st = .stopping)) = true := by
  decide +kernel

theorem wit_dma_next :
    waiting3.trackers = [] ∧
    waiting3.frt.errs = [] ∧
    waiting3.chan 2 = { st := .running, head := 3, tail := 0 } ∧
    waiting3.hostSends (waiting3.chanHost 2) = true ∧
    waiting3.ringSize 2 = 4 ∧
    waiting3.anyLost = false ∧
    dmaFields (dmaIn 0x40 0 0 []).desc = none ∧
    dmaFields (dmaIn (2 ^ 41) 4 0 []).desc = some { tag := 77, host := 0x5000, dev := 2 ^ 41, len := 4, toHost := false, irq := false, ro := false } ∧
    dmaFields (dmaIn 0x40 4 1 []).desc = some { tag := 77, host := 0x5000, dev := 0x40, len := 4, toHost := true, irq := false, ro := false } ∧
    dmaFields (dmaIn 0x40 2 0x100 [9, 8]).desc = some { tag := 77, host := 0x5000, dev := 0x40, len := 2, toHost := false, irq := true, ro := false } ∧
    ({ waiting3 with regs := ((windowed 1).setReg .dma 0x140 0x20001).regs }).coordOk (globalDest (2 ^ 40)) = true ∧
    globalDest (2 ^ 40) ≠ waiting3.own ∧
    (dmaIn 0 0 0 []).descErr = false ∧
    waiting3.coordOk (globalDest (2 ^ 41)) = false ∧
    waiting3.coordOk (globalDest 0x40) = true ∧
    globalDest 0x40 = waiting3.own ∧
    4 ≤ waiting3.okPrefix (globalOff 0x40) 4 false ∧
    2 ≤ waiting3.okPrefix (globalOff 0x40) 2 true :=
  by decide +kernel

theorem wit_dma_finish :
    (ringed { st := .running, job := some { gone with tags := [] } }).chan 2 = { st := .running, job := some { gone with tags := [] } } :=
  by decide +kernel

theorem wit_port_reset :
    base.pwr.powered = true ∧
    base.portTakes .h0 = true ∧
    (base.hostPort .h0).up = true ∧
    base.owner.host = some .h0 :=
  by decide +kernel

theorem test_port_reset :
    nextIs (exec (.conventionalReset .h0) base)
      (fun t => decide ((t.hostPort .h0).up = false ∧ (t.hostPort .h0).inReset = true ∧ t.flag (.hif .h0) 0x10 11 = false)) = true := by
  decide +kernel

theorem wit_port_wakes :
    (base.modHost .h1 (fun p => { p with d3hot := true })).hostPort .h1 = { hostUp with d3hot := true } :=
  by decide +kernel

theorem wit_interleave :
    base.reaches r0 (.hbm 3) ∧
    (7 : Word).toNat % 4 = 3 ∧
    base.isOwner r0 = true ∧
    base.job.st = .empty ∧
    (6 : Word).toNat % 4 ≠ 3 ∧
    (trained true true true).job.st = .empty ∧
    ({ base with job := { st := .loaded } }).job.st ≠ .empty ∧
    ({ base with job := { st := .loaded } }).job.st ≠ .loadFailed :=
  ⟨reaches_of (by decide +kernel), by decide +kernel⟩

theorem wit_retrain_stack :
    base.job.st.retrains = true ∧
    JobState.loaded.retrains = false ∧
    ((base.modStack 3 (fun x => { x with retraining := true })).stack 3).retraining = true ∧
    (base.die (stackDie 3)).up = true ∧
    (base.die (stackDie 3)).isolated = false :=
  by decide +kernel

theorem test_retrain_stack :
    nextIs (exec (.hbmRetrain r0 3) base)
      (fun t => decide ((t.stack 3).retraining = true ∧ (t.stack 3).trained = false ∧ (t.stack 2).trained = true)) = true := by
  decide +kernel

theorem wit_stack_read :
    base.stackOf (0x3000 : BitVec 40).toNat = 3 ∧
    base.served (0x3000 : BitVec 40).toNat = true ∧
    base.anyLost = false ∧
    (base.requestAt 3 .iodPri [.cores]).1 = true ∧
    base.poisoned (0x3000 : BitVec 40).toNat = false ∧
    (base.write 0x3000 [1] true).poisoned (0x3000 : BitVec 40).toNat = true ∧
    base.hitsImage (0x3000 : BitVec 40).toNat 2 = false ∧
    ({ base with job := { st := .running, prot := some (0x3000, 4096) } }).hitsImage (0x3000 : BitVec 40).toNat 2 = true ∧
    ((base.modStack 3 (fun x => { x with trained := false })).served (0x3000 : BitVec 40).toNat) = false ∧
    (base.noteUpsets 3 [((0x3000 : BitVec 40), 2)]).upsetOf ((base.noteUpsets 3 [((0x3000 : BitVec 40), 2)]).phys 0x3000 / 64) = 2 ∧
    (base.noteUpsets 3 [((0x3000 : BitVec 40), 3)]).upsetOf ((base.noteUpsets 3 [((0x3000 : BitVec 40), 3)]).phys 0x3000 / 64) = 3 ∧
    (base.noteUpsets 3 []).isLost ((base.noteUpsets 3 []).phys 0x3000 / 64) = false :=
  by decide +kernel

def arb5 : Arb := { cycle := 1 }

theorem wit_arbiter :
    arb5.cycle % arb5.window ≠ 0 ∧
    nth arb5.backoff 3 = 0 ∧
    arb5.pri < arb5.quota ∧
    [true, true, true, true, true].getD 3 false = true ∧
    (∀ i ∈ [0, 1, 2, 4], nth arb5.wait i < arb5.limit) :=
  by decide +kernel

/-- A loaded device with weights 9 and 8, whose host fetch uses both ports. -/
def fetching (f : Fetch) (j : JobState) : State :=
  let s := weighed { base with job := { st := j } } []
  { s.setReg .ver 0x84 6 with ver := { s.ver with fetch := f } }

def goodBlock (bad : Bool) : HostBlock := { addr := 0, bytes := [1, 2, 3, 4, 5, 6, 7, 8], bad := bad }

theorem wit_host_fetch :
    (fetching {} .loaded).reaches r0 .ver ∧
    (fetching {} .loaded).isOwner r0 = true ∧
    (fetching {} .loaded).job.st = .loaded ∧
    (fetching {} .loaded).ver.fetch.busy = false ∧
    (fetching {} .loaded).fetchPorts = 3 ∧
    ((fetching {} .loaded).fetchList.flatMap (fun e => (fetchBlocks e.2.2).map (fun b => (e.2.1 + b.1, b.2))))[1]? = some (0, 8) ∧
    (fetching { busy := true } .loaded).ver.fetch.busy = true ∧
    (fetching {} .halted).job.st ≠ .loaded ∧
    ((fetching {} .loaded).setReg .ver 0x84 0).fetchPorts = 0 :=
  ⟨reaches_of (by decide +kernel), by decide +kernel⟩

theorem wit_fetch_done :
    (fetching { busy := true, todo := [(0x20000, 0, 8)] } .loaded).pwr.st ≠ .retain ∧
    (fetching { busy := true, todo := [(0x20000, 0, 8)] } .loaded).ver.fetch.busy = true ∧
    (fetching { busy := true, todo := [(0x20000, 0, 8)] } .loaded).served (0x20000 + 0) = true ∧
    [goodBlock false].find? (fun b => b.addr.toNat == 0 + 0) = some (goodBlock false) ∧
    (goodBlock false).bytes.length = 8 ∧
    [goodBlock true].find? (fun b => b.addr.toNat == 0 + 0) = some (goodBlock true) ∧
    (goodBlock true).bad = true :=
  by decide +kernel

theorem test_fetch_done :
    nextIs (exec (.fetchDone [goodBlock false]) (fetching { busy := true, todo := [(0x20000, 0, 8)] } .loaded))
      (fun t => decide (t.byte 0x20007 = 8 ∧ t.ver.fetch.done = true ∧ t.flag .ver 0x38 0 = true ∧ t.poisoned 0x20000 = false)) = true := by
  decide +kernel

theorem wit_meta_poison : (fetching {} .loaded).job.st = .loaded := by decide +kernel

/-- The key that the witnesses' tokens are signed with, and a token. -/
def ownerKey : List Byte := List.replicate 32 5

def token (kind target : Byte) : Token :=
  { magic := 0x54424453, format := 1, kind := kind, target := target, signer := 1, deviceId := deviceId, nonce := List.replicate 32 6
    signerPk := ownerKey, newOwnerPk := zero32, zerosOk := true, length := 7984, sig := [], sigOk := true }

/-- A device owned under that key, with the nonce outstanding. -/
def owned (fails level : Nat) : State :=
  { base with sec := { base.sec with ownerRoot := sha256 ownerKey, nonce := some (List.replicate 32 6), fails := fails, level := level } }

theorem wit_token_signer (kind target : Byte) (fails level : Nat) :
    (owned fails level).sec.signerOk (token kind target) = true ∧ (token kind target).deviceId = deviceId := by
  simp [Sec.signerOk, Sec.tokenSigner, owned, base, token]

theorem wit_token :
    (owned 0 0).carrierUp (.doe .h0) = true ∧
    (owned 0 0).pwr.phase ≠ 0xF ∧
    (owned 7 0).sec.fails < 8 ∧
    (owned 0 0).sec.lifecycle = 2 ∧
    (owned 0 0).sec.nonce = some (token 1 1).nonce ∧
    (token 1 1).sigOk = true ∧
    tokenFormatOk (token 1 1) = true ∧
    tokenFormatOk (token 1 2) = true ∧
    tokenFormatOk (token 2 3) = true ∧
    (owned 0 0).tokenState (token 1 1) = true ∧
    (owned 0 0).tokenState (token 2 3) = true ∧
    (owned 0 0).sec.targetOk (token 1 1) = true ∧
    (owned 0 0).sec.targetOk (token 1 2) = true ∧
    (owned 0 0).sec.targetOk (token 2 3) = true :=
  by decide +kernel

theorem wit_token_rejected :
    (¬ (owned 8 0).sec.fails < 8) ∧
    tokenFormatOk { token 1 1 with length := 7983 } = false ∧
    (owned 0 0).sec.nonce ≠ some (List.replicate 32 7) ∧
    (owned 0 0).sec.signerOk { token 1 1 with signer := 0 } = false ∧
    ({ owned 0 0 with job := { st := .running } }).tokenState (token 1 2) = false ∧
    (owned 0 2).sec.targetOk (token 1 2) = false :=
  by decide +kernel

/-- A token for another device fails, whatever this device's identifier is; and outside OWNED a CONTROL token is
accepted where its key is that of the vendor's root. -/
theorem wit_token_others (pk : List Byte) (h : sha256 pk = (List.range 32).map Config.vendorRoot) :
    ((owned 0 0).sec.lifecycle = 2 ∧ ({ token 1 1 with deviceId := [] }).deviceId ≠ deviceId) ∧
    ({ (owned 0 0).sec with lifecycle := 1 }).signerOk { token 1 2 with signer := 0, signerPk := pk } = true := by
  refine ⟨⟨rfl, ?_⟩, ?_⟩
  · simp [deviceId]
  · simp [Sec.signerOk, Sec.tokenSigner, h]

theorem wit_token_outside : ({ owned 0 0 with sec := { (owned 0 0).sec with lifecycle := 1 } }).tokenState (token 1 2) = true ∧
    ({ (owned 0 0).sec with lifecycle := 1 }).targetOk (token 1 2) = true := by
  decide +kernel

def zeroing (l : List (Option Carrier × Token × Bool)) (j : JobState) : State :=
  { owned 0 0 with job := { st := j }, sec := { (owned 0 0).sec with zBusy := true, zToks := l } }

theorem wit_zeroisation :
    (owned 0 0).reaches r0 .sec ∧
    (owned 0 0).isOwner r0 = true ∧
    (owned 0 0).controlOk = true ∧
    (zeroing [] .running).controlOk = false ∧
    (owned 0 2).sec.level = 2 ∧
    (zeroing [] .clearing).sec.zBusy = true ∧
    (zeroing [] .clearing).sec.zToks = [] :=
  ⟨reaches_of (by decide +kernel), by decide +kernel⟩

theorem test_zeroisation :
    nextIs (exec (.zeroize r0) { put (owned 0 0) 0x40 [1, 2] with job := { st := .halted } })
      (fun t => decide (t.hbm = [] ∧ t.job.st = .clearing ∧ t.sec.zCause = 1)) = true := by
  decide +kernel

theorem wit_zeroisation_token :
    (zeroing [(some .i3c, token 1 2, true)] .clearing).sec.zToks = [(some .i3c, token 1 2, true)] ∧
    (zeroing [(some .i3c, token 1 2, true)] .clearing).pwr.st = .run ∧
    (zeroing [(some .i3c, token 1 2, true)] .clearing).pwr.target = .run ∧
    (zeroing [(some .i3c, token 1 2, true)] .clearing).job.st = .clearing ∧
    (zeroing [(some .i3c, token 1 2, true)] .clearing).sec.targetOk (token 1 2) = true ∧
    (zeroing [(some .i3c, token 2 3, true)] .clearing).sec.targetOk (token 2 3) = true ∧
    (token 1 2).kind = 1 ∧
    (token 1 2).target = 2 ∧
    (zeroing [] .clearing).sec.level < 2 ∧
    (token 2 3).kind ≠ 1 ∧
    (token 2 3).target ≠ 2 ∧
    ({ (zeroing [] .clearing).sec with lifecycle := 1 }).targetOk { token 2 2 with newOwnerPk := ownerKey } = true ∧
    (zeroing [] .clearing).sec.targetOk (token 2 4) = true :=
  ⟨rfl, by decide +kernel⟩

/-- The mailbox of host 0, and a device with a marked identity. -/
abbrev box0 : Carrier := .doe .h0
def named (marked : Bool) : State := { base with i3c := { addr := some 8 }, sec := { base.sec with marked := marked, level := 1 } }

theorem wit_identity :
    (named true).carrierUp box0 = true ∧
    (named true).pwr.phase ≠ 0xF ∧
    (named true).sec.identity = true ∧
    (named true).sec.lifecycle ≠ 4 ∧
    ({ named true with sec := { (named true).sec with lifecycle := 4 } }).sec.lifecycle = 4 ∧
    (List.replicate 32 (9 : Byte)).length = 32 ∧
    (named true).owner.host.map Carrier.doe = some box0 ∧
    (named true).owner.host.map Carrier.doe ≠ some .i3c ∧
    (named true).carrierUp .i3c = true :=
  by decide +kernel

def mailed : State := { named false with sec := { (named false).sec with doe0 := { work := some (bareReply 3 0 0) }, mailI3c := { ready := some (bareReply 3 2 0) }, zToks := [(some box0, token 1 2, true)] } }

theorem wit_response_ready :
    (mailed.sec.mail box0).work = some (bareReply 3 0 0) ∧
    mailed.sec.mailI3c.ready = some (bareReply 3 2 0) ∧
    mailed.i3c.addr = some 8 ∧
    (mailed.sec.mail .i3c).work = none ∧
    mailed.i3c.ibi = true :=
  ⟨rfl, rfl, by decide +kernel⟩

theorem test_response_ready :
    nextIs (exec (.responseReady box0) mailed)
      (fun t => decide (t.out.length = 1 ∧ t.sec.doe0.ready = some (bareReply 3 0 0))) = true := by
  decide +kernel

/-- A request buffer with a header of a code and a length. -/
def asked (code : Byte) (len : Nat) : State :=
  { base with i3c := { addr := some 8, buffer := [(0, 1), (1, code), (4, BitVec.ofNat 8 len), (5, BitVec.ofNat 8 (len / 256))].filter (fun e => e.2 != 0) } }

theorem wit_i3c_submit :
    (asked 1 8).i3cOpen = true ∧
    base.pwr.st ≠ .starting ∧
    (asked 1 8).pwr.phase ≠ 0xF ∧
    (asked 1 9).msgOk = false ∧
    (asked 1 8).msgOk = true ∧
    (asked 2 40).msgOk = true ∧
    (asked 3 48).msgOk = true ∧
    (asked 4 8).msgOk = true ∧
    (asked 5 7992).msgOk = true ∧
    ((asked 2 40).msgBytes 1 1).headD 0 = 2 ∧
    ((asked 5 7992).msgBytes 1 1).headD 0 = 5 ∧
    base.i3c.addr = none :=
  by decide +kernel

theorem wit_i3c_read :
    mailed.sec.mailI3c.ready = some (bareReply 3 2 0) ∧
    (named true).sec.mailI3c.ready = none ∧
    (named true).sec.mailI3c.work = none ∧
    (named true).sec.zToks = [] ∧
    mailed.i3cOpen = true ∧
    mailed.i3c.addr.isSome = true :=
  ⟨rfl, by decide +kernel⟩

theorem wit_i3c_registers :
    mailed.i3c.addr = some 8 ∧
    standbyReg .sec 0x80 = true ∧
    (Blk.sec.row? 0x80).isSome = true ∧
    mailed.capture? .i3c (Blk.sec.base + 0x80) = none ∧
    (0x10 : BitVec 24).toNat ≠ Blk.pwr.base + 0x80 ∧
    mailed.pwr.powered = true ∧
    State.reset.pwr.powered = false ∧
    (3 : BitVec 8) ≠ 1 ∧
    base.sec.level = 0 ∧
    base.sec.lifecycle = 2 ∧
    { base with sec := { base.sec with lifecycle := 4 } }.sec.lifecycle ≠ 2 :=
  by decide +kernel

theorem test_i3c_registers :
    nextIs (exec (.i3cRead (BitVec.ofNat 24 (Blk.sec.base + 0x80))) mailed)
      (fun t => decide (t.i3c.next = leBytes (mailed.live .sec 0x80).toNat 4 ++ [0])) = true := by
  decide +kernel

/-- An image of VERSION 7, and a device that updates. -/
def fwImage (v : Word) : FwImage :=
  { magic := 0x49574653, format := 1, hdrLen := 0x80, part := 0x9216, stepping := 0xB0, version := v, svn := 3, signer := 0, flags := 0, zerosOk := true
    romextLen := 65536, fwLen := 64, sigLen := 7856, pk := List.replicate 32 1, length := 73584, romextSha := List.replicate 32 2
    fwSha := List.replicate 32 3, rootOk := true, sigOk := true }

def updating (fw shale : Bool) : State := { base with sec := { base.sec with fwBusy := fw }, cfg := { busy := shale } }

theorem wit_updates :
    base.reaches r0 .sec ∧
    base.reaches r0 .cfg ∧
    base.isOwner r0 = true ∧
    base.sec.fwBusy = false ∧
    base.cfg.busy = false ∧
    base.pwr.st ≠ .off ∧
    (updating true false).sec.fwBusy = true ∧
    (updating false true).cfg.busy = true :=
  ⟨reaches_of (by decide +kernel), reaches_of (by decide +kernel), by decide +kernel⟩

/-- A device one of whose bridge links is as given. -/
def linked (l : LinkId) (q : Link) : State := base.modLink l (fun _ => q)

def upLink : Link :=
  { st := .up, width := .full, sideband := true, oldest := 5, exp := 4095, cnt := 4095, expiries := 6, at64 := 7,
    sent := [mkUnit 0x10 [1], mkUnit 0x11 [2], mkUnit 0x11 [3], mkUnit 0x12 [4]], again := [mkUnit 0x12 [4]] }

/-- The CTRL unit that acknowledges number n where v is 1. -/
def ctrlOf (n v : Byte) : D2dUnit := mkUnit 1 [n, 0, v, 0, 9, 0, 8, 0]

theorem wit_unit :
    unitOk (mkUnit 0 []) = true ∧
    unitOk (ctrlOf 7 1) = true ∧
    unitOk (ctrlOf 20 1) = true ∧
    unitOk (mkUnit 2 [0xFF, 0x0F]) = true ∧
    unitOk (mkUnit 0x10 [1]) = true ∧
    ((linked 5 upLink).link 5).st = .up ∧
    upLink.discard = false ∧
    upLink.cnt = upLink.exp ∧
    upLink.exp < 4096 ∧
    unitNum (ctrlOf 7 1) 2 1 % 2 = 1 ∧
    unitNum (ctrlOf 7 0) 2 1 % 2 = 0 ∧
    (unitNum (ctrlOf 7 1) 0 2 % 4096 + 4096 - upLink.oldest) % 4096 = 2 ∧
    2 < upLink.sent.length ∧
    (unitNum (ctrlOf 4 1) 0 2 % 4096 + 4096 - upLink.oldest) % 4096 = 4095 ∧
    (unitNum (ctrlOf 20 1) 0 2 % 4096 + 4096 - upLink.oldest) % 4096 = 15 ∧
    upLink.sent.length ≤ 15 ∧
    upLink.afterRetrain = false ∧
    (upLink.exp + 4096 - unitNum (mkUnit 2 [0xFF, 0x0F]) 0 2 % 4096) % 4096 < 2048 :=
  ⟨mkUnit_ok (by decide +kernel), mkUnit_ok (by decide +kernel), mkUnit_ok (by decide +kernel), mkUnit_ok (by decide +kernel), mkUnit_ok (by decide +kernel), by decide +kernel⟩

theorem wit_unit_sent :
    upLink.at64 ≠ 0 ∧
    upLink.again = mkUnit 0x12 [4] :: [] ∧
    ({ upLink with at64 := 0 } : Link).at64 = 0 ∧
    ({ upLink with again := [] } : Link).again = [] :=
  by decide +kernel

theorem wit_unit_marks :
    (0 : Nat) < (upLink.exp + 4096 - 4000) % 4096 ∧
    (upLink.exp + 4096 - 4000) % 4096 < 2048 ∧
    ((linked 0 { upLink with st := .retrain }).link 0).st = .retrain ∧
    upLink.expiries < 7 ∧
    7 ≤ ({ upLink with expiries := 7 }).expiries ∧
    upLink.afterRetrain = false :=
  by decide +kernel

theorem test_unit_marks :
    nextIs (exec (.d2dReplayMark 0 (mkUnit 2 [0xFF, 0x0F])) (linked 0 { upLink with st := .retrain, discard := true }))
      (fun t => decide ((t.link 0).st = .up ∧ (t.link 0).afterRetrain = true ∧ (t.link 0).cnt = 4095 ∧ t.out.length = 2 ∧ (t.link 0).again.length = 3)) = true := by
  decide +kernel

theorem wit_unit_fails : unitOk { mkUnit 4 [] with crc := 0 } = false ∧ ((linked 5 upLink).link 5).st = .up := by
  refine ⟨?_, by decide +kernel⟩
  rw [unitOk, Bool.and_eq_false_iff]
  exact Or.inr (by decide)

def shaking : Link := { st := .handshake, proposal := .full, gen := 9, near := 0xFFFF, far := 0xFFFF, sideband := true }

/-- WIDTH with a proposal, a generation and the generation it answers. -/
def widthUnit (code echo : Byte) : D2dUnit := mkUnit 3 [code, 4, echo]

theorem wit_bridge_trains :
    ((linked 4 { st := .training }).link 4).st = .training ∧
    ((linked 4 {}).link 4).st = .down ∧
    (linked 4 {}).endsUp 4 = true ∧
    candidate 0xFFFF 0xFFFF false = .full ∧
    candidate 0xFF7F 0xFFFF false = .halfHi ∧
    candidate 0xFE7F 0xFFFF false = .none :=
  by decide +kernel

theorem wit_bridge_width :
    unitOk (widthUnit 3 9) = true ∧
    unitOk (widthUnit 1 9) = true ∧
    unitOk (widthUnit 0 9) = true ∧
    ((linked 1 shaking).link 1).st = .handshake ∧
    (widthUnit 3 9).kind = 3 ∧
    unitNum (widthUnit 3 9) 0 1 ≤ 3 ∧
    unitNum (widthUnit 3 9) 2 1 = shaking.gen ∧
    unitNum (widthUnit 3 8) 2 1 ≠ shaking.gen ∧
    Width.ofCode (unitNum (widthUnit 3 9) 0 1) = shaking.proposal ∧
    shaking.proposal ≠ .none ∧
    commonWidth (Width.ofCode (unitNum (widthUnit 1 9) 0 1)) shaking.proposal = some .halfLo ∧
    Width.ofCode (unitNum (widthUnit 1 9) 0 1) ≠ shaking.proposal ∧
    commonWidth (Width.ofCode (unitNum (widthUnit 0 9) 0 1)) shaking.proposal = none :=
  ⟨mkUnit_ok (by decide +kernel), mkUnit_ok (by decide +kernel), mkUnit_ok (by decide +kernel), by decide +kernel⟩

theorem test_bridge_width :
    nextIs (exec (.width 1 (widthUnit 3 8)) (linked 1 shaking))
      (fun t => decide (t.link 1 = { shaking with gotGen := 4 })) = true := by
  decide +kernel

theorem wit_bridge_falls :
    base.reaches r0 (.d2d 6) ∧
    ({ upLink with st := .retrain, fails := 1 }).fails < 2 ∧
    2 ≤ ({ upLink with fails := 2 }).fails ∧
    ((linked 6 { upLink with st := .retrain, fails := 2 }).link 6).st = .retrain ∧
    (base.link 6).st = .up ∧
    (linked 6 {}).endsPowered 6 = true ∧
    (base.link 0).sideband = true ∧
    (base.die 0).isolated = false :=
  ⟨reaches_of (by decide +kernel), by decide +kernel⟩

def bringUp (k : BitVec 4) (ok : Bool) : DieBringUp := { dieId := some k, linkOk := ok, badStacks := [], katFails := [3] }

/-- A device whose die 2 is isolated while it is reset. -/
def dieBusy : State :=
  (put base (2 * 2 ^ 38) [1, 2]).modDie 2 (fun x => { x with up := false, isolated := true, cause := 8, busy := true, refresh := true })

theorem wit_die_reset :
    base.reaches r0 .pwr ∧
    base.isOwner r0 = true ∧
    (base.die 2).busy = false ∧
    (base.die 2).isolated = false ∧
    (dieBusy.die 2).busy = true ∧
    dieBusy.pwr.warm = false ∧
    (bringUp 2 true).dieId = some (BitVec.ofNat 4 (2 : DieId).val) ∧
    (bringUp 2 true).badStacks = [] ∧
    (bringUp 3 true).dieId ≠ some (BitVec.ofNat 4 (2 : DieId).val) ∧
    (bringUp 2 false).linkOk = false ∧
    (dieBusy.die 2).refresh = true ∧
    candidate (bringUp 2 true).near (bringUp 2 true).far (dieBusy.halfOnly (ownLink 2)) = .full :=
  ⟨reaches_of (by decide +kernel), by decide +kernel⟩

def inPower (p q : PowerState) (j : JobState) : State := { base with pwr := { base.pwr with st := p, target := q }, job := { st := j } }

theorem wit_power_requests :
    (inPower .run .run .halted).reaches r0 .pwr ∧
    (inPower .run .run .halted).isOwner r0 = true ∧
    (inPower .run .run .halted).pwr.target = (inPower .run .run .halted).pwr.st ∧
    (inPower .run .run .halted).pwr.warm = false ∧
    (inPower .run .run .running).job.st ≠ .paused ∧
    (inPower .run .idle .halted).pwr.target ≠ (inPower .run .idle .halted).pwr.st :=
  ⟨reaches_of (by decide +kernel), by decide +kernel⟩

theorem test_power_requests :
    nextIs (exec (.requestIdle r0) (inPower .run .run .halted))
      (fun t => decide (t.pwr = { base.pwr with target := .idle })) = true := by
  decide +kernel

theorem wit_power_reached :
    (inPower .run .retain .halted).pwr.warm = false ∧
    (inPower .run .retain .halted).pwr.target = .retain ∧
    (inPower .run .off .empty).pwr.target = .off ∧
    (inPower .idle .run .halted).pwr.target = .run ∧
    (inPower .idle .run .halted).pwr.st ≠ .retain ∧
    (base.die 1).up = true :=
  by decide +kernel

def fourDies : List DieBringUp := (List.range 4).map (fun k => { dieId := some (BitVec.ofNat 4 k), linkOk := true, badStacks := [], katFails := [] })

def board (good : Bool) (p : Option FlashSlots) : BoardStart := { feedId := 1, pwrGood := good, program := p, dies := fourDies, links := List.replicate 8 (0xFFFF, 0xFFFF) }

def programmed : Option FlashSlots := some { fwA := some (fwImage 7), fwB := some (fwImage 6) }

theorem wit_warm_reset :
    base.pwr.tripped = false ∧
    base.pwr.powered = true ∧
    base.pwr.warm = false ∧
    (inPower .run .run .running).job.st.active = true ∧
    ({ base with pwr := { base.pwr with tripped := true } }).pwr.tripped = true ∧
    ({ base with pwr := { base.pwr with warm := true } }).pwr.warm = true :=
  by decide +kernel

/-- The state after reset of a part whose fuse MIN_SVN is 0. -/
def unfused : State := { State.reset with sec := { State.reset.sec with minSvn := 0 } }

theorem wit_start_up :
    unfused.pwr.st = .starting ∧
    unfused.pwr.phase = 0 ∧
    (inPower .off .off .empty).pwr.st = .off ∧
    unfused.sec.meas = List.replicate 8 zero32 ∧
    ({ unfused.sec with flash := {} }).bootSlot = none ∧
    ({ unfused.sec with flash := programmed.getD {} }).bootSlot = some (false, fwImage 7) :=
  by decide +kernel

theorem test_start_up :
    nextIs (exec .coldReset base)
      (fun t => decide (t.pwr.st = .starting ∧ t.pwr.phase = 0 ∧ t.sec.lifecycle = 2 ∧ t.hbm = [])) = true := by
  decide +kernel

def shaleBlank : ShaleImage :=
  { magic := 0, format := 1, hdrLen := 64, part := 0, stepping := 0, version := 0, count := 0
    bodyLen := 0, sigLen := 0, signer := 0, zerosOk := true, records := [], digest := [], sigOk := true }

theorem test_wf_registers : (Instr.registerRead r0 { bar := .bar0, off := 0, size := 3 }).wf = false ∧
    (Instr.registerWrite r0 { bar := .bar0, off := 0, size := 16 } 0).wf = false ∧
    (Instr.registerRead r0 { bar := .bar0, off := 0, size := 4 }).wf = true := by decide

theorem test_wf_readings : (Instr.controlStep { railMv := [], railDa := List.replicate 5 0, hbmWatts := 0, xTemp := 0 }).wf = false ∧
    (Instr.controlStep { railMv := List.replicate 5 0, railDa := [0], hbmWatts := 0, xTemp := 0 }).wf = false ∧
    (Instr.telemetry 0 { coreTemps := List.replicate 47 0, stackTemps := List.replicate 4 0 }).wf = false ∧
    (Instr.telemetry 0 { coreTemps := List.replicate 48 0, stackTemps := [] }).wf = false ∧
    (Instr.telemetry 0 { coreTemps := List.replicate 48 0, stackTemps := List.replicate 4 0 }).wf = true := by decide

theorem test_wf_host : (Instr.fetchDone [{ addr := 0, bytes := [], bad := false }]).wf = false ∧
    (Instr.dmaCompletion 0 { desc := List.replicate 31 0, data := [], hostErr := false, poisoned := false }).wf = false ∧
    (Instr.bar2Read .h0 0 0).wf = true ∧ (Instr.bar2Read .h0 0xFFFFFFFFF 2).wf = false ∧ (Instr.bar2Read .h0 0xFFFFFFFFF 1).wf = true ∧
    (Instr.bar2Write .h0 0 [] false).wf = false ∧ (Instr.bar2Write .h0 0xFFFFFFFFF [1, 2] false).wf = false := by decide

theorem test_wf_dies : (Instr.powerStateReached []).wf = false ∧ (Instr.warmResetDone []).wf = false ∧
    (Instr.startUp { board true none with dies := [] }).wf = false ∧ (Instr.exitFromOff { board true none with links := [] }).wf = false ∧
    (Instr.startUp (board true none)).wf = true := by decide

theorem test_wf_security : (Instr.shaleUpdateDone (some shaleBlank) true).wf = false ∧
    (Instr.fwUpdateDone (some { fwImage 7 with pk := [] }) true).wf = false ∧
    (Instr.fwUpdateDone (some { fwImage 7 with romextSha := [] }) true).wf = false ∧
    (Instr.fwUpdateDone (some { fwImage 7 with fwSha := [] }) true).wf = false ∧ (Instr.fwUpdateDone (some (fwImage 7)) true).wf = true ∧
    (Instr.getReport .i3c []).wf = false ∧ (Instr.extend .i3c 6 []).wf = false := by decide

theorem test_wf_token : (Instr.submitToken .i3c { token 1 1 with deviceId := [] } true).wf = false ∧
    (Instr.submitToken .i3c { token 1 1 with nonce := [] } true).wf = false ∧
    (Instr.submitToken .i3c { token 1 1 with signerPk := [] } true).wf = false ∧
    (Instr.submitToken .i3c { token 1 1 with newOwnerPk := [] } true).wf = false ∧
    (Instr.submitToken .i3c (token 1 1) true).wf = true := by decide

theorem test_wf_units : (Instr.idle 0 { ctlFu 0 [] with payload := List.replicate 241 0 }).wf = false ∧
    (Instr.idle 0 { ctlFu 0 [] with payload := List.replicate 240 0 }).wf = true ∧
    (Instr.hdr 0 { kind := 0x10, bytes := List.replicate 63 0, crc := 0 }).wf = false ∧
    (Instr.hdr 0 { kind := 0x10, bytes := List.replicate 64 0, crc := 0 }).wf = true := by decide +kernel

theorem test_wf_memory : (Instr.hbmWrite 0 0 [] false .cores []).wf = false ∧ (Instr.hbmWrite 0 1023 [1, 2] false .cores []).wf = false ∧
    (Instr.hbmWrite 0 1023 [1] false .cores []).wf = true ∧ (Instr.mma 0 [{ row := 128, col := 0, xor := 0 }] []).wf = false ∧
    (Instr.rerunS 0 [{ row := 0, col := 128, xor := 0 }] none).wf = false ∧ (Instr.rerunX 0 [{ row := 127, col := 127, xor := 0 }] none).wf = true := by
  decide

end Sys2Proof.Tests
end

section
/-!
The halt of a job (R74, R75): which reason is recorded, what the halt and its broadcast leave as they were, and how the
copies of a halt broadcast are sent (R297, R301).
-/

namespace Sys2Proof.Machine

open Sys2Proof

/-! ### The reason that is recorded (R75) -/

/-- The choice between a reason found so far and one more: the lower code, and the earlier of two equal ones. -/
def lowerHalt (b : Option HaltReq) (h : HaltReq) : Option HaltReq :=
  match b with
  | none => some h
  | some b => if h.code < b.code then some h else some b

theorem recordedHalt_eq (l : List HaltReq) :
    recordedHalt l = ((l.filter (fun h => h.remote.isNone)).foldl lowerHalt none).or l.head? := by
  have e : recordedHalt l = match (l.filter (fun h => h.remote.isNone)).foldl lowerHalt none with
    | some h => some h
    | none => l.head? := rfl
  rw [e]
  cases (l.filter (fun h => h.remote.isNone)).foldl lowerHalt none <;> rfl

theorem lowerHalt_lowest (b h : HaltReq) :
    ∃ m, lowerHalt (some b) h = some m ∧ (m = b ∨ m = h) ∧ m.code ≤ b.code ∧ m.code ≤ h.code := by
  by_cases lt : h.code < b.code
  · exact ⟨h, if_pos lt, .inr rfl, by omega, by omega⟩
  · exact ⟨b, if_neg lt, .inl rfl, by omega, by omega⟩

theorem foldl_lowerHalt_lowest (b : HaltReq) (l : List HaltReq) :
    ∃ m ∈ b :: l, l.foldl lowerHalt (some b) = some m ∧ ∀ k ∈ b :: l, m.code ≤ k.code := by
  induction l generalizing b with
  | nil => exact ⟨b, by simp, rfl, by simp⟩
  | cons h l ih =>
    obtain ⟨c, ec, hc, cb, ch⟩ := lowerHalt_lowest b h
    obtain ⟨m, hm, em, low⟩ := ih c
    simp only [List.forall_mem_cons] at low ⊢
    obtain ⟨mc, ml⟩ := low
    refine ⟨m, ?_, by rw [List.foldl_cons, ec, em], by omega, by omega, ml⟩
    obtain rfl | hm := List.mem_cons.1 hm
    · obtain rfl | rfl := hc <;> simp
    · simp [hm]

/-- Where there is a local reason, a local one with the lowest code is recorded. -/
theorem recordedHalt_local {l : List HaltReq} {h : HaltReq} (hm : h ∈ l) (hr : h.remote = none) :
    ∃ k ∈ l, k.remote = none ∧ recordedHalt l = some k ∧ ∀ j ∈ l, j.remote = none → k.code ≤ j.code := by
  have own : ∀ j, j ∈ l.filter (fun h => h.remote.isNone) ↔ j ∈ l ∧ j.remote = none := by simp
  rw [recordedHalt_eq]
  cases e : l.filter (fun h => h.remote.isNone) with
  | nil => exact absurd ((own h).2 ⟨hm, hr⟩) (by simp [e])
  | cons b t =>
    obtain ⟨k, hk, ek, low⟩ := foldl_lowerHalt_lowest b t
    rw [← e] at hk low
    obtain ⟨kl, kr⟩ := (own k).1 hk
    refine ⟨k, kl, kr, ?_, fun j jl jr => low j ((own j).2 ⟨jl, jr⟩)⟩
    rw [show (b :: t).foldl lowerHalt none = some k from ek, Option.some_or]

/-- Without a local reason, the first received broadcast is recorded. -/
theorem recordedHalt_remote {l : List HaltReq} (hr : ∀ h ∈ l, h.remote ≠ none) : recordedHalt l = l.head? := by
  have e : l.filter (fun h => h.remote.isNone) = [] := by simpa using hr
  rw [recordedHalt_eq, e]
  rfl

/-- A host HALT whose tick has come is a local reason with code 0x10. -/
theorem State.haltReasons_host {s : State} {b : Bool} (h : s.dueCmd = some (.halt b)) :
    { code := 0x10, remote := none, bcast := b } ∈ s.haltReasons := by
  simp [State.haltReasons, h]

/-! ### The copies of a halt broadcast that wait on a port (R297) -/

/-- The state with the copies that wait on a port replaced. -/
def State.withCopies (s : State) (p : PortId) (l : List (Fu × Bool)) : State :=
  s.modPort p (fun q => { q with dueBcast := l })

@[simp] theorem State.withCopies_port (s : State) (p : PortId) (l : List (Fu × Bool)) :
    (s.withCopies p l).port p = { s.port p with dueBcast := l } := State.modPort_port _ _ _

@[simp] theorem State.withCopies_out (s : State) (p : PortId) (l : List (Fu × Bool)) :
    (s.withCopies p l).out = s.out := rfl

/-- On a port that is up, the copies that are due are sent, and the others wait. -/
theorem State.sendDue_up {s : State} {p : PortId} (hu : (s.port p).st = .up) :
    s.sendDue p = (s.withCopies p ((s.port p).dueBcast.filter (fun e => !e.2))).each
      ((s.port p).dueBcast.filter (·.2)) (fun s e => s.sendOut p e.1) := if_pos hu

/-- On a port that is not up, nothing is sent. -/
theorem State.sendDue_waits {s : State} {p : PortId} (hu : (s.port p).st ≠ .up) : s.sendDue p = s := if_neg hu

/-! ### Sending changes ports and outputs alone -/

/-- Whether `t` differs from `s` at most in the ports, the outputs and the forwarder. -/
def State.Sends (s t : State) : Prop := t = { s with ports := t.ports, out := t.out, frt := t.frt }

theorem State.Sends.refl (s : State) : s.Sends s := rfl

theorem State.Sends.trans {s t u : State} (h : s.Sends t) (k : t.Sends u) : s.Sends u :=
  Eq.trans k (congrArg (fun x : State => { x with ports := u.ports, out := u.out, frt := u.frt }) h)

theorem State.Sends.fields {s t : State} (h : s.Sends t) :
    t.regs = s.regs ∧ t.job = s.job ∧ t.hbm = s.hbm ∧ t.cores = s.cores ∧ t.mbq = s.mbq ∧ t.ver = s.ver := by
  rw [h]; simp

theorem State.Sends.each {α : Type} {f : State → α → State} (h : ∀ s a, State.Sends s (f s a)) (l : List α)
    (s : State) : s.Sends (s.each l f) := by
  induction l generalizing s with
  | nil => exact .refl s
  | cons a l ih => exact (h s a).trans (ih (f s a))

theorem State.withCopies_sends (s : State) (p : PortId) (l : List (Fu × Bool)) : s.Sends (s.withCopies p l) := rfl

theorem State.sendOut_sends (s : State) (p : PortId) (f : Fu) : s.Sends (s.sendOut p f) := rfl

theorem State.sendDue_sends (s : State) (p : PortId) : s.Sends (s.sendDue p) := by
  by_cases hu : (s.port p).st = .up
  · rw [State.sendDue_up hu]
    have send : ∀ (t : State) (e : Fu × Bool), t.Sends (t.sendOut p e.1) := fun t e => t.sendOut_sends p e.1
    exact .trans (t := s.withCopies p _) (s.withCopies_sends p _) (.each send _ _)
  · rw [State.sendDue_waits hu]
    exact .refl s

theorem State.bcastTimer_sends (s : State) (p : PortId) : s.Sends (s.bcastTimer p) :=
  (s.withCopies_sends p _).trans (State.sendDue_sends _ p)

theorem State.bcastOn_sends (s : State) (p : PortId) (origin : Word) (cause tick : Nat) :
    s.Sends (s.bcastOn p origin cause tick) := by
  unfold State.bcastOn
  dsimp only
  split
  · exact (s.withCopies_sends p _).trans (State.sendDue_sends _ p)
  · exact .refl s

theorem State.bcast_sends (s : State) (origin : Word) (cause tick : Nat) (except : Option PortId) :
    s.Sends (s.bcast origin cause tick except) :=
  State.Sends.trans (t := { s with frt := { s.frt with seen := (origin, BitVec.ofNat 64 tick) :: s.frt.seen } }) rfl
    (.each (fun s p => State.bcastOn_sends s p origin cause tick) _ _)

/-! ### The registers that a halt sets (R74, R77) -/

theorem State.setReg64_reg64 (s : State) (b : Blk) (o v : Nat) (h : v < 2 ^ 64) : (s.setReg64 b o v).reg64 b o = v := by
  have lo : (s.setReg64 b o v).reg b o = BitVec.ofNat 32 v := by
    unfold State.setReg64
    rw [State.setReg_reg_ne _ _ (by omega), State.setReg_reg]
  have hi : (s.setReg64 b o v).reg b (o + 4) = BitVec.ofNat 32 (v / 2 ^ 32) := State.setReg_reg _ _ _ _
  unfold State.reg64
  rw [lo, hi, BitVec.toNat_ofNat, BitVec.toNat_ofNat]
  omega

theorem State.trace_reg_page (s : State) (ev unit detail : Nat) {c : Blk} {k : Nat} (hk : k < 4096) (hc : c ≠ .dbg) :
    (s.trace ev unit detail).reg c k = s.reg c k := by
  unfold State.trace
  dsimp only
  split
  · exact State.setReg_reg_page _ _ (by decide) hk hc
  · rfl

theorem State.setJobState_reg_off (s : State) (j : JobState) {c : Blk} {k : Nat} (hk : k < 4096) (hc : c ≠ .dbg)
    (h : k ≠ 0x38) : (s.setJobState j).reg c k = s.reg c k := by
  unfold State.setJobState
  split
  · rfl
  · rw [State.trace_reg_page _ _ _ _ hk hc, State.irq_reg_off _ _ _ hk h]
    rfl

/-- The halt cause word of a reason: its code and, for a received broadcast, the port it came on. -/
def HaltReq.word (h : HaltReq) : Nat :=
  match h.remote with
  | none => 2 ^ 31 + h.code
  | some (p, _) => 2 ^ 31 + 2 ^ 30 + p.val * 2 ^ 24 + h.code

/-- The coordinate of the device that a reason comes from. -/
def State.haltOrigin (s : State) (h : HaltReq) : Word :=
  match h.remote with
  | none => s.reg .glb 0x9C
  | some (_, d) => coordOfDest d.toNat

theorem State.setHalt_eq (s : State) (h : HaltReq) :
    s.setHalt h = ((s.setReg .glb 0xA8 (BitVec.ofNat 32 h.word)).setReg .glb 0xD8 (s.haltOrigin h)).setReg64 .glb 0xE0
      s.tick := rfl

/-- GLB_HALT_TICK holds the tick of the halt. -/
theorem State.setHalt_tick (s : State) (h : HaltReq) : (s.setHalt h).reg64 .glb 0xE0 = s.tick :=
  State.setReg64_reg64 _ _ _ _ s.tim.tick.isLt

theorem State.setHalt_cause (s : State) (h : HaltReq) :
    (s.setHalt h).reg .glb 0xA8 = BitVec.ofNat 32 h.word := by
  rw [State.setHalt_eq, State.setReg64_reg_off _ _ (by decide) (by decide) (by decide) (by decide),
    State.setReg_reg_off _ _ (by decide) (by decide) (by decide), State.setReg_reg]

theorem State.setHalt_origin (s : State) (h : HaltReq) : (s.setHalt h).reg .glb 0xD8 = s.haltOrigin h := by
  rw [State.setHalt_eq, State.setReg64_reg_off _ _ (by decide) (by decide) (by decide) (by decide), State.setReg_reg]

theorem HaltReq.word_local {h : HaltReq} (hr : h.remote = none) : h.word = 2 ^ 31 + h.code := by
  rw [HaltReq.word, hr]

theorem HaltReq.word_remote {h : HaltReq} {p : PortId} {d : BitVec 24} (hr : h.remote = some (p, d)) :
    h.word = 2 ^ 31 + 2 ^ 30 + p.val * 2 ^ 24 + h.code := by
  rw [HaltReq.word, hr]

theorem State.haltOrigin_local (s : State) {h : HaltReq} (hr : h.remote = none) :
    s.haltOrigin h = s.reg .glb 0x9C := by
  rw [State.haltOrigin, hr]

theorem State.haltOrigin_remote (s : State) {h : HaltReq} {p : PortId} {d : BitVec 24} (hr : h.remote = some (p, d)) :
    s.haltOrigin h = coordOfDest d.toNat := by
  rw [State.haltOrigin, hr]

/-! ### JOB_HALT -/

/-- The job halted for a recorded reason, before the broadcast: what JOB_HALT does on this device. -/
def State.haltFrom (s : State) (h : HaltReq) : State :=
  let s := s.setHalt h
  let s := { s with job := { s.job with halts := [], pend := none, armTick := none, due := none } }
  let s := { s with col := { s.col with staged := [] } }
  (s.trace 4 0 (256 * bit h.remote.isSome + h.code)).setJobState .halted

theorem State.haltFrom_fields (s : State) (h : HaltReq) :
    (s.haltFrom h).job.st = .halted ∧ (s.haltFrom h).job.pend = none ∧ (s.haltFrom h).hbm = s.hbm ∧
      (s.haltFrom h).cores = s.cores ∧ (s.haltFrom h).mbq = s.mbq ∧ (s.haltFrom h).ver = s.ver := by
  simp [State.haltFrom, State.setHalt]

theorem State.haltFrom_reg (s : State) (h : HaltReq) {k : Nat} (hk : k < 4096) (h38 : k ≠ 0x38) :
    (s.haltFrom h).reg .glb k = (s.setHalt h).reg .glb k := by
  unfold State.haltFrom
  dsimp only
  rw [State.setJobState_reg_off _ _ hk (by decide) h38, State.trace_reg_page _ _ _ _ hk (by decide)]
  rfl

/-- After the halt of the device, JOB_HALT at most sends the broadcast. -/
theorem State.jobHalt_sends {s : State} {h : HaltReq} (hd : s.job.due = some .halt)
    (hr : recordedHalt s.haltReasons = some h) : (s.haltFrom h).Sends s.jobHalt := by
  unfold State.jobHalt
  rw [if_neg (not_not_intro hd), hr]
  dsimp only
  split
  · exact State.bcast_sends _ _ _ _ _
  · exact .refl _

/-- JOB_HALT halts the job and records the reason; memory, cores, queues and versions stay. -/
theorem State.jobHalt_halts {s : State} {h : HaltReq} (hd : s.job.due = some .halt)
    (hr : recordedHalt s.haltReasons = some h) :
    s.jobHalt.job.st = .halted ∧ s.jobHalt.job.pend = none ∧ s.jobHalt.hbm = s.hbm ∧ s.jobHalt.cores = s.cores ∧
      s.jobHalt.mbq = s.mbq ∧ s.jobHalt.ver = s.ver := by
  obtain ⟨-, job, hbm, cores, mbq, ver⟩ := (State.jobHalt_sends hd hr).fields
  rw [job, hbm, cores, mbq, ver]
  exact s.haltFrom_fields h

theorem State.jobHalt_reg {s : State} {h : HaltReq} (hd : s.job.due = some .halt)
    (hr : recordedHalt s.haltReasons = some h) {k : Nat} (hk : k < 4096) (h38 : k ≠ 0x38) :
    s.jobHalt.reg .glb k = (s.setHalt h).reg .glb k := by
  obtain ⟨regs, -⟩ := (State.jobHalt_sends hd hr).fields
  rw [State.reg_fold _ _ regs, State.haltFrom_reg s h hk h38]

/-- What the halt registers hold after JOB_HALT. -/
theorem State.jobHalt_records {s : State} {h : HaltReq} (hd : s.job.due = some .halt)
    (hr : recordedHalt s.haltReasons = some h) :
    s.jobHalt.reg .glb 0xA8 = BitVec.ofNat 32 h.word ∧ s.jobHalt.reg .glb 0xD8 = s.haltOrigin h ∧
      s.jobHalt.reg64 .glb 0xE0 = s.tick := by
  refine ⟨?_, ?_, ?_⟩
  · rw [State.jobHalt_reg hd hr (by decide) (by decide), State.setHalt_cause]
  · rw [State.jobHalt_reg hd hr (by decide) (by decide), State.setHalt_origin]
  · rw [← s.setHalt_tick h, State.reg64, State.jobHalt_reg hd hr (by decide) (by decide),
      State.jobHalt_reg hd hr (by decide) (by decide), State.reg64]

/-- Without a warm reset that waits for it, the halt is all that JOB_HALT does. -/
theorem exec_jobHalt {s : State} (hw : s.pwr.warm = false) : exec .jobHalt s = .next s.jobHalt := by
  have e : s.jobHalt.afterHalt = s.jobHalt := by simp [State.afterHalt, hw]
  exact congrArg Host.Outcome.next e

/-! ### BCAST_COPY_TIMER (R297, R301) -/

theorem fuCrcOk_sealed (f : Fu) : fuCrcOk { f with crc := crc32c (fuBytes f) } = true := by
  have e : fuBytes { f with crc := crc32c (fuBytes f) } = fuBytes f := rfl
  simp [fuCrcOk, e]

/-- What leaves a port is the unit handed to it, with a CRC that matches. -/
theorem State.sendOut_out (s : State) (p : PortId) (f : Fu) :
    ∃ g, (s.sendOut p f).out = .fu p g :: s.out ∧ g.payload = f.payload ∧ g.type = f.type ∧ fuCrcOk g = true :=
  ⟨_, rfl, rfl, rfl, fuCrcOk_sealed _⟩

/-- A unit that leaves a port leaves the copies that wait there and the replay buffer. -/
theorem State.sendOut_port (s : State) (p : PortId) (f : Fu) :
    ((s.sendOut p f).port p).dueBcast = (s.port p).dueBcast ∧ ((s.sendOut p f).port p).buf = (s.port p).buf := by
  have emit_port : ∀ (t : State) (o : Output), (t.emit o).port p = t.port p := fun _ _ => rfl
  simp [State.sendOut, emit_port]

theorem State.bcastTimer_next {s : State} {p : PortId} {f : Fu} {l : List (Fu × Bool)}
    (hd : (s.port p).dueBcast = (f, false) :: l) : s.bcastTimer p = (s.withCopies p ((f, true) :: l)).sendDue p := by
  have e : s.bcastTimer p = (s.withCopies p (markDue (s.port p).dueBcast)).sendDue p := rfl
  rw [e, hd, markDue]

/-- The next copy on a port that is up is sent at once. -/
theorem State.bcastTimer_up {s : State} {p : PortId} {f : Fu} {l : List (Fu × Bool)} (hu : (s.port p).st = .up)
    (hd : (s.port p).dueBcast = (f, false) :: l) (hl : ∀ e ∈ l, e.2 = false) :
    s.bcastTimer p = ((s.withCopies p ((f, true) :: l)).withCopies p l).sendOut p f := by
  have keep : ((f, true) :: l).filter (fun e => !e.2) = l := by simpa using hl
  have send : ((f, true) :: l).filter (·.2) = [(f, true)] := by simpa using hl
  rw [State.bcastTimer_next hd, State.sendDue_up (by simpa using hu), State.withCopies_port, keep, send]
  rfl

/-- The next copy on another port falls due and waits. -/
theorem State.bcastTimer_waits {s : State} {p : PortId} {f : Fu} {l : List (Fu × Bool)} (hu : (s.port p).st ≠ .up)
    (hd : (s.port p).dueBcast = (f, false) :: l) : s.bcastTimer p = s.withCopies p ((f, true) :: l) := by
  rw [State.bcastTimer_next hd, State.sendDue_waits (by simpa using hu)]

/-! ### The statement -/

/-- Settles O20: JOB_HALT records the reason that `recordedHalt` picks, and BCAST_COPY_TIMER sends or keeps the next
copy by the state of its port. -/
theorem haltRecordsTheFirstCause : Obligations.HaltRecordsTheFirstCause := by
  unfold Obligations.HaltRecordsTheFirstCause
  refine ⟨⟨fun s b hd => ⟨_, State.haltReasons_host hd, rfl, rfl, rfl⟩, fun s hd hw => ⟨?_, ?_⟩⟩,
    fun p s f l => ⟨?_, ?_⟩⟩
  · intro h hm hr
    obtain ⟨k, hk, kr, chosen, low⟩ := recordedHalt_local hm hr
    obtain ⟨st, pend, hbm, cores, mbq, ver⟩ := State.jobHalt_halts hd chosen
    obtain ⟨cause, origin, tick⟩ := State.jobHalt_records hd chosen
    rw [HaltReq.word_local kr] at cause
    rw [State.haltOrigin_local s kr] at origin
    exact ⟨_, k.code, exec_jobHalt hw, st, low h hm hr, ⟨k, hk, kr, rfl⟩, cause, origin, tick, hbm, cores, mbq,
      ver, pend⟩
  · intro hr h hh
    have chosen : recordedHalt s.haltReasons = some h := (recordedHalt_remote hr).trans hh
    obtain ⟨⟨p, d⟩, hpd⟩ := Option.ne_none_iff_exists'.1 (hr h (List.mem_of_head? hh))
    obtain ⟨st, -, hbm, cores, -⟩ := State.jobHalt_halts hd chosen
    obtain ⟨cause, origin, -⟩ := State.jobHalt_records hd chosen
    rw [HaltReq.word_remote hpd] at cause
    rw [State.haltOrigin_remote s hpd] at origin
    exact ⟨_, p, d, exec_jobHalt hw, st, hpd, cause, origin, hbm, cores⟩
  · intro hu hd hl
    obtain ⟨-, job, hbm, -⟩ := (s.bcastTimer_sends p).fields
    obtain ⟨g, out, payload, type, crc⟩ := State.sendOut_out ((s.withCopies p ((f, true) :: l)).withCopies p l) p f
    obtain ⟨due, buf⟩ := State.sendOut_port ((s.withCopies p ((f, true) :: l)).withCopies p l) p f
    rw [← State.bcastTimer_up hu hd hl] at out due buf
    exact ⟨_, g, rfl, by simpa using out, payload, type, crc, by simpa using due, by simpa using buf, hbm, job⟩
  · intro hu hd
    obtain ⟨-, job, hbm, -⟩ := (s.bcastTimer_sends p).fields
    have e := State.bcastTimer_waits hu hd
    exact ⟨_, rfl, by simp [e], by simp [e], by simp [e], hbm, job⟩

end Sys2Proof.Machine
end

section
/-!
Contexts, inbound queues and weight versions as their descriptors move them (R211 to R213, R220, R223 to R231): what a
descriptor whose unit is free comes to, what each operation gives in each of its cases, and what a capture writes.
-/

namespace Sys2Proof.Machine

open Sys2Proof

/-! ### What a descriptor comes to whose unit is free (R46, R52, R112) -/

/-- A descriptor's operation comes to an entry in flight or to the descriptor's fault (R46, R52). -/
def State.lands (c : CoreId) (r : Run) (d : Desc) : Run? State → State
  | .error e => e.s.descFault c r.at r.logical e.bit e.halt
  | .ok v => v.modCore c (fun q => q.issued r.at (some d.entry))

theorem State.core_congr {s t : State} (h : t.cores = s.cores) (c : CoreId) : t.core c = s.core c := by
  rw [State.core, h, State.core]

theorem State.run_of_active {s : State} {c : CoreId} {r : Run} (h : s.active? c = some r) :
    (s.core c).run = some r := by
  unfold State.active? at h
  dsimp only at h
  split at h
  · split at h
    · split at h
      · cases h
      · next e _ => rw [e, h]
    · cases h
  · cases h

theorem State.fetched_with_arbs (s : State) (c : CoreId) (r : Run) (d : Desc) :
    ∃ a, s.fetched c r d = { s with arbs := a } := ⟨_, s.fetched_arbs c r d⟩

theorem State.issue_lands {s : State} {c : CoreId} {op : Nat} {r : Run} {d : Desc} {body : Desc → Nat → State → Try}
    {x : Run? State} (h : s.Takes c op r d) (ho : op ∈ opcodes)
    (hb : body d r.logical (s.fetched c r d) = x.map (fun v => some (v, some d.entry))) :
    s.issue c op body = State.lands c r d x := by
  rw [State.issue_takes body h ho, hb]
  cases x <;> rfl

theorem Desc.check_ok {d : Desc} {s : State} {fields ctx : Bool} (hh : d.headerOk = true) (hf : fields = true)
    (hc : d.ctxOk = true) (hv : ctx = true → d.ctxValid = true) : d.check s fields ctx = .ok () := by
  unfold Desc.check
  cases ctx <;> simp_all

theorem Desc.ctxOk_of_lt {d : Desc} (h : d.ctx < 48) : d.ctxOk = true := by simp [Desc.ctxOk, h]

theorem State.kindIn_of_mem {s : State} {l : List SlotKind} (h : s.cad.kind ∈ l) : s.kindIn l = true := by
  simpa [State.kindIn] using h

/-- A descriptor that passes its field, context and slot-kind checks starts at once where its unit is free. -/
theorem Desc.starts {d : Desc} {c : CoreId} {op : Nat} {s : State} {fields ctx : Bool} {kinds : List SlotKind}
    {start : State → Run? (State × Option InFlight)} {x : Run? State} (hop : d.op = op)
    (hu : (s.core c).unitBusy (unitOf op) = false) (hr : s.roomFor op = true) (hc : d.check s fields ctx = .ok ())
    (hk : s.cad.kind ∈ kinds) (hs : start s = x.map (fun v => (v, some d.entry))) :
    (do d.check s fields ctx; need (s.kindIn kinds) s 11; d.enter c s start : Try) =
      x.map (fun v => some (v, some d.entry)) := by
  rw [hc, State.kindIn_of_mem hk]
  change d.enter c s start = _
  rw [Desc.enter, hop, hu, hr, hs]
  cases x <;> rfl

/-! ### Descriptor faults (R52) -/

theorem State.markPiece_with_cad (s : State) (c : CoreId) (st : PieceState) :
    ∃ x, s.markPiece c st = { s with cad := x } := by
  unfold State.markPiece
  split
  · split
    · exact ⟨_, rfl⟩
    · exact ⟨s.cad, rfl⟩
  · exact ⟨s.cad, rfl⟩

/-- A descriptor fault raises a cause of the core's page once the core's list has stopped. -/
theorem State.descFault_raises (s : State) (c : CoreId) (off logical bt halt : Nat) :
    ∃ (x : Cad) (q : Cause), q.page = .core c ∧ q.bit = bt ∧ s.descFault c off logical bt halt =
      ((({ s with cad := x } : State).modCore c Core.faultRun).setPtr c off).raise q := by
  obtain ⟨x, hx⟩ := s.markPiece_with_cad c .faulted
  exact ⟨x, { page := .core c, bit := bt, cls := if bt = poisonControl then 4 else 3
              halt := if bt = poisonControl then 0x01 else halt
              addr := (({ s with cad := x } : State).modCore c Core.faultRun |>.setPtr c off).descAddr off
              kind := 3, req := logical }, rfl, rfl, by rw [State.descFault, hx]⟩

@[simp] theorem State.descFault_fields (s : State) (c : CoreId) (off logical bt halt : Nat) :
    (s.descFault c off logical bt halt).hbm = s.hbm ∧ (s.descFault c off logical bt halt).mbq = s.mbq ∧
      (s.descFault c off logical bt halt).ver = s.ver := by
  obtain ⟨x, q, -, -, e⟩ := s.descFault_raises c off logical bt halt
  simp [e, State.setPtr]

theorem State.descFault_faultedAt {s v : State} {c : CoreId} {r : Run} {bt : Nat} (hr : (s.core c).run = some r)
    (hv : v.cores = s.cores) (hb : bt < 32) (logical halt : Nat) :
    (v.descFault c r.at logical bt halt).faultedAt c r bt := by
  obtain ⟨x, q, page, bit, e⟩ := v.descFault_raises c r.at logical bt halt
  have hc : (v.descFault c r.at logical bt halt).core c = { (v.core c).faultRun with ptr := r.at } := by
    have raised : ∀ u : State, (u.raise q).core c = u.core c := fun u => State.core_congr (by simp) c
    rw [e, raised, State.setPtr, State.modCore_core, State.modCore_core]
    rfl
  refine ⟨?_, by rw [hc], ?_⟩
  · rw [hc, State.core_congr hv]
    simp [Core.faultRun, hr]
  · rw [e, ← page, ← bit]
    exact State.raise_flag _ q (by omega)

/-- A descriptor fault keeps the ERR_STAT bits that are set. -/
theorem State.descFault_flag {s : State} {b : Blk} {k bt : Nat} (h : s.flag b 0x10 k = true) (hk : k < 32)
    (hb : bt < 32) (c : CoreId) (off logical halt : Nat) :
    (s.descFault c off logical bt halt).flag b 0x10 k = true := by
  obtain ⟨x, q, -, bit, e⟩ := s.descFault_raises c off logical bt halt
  rw [e]
  exact State.raise_flag_keeps _ q b k hk (by omega) h

/-- A descriptor fault leaves the registers of MBQ from 0x080 on. -/
theorem State.descFault_mbq_reg (s : State) {o : Nat} (h : o < 4096) (h' : 0x80 ≤ o) (c : CoreId)
    (off logical bt halt : Nat) : (s.descFault c off logical bt halt).reg .mbq o = s.reg .mbq o := by
  obtain ⟨x, q, -, -, e⟩ := s.descFault_raises c off logical bt halt
  rw [e, State.raise_reg _ q h h' (.inl (by decide))]
  rfl

/-! ### The state that a descriptor's operation leaves -/

/-- An operation that leaves the cores alone lets its descriptor issue; `P` is what else holds after it. -/
theorem State.lands_ok {c : CoreId} {r : Run} {d : Desc} {s v : State} {x : Run? State} {P : State → Prop}
    {o : Host.Outcome State Fault Refusal} (e : o = .next (State.lands c r d x).settle) (hx : x = .ok v)
    (hr : (s.core c).run = some r) (hv : v.cores = s.cores)
    (hP : P (v.modCore c (fun q => q.issued r.at (some d.entry)))) :
    ∃ t : State, o = .next t.settle ∧ s.issuedAt c r (some d.entry) t ∧ P t := by
  subst hx
  refine ⟨_, e, ?_, hP⟩
  have hc : (State.lands c r d (.ok v)).core c = (s.core c).issued r.at (some d.entry) := by
    rw [State.lands, State.modCore_core, State.core_congr hv]
  refine ⟨?_, ?_, ?_⟩ <;> simp [hc, Core.issued, hr]

/-- An operation that stops and leaves the cores alone faults its descriptor; `P` is what else holds after the fault. -/
theorem State.lands_error {c : CoreId} {r : Run} {d : Desc} {s : State} {f : Stop} {x : Run? State}
    {P : State → Prop} {o : Host.Outcome State Fault Refusal} (e : o = .next (State.lands c r d x).settle)
    (hx : x = .error f) (hr : (s.core c).run = some r) (hv : f.s.cores = s.cores) (hb : f.bit < 32)
    (hP : P (f.s.descFault c r.at r.logical f.bit f.halt)) :
    ∃ t : State, o = .next t.settle ∧ t.faultedAt c r f.bit ∧ P t := by
  subst hx
  exact ⟨_, e, State.descFault_faultedAt hr hv hb _ _, hP⟩

/-! ### The commands, once their descriptor has passed its checks -/

section
variable {s : State} {c : CoreId} {r : Run} {d : Desc}

/-- A command whose descriptor starts at once carries out the descriptor's operation. -/
theorem exec_lands {i : Instr} {op : Nat} {body : Desc → Nat → State → Try} {x : State → Run? State}
    (hi : exec i s = .next (s.issue c op body).settle) (h : s.Takes c op r d) (ho : op ∈ opcodes)
    (hb : ∀ a, body d r.logical { s with arbs := a } =
      (x { s with arbs := a }).map (fun v => some (v, some d.entry))) :
    ∃ a, exec i s = .next (State.lands c r d (x { s with arbs := a })).settle := by
  obtain ⟨a, ha⟩ := s.fetched_with_arbs c r d
  refine ⟨a, ?_⟩
  rw [hi, State.issue_lands h ho]
  rw [ha, hb]

theorem exec_ctxStart (h : s.Takes c 0x70 r d) (hh : d.headerOk = true) (hv : d.ctxValid = true) (hc : d.ctx < 48)
    (hu : (s.core c).unitBusy .fab = false) (hk : s.cad.kind ∈ [SlotKind.compute, SlotKind.eval])
    (hz : d.restZero [8, 9, 12, 13, 14, 15] = true) (h8 : d.byte 8 ≤ 2) (h9 : d.byte 9 ≤ 7) :
    ∃ a, exec (.ctxStart c) s = .next (State.lands c r d (({ s with arbs := a } : State).ctxStart d.ctx (d.byte 8)
      (d.byte 9) (BitVec.ofNat 32 (d.num 12 4)) r.logical)).settle :=
  exec_lands (body := fun d l s => d.ctxStart c l s)
    (x := fun u => u.ctxStart d.ctx (d.byte 8) (d.byte 9) (BitVec.ofNat 32 (d.num 12 4)) r.logical)
    rfl h (by decide) fun a => Desc.starts (s := { s with arbs := a }) h.code hu rfl
      (Desc.check_ok hh (by simp [hz, h8, h9]) (Desc.ctxOk_of_lt hc) fun _ => hv) hk
      (by unfold Desc.ctxStartRun; cases State.ctxStart _ _ _ _ _ _ <;> rfl)

theorem exec_ctxEnd (h : s.Takes c 0x71 r d) (hh : d.headerOk = true) (hv : d.ctxValid = true) (hc : d.ctx < 48)
    (hu : (s.core c).unitBusy .fab = false) (hk : s.cad.kind ∈ [SlotKind.compute, SlotKind.eval])
    (hz : d.restZero [] = true) :
    ∃ a, exec (.ctxEnd c) s =
      .next (State.lands c r d (({ s with arbs := a } : State).ctxEnd d.ctx r.logical)).settle :=
  exec_lands (body := fun d l s => d.ctxEnd c l s) (x := fun u => u.ctxEnd d.ctx r.logical)
    rfl h (by decide) fun a => Desc.starts (s := { s with arbs := a }) h.code hu rfl
      (Desc.check_ok hh hz (Desc.ctxOk_of_lt hc) fun _ => hv) hk
      (by unfold Desc.ctxEndRun; cases State.ctxEnd _ _ _ <;> rfl)

theorem State.useQueue_read {s : State} {n k logical : Nat} {q : Queue} (hq : s.queue? n = some q)
    (hs : q.vstage = (s.ctx k).vstage) (hk : q.kind < 2) : s.useQueue n k logical false = .ok q := by
  unfold State.useQueue
  rw [hq]
  simp [hs, hk]

theorem Desc.qcheckRun_eq {q : Queue} {logical : Nat} (hq : s.queue? (d.num 8 2) = some q)
    (hs : q.vstage = (s.ctx d.ctx).vstage) (hk : q.kind < 2) :
    d.qcheckRun logical s = (s.queueCheck q d.ctx logical).map (fun v => (v, some d.entry)) := by
  unfold Desc.qcheckRun
  rw [State.useQueue_read hq hs hk]
  change (do let s ← s.queueCheck q d.ctx logical; return (s, some d.inFlight) : Run? (State × Option InFlight)) = _
  cases s.queueCheck q d.ctx logical <;> rfl

theorem exec_qcheck {q : Queue} (h : s.Takes c 0x72 r d) (hh : d.headerOk = true) (hv : d.ctxValid = true)
    (hc : d.ctx < 48) (hu : (s.core c).unitBusy .fab = false) (hk : s.cad.kind ∈ [SlotKind.compute, SlotKind.eval])
    (hz : d.restZero [8, 9] = true) (hq : s.queue? (d.num 8 2) = some q) (hs : q.vstage = (s.ctx d.ctx).vstage)
    (hq2 : q.kind < 2) :
    ∃ a, exec (.qcheck c) s =
      .next (State.lands c r d (({ s with arbs := a } : State).queueCheck q d.ctx r.logical)).settle :=
  exec_lands (body := fun d l s => d.qcheck c l s) (x := fun u => u.queueCheck q d.ctx r.logical)
    rfl h (by decide) fun a => Desc.starts (s := { s with arbs := a }) h.code hu rfl
      (Desc.check_ok hh hz (Desc.ctxOk_of_lt hc) fun _ => hv) hk (Desc.qcheckRun_eq hq hs hq2)

theorem exec_vcapture (h : s.Takes c 0x80 r d) (hh : d.headerOk = true) (hv : d.ctxValid = true)
    (hc : d.ctxOk = true) (hu : (s.core c).unitBusy .ver = false)
    (hk : s.cad.kind ∈ [SlotKind.compute, SlotKind.eval]) (hz : d.restZero [] = true) :
    ∃ a, exec (.vcapture c) s =
      .next (State.lands c r d (({ s with arbs := a } : State).vcapture d.ctx r.logical)).settle :=
  exec_lands (body := fun d l s => d.vcapture c l s) (x := fun u => u.vcapture d.ctx r.logical)
    rfl h (by decide) fun a => Desc.starts (s := { s with arbs := a }) h.code hu rfl
      (Desc.check_ok hh hz hc fun _ => hv) hk (by unfold Desc.vcaptureRun; cases State.vcapture _ _ _ <;> rfl)

theorem Desc.onWeight_eq {f : Weight → Run? State} {w : Weight} (hw : s.weight? (d.num 8 2) = some w) :
    d.onWeight s f = (f w).map (fun v => (v, some d.entry)) := by
  unfold Desc.onWeight
  rw [hw]
  dsimp only
  cases f w <;> rfl

theorem Desc.namesWeight {w : Weight} {l : List Nat} (hz : d.restZero l = true)
    (hw : s.weight? (d.num 8 2) = some w) : (d.restZero l && (s.weight? (d.num 8 2)).isSome) = true := by
  rw [hz, hw]
  rfl

theorem exec_vopen {w : Weight} (h : s.Takes c 0x82 r d) (hh : d.headerOk = true) (hc : d.ctxOk = true)
    (hu : (s.core c).unitBusy .ver = false) (hk : s.cad.kind = .stepBoundary)
    (hz : d.restZero [8, 9, 12, 13] = true) (hw : s.weight? (d.num 8 2) = some w) :
    ∃ a, exec (.vopen c) s =
      .next (State.lands c r d (({ s with arbs := a } : State).vopen w (d.num 12 2) r.logical)).settle :=
  exec_lands (body := fun d l s => d.vopen c l s) (x := fun u => u.vopen w (d.num 12 2) r.logical)
    rfl h (by decide) fun a => Desc.starts (s := { s with arbs := a }) (kinds := [.stepBoundary]) h.code hu rfl
      (Desc.check_ok hh (Desc.namesWeight (s := { s with arbs := a }) hz hw) hc nofun) (by simp [hk])
      (Desc.onWeight_eq hw)

theorem exec_vpublish {w : Weight} (h : s.Takes c 0x83 r d) (hh : d.headerOk = true) (hc : d.ctxOk = true)
    (hu : (s.core c).unitBusy .ver = false) (hk : s.cad.kind = .stepBoundary)
    (hz : d.restZero [8, 9, 12, 13, 16, 17, 18, 19, 20, 21, 22, 23] = true)
    (hw : s.weight? (d.num 8 2) = some w) :
    ∃ a, exec (.vpublish c) s = .next
      (State.lands c r d (({ s with arbs := a } : State).vpublish w (d.num 12 2) (d.num 16 8) r.logical)).settle :=
  exec_lands (body := fun d l s => d.vpublish c l s) (x := fun u => u.vpublish w (d.num 12 2) (d.num 16 8) r.logical)
    rfl h (by decide) fun a => Desc.starts (s := { s with arbs := a }) (kinds := [.stepBoundary]) h.code hu rfl
      (Desc.check_ok hh (Desc.namesWeight (s := { s with arbs := a }) hz hw) hc nofun) (by simp [hk])
      (Desc.onWeight_eq hw)

end

/-! ### Contexts (R211, R212) -/

theorem State.setCtx_ctx (s : State) (k : Nat) (x : Ctx) : (s.setCtx k x).ctx k = x := Store.get_set_same _ _ _ _

theorem State.setCtx_ctx_ne (s : State) {k j : Nat} (x : Ctx) (h : j ≠ k) : (s.setCtx k x).ctx j = s.ctx j :=
  Store.get_set_ne _ _ _ h

section
variable {s : State} {k dir vstage : Nat} {mb : Word} {logical : Nat}

theorem State.ctxStart_free (hf : (s.ctx k).st = .free) (hd : dir ≠ 1) :
    s.ctxStart k dir vstage mb logical = .ok (s.setCtx k { s.ctx k with
      st := if dir = 0 then .forward else .eval, mb := mb, vstage := vstage
      captured := false, endPending := false }) := by
  simp [State.ctxStart, hf, hd]

theorem State.ctxStart_backward (hf : (s.ctx k).st = .forward) (he : (s.ctx k).endPending = false)
    (hs : (s.ctx k).mb = mb ∧ (s.ctx k).vstage = vstage) :
    s.ctxStart k 1 vstage mb logical = .ok (s.setCtx k { s.ctx k with st := .backward }) := by
  simp [State.ctxStart, hf, he, hs]

theorem State.ctxStart_repeated (hs : (s.ctx k).mb = mb ∧ (s.ctx k).vstage = vstage)
    (hr : ((s.ctx k).st = .forward ∧ dir = 0) ∨ ((s.ctx k).st = .backward ∧ dir ≤ 1) ∨
      ((s.ctx k).st = .eval ∧ dir = 2)) :
    s.ctxStart k dir vstage mb logical = .ok s := by
  obtain ⟨hst, hd⟩ | ⟨hst, hd⟩ | ⟨hst, hd⟩ := hr
  · simp [State.ctxStart, hst, hd, hs]
  · simp [State.ctxStart, hst, hs, show dir = 0 ∨ dir = 1 by omega]
  · simp [State.ctxStart, hst, hd, hs]

theorem State.ctxStart_other (hs : ¬((s.ctx k).mb = mb ∧ (s.ctx k).vstage = vstage)) (hf : (s.ctx k).st ≠ .free) :
    s.ctxStart k dir vstage mb logical = .error (s.ctxStateFault k logical) := by
  have hb : ((s.ctx k).mb == mb && (s.ctx k).vstage == vstage) = false := by
    rw [Bool.eq_false_iff]
    simpa using hs
  simp [State.ctxStart, hb, hf]

theorem State.ctxEnd_free (hf : (s.ctx k).st = .free) : s.ctxEnd k logical = .error (s.ctxStateFault k logical) :=
  if_pos hf

theorem State.ctxEnd_pending (hf : (s.ctx k).st ≠ .free) :
    s.ctxEnd k logical = .ok (s.setCtx k { s.ctx k with endPending := true }) := if_neg hf

end

/-- CTX_STATE is raised in MBQ and changes no core, no context and no memory. -/
theorem State.ctxStateFault_raises (s : State) (k logical : Nat) :
    (s.ctxStateFault k logical).s.flag .mbq 0x10 9 = true ∧ (s.ctxStateFault k logical).s.cores = s.cores ∧
      (s.ctxStateFault k logical).s.mbq = s.mbq :=
  ⟨State.raise_flag s _ (show 9 < 32 by decide), by simp [State.ctxStateFault], by simp [State.ctxStateFault]⟩

/-! ### Inbound queues (R220) -/

theorem leNat_lt (l : List Byte) : leNat l < 256 ^ l.length := by
  induction l with
  | nil => simp [leNat]
  | cons b l ih =>
    have := b.isLt
    rw [leNat, List.length_cons, Nat.pow_succ]
    omega

theorem State.mem_lt (s : State) (off n : Nat) : s.mem off n < 256 ^ n :=
  Nat.lt_of_lt_of_eq (leNat_lt (s.bytes off n)) (by simp only [State.bytes, List.length_map, List.length_range])

/-- Whether an inbound entry at an offset holds the data of a micro-batch in time (R217, R220). -/
def State.entryGood (s : State) (h : Nat) (mb : Word) : Prop :=
  s.rangePoisoned h 64 = false ∧ s.mem h 8 ≤ s.jobTick ∧ s.mem h 8 < 0xFFFFFFFFFFFFFFFE ∧ s.mem (h + 8) 4 = mb.toNat

/-- An entry is late where the consumer check says so: EMPTY and LATE are the two largest stamps (R217). -/
theorem State.entryGood_iff (s : State) (h : Nat) (mb : Word) :
    s.entryGood h mb ↔ (s.rangePoisoned h 64 || s.mem h 8 == stampEmpty || s.mem h 8 == stampLate ||
      decide (s.jobTick < s.mem h 8) || s.mem (h + 8) 4 != mb.toNat) = false := by
  have := s.mem_lt h 8
  simp only [State.entryGood, stampEmpty, stampLate, Bool.or_eq_false_iff, beq_eq_false_iff_ne, decide_eq_false_iff_not,
    bne_eq_false_iff_eq, Nat.not_lt]
  constructor
  · rintro ⟨hp, ht, hv, hm⟩
    exact ⟨⟨⟨⟨hp, by omega⟩, by omega⟩, ht⟩, hm⟩
  · rintro ⟨⟨⟨⟨hp, he⟩, hv⟩, ht⟩, hm⟩
    exact ⟨hp, ht, by omega, hm⟩

theorem State.not_entryGood {s : State} {h : Nat} {mb : Word} (hb : s.rangePoisoned h 64 = true ∨
    s.jobTick < s.mem h 8 ∨ 0xFFFFFFFFFFFFFFFE ≤ s.mem h 8 ∨ s.mem (h + 8) 4 ≠ mb.toNat) : ¬s.entryGood h mb := by
  rintro ⟨hp, ht, hv, hm⟩
  obtain hb | hb | hb | hb := hb
  · exact absurd hp (by simp [hb])
  · omega
  · omega
  · exact hb hm

theorem State.enter_with_arbs (s : State) (src : Source) (off len : Nat) :
    ∃ a, s.enter src off len = { s with arbs := a } := ⟨_, s.enter_arbs src off len⟩

/-- The consumer check reads the header, and the entry passes or is late. -/
theorem State.queueCheck_reads {s : State} (q : Queue) (k logical : Nat) (hl : s.anyLost = false)
    (hs : s.firstUnserved (q.entryOff (q.entryOf (s.ctx k))) 64 = none) :
    ∃ a, (s.entryGood (q.entryOff (q.entryOf (s.ctx k))) (s.ctx k).mb →
        s.queueCheck q k logical = .ok { s with arbs := a }) ∧
      (¬s.entryGood (q.entryOff (q.entryOf (s.ctx k))) (s.ctx k).mb →
        s.queueCheck q k logical = .error (({ s with arbs := a } : State).lateRead (q.entryOff (q.entryOf (s.ctx k)))
          logical (s.rangePoisoned (q.entryOff (q.entryOf (s.ctx k))) 64))) := by
  generalize hh : q.entryOff (q.entryOf (s.ctx k)) = h at hs ⊢
  obtain ⟨a, ha⟩ := s.enter_with_arbs .system h 64
  have hread : ({ s with arbs := a } : State).checkRead h 64 = { s with arbs := a } := State.checkRead_kept h 64 hl
  refine ⟨a, ?_, ?_⟩ <;> intro good <;> rw [State.entryGood_iff] at good
  · unfold State.queueCheck
    dsimp only
    rw [hh, hs, ha, hread]
    exact if_neg (Bool.eq_false_iff.1 good)
  · unfold State.queueCheck
    dsimp only
    rw [hh, hs, ha, hread]
    exact if_pos (Bool.not_eq_false _ ▸ good)

/-- A late read is counted and raised in MBQ and changes no core and no memory. -/
theorem State.lateRead_counts (s : State) (h logical : Nat) (bad : Bool) :
    (s.lateRead h logical bad).s.flag .mbq 0x10 8 = true ∧ (s.lateRead h logical bad).s.cores = s.cores ∧
      (s.lateRead h logical bad).s.hbm = s.hbm ∧
      (s.lateRead h logical bad).s.reg .mbq 0x84 = BitVec.ofNat 32 (min 0xFFFFFFFF ((s.reg .mbq 0x84).toNat + 1)) := by
  have hp : (if bad then s.poisonSeen .mbq else s).reg .mbq 0x84 = s.reg .mbq 0x84 := by
    cases bad
    · rfl
    · exact State.setFlag_reg_off s 5 true (by decide) (by decide) (by decide)
  refine ⟨State.raise_flag _ _ (show 8 < 32 by decide), ?_, ?_, ?_⟩
  · cases bad <;> simp [State.lateRead]
  · cases bad <;> simp [State.lateRead]
  · unfold State.lateRead
    dsimp only
    rw [State.raise_reg _ _ (by decide) (by decide) (.inl (by decide)), State.countSat, State.setReg_reg, hp]

/-! ### Weight versions (R223, R230, R231) -/

theorem precedes_iff (a b : BitVec 16) :
    precedes a.toNat b.toNat = true ↔ 1 ≤ (b - a).toNat ∧ (b - a).toNat ≤ 32767 := by
  have e : (b.toNat + 65536 - a.toNat % 65536) % 65536 = (b - a).toNat := by
    rw [BitVec.toNat_sub]
    omega
  rw [precedes, decide_eq_true_iff, e]

theorem version_sub_eq_zero (a b : BitVec 16) : (b - a).toNat = 0 ↔ a = b := by
  rw [BitVec.toNat_sub, ← BitVec.toNat_inj]
  omega

/-- Of two versions half the number range apart neither precedes the other. -/
theorem precedes_half {a b : BitVec 16} (h : (b - a).toNat = 32768) :
    precedes a.toNat b.toNat = false ∧ precedes b.toNat a.toNat = false := by
  have e : (a - b).toNat = 32768 := by
    rw [BitVec.toNat_sub] at h ⊢
    omega
  simp [Bool.eq_false_iff, precedes_iff, h, e]

section
variable {s : State} {w : Weight} {v retire logical : Nat}

theorem find_pending_none {l : List Pos} (h : ∀ p ∈ l, p.st ≠ .pending) :
    l.find? (fun p => p.st == .pending) = none := by
  simpa [List.find?_eq_none] using h

theorem State.vopen_pending {k : Nat} (hv : precedes w.currentVer v = true)
    (hp : ∀ p ∈ w.ring, p.st ≠ .pending ∧ (p.ver = v → p.st = .empty ∨ p.st = .retired))
    (hk : findIdx (fun p => p.st == .empty || p.st == .retired) w.ring = some k) :
    s.vopen w v logical = .ok (s.modPos w.id k (fun _ => { st := .pending, ver := v })) := by
  have hn := find_pending_none fun p h => (hp p h).1
  have hr : w.ring.any (fun p => (p.st == .current || p.st == .superseded || p.st == .pending) && p.ver == v) =
      false := by
    simp only [List.any_eq_false]
    intro p h hres
    have hver : p.ver = v := by simp_all
    obtain e | e := (hp p h).2 hver <;> simp [e] at hres
  unfold State.vopen
  simp only [hn, hr, hv, hk]
  rfl

theorem State.vopen_repeated {p : Pos} (hp : w.ring.find? (fun p => p.st == .pending) = some p) (hv : p.ver = v) :
    s.vopen w v logical = .ok s := by
  unfold State.vopen
  simp [hp, hv]

theorem State.vopen_refused (hv : precedes w.currentVer v = false) (hp : ∀ p ∈ w.ring, p.st ≠ .pending) :
    s.vopen w v logical = .error (s.publishFault 14 v w.id logical) := by
  unfold State.vopen
  simp [find_pending_none hp, hv]

theorem State.vpublish_noted {k : Nat} (hk : findIdx (fun p => p.st == .pending && p.ver == v) w.ring = some k)
    (hp : (w.ring.getD k {}).pub = none) :
    s.vpublish w v retire logical = .ok (s.modPos w.id k (fun p => { p with pub := some retire })) := by
  unfold State.vpublish
  rw [hk]
  dsimp only
  rw [hp]

theorem State.vpublish_refused (hk : findIdx (fun p => p.st == .pending && p.ver == v) w.ring = none) :
    s.vpublish w v retire logical = .error (s.publishFault 14 v w.id logical) := by
  unfold State.vpublish
  rw [hk]

end

/-- PUBLISH_CONFLICT is raised in VER and changes no core and no version. -/
theorem State.publishFault_raises (s : State) (v id logical : Nat) :
    (s.publishFault 14 v id logical).s.flag .ver 0x10 14 = true ∧
      (s.publishFault 14 v id logical).s.cores = s.cores ∧ (s.publishFault 14 v id logical).s.ver = s.ver :=
  ⟨State.raise_flag s _ (show 14 < 32 by decide), by simp [State.publishFault, State.verCause],
    by simp [State.publishFault, State.verCause]⟩

/-! ### Writes to memory that holds no lost or upset block (R253) -/

/-- From one state to the next at most the arbiters, bytes of memory at some physical addresses and the poison of
blocks have changed. -/
def State.Stores (at_ : Nat → Prop) (s t : State) : Prop :=
  ∃ (h : List Host.Cell) (b : Store Bool) (r : Store Arb), t = { s with hbm := h, bad := b, arbs := r } ∧
    ∀ a, ¬at_ a → Store.get (fun _ => 0) h a = Store.get (fun _ => 0) s.hbm a

section
variable {at_ : Nat → Prop} {s t u : State}

theorem State.Stores.refl (s : State) : s.Stores at_ s := ⟨_, _, _, rfl, fun _ _ => rfl⟩

theorem State.Stores.trans (h : s.Stores at_ t) (k : t.Stores at_ u) : s.Stores at_ u := by
  obtain ⟨_, _, _, rfl, ht⟩ := h
  obtain ⟨_, _, _, rfl, hu⟩ := k
  exact ⟨_, _, _, rfl, fun a ha => (hu a ha).trans (ht a ha)⟩

theorem State.Stores.phys (h : s.Stores at_ t) (a : Nat) : t.phys a = s.phys a := by
  obtain ⟨_, _, _, rfl, -⟩ := h
  rfl

theorem State.Stores.anyLost (h : s.Stores at_ t) : t.anyLost = s.anyLost := by
  obtain ⟨_, _, _, rfl, -⟩ := h
  rfl

theorem Store.get_of_all {α : Type} {P : α → Prop} {d : Nat → α} {m : Store α} {k : Nat} (hd : P (d k))
    (hm : ∀ e ∈ m, P e.2) : P (Store.get d m k) := by
  induction m with
  | nil => exact hd
  | cons e m ih =>
    unfold Store.get
    split
    · exact hm e (by simp)
    · exact ih fun e he => hm e (by simp [he])

theorem State.stack_sound (h : s.anyLost = false) (t : StackId) : (s.stack t).lost = 0 ∧ (s.stack t).upset = [] := by
  refine Store.get_of_all (P := fun q : Stack => q.lost = 0 ∧ q.upset = []) ⟨rfl, rfl⟩ fun e he => ?_
  simpa using List.any_eq_false.1 h e he

theorem State.isLost_sound (h : s.anyLost = false) (b : Nat) : s.isLost b = false := by
  simp [State.isLost, (State.stack_sound h _).1]

theorem State.upsetOf_sound (h : s.anyLost = false) (b : Nat) : s.upsetOf b = 0 := by
  rw [State.upsetOf, (State.stack_sound h _).2]
  rfl

theorem State.checkBlock_sound (h : s.anyLost = false) (off : Nat) : s.checkBlock off = s := by
  simp [State.checkBlock, State.findLost, State.findUpset, State.isLost_sound h, State.upsetOf_sound h]

theorem State.Stores.physByte (h : s.Stores at_ t) (hl : s.anyLost = false) {a : Nat} (ha : ¬at_ a) :
    t.physByte a = s.physByte a := by
  have ht := h.anyLost.trans hl
  obtain ⟨_, _, _, rfl, hb⟩ := h
  simp only [State.physByte, State.isLost_sound hl, State.isLost_sound ht]
  exact hb a ha

theorem State.putByte_stores {off : Nat} (v : Byte) (h : at_ (s.phys off)) : s.Stores at_ (s.putByte off v) :=
  ⟨_, _, _, rfl, fun _ ha => Store.get_set_ne _ _ _ fun e => ha (e ▸ h)⟩

theorem State.putEach_stores (blk : Nat) (l : List (Nat × Byte)) (h : ∀ e ∈ l, at_ (s.phys (blk + e.1))) :
    s.Stores at_ (l.foldl (fun s e => s.putByte (blk + e.1) e.2) s) := by
  induction l generalizing s with
  | nil => exact .refl s
  | cons e l ih =>
    have one := State.putByte_stores e.2 (h e (by simp))
    exact one.trans (ih fun e he => by rw [one.phys]; exact h e (by simp [he]))

theorem State.writeBlock_sound (hl : s.anyLost = false) (blk : Nat) (l : List (Nat × Byte)) (p : Bool) :
    s.writeBlock blk l p = (l.foldl (fun s e => s.putByte (blk + e.1) e.2) s).setPoison blk
      (p || (!decide (64 ≤ l.length) && s.poisoned blk)) := by
  unfold State.writeBlock
  simp only [State.checkBlock_sound hl, ite_self, State.isLost_sound hl, State.upsetOf_sound hl, if_true,
    Bool.false_eq_true, if_false]

theorem State.writeBlock_stores (hl : s.anyLost = false) {blk : Nat} {l : List (Nat × Byte)} (p : Bool)
    (h : ∀ e ∈ l, at_ (s.phys (blk + e.1))) : s.Stores at_ (s.writeBlock blk l p) := by
  rw [State.writeBlock_sound hl]
  exact (State.putEach_stores blk l h).trans ⟨_, _, _, rfl, fun _ _ => rfl⟩

theorem takeBlock_mem (b : Nat) (m : Store (Byte × Bool)) :
    (∀ e ∈ (takeBlock b m).1, ∃ x ∈ m, x.1 = b * 64 + e.1) ∧ ∀ x ∈ (takeBlock b m).2.2, x ∈ m := by
  induction m with
  | nil => simp [takeBlock]
  | cons x m ih =>
    obtain ⟨a, v, p⟩ := x
    obtain ⟨taken, rest⟩ := ih
    unfold takeBlock
    split
    · refine ⟨?_, fun x hx => by simp [rest x hx]⟩
      intro e he
      obtain rfl | he := List.mem_cons.1 he
      · exact ⟨_, List.mem_cons_self, by dsimp only; omega⟩
      · obtain ⟨x, hx, e⟩ := taken e he
        exact ⟨x, by simp [hx], e⟩
    · simp

theorem State.writeCells_stores (hl : s.anyLost = false) (n : Nat) (m : Store (Byte × Bool))
    (h : ∀ e ∈ m, at_ (s.phys e.1)) : s.Stores at_ (s.writeCells n m) := by
  induction n generalizing s m with
  | zero => unfold State.writeCells; exact .refl s
  | succ n ih =>
    cases m with
    | nil => unfold State.writeCells; exact .refl s
    | cons e m =>
      obtain ⟨a, v⟩ := e
      obtain ⟨taken, rest⟩ := takeBlock_mem (a / 64) ((a, v) :: m)
      have one := State.writeBlock_stores hl (blk := a / 64 * 64) (takeBlock (a / 64) ((a, v) :: m)).2.1 fun e he => by
        obtain ⟨x, hx, e⟩ := taken e he
        exact e ▸ h x hx
      unfold State.writeCells
      exact one.trans (ih (one.anyLost.trans hl) _ fun x hx => by rw [one.phys]; exact h x (rest x hx))

theorem cellsOf_mem {off : Nat} {p : Bool} {l : List Byte} {e : Nat × Byte × Bool} (h : e ∈ cellsOf off p l) :
    ∃ i, i < l.length ∧ e.1 = off + i := by
  induction l generalizing off with
  | nil => simp [cellsOf] at h
  | cons v l ih =>
    obtain rfl | h := List.mem_cons.1 h
    · exact ⟨0, by simp, rfl⟩
    · obtain ⟨i, hi, e⟩ := ih h
      exact ⟨i + 1, by simp [hi], by omega⟩

/-- A write of consecutive bytes changes memory at their physical addresses only. -/
theorem State.write_stores (hl : s.anyLost = false) {off : Nat} {v : List Byte} (p : Bool)
    (h : ∀ i < v.length, at_ (s.phys (off + i))) : s.Stores at_ (s.write off v p) :=
  State.writeCells_stores hl _ _ fun e he => by
    obtain ⟨i, hi, e⟩ := cellsOf_mem he
    exact e ▸ h i hi

theorem State.enter_stores (s : State) (src : Source) (off len : Nat) : s.Stores at_ (s.enter src off len) := by
  obtain ⟨a, ha⟩ := s.enter_with_arbs src off len
  exact ⟨_, _, _, ha, fun _ _ => rfl⟩

end

/-! ### Captures (R227, R228) -/

theorem leBytes_length (v n : Nat) : (leBytes v n).length = n := by
  induction n generalizing v with
  | zero => rfl
  | succ n ih => simp [leBytes, ih]

/-- One weight of a capture: its record written and its lease taken. -/
def State.captureOne (k : Nat) (s : State) (w : Weight) : State :=
  ((s.enter .system (s.captureAt k w.id) 2).write (s.captureAt k w.id) (leBytes w.currentVer 2) false).modWeight w.id
    Weight.lease

/-- A weight with its lease where its number is among those captured. -/
def Weight.leaseIn (ids : List Nat) (w : Weight) : Weight := if w.id ∈ ids then w.lease else w

/-- The version store with a lease on each weight that was captured. -/
def Ver.leased (v : Ver) (ids : List Nat) : Ver := { v with weights := v.weights.map (Weight.leaseIn ids) }

theorem Ver.leased_nil (v : Ver) : v.leased [] = v := by
  simp [Ver.leased, show Weight.leaseIn [] = id from funext fun _ => if_neg (by simp)]

theorem Ver.leased_leased (v : Ver) {l m : List Nat} (h : ∀ i ∈ l, i ∉ m) :
    (v.leased l).leased m = v.leased (l ++ m) := by
  have e : ∀ w, Weight.leaseIn m (Weight.leaseIn l w) = Weight.leaseIn (l ++ m) w := by
    intro w
    by_cases hl : w.id ∈ l
    · have hm : w.lease.id ∉ m := h _ hl
      simp [Weight.leaseIn, hl, hm]
    · simp [Weight.leaseIn, hl]
  simp [Ver.leased, e]

/-- From one state to the next the weights of some numbers were captured, their records stored at some physical
addresses. -/
def State.Captures (at_ : Nat → Prop) (ids : List Nat) (s t : State) : Prop :=
  ∃ u : State, s.Stores at_ u ∧ t = { u with ver := s.ver.leased ids }

section
variable {at_ : Nat → Prop} {s t u : State} {k : Nat}

theorem State.Captures.trans {l m : List Nat} (h : s.Captures at_ l t) (g : t.Captures at_ m u) (hd : ∀ i ∈ l, i ∉ m) :
    s.Captures at_ (l ++ m) u := by
  obtain ⟨_, ⟨_, _, _, rfl, ht⟩, rfl⟩ := h
  obtain ⟨_, ⟨h, b, r, rfl, hu⟩, rfl⟩ := g
  refine ⟨{ s with hbm := h, bad := b, arbs := r }, ⟨h, b, r, rfl, fun a ha => (hu a ha).trans (ht a ha)⟩, ?_⟩
  rw [← Ver.leased_leased s.ver hd]

theorem State.captureOne_captures (hl : s.anyLost = false) (w : Weight)
    (h : ∀ i < 2, at_ (s.phys (s.captureAt k w.id + i))) : s.Captures at_ [w.id] (s.captureOne k w) := by
  have turn := State.enter_stores (at_ := at_) s .system (s.captureAt k w.id) 2
  have put := turn.trans (State.write_stores (turn.anyLost.trans hl) (v := leBytes w.currentVer 2) false fun i hi => by
    rw [turn.phys]
    exact h i (by rwa [leBytes_length] at hi))
  refine ⟨_, put, ?_⟩
  unfold State.captureOne State.modWeight Ver.leased Weight.leaseIn
  obtain ⟨_, _, _, e, -⟩ := put
  rw [e]
  simp

/-- The captures of weights with different numbers. -/
theorem State.each_captures (l : List Weight) (hn : (l.map Weight.id).Nodup) (hl : s.anyLost = false)
    (h : ∀ w ∈ l, ∀ i < 2, at_ (s.phys (s.captureAt k w.id + i))) :
    s.Captures at_ (l.map Weight.id) (s.each l (State.captureOne k)) := by
  induction l generalizing s with
  | nil => exact ⟨s, .refl s, by rw [List.map_nil, Ver.leased_nil]; rfl⟩
  | cons w l ih =>
    obtain ⟨hw, hn⟩ := List.nodup_cons.1 hn
    have one := State.captureOne_captures hl w (h w (by simp))
    refine one.trans (m := l.map Weight.id) (ih hn ?_ ?_) (by simpa using hw)
    · obtain ⟨_, ⟨_, _, _, rfl, -⟩, e⟩ := one
      rw [e]
      exact hl
    · obtain ⟨_, ⟨_, _, _, rfl, -⟩, e⟩ := one
      rw [e]
      exact fun x hx => h x (by simp [hx])

theorem weight_eq_of_id {l : List Weight} (hn : (l.map Weight.id).Nodup) {x w : Weight} (hx : x ∈ l) (hw : w ∈ l)
    (h : x.id = w.id) : x = w := by
  induction l with
  | nil => cases hx
  | cons v l ih =>
    obtain ⟨hv, hn⟩ := List.nodup_cons.1 hn
    have other : ∀ y ∈ l, y.id ≠ v.id := fun y hy e => hv (List.mem_map.2 ⟨y, hy, e⟩)
    obtain ex | tx := List.mem_cons.1 hx <;> obtain ew | tw := List.mem_cons.1 hw
    · rw [ex, ew]
    · exact absurd (h.symm.trans (congrArg _ ex)) (other w tw)
    · exact absurd (h.trans (congrArg _ ew)) (other x tx)
    · exact ih hn tx tw

/-- In a list of weights with different numbers those of a stage are the ones whose number is a number of the stage. -/
theorem Ver.leased_stage (v : Ver) (hn : (v.weights.map Weight.id).Nodup) (stage : Nat) :
    (v.leased ((v.weights.filter fun w => w.vstage == stage).map Weight.id)).weights =
      v.weights.map fun w => if w.vstage = stage then w.lease else w := by
  refine List.map_congr_left fun w hw => ?_
  have e : w.id ∈ (v.weights.filter fun w => w.vstage == stage).map Weight.id ↔ w.vstage = stage := by
    simp only [List.mem_map, List.mem_filter, beq_iff_eq]
    constructor
    · rintro ⟨x, ⟨hx, hs⟩, hid⟩
      rwa [← weight_eq_of_id hn hx hw hid]
    · exact fun hs => ⟨w, ⟨hw, hs⟩, rfl⟩
  simp only [Weight.leaseIn, e]

theorem State.vcapture_repeated {logical : Nat} (h : (s.ctx k).captured = true) : s.vcapture k logical = .ok s := by
  unfold State.vcapture
  exact if_pos h

/-- No current version of a stage has all the leases that it can have. -/
def State.leasable (s : State) (stage : Nat) : Prop :=
  ∀ w ∈ s.ver.weights, w.vstage = stage → ∀ p ∈ w.ring, p.st = .current → p.leases < 255

theorem find_stage_none {l : List Weight} {stage : Nat} {p : Weight → Bool}
    (h : ∀ w ∈ l, w.vstage = stage → p w = false) : (l.filter fun w => w.vstage == stage).find? p = none := by
  simp only [List.find?_eq_none, List.mem_filter, beq_iff_eq, Bool.not_eq_true]
  exact fun w ⟨hw, hs⟩ => h w hw hs

theorem State.find_full_none {stage : Nat} (h : s.leasable stage) :
    (s.ver.weights.filter fun w => w.vstage == stage).find?
      (fun w => w.ring.any fun p => p.st == .current && decide (255 ≤ p.leases)) = none := by
  refine find_stage_none fun w hw hs => List.any_eq_false.2 fun p hp full => ?_
  obtain ⟨hc, hl⟩ : p.st = .current ∧ 255 ≤ p.leases := by simpa using full
  exact absurd (h w hw hs p hp hc) (by omega)

/-- The physical addresses of the capture records of a context for the weights of its stage. -/
def State.recordsOf (s : State) (k p : Nat) : Prop :=
  ∃ w ∈ s.ver.weights, w.vstage = (s.ctx k).vstage ∧ ∃ i < 2, p = s.phys (s.captureAt k w.id + i)

theorem State.vcapture_captures {logical : Nat} (hc : (s.ctx k).captured = false)
    (hs : (s.ctx k).st = .forward ∨ (s.ctx k).st = .eval) (hl : s.anyLost = false)
    (hn : (s.ver.weights.map Weight.id).Nodup) (hfree : s.leasable (s.ctx k).vstage)
    (hw : ∀ w ∈ s.ver.weights, w.vstage = (s.ctx k).vstage →
      s.served (s.captureAt k w.id) = true ∧ s.hitsImage (s.captureAt k w.id) 2 = false) :
    ∃ t, s.vcapture k logical = .ok (t.setCtx k { s.ctx k with captured := true }) ∧ s.Captures (s.recordsOf k)
      ((s.ver.weights.filter fun w => w.vstage == (s.ctx k).vstage).map Weight.id) t := by
  have image : (s.ver.weights.filter fun w => w.vstage == (s.ctx k).vstage).find?
      (fun w => s.hitsImage (s.captureAt k w.id) 2) = none := find_stage_none fun w h hs => (hw w h hs).2
  have served : (s.ver.weights.filter fun w => w.vstage == (s.ctx k).vstage).find?
      (fun w => !s.served (s.captureAt k w.id)) = none := find_stage_none fun w h hs => by simp [(hw w h hs).1]
  refine ⟨_, ?_, State.each_captures (k := k) _ (hn.sublist (List.filter_sublist.map _)) hl ?_⟩
  · unfold State.vcapture
    simp only [hc, Bool.false_eq_true, if_false, if_pos hs, State.find_full_none hfree, image, served]
    rfl
  · intro w hw i hi
    obtain ⟨hw, hstage⟩ := List.mem_filter.1 hw
    exact ⟨w, hw, by simpa using hstage, i, hi, rfl⟩

/-- A capture record inside the loaded image stops the capture with BOUNDS before anything is written. -/
theorem State.vcapture_image {logical : Nat} (hc : (s.ctx k).captured = false)
    (hs : (s.ctx k).st = .forward ∨ (s.ctx k).st = .eval) (hfree : s.leasable (s.ctx k).vstage)
    (hw : ∃ w ∈ s.ver.weights, w.vstage = (s.ctx k).vstage ∧ s.hitsImage (s.captureAt k w.id) 2 = true) :
    ∃ a, s.vcapture k logical = .error { s := s.glbRecord a 3, bit := boundsFault } := by
  obtain ⟨w, hw, hst, hi⟩ := hw
  obtain ⟨x, hx⟩ : ∃ x, (s.ver.weights.filter fun w => w.vstage == (s.ctx k).vstage).find?
      (fun w => s.hitsImage (s.captureAt k w.id) 2) = some x := by
    rw [← Option.isSome_iff_exists, List.find?_isSome]
    exact ⟨w, List.mem_filter.2 ⟨hw, by simp [hst]⟩, hi⟩
  refine ⟨s.captureAt k x.id, ?_⟩
  unfold State.vcapture
  simp only [hc, Bool.false_eq_true, if_false, if_pos hs, State.find_full_none hfree, hx]

end

/-! ### How the commands end -/

section
variable {s : State} {c : CoreId} {r : Run} {d : Desc} {x : Run? State} {o : Host.Outcome State Fault Refusal}
  {a : Store Arb} {k logical : Nat}

theorem State.lands_ctxState (e : o = .next (State.lands c r d x).settle)
    (hx : x = .error (({ s with arbs := a } : State).ctxStateFault k logical)) (hr : (s.core c).run = some r) :
    ∃ t : State, o = .next t.settle ∧ t.faultedAt c r 14 ∧ t.flag .mbq 0x10 9 = true ∧ t.mbq = s.mbq := by
  obtain ⟨flag, cores, mbq⟩ := State.ctxStateFault_raises { s with arbs := a } k logical
  exact State.lands_error e hx hr cores (show 14 < 32 by decide)
    ⟨State.descFault_flag flag (by decide) (show 14 < 32 by decide) _ _ _ _, by simpa using mbq⟩

theorem State.lands_publish {v id : Nat} (e : o = .next (State.lands c r d x).settle)
    (hx : x = .error (({ s with arbs := a } : State).publishFault 14 v id logical)) (hr : (s.core c).run = some r) :
    ∃ t : State, o = .next t.settle ∧ t.faultedAt c r 14 ∧ t.flag .ver 0x10 14 = true ∧ t.ver = s.ver := by
  obtain ⟨flag, cores, ver⟩ := State.publishFault_raises { s with arbs := a } v id logical
  exact State.lands_error e hx hr cores (show 14 < 32 by decide)
    ⟨State.descFault_flag flag (by decide) (show 14 < 32 by decide) _ _ _ _, by simpa using ver⟩

theorem State.lands_late {h : Nat} {bad : Bool} (e : o = .next (State.lands c r d x).settle)
    (hx : x = .error (({ s with arbs := a } : State).lateRead h logical bad)) (hr : (s.core c).run = some r) :
    ∃ t : State, o = .next t.settle ∧ t.faultedAt c r 14 ∧ t.flag .mbq 0x10 8 = true ∧
      t.reg .mbq 0x84 = BitVec.ofNat 32 (min 0xFFFFFFFF ((s.reg .mbq 0x84).toNat + 1)) ∧ t.hbm = s.hbm := by
  obtain ⟨flag, cores, hbm, count⟩ := State.lateRead_counts { s with arbs := a } h logical bad
  exact State.lands_error e hx hr cores (show 14 < 32 by decide)
    ⟨State.descFault_flag flag (by decide) (show 14 < 32 by decide) _ _ _ _,
      (State.descFault_mbq_reg _ (by decide) (by decide) _ _ _ _ _).trans count, by simpa using hbm⟩

/-- A capture that has landed took its leases and stored its records alone. -/
theorem State.lands_captures {u : State} {ids : List Nat} (e : o = .next (State.lands c r d x).settle)
    (hx : x = .ok (u.setCtx k { s.ctx k with captured := true })) (hr : (s.core c).run = some r)
    (hl : s.anyLost = false) (hu : ({ s with arbs := a } : State).Captures (s.recordsOf k) ids u) :
    ∃ t : State, o = .next t.settle ∧ s.issuedAt c r (some d.entry) t ∧
      t.ctx k = { s.ctx k with captured := true } ∧ t.ver = s.ver.leased ids ∧
      ∀ p, ¬s.recordsOf k p → t.physByte p = s.physByte p := by
  obtain ⟨v, stores, rfl⟩ := hu
  have cores : v.cores = s.cores := by
    obtain ⟨_, _, _, rfl, -⟩ := stores
    rfl
  exact State.lands_ok e hx hr cores ⟨State.setCtx_ctx _ _ _, rfl, fun p hp => stores.physByte hl hp⟩

end

/-! ### The statement -/

/-- Settles O33: each command lands where its operation's equation for the case says, and a capture stores the records
of its stage alone. -/
theorem contextsAndVersionsMove : Obligations.ContextsAndVersionsMove := by
  unfold Obligations.ContextsAndVersionsMove
  refine ⟨fun c s r d hh hv hc hu hk => ⟨fun h hz h8 h9 => ?ctxStart, fun h hz => ?ctxEnd,
      fun q h hz hq hs h2 hserved => ?qcheck⟩,
    ⟨fun a b => ⟨precedes_iff a b, version_sub_eq_zero a b, precedes_half⟩, fun c s r d hh hc hu =>
      ⟨fun h hz hv hk hn => ?vcapture, fun w h hz hk hw => ?vopen, fun w h hz hk hw => ?vpublish⟩⟩⟩
  case ctxStart =>
    have run := State.run_of_active h.turn
    obtain ⟨a, e⟩ := exec_ctxStart h hh hv hc hu hk hz h8 h9
    refine ⟨fun hf hd => ?_, fun hf he hd hsame => ?_, fun hsame hr => ?_, fun hsame hf => ?_⟩
    · exact State.lands_ok e (State.ctxStart_free hf hd) run rfl
        ⟨State.setCtx_ctx _ _ _, fun j hj => State.setCtx_ctx_ne _ _ hj, rfl, rfl, rfl⟩
    · rw [hd] at e
      exact State.lands_ok e (State.ctxStart_backward hf he hsame) run rfl
        ⟨State.setCtx_ctx _ _ _, fun j hj => State.setCtx_ctx_ne _ _ hj, rfl, rfl⟩
    · exact State.lands_ok e (State.ctxStart_repeated hsame hr) run rfl ⟨rfl, rfl⟩
    · exact State.lands_ctxState e (State.ctxStart_other hsame hf) run
  case ctxEnd =>
    have run := State.run_of_active h.turn
    obtain ⟨a, e⟩ := exec_ctxEnd h hh hv hc hu hk hz
    refine ⟨fun hf => ?_, fun hf => State.lands_ctxState e (State.ctxEnd_free hf) run⟩
    exact State.lands_ok e (State.ctxEnd_pending hf) run rfl
      ⟨State.setCtx_ctx _ _ _, fun j hj => State.setCtx_ctx_ne _ _ hj, rfl, rfl⟩
  case qcheck =>
    have run := State.run_of_active h.turn
    obtain ⟨a, e⟩ := exec_qcheck h hh hv hc hu hk hz hq hs h2
    obtain ⟨b, passes, late⟩ := State.queueCheck_reads (s := { s with arbs := a }) q d.ctx r.logical h.kept hserved
    refine ⟨fun hp ht hst hm => State.lands_ok e (passes ⟨hp, ht, hst, hm⟩) run rfl ⟨rfl, rfl⟩, fun hbad => ?_⟩
    exact State.lands_late e (late (State.not_entryGood hbad)) run
  case vcapture =>
    have run := State.run_of_active h.turn
    obtain ⟨a, e⟩ := exec_vcapture h hh hv hc hu hk hz
    refine ⟨fun hcap => ?_, fun hcap hst hw => ?_, fun hcap hst hfree hw => ?_⟩
    · exact State.lands_ok e (State.vcapture_repeated hcap) run rfl ⟨rfl, rfl, rfl⟩
    · obtain ⟨u, capture, stored⟩ := State.vcapture_captures (s := { s with arbs := a }) (logical := r.logical) hcap hst
        h.kept hn (fun w hw' hs' => (hw w hw' hs').2.2) (fun w hw' hs' => ⟨(hw w hw' hs').1, (hw w hw' hs').2.1⟩)
      obtain ⟨t, ht, issued, ctx, ver, bytes⟩ := State.lands_captures e capture run h.kept stored
      refine ⟨t, ht, issued, ctx, ?_, fun p hp => bytes p ?_⟩
      · rw [ver]
        exact Ver.leased_stage s.ver hn _
      · rintro ⟨w, hw', hs', i, hi, at_⟩
        exact hp w hw' hs' i hi at_
    · obtain ⟨g, stop⟩ := State.vcapture_image (s := { s with arbs := a }) (logical := r.logical) hcap hst hfree hw
      exact State.lands_error e stop run (by simp) (show 13 < 32 by decide) (by simp)
  case vopen =>
    have run := State.run_of_active h.turn
    obtain ⟨a, e⟩ := exec_vopen h hh hc hu hk hz hw
    exact ⟨fun k hv hp hk => State.lands_ok e (State.vopen_pending hv hp hk) run rfl ⟨rfl, rfl, rfl⟩,
      fun p hp hv => State.lands_ok e (State.vopen_repeated hp hv) run rfl ⟨rfl, rfl⟩,
      fun hv hp => State.lands_publish e (State.vopen_refused hv hp) run⟩
  case vpublish =>
    have run := State.run_of_active h.turn
    obtain ⟨a, e⟩ := exec_vpublish h hh hc hu hk hz hw
    exact ⟨fun k hk hp => State.lands_ok e (State.vpublish_noted hk hp) run rfl ⟨rfl, rfl⟩,
      fun hk => State.lands_publish e (State.vpublish_refused hk) run⟩

end Sys2Proof.Machine
end

section
/-!
The interleave (R245, R246): each mode's mapping by its row of R245's table, the offset that a mode maps to a byte of a
stack, and what becomes of a write of the reserved mode.
-/

namespace Sys2Proof.Machine

open Sys2Proof

/-! ### The mapping of each mode (R245) -/

theorem physical_perDie {a : Nat} (h : a < 2 ^ 40) :
    physical 0 a = (4 * (a / 2 ^ 38) + a / 2 ^ 12 % 4) * 2 ^ 36 + (a / 2 ^ 14 % 2 ^ 24 * 2 ^ 12 + a % 2 ^ 12) := by
  unfold physical
  rw [Nat.mod_eq_of_lt h, if_pos rfl]

theorem physical_all16 {a : Nat} (h : a < 2 ^ 40) :
    physical 1 a = a / 2 ^ 12 % 16 * 2 ^ 36 + (a / 2 ^ 16 * 2 ^ 12 + a % 2 ^ 12) := by
  unfold physical
  rw [Nat.mod_eq_of_lt h, if_neg (by decide), if_pos rfl]

theorem physical_none {a : Nat} (h : a < 2 ^ 40) : physical 2 a = a := by
  unfold physical
  rw [Nat.mod_eq_of_lt h, if_neg (by decide), if_neg (by decide)]

/-- The local offset that a mode maps to a byte of a stack: R245's table read from its columns Stack and Stack address
back to the offset. -/
def localOf (mode stack addr : Nat) : Nat :=
  if mode = 0 then stack / 4 * 2 ^ 38 + addr / 2 ^ 12 * 2 ^ 14 + stack % 4 * 2 ^ 12 + addr % 2 ^ 12
  else if mode = 1 then addr / 2 ^ 12 * 2 ^ 16 + stack * 2 ^ 12 + addr % 2 ^ 12
  else stack * 2 ^ 36 + addr

theorem mode_cases {m : Nat} (h : m ≤ 2) : m = 0 ∨ m = 1 ∨ m = 2 := by omega

theorem localOf_lt {mode stack addr : Nat} (hs : stack < 16) (ha : addr < 2 ^ 36) :
    localOf mode stack addr < 2 ^ 40 := by
  unfold localOf
  split
  · omega
  · split <;> omega

/-- In every mode the offset of a byte of a stack is mapped to that byte. -/
theorem physical_localOf {m stack addr : Nat} (hm : m ≤ 2) (hs : stack < 16) (ha : addr < 2 ^ 36) :
    physical m (localOf m stack addr) = stack * 2 ^ 36 + addr := by
  have lt := localOf_lt (mode := m) hs ha
  obtain rfl | rfl | rfl := mode_cases hm
  · rw [physical_perDie lt]
    have e : localOf 0 stack addr =
      stack / 4 * 2 ^ 38 + addr / 2 ^ 12 * 2 ^ 14 + stack % 4 * 2 ^ 12 + addr % 2 ^ 12 := rfl
    have die : localOf 0 stack addr / 2 ^ 38 = stack / 4 := by omega
    have turn : localOf 0 stack addr / 2 ^ 12 % 4 = stack % 4 := by omega
    have granule : localOf 0 stack addr / 2 ^ 14 % 2 ^ 24 = addr / 2 ^ 12 := by omega
    rw [die, turn, granule]
    omega
  · rw [physical_all16 lt]
    have e : localOf 1 stack addr = addr / 2 ^ 12 * 2 ^ 16 + stack * 2 ^ 12 + addr % 2 ^ 12 := rfl
    omega
  · rw [physical_none lt]
    rfl

/-- In every mode each offset is the one of the byte that it is mapped to. -/
theorem localOf_physical {m a : Nat} (hm : m ≤ 2) (h : a < 2 ^ 40) :
    localOf m (physical m a / 2 ^ 36) (physical m a % 2 ^ 36) = a := by
  obtain rfl | rfl | rfl := mode_cases hm
  · have e := physical_perDie h
    have stack : physical 0 a / 2 ^ 36 = 4 * (a / 2 ^ 38) + a / 2 ^ 12 % 4 := by omega
    have addr : physical 0 a % 2 ^ 36 = a / 2 ^ 14 % 2 ^ 24 * 2 ^ 12 + a % 2 ^ 12 := by omega
    rw [stack, addr, localOf, if_pos rfl]
    omega
  · have e := physical_all16 h
    have stack : physical 1 a / 2 ^ 36 = a / 2 ^ 12 % 16 := by omega
    have addr : physical 1 a % 2 ^ 36 = a / 2 ^ 16 * 2 ^ 12 + a % 2 ^ 12 := by omega
    rw [stack, addr, localOf, if_neg (by decide), if_pos rfl]
    omega
  · rw [physical_none h, localOf, if_neg (by decide), if_neg (by decide)]
    omega

theorem physical_inj {m a b : Nat} (hm : m ≤ 2) (ha : a < 2 ^ 40) (hb : b < 2 ^ 40)
    (e : physical m a = physical m b) : a = b := by
  rw [← localOf_physical hm ha, e, localOf_physical hm hb]

theorem physical_onto {m p : Nat} (hm : m ≤ 2) (hp : p < 2 ^ 40) : ∃ a, a < 2 ^ 40 ∧ physical m a = p := by
  have hs : p / 2 ^ 36 < 16 := by omega
  have ha : p % 2 ^ 36 < 2 ^ 36 := Nat.mod_lt _ (by decide)
  exact ⟨_, localOf_lt hs ha, by rw [physical_localOf hm hs ha, Nat.div_add_mod']⟩

/-! ### The table's bit ranges (R245) -/

theorem toNat_append_add {m n : Nat} (x : BitVec m) (y : BitVec n) : (x ++ y).toNat = x.toNat * 2 ^ n + y.toNat := by
  rw [BitVec.toNat_append, ← Nat.shiftLeft_add_eq_or_of_lt y.isLt, Nat.shiftLeft_eq]

theorem physical_perDie_bits (off : BitVec 40) :
    physical 0 off.toNat = (4 * (off.extractLsb 39 38).toNat + (off.extractLsb 13 12).toNat) * 2 ^ 36 +
      (off.extractLsb 37 14 ++ off.extractLsb 11 0).toNat := by
  have lt := off.isLt
  rw [physical_perDie lt, toNat_append_add]
  simp only [BitVec.extractLsb_toNat, Nat.shiftRight_eq_div_pow]
  omega

theorem physical_all16_bits (off : BitVec 40) :
    physical 1 off.toNat =
      (off.extractLsb 15 12).toNat * 2 ^ 36 + (off.extractLsb 39 16 ++ off.extractLsb 11 0).toNat := by
  have lt := off.isLt
  rw [physical_all16 lt, toNat_append_add]
  simp only [BitVec.extractLsb_toNat, Nat.shiftRight_eq_div_pow]
  omega

theorem physical_none_bits (off : BitVec 40) :
    physical 2 off.toNat = (off.extractLsb 39 36).toNat * 2 ^ 36 + (off.extractLsb 35 0).toNat := by
  have lt := off.isLt
  rw [physical_none lt]
  simp only [BitVec.extractLsb_toNat, Nat.shiftRight_eq_div_pow]
  omega

theorem physStack_val {a : Nat} (h : a < 2 ^ 40) : (physStack a).val = a / 2 ^ 36 := by
  have e : (physStack a).val = a / 2 ^ 36 % 16 := rfl
  omega

theorem stackDie_val (t : StackId) : (stackDie t).val = t.val / 4 := rfl

/-! ### A write of HBM_INTERLEAVE (R245, R246, R564) -/

/-- The row of HBM_INTERLEAVE: bits 1:0 are RWO. -/
def interleaveRow : RegRow := rwosRow 0xB8 0x3

theorem row?_interleave (t : StackId) : (Blk.hbm t).row? 0xB8 = some interleaveRow := rfl

theorem State.writeReg_interleave (s : State) (x : Writer) (t : StackId) (w : Word) :
    s.writeReg x (.hbm t) interleaveRow w = s.plainIf (s.jobIdle x) x (.hbm 0) interleaveRow w := rfl

/-- MODE is the word modulo 4. -/
theorem fld_mode (w : Word) : fld w 1 0 = w.toNat % 4 := by
  simp [fld]

theorem State.interleave_eq (s : State) : s.interleave = (s.reg (.hbm 0) 0xB8).toNat % 4 := fld_mode _

theorem valueOk_interleave (rd : Nat → Word) (t : StackId) (w : Word) :
    valueOk rd (.hbm t) 0xB8 w = (w.toNat % 4 != 3) := by
  rw [← fld_mode]
  rfl

theorem mode_eq_iff (v w : Word) : v.toNat % 4 = w.toNat % 4 ↔ v &&& 3 = w &&& 3 := by
  have e : ∀ u : Word, (u &&& 3).toNat = u.toNat % 4 := fun u => Nat.and_two_pow_sub_one_eq_mod u.toNat 2
  rw [← e, ← e, BitVec.toNat_inj]

theorem masked_write_and (m old w : Word) : ((old &&& ~~~m) ||| (w &&& m)) &&& m = w &&& m := by
  ext i hi
  cases h : m[i] <;> simp [h]

theorem xor_and_mask (m v w : Word) : (v ^^^ w) &&& m = (v &&& m) ^^^ (w &&& m) := by
  ext i hi
  cases h : m[i] <;> simp [h]

/-- A write of HBM_INTERLEAVE by the owner puts its MODE into the word. -/
theorem interleaveRow_after_owner {x : Writer} (ho : x.own = true) (lock : Bool) (old w : Word) :
    (interleaveRow.after x lock old w).toNat % 4 = w.toNat % 4 := by
  have e : interleaveRow.after x lock old w = ((old &&& ~~~3) ||| (w &&& 3)) &&& BitVec.allOnes 32 := by
    simp [RegRow.after, interleaveRow, rwosRow, ho, maskW]
  rw [e, BitVec.and_allOnes, mode_eq_iff, masked_write_and]

/-- A write of HBM_INTERLEAVE by another requester leaves the word. -/
theorem interleaveRow_after_other {x : Writer} (ho : x.own = false) (lock : Bool) (old w : Word) :
    interleaveRow.after x lock old w = old := by
  have e : interleaveRow.after x lock old w = old &&& BitVec.allOnes 32 &&& BitVec.allOnes 32 := by
    simp [RegRow.after, interleaveRow, rwosRow, ho, maskW]
  rw [e, BitVec.and_allOnes, BitVec.and_allOnes]

/-- Another requester's write of a mode that is not the one in force is refused. -/
theorem interleaveRow_refuses {x : Writer} (ho : x.own = false) {old w : Word} (h : old.toNat % 4 ≠ w.toNat % 4) :
    interleaveRow.refuses x old w = true := by
  have d : (old ^^^ w) &&& 3 ≠ 0 := by
    rw [xor_and_mask]
    exact fun e => h ((mode_eq_iff old w).2 (BitVec.xor_eq_zero_iff.1 e))
  simpa [RegRow.refuses, ho, interleaveRow, rwosRow, maskW] using d

/-- A write of HBM_INTERLEAVE whose word would hold the reserved mode leaves it; another one sets the word. -/
theorem State.plain_interleave (s : State) (x : Writer) {w new : Word}
    (hn : interleaveRow.after x (s.flag (.hbm 0) 8 3) (s.reg (.hbm 0) 0xB8) w = new) :
    s.plain x (.hbm 0) interleaveRow w =
      if new.toNat % 4 = 3 then (true, s)
      else (interleaveRow.refuses x (s.reg (.hbm 0) 0xB8) w, s.setReg (.hbm 0) 0xB8 new) := by
  simp only [State.plain, show interleaveRow.off = 0xB8 from rfl, show interleaveRow.rwl = 0 from rfl, hn,
    valueOk_interleave]
  by_cases reserved : new.toNat % 4 = 3 <;> simp [reserved]

/-- A write of the reserved mode to HBM_INTERLEAVE is a violation that leaves the mode and the contents of memory: the
owner's, as its value is not allowed, and another requester's, as it would change a field of the owner. -/
theorem State.plain_reservedMode (s : State) (x : Writer) {w : Word} (hw : w.toNat % 4 = 3) :
    ∃ t, s.plain x (.hbm 0) interleaveRow w = (true, t) ∧ t.interleave = s.interleave ∧ t.hbm = s.hbm := by
  cases ho : x.own
  case true =>
    have mode := (interleaveRow_after_owner ho (s.flag (.hbm 0) 8 3) (s.reg (.hbm 0) 0xB8) w).trans hw
    exact ⟨s, by rw [s.plain_interleave x rfl, if_pos mode], rfl, rfl⟩
  case false =>
    have e := s.plain_interleave x (interleaveRow_after_other ho (s.flag (.hbm 0) 8 3) (s.reg (.hbm 0) 0xB8) w)
    by_cases mode : (s.reg (.hbm 0) 0xB8).toNat % 4 = 3
    · exact ⟨s, by rw [e, if_pos mode], rfl, rfl⟩
    · refine ⟨s.setReg (.hbm 0) 0xB8 (s.reg (.hbm 0) 0xB8), ?_, ?_, rfl⟩
      · rw [e, if_neg mode, interleaveRow_refuses ho (by omega)]
      · rw [State.interleave_eq, State.setReg_reg, State.interleave_eq]

theorem State.writeReg_reservedMode (s : State) (x : Writer) (t : StackId) {w : Word} (hw : w.toNat % 4 = 3) :
    ∃ u, s.writeReg x (.hbm t) interleaveRow w = (true, u) ∧ u.interleave = s.interleave ∧ u.hbm = s.hbm := by
  rw [State.writeReg_interleave, State.plainIf]
  split
  · exact s.plain_reservedMode x hw
  · exact ⟨s, rfl, rfl, rfl⟩

theorem State.reaches_ne_i3c {s : State} {r : Requester} {b : Blk} (h : s.reaches r b) : r ≠ .i3c := by
  rintro rfl
  exact h.2

@[simp] theorem State.writeFails_interleave (s : State) (r : Requester) (b : Blk) (a : Nat) :
    (s.writeFails r b a).interleave = s.interleave := by
  rw [State.interleave_eq, State.interleave_eq,
    State.writeFails_reg _ _ _ _ (by decide) (by decide) (by decide) (by decide)]

/-- A write of the reserved mode that reaches the page of a stack is refused there (R245). -/
theorem State.poke_reservedMode {s : State} {r : Requester} {st : StackId} {v : Word} (hr : s.reaches r (.hbm st))
    (hv : v.toNat % 4 = 3) :
    (s.poke r (.hbm st) 0xB8 v).interleave = s.interleave ∧
      (s.poke r (.hbm st) 0xB8 v).flag (.hbm st) 0x10 0 = true ∧ (s.poke r (.hbm st) 0xB8 v).hbm = s.hbm := by
  obtain ⟨u, written, mode, hbm⟩ := s.writeReg_reservedMode { who := r, own := s.isOwner r } st hv
  have refused : s.poke r (.hbm st) 0xB8 v = u.writeFails r (.hbm st) ((Blk.hbm st).base + 0xB8) := by
    rw [State.poke_reg s r _ _ v _ (by decide) (by decide) hr (row?_interleave st) (by simp) (by simp), written,
      if_pos rfl]
  rw [refused, State.writeFails_interleave]
  exact ⟨mode, State.writeFails_flag _ _ _ _ (State.reaches_ne_i3c hr), by rw [← hbm]; simp⟩

/-- Settles O48: the table read back undoes each mode's mapping, and the reserved mode is refused at the page. -/
theorem interleaveIsOneToOne : Obligations.InterleaveIsOneToOne := by
  unfold Obligations.InterleaveIsOneToOne
  refine ⟨fun _ _ _ => physical_inj, fun _ _ => physical_onto,
    fun off => ⟨physical_perDie_bits off, physical_all16_bits off, physical_none_bits off⟩,
    fun a ha => ⟨physStack_val ha, ?die⟩, fun r st v s hr hv => ?reserved⟩
  case die => rw [stackDie_val, physStack_val ha]
  case reserved => exact ⟨s.poke r (.hbm st) 0xB8 v, rfl, State.poke_reservedMode hr hv⟩

end Sys2Proof.Machine
end
